-- ==== Sys2Proof/Word.lean ====
section
/-! DEFINITION. The plain types of the model: a byte, octets, and a table of entries by number. -/

namespace Sys2Proof

/-- One byte of a frame, a message or a key. -/
abbrev Byte := BitVec 8

/-- An octet string: frames, message bodies, keys, addresses. -/
abbrev Octets := List Byte

/-- A table of entries by number, in one canonical form: numbers strictly rising. -/
abbrev Tab (α : Type) := List (Nat × α)

end Sys2Proof
end

