-- ==== Sys2Proof/Syntax.lean ====
section
/-! DEFINITION. The commands the block takes and their operands: what the outside gives with each (bytes, measurements,
verdicts of other agents), one constructor of Instr per row of the table. -/

namespace Sys2Proof

/-- Where a write lands: a Ledger object, or a register of BAR0 at an offset (R40, R58). -/
inductive WriteTarget where
  | object (index sub : Nat)
  | bar0 (offset size : Nat)
  deriving DecidableEq, Repr

/-- A fault message of R464. -/
structure FaultMsg where
  source : Nat
  kind : Nat
  severity : Nat
  forced : Bool
  /-- `force_dry` of a forced message: the reaction is capped at NOTIFY (R470). -/
  dry : Bool
  detail : Nat
  sequence : Nat
  address : Nat
  late : Bool
  /-- The real time in ns at which it reached the collector: messages of one cycle are taken in ascending SOURCE (R466). -/
  since : Nat := 0
  deriving DecidableEq, Repr

/-- A from-host or to-host descriptor of R63, as the host posts it. -/
structure Descriptor where
  bufAddr : Nat
  length : Nat
  flags : Nat
  cookie : Nat
  port : Nat
  tid : Nat
  deriving DecidableEq, Repr

/-- One entry of a BlockAck the module sends (R119, R124): the station's index, the TID, the starting sequence number and the
offsets into the window that are marked. -/
structure BaEntry where
  station : Nat
  tid : Nat
  start : Nat
  marks : List Nat
  deriving DecidableEq, Repr

/-- One MPDU within a PPDU the module sends: its station, TID, sequence number, packet number and bytes, and the key slot that
protects it. -/
structure PsduPart where
  station : Nat
  tid : Nat
  sn : Nat
  pn : Option Nat
  slot : Option Nat
  bytes : Octets
  deriving DecidableEq, Repr

/-- What a PPDU carries. A trigger names its stations with the bytes solicited; a BlockAckReq its station, TID and sequence
number (R128, R200). -/
inductive TxContent where
  | bytes (b : Octets)
  | cts (ra : Octets)
  | ack (ra : Octets) (moreData : Bool)
  | blockAck (entries : List BaEntry) (moreData : List Nat)
  | deauth (ra : Octets) (reason : Nat)
  | probeResponse (ra : Octets) (template : Octets)
  | addbaResponse (station tid window : Nat)
  | addbaRequest (station tid window : Nat)
  /-- The answer to a TWT setup: 0 rejected, 1 accepted, 2 an Alternate TWT (R131). -/
  | twtResponse (station flow verdict interval duration start : Nat)
  | twtTeardown (station flow : Nat)
  | beacon (templates : List Octets) (tsf : Nat) (tim : List (List Nat)) (groupBits : List Bool) (ipn : List (Nat × Nat))
  | data (parts : List PsduPart) (bars : List (Nat × Nat × Nat)) (paired : Bool)
  | group (bss : Nat) (frames : List Octets) (pn : Option Nat)
  | trigger (users : List (Nat × Nat))
  | bsrp (stations : List Nat)
  | sounding (stations : List Nat)
  | muRts (stations : List Nat)
  deriving DecidableEq, Repr

/-- Who issued a transmit command (R82): the SIFS responder, the beacon builder, the Ostler, or the paired-transmission
engine on the lead's behalf. -/
inductive Issuer where
  | sifs | beacon | ostler | pair
  deriving DecidableEq, Repr

/-- A transmit command of R82. Instants are in ns of the time base. `power` is the requested power of each used chain,
in 0.25 dBm steps. -/
structure TxCmd where
  issuer : Issuer
  tag : Nat
  start : Option Nat
  deadline : Nat
  preamble : Nat
  duration : Nat
  subchannels : List Nat
  chains : Nat
  power : Nat
  held : Bool
  content : TxContent
  deriving DecidableEq, Repr

/-- The epoch messages of R33 in Varlan class 1; a PREPARE of an automatic commit names its target modes (R184), and the
instants are in ns of the time base. -/
inductive EpochMsg where
  | prepare (auto : Option (Nat × Nat))
  | applyAt (time : Nat)
  | done
  | abort
  | rollbackAt (time : Nat)
  deriving DecidableEq, Repr

/-- What an activity reports at its end (R483): whether its plausibility check passed; the residuals of JOINT_ALIGN in ps and
in 0.1 degree steps (R206); the channels that failed a retrain (R365); the path slack by hub region and the other margins by
item of a SURVEY, `none` for a source that is absent, unpowered or not up (R488); the weak words of a MEM_SURVEY (R487). -/
structure ActivityReport where
  ok : Bool
  residual : Nat
  phase : Nat
  failed : List Nat
  slacks : List (Nat × Int)
  margins : List (Option Int)
  weak : Nat
  deriving DecidableEq, Repr

/-- A maintenance activity that a unit raises itself (R479): the activity, its target, the unit, and a calibration's kind. -/
structure MaintRaise where
  activity : Nat
  target : Nat
  requester : Nat
  kind : Nat
  deriving DecidableEq, Repr

/-- The PLLs that drive clock domains from REF (R373): those of the hub die, and a transceiver die's own. -/
inductive Pll where
  | system | pcie | air | core | memory | serdes | time
  | die (r : Fin 3)
  deriving DecidableEq, Repr

/-- The PTP message types of IEEE 1588-2019 that the ports take off (R404). -/
inductive PtpKind where
  | sync | delayReq | pdelayReq | pdelayResp | followUp | delayResp | pdelayRespFollowUp | announce | signaling | management
  deriving DecidableEq, Repr

/-- A grandmaster's description in an Announce message. -/
structure PtpDataset where
  priority1 : Nat
  clockClass : Nat
  accuracy : Nat
  variance : Nat
  priority2 : Nat
  identity : Nat
  steps : Nat
  deriving DecidableEq, Repr

/-- A PTP message as a port reads it: stamps and origin in units of 2^-16 ns of their time bases. -/
structure PtpMsg where
  kind : PtpKind
  wellFormed : Bool
  domain : Nat
  source : Nat
  sourcePort : Nat
  sequence : Nat
  origin : Nat
  correction : Int
  twoStep : Bool
  stamp : Nat
  dataset : PtpDataset
  deriving DecidableEq, Repr

/-- What turns the 12 V output off while it is on (R440). -/
inductive V12Cause where
  | overCurrent | underVoltage | overTemperature
  deriving DecidableEq, Repr

/-- The received 802.11 frames as the air MAC tells them apart (R116 to R131). A window is in MPDUs, an interval and a duration
in µs, a wake instant in ns from TSF 0; acknowledgements list the TID and sequence number of each MPDU they report received;
CSI feedback lists the channel correlation with other stations in 1/256. -/
inductive RxKind where
  | data
  | nullData
  | rts
  | blockAckReq (tid start : Nat)
  | psPoll
  | acks (l : List (Nat × Nat))
  | cts
  | otherControl
  | beacon
  | probeRequest (wildcard : Bool)
  | authentication
  | associationRequest
  | addbaRequest (tid window start : Nat)
  | addbaResponse (tid window : Nat)
  | delba (tid start : Nat) (fromOriginator : Bool)
  | twtSetup (flow interval duration wake : Nat) (announced : Bool) (broadcast : Option Nat)
  | twtTeardown (flow : Nat)
  | csiFeedback (corr : List (Nat × Nat))
  | otherManagement (subtype : Nat)
  deriving DecidableEq, Repr

/-- The PPDU that carried a received MPDU: one MPDU alone, an A-MPDU, or a trigger-based PPDU of several stations. -/
inductive PpduForm where
  | single | ampdu | triggerBased
  deriving DecidableEq, Repr

/-- A received MPDU as a transceiver delivers it (R116). `body` is the MPDU's body with the cipher header and MIC removed, as
the cipher engine deciphers it; `header` is 1 for a CCMP and 2 for a GCMP header; `mme` is the key ID, IPN and whether the MIC
is good of a frame under BIP (R237). -/
structure RxMpdu where
  kind : RxKind
  fcsOk : Bool
  length : Nat
  ra : Octets
  ta : Octets
  addr3 : Octets
  addr4 : Octets
  toDs : Bool
  fromDs : Bool
  duration : Nat
  retry : Bool
  powerSave : Bool
  endOfService : Bool
  isProtected : Bool
  extIv : Bool
  header : Nat
  keyId : Nat
  pn : Nat
  mme : Option (Nat × Nat × Bool)
  sn : Nat
  frag : Nat
  tid : Option Nat
  noAck : Bool
  form : PpduForm
  last : Bool
  amsdu : Bool
  body : Octets
  bsr : Option Nat
  rssi : Int
  deriving DecidableEq, Repr

/-- A frame as an uplink port receives it (R289): its bytes from DA to before the FCS with any SecTAG and ICV taken off, and
what the SecTAG held: SCI, AN and PN. -/
structure UplinkFrame where
  fcsOk : Bool
  bytes : Octets
  secTag : Option (Octets × Nat × Nat)
  deriving DecidableEq, Repr

/-- The head of a received Varlan message (R188): whether its tag passes under the peer key, and its boot count and counter. -/
structure VHead where
  tagOk : Bool
  boot : Nat
  count : Nat
  deriving DecidableEq, Repr

/-- A heartbeat as received (R190); times in units of TB96. -/
structure HbMsg where
  mode : Nat
  twinState : Nat
  fault : Bool
  pairReady : Bool
  epoch : Nat
  frame : Nat
  txTime : Nat
  echoTx : Nat
  echoRx : Nat
  mirrorAck : Nat
  lanes : Nat
  phase : Int
  /-- Whether it shows that the sender hears this module's heartbeats. -/
  hears : Bool
  /-- The sender's count of AUTHORIZED stations, which R203 compares (log 45). -/
  authorized : Nat
  deriving DecidableEq, Repr

/-- A TWT agreement as held and mirrored (R132, R147): instants and offsets in ns. -/
structure Twt where
  station : Nat
  flow : Nat
  radio : Nat
  interval : Nat
  duration : Nat
  wake : Nat
  announced : Bool
  d : Int
  r : Int
  /-- Kind 0x35 has been reported for it. -/
  reported : Bool
  /-- The period last learned from, and the last one that End of Service Period ended (R129). -/
  heard : Option Nat
  ended : Option Nat
  deriving DecidableEq, Repr

/-- The mirror records of R194, and the receive-PN record of R196 with its token. -/
inductive MirrorRec where
  | station (index state : Nat) (regs : List (Nat × Nat)) (blobs : List (Nat × Octets))
  | txSn (station tid next : Nat)
  | txPn (slot next : Nat)
  | rxPn (token slot counter pn : Nat)
  | scoreboard (station tid start : Nat) (marks : List Nat)
  | agreement (station tid rxWindow txWindow : Nat)
  | slot (index state use : Nat) (regs : List (Nat × Nat)) (material : Octets)
  | twt (index : Nat) (t : Option Twt)
  | powerSave (station links : Nat)
  | rate (station radio value : Nat)
  deriving DecidableEq, Repr

/-- What a copy brings to the joiner (R193): the shared set in force and staged, the TSF origin, `frame_phase`, every
per-station item and the source's serial number. -/
structure CopyData where
  regs : List (Nat × Nat)
  blobs : List (Nat × Octets)
  staged : List (Nat × Nat)
  stagedBlobs : List (Nat × Octets)
  origin : Int
  phase : Int
  items : List MirrorRec
  serial : Octets
  /-- Values in force that are not single registers: templates in use and waiting, graph entries in force and as staged, rule rows (row, value, mask,
  action) with the width and the miss action, the rows staged, and routes (VRF, prefix, length, next hop). -/
  templates : List (Nat × Octets)
  shadows : List (Nat × Octets)
  graph : List (Nat × Nat)
  graphStaged : List (Nat × Nat)
  rules : List (Nat × Octets × Octets × Nat)
  ruleWidth : Nat
  ruleMiss : Nat
  ruleLog : List (Nat × Bool × Octets × Octets × Nat)
  logWidth : Option Nat
  logMiss : Option Nat
  routes : List (Nat × Octets × Nat × Nat)
  deriving DecidableEq, Repr

/-- How a tag check ends (R234 to R236): it passes, it fails, or the engine finds an internal error. -/
inductive TagResult where
  | pass | fail | fault
  deriving DecidableEq, Repr

/-- What a write to a rule object stages (R276). -/
inductive RuleWrite where
  | valid (b : Bool)
  | value (o : Octets)
  | mask (o : Octets)
  | action (a : Nat)
  | width (w : Nat)
  | miss (a : Nat)
  deriving DecidableEq, Repr

/-- An error that the scrubber finds in a rule row (R283): in the current or the other bank, whether it can be corrected, and
whether the Ledger store's copy of the row is bad too. -/
structure RowError where
  current : Bool
  row : Nat
  correctable : Bool
  storeBad : Bool
  deriving DecidableEq, Repr

/-- An uncorrectable error met while a received MPDU is looked up: in its transmitter's station entry (R149), or in the key slot
it selects (R223). -/
inductive LookupError where
  | none | station | slot
  deriving DecidableEq, Repr

/-- What uncorrectable errors of the Ostler's memories cost a plan close (R180): the radios whose plan of the frame was hit, and
the stations whose CSI or rate was lost. -/
structure PlanErrors where
  plans : List (Fin 3)
  csi : List Nat
  rates : List Nat
  deriving DecidableEq, Repr

/-- An uncorrectable error met while a queue is served (R328). -/
inductive QueueError where
  | none | cell | link
  deriving DecidableEq, Repr

/-- An uncorrectable error met while a task is dispatched (R351, R333). -/
inductive TaskError where
  | none | slot | tracker | meter
  deriving DecidableEq, Repr

/-- What a read of DRAM finds (R367). -/
inductive ReadResult where
  | clean | corrected | uncorrectable
  deriving DecidableEq, Repr


/-- The commands of the block: one constructor per row of the table of operations and events, in its order. -/
inductive Instr where
  /-- LEDGER_WRITE (R40): A write to a Ledger object or BAR0 register that has no row of its own sets the value at once or stages it for the next epoch, after the checks of R534. -/
  | ledgerWrite (target : WriteTarget) (value : Octets)
  /-- MB_DOORBELL (R59): A host write to MB_DOORBELL hands the request in the mailbox buffer to the Ledger, or sets LEN_ERR or OVERRUN. -/
  | mbDoorbell (value : BitVec 32)
  /-- SPI_REQUEST (R55): Management SPI command 0x02 delivers a request message, which is held unless the transport is PENDING or READY. -/
  | spiRequest (bytes : Octets)
  /-- SPI_RESPONSE_READ (R56): Management SPI command 0x03 clocks out the transport state byte and any ready response, and moves the state to EMPTY after a whole read or after DISCARDED is read. -/
  | spiResponseRead (clocked : Nat)
  /-- MGMT_DATAGRAM (R55): A management UDP datagram on port 4117 arrives at an uplink port and is queued for the Ledger, or dropped and counted in eth_queue_drop when 16 are held. -/
  | mgmtDatagram (port : Fin 8) (vid : Nat) (srcAddr : Octets) (srcPort : Nat) (bytes : Octets)
  /-- MESSAGE_RUN (R52): The Ledger begins the next pending Scrivener message, checks it in the order of R52, runs its records in order and sends the response. -/
  | messageRun
  /-- SAVE (R44): save_cmd SAVE starts writing every RWS value in force into the saved slot with the lower generation, and returns DEFERRED. -/
  | save
  /-- CLEAR_SAVED (R45): save_cmd CLEAR starts erasing both saved slots and returns DEFERRED. -/
  | clearSaved
  /-- SAVE_COMPLETE (R45): The boot flash finishes a save or clear, and save_result, save_generation, saved_valid and save_dirty take their new values. -/
  | saveComplete
  /-- SAVE_TIMEOUT (R45): A save or clear has not finished 2 s after it began, ends with save_result TIMEOUT, and the older slot stays in use. -/
  | saveTimeout
  /-- CLAIM (R69): claim_cmd CLAIM takes a free resource for claim_owner, or returns CONFLICT when another owner holds it. -/
  | claim
  /-- RELEASE (R70): claim_cmd RELEASE frees a resource when named by its holder, and returns CONFLICT for any other owner. -/
  | release
  /-- RESET_CMD (R25): reset_cmd resets the unit or level named by reset_target, releasing its claims and clearing its crossings, and returns OK when the reset has completed. -/
  | resetCmd
  /-- EPOCH_COMMIT (R33): epoch_cmd COMMIT returns LOCKED, BUSY or OK, or returns DEFERRED and sends PREPARE to every unit in scope. -/
  | epochCommit
  /-- EPOCH_DISCARD (R33): epoch_cmd DISCARD clears the staged writes and target modes, or returns BUSY while a commit runs. -/
  | epochDiscard
  /-- UNIT_PREPARED (R30): A unit finishes checking the staged values and reserving resources, and acknowledges prepared or refuses; the coordinator sends APPLY_AT once all have prepared, or ABORT on a refusal. -/
  | unitPrepared (hid : Nat) (agrees : Bool)
  /-- PREPARE_TIMEOUT (R33): prepare_timeout expires, and the coordinator sends ABORT, records the laggards and ends with ROLLED_BACK. -/
  | prepareTimeout
  /-- UNIT_APPLIED (R30): A unit acknowledges applied; once all have applied in time, the coordinator sends DONE, increments epoch_current and clears the staged writes. -/
  | unitApplied (hid : Nat)
  /-- APPLY_TIMEOUT (R33): apply_timeout expires before every unit has applied, and the coordinator records the laggards and sends ROLLBACK_AT. -/
  | applyTimeout
  /-- UNIT_RESTORED (R33): A unit acknowledges its restore; once every applied unit has restored, the commit ends ROLLED_BACK. -/
  | unitRestored (hid : Nat)
  /-- RESTORE_TIMEOUT (R33): A unit has not restored within apply_timeout of the rollback boundary, so it gets a region reset and a Tinker report. -/
  | restoreTimeout
  /-- PEER_DONE_TIMEOUT (R35): A peer unit that applied gets no DONE within apply_timeout plus 1 ms, and restores the old epoch on its own. -/
  | peerDoneTimeout
  /-- AUTO_COMMIT (R184): Once epoch_phase is IDLE, the twin unit starts an automatic commit with its own target modes. -/
  | autoCommit
  /-- TAIL_WRITE (R61): A host write of a queue's TAIL posts descriptors, or is ignored and sets BAD_TAIL. -/
  | tailWrite (q : Fin 64) (value : Nat)
  /-- QUEUE_ENABLE (R62): Writing enable 1 while it reads 0 sets HEAD and TAIL to 0 and starts the queue. -/
  | queueEnable (q : Fin 64)
  /-- QUEUE_DISABLE (R62): Writing enable 0 stops the queue after the descriptor in hand. -/
  | queueDisable (q : Fin 64)
  /-- DESCRIPTOR_FETCH (R60): The queue engine begins fetching a posted descriptor and its frame, or holds a from-host descriptor while no cells are free. -/
  | descriptorFetch (q : Fin 64) (d : Descriptor)
  /-- FROM_HOST_TAKE_IN (R60): A from-host frame is taken into Draper cells and its result is written back, or it completes LEN_RANGE or BAD_TARGET. -/
  | fromHostTakeIn (q : Fin 64) (bytes : Octets)
  /-- DMA_ERROR (R67): A PCIe transfer fails, the descriptor completes DMA_ERROR, and the queue sets DMA_ERR and STOPPED. -/
  | dmaError (q : Fin 64) (writable : Bool)
  /-- IRQ_TIME_EXPIRE (R62): irq_time passes from the first unsignalled completion, and the queue raises its MSI-X vector. -/
  | irqTimeExpire (q : Fin 64)
  /-- BAR0_BAD_ACCESS (R58): An access to BAR0 that is not naturally aligned 32-bit or 64-bit reads all ones, is ignored on write, and is counted by the Tinker. -/
  | bar0BadAccess (offset : Nat) (size : Nat) (write : Bool)
  /-- PERST (R507): PERST_N resets the PCIe endpoint, BAR0 and the host queue state, and drops frames in transfer. -/
  | perst (asserted : Bool)
  /-- PCIE_LINK_TRAINED (R524): PCIe link training ends, and the mailbox becomes reachable. -/
  | pcieLinkTrained
  /-- TS_SNAPSHOT_READ (R416): A read of TS_NS latches TB96 and the time status into the snapshot registers. -/
  | tsSnapshotRead (wide : Bool)
  /-- CRYSTAL_STABLE (R79): A radio's crystal becomes stable 1.2 ms after it starts; the radio reads STANDBY and starts the synthesiser when its target is ON. -/
  | crystalStable (r : Fin 3)
  /-- SYNTH_LOCK (R80): The synthesiser locks, and the radio brings its chains to receive and enters RX. -/
  | synthLock (r : Fin 3)
  /-- SETTLE_TIMEOUT (R77): 200 µs pass without lock, so the radio turns its PAs off, enters FAULT and reports kind 0x21. -/
  | settleTimeout (r : Fin 3)
  /-- LOCK_LOST (R77): The synthesiser loses lock, and the radio forces its PAs off, enters SETTLING and reports kind 0x20. -/
  | lockLost (r : Fin 3)
  /-- TRANSMIT_COMMAND (R83): A transmit command arrives at the radio and is checked per R83. -/
  | transmitCommand (r : Fin 3) (c : TxCmd)
  /-- COMMAND_START (R83): At a command's start instant, the radio checks it again and sends it at E, or drops it with its result. -/
  | commandStart (r : Fin 3)
  /-- HELD_COMMAND_ABORT (R84): A command held during SETTLING reaches L minus 6 µs without lock, and aborts with SYNTH_NOT_READY. -/
  | heldCommandAbort (r : Fin 3)
  /-- PPDU_END (R80): A transmitted PPDU ends, and the radio ramps back to RX. -/
  | ppduEnd (r : Fin 3) (pdet : List Nat)
  /-- TX_RESULT (R85): The radio returns a command's result to the air MAC or the Ostler, which count it and react per R120 or R173. -/
  | txResult
  /-- TX_MUTE (R87): A write of tx_mute mutes or unmutes the radio at once. -/
  | txMute (r : Fin 3) (on : Bool)
  /-- CAL_CMD (R92): cal_cmd requests calibration of cal_kind on cal_chain as a maintenance activity through the Steward. -/
  | calCmd (r : Fin 3)
  /-- PREDISTORT_TEMP_RAISE (R92): chain_temp moves cal_temp_step or more, and the radio raises PREDISTORT for that chain by itself. -/
  | predistortTempRaise (r : Fin 3) (chain : Fin 16) (celsius : Int)
  /-- CAL_RESUME (R91): A yielded calibration resumes its discarded step after cal_resume_gap without a transmit command. -/
  | calResume (r : Fin 3)
  /-- CAL_LIMIT_TIMEOUT (R91): A calibration is unfinished cal_limit seconds after it first started, and ends with TIMEOUT, keeping the previous coefficients. -/
  | calLimitTimeout (r : Fin 3)
  /-- CAL_END (R93): A calibration finishes, and keeps its new coefficients or, on a failed plausibility check, the old ones with CAL_FAIL and possibly chain FAULT. -/
  | calEnd (r : Fin 3) (failed : List Nat)
  /-- PDET_OVERSHOOT (R99): A PDET reading exceeds the effective limit by more than 0.5 dB, so the chain's gain is cut and kind 0x26 reported. -/
  | pdetOvershoot (r : Fin 3) (chain : Fin 16) (reading : Nat)
  /-- GRANT_INSTALL (R102): grant_cmd INSTALL checks the staged grant parameters and activates the entry, or returns RANGE or BUSY. -/
  | grantInstall (r : Fin 3) (g : Fin 16)
  /-- GRANT_REVOKE (R102): grant_cmd REVOKE sets an ACTIVE entry REVOKED and counts a lapse when the operating channel is affected. -/
  | grantRevoke (r : Fin 3) (g : Fin 16)
  /-- GRANT_EXPIRY (R102): The time base reaches grant_expiry, so the entry becomes EXPIRED and any lapse is counted and reported. -/
  | grantExpiry (r : Fin 3) (g : Fin 16)
  /-- THERMAL_DERATE_UPDATE (R107): A die temperature reading sets thermal_derate, with kind 0x25 when it reaches 24 steps. -/
  | thermalDerateUpdate (r : Fin 3) (celsius : Int)
  /-- VFEM_LOW (R511): VFEM falls below 1.5 V for 10 µs while its die is powered, and every enabled chain enters FAULT. -/
  | vfemLow (r : Fin 3)
  /-- MPDU_RECEIVED (R116): A received MPDU is filtered in the order of R116, updates the NAV, is checked for duplicates and class, and is reordered. -/
  | mpduReceived (r : Fin 3) (m : RxMpdu) (e : LookupError)
  /-- STA_ADD (R114): sta_cmd ADD builds a station entry from the staging set, or returns RANGE. -/
  | staAdd
  /-- STA_REMOVE (R115): sta_cmd REMOVE empties the entry, drops its held and queued frames and clears its agreements. -/
  | staRemove
  /-- STA_AUTHORIZE (R114): sta_cmd AUTHORIZE admits protected data from an ASSOCIATED station. -/
  | staAuthorize
  /-- STA_DEAUTHORIZE (R114): sta_cmd DEAUTHORIZE refuses protected data and returns the station to ASSOCIATED. -/
  | staDeauthorize
  /-- REORDER_TIMEOUT (R125): The oldest held MPDU of a scoreboard has waited reorder_timeout, so WinStart moves to it and held MPDUs are released. -/
  | reorderTimeout (station : Nat) (tid : Nat)
  /-- MPDU_UNACKED (R128): An MPDU is not acknowledged and returns to its queue head, or is dropped at retry_limit with a BlockAckReq planned. -/
  | mpduUnacked (station : Nat) (tid : Nat) (sn : Nat)
  /-- TWT_TEARDOWN (R147): twt_cmd TEARDOWN sends a TWT Teardown frame and empties the agreement entry. -/
  | twtTeardown
  /-- TBTT (R138): At a TBTT, the beacon is reserved and built with its Timestamp, TIM and change counts. -/
  | tbtt (r : Fin 3)
  /-- BEACON_WAIT_EXPIRE (R140): A watched beacon is missed after beacon_wait, which may lead to a takeover request, a lead-loss event or a backhaul link loss. -/
  | beaconWaitExpire (r : Fin 3) (upstream : Bool)
  /-- FRAME_BOUNDARY (R151): An Ostler frame boundary begins frame n, runs plan n, starts the build of plan n + 1 and counts frame_count. -/
  | frameBoundary
  /-- PLAN_CLOSE (R152): 40 µs before the boundary, the plan closes against radio state, MPDUs are bound and sequence numbers and PNs are assigned. -/
  | planClose (e : PlanErrors)
  /-- GRANT_REQUEST (R325): The Ostler's build asks the Miller for the next air queue, which is granted an allowance equal to its deficit. -/
  | grantRequest
  /-- SYNC_IN_EDGE (R155): A SYNC_IN edge is measured and moves frame_phase by a step or a slew, or is ignored. -/
  | syncInEdge
  /-- SYNC_TIMEOUT (R156): No SYNC_IN edge is accepted for sync_timeout, and sync_state reads LOST. -/
  | syncTimeout
  /-- TXOP_ACCESS_COMPLETE (R170): The medium access of an executor completes, and it issues the TXOP's transmit commands. -/
  | txopAccessComplete (r : Fin 3) (busy : List Nat)
  /-- ACCESS_DEADLINE (R171): Access has not completed by L, or the exchange would overrun, so it is skipped and its MPDUs return. -/
  | accessDeadline (r : Fin 3)
  /-- TB_PPDU_MISSING (R174): A triggered station sends no TB PPDU, so its resource unit stays empty and ul_silent counts it. -/
  | tbPpduMissing (r : Fin 3) (station : Nat)
  /-- HEARTBEAT_SEND (R190): Every 50 µs the module sends a heartbeat on every lane that is up. -/
  | heartbeatSend
  /-- HEARTBEAT_RECEIVED (R190): An authenticated heartbeat arrives, and updates freshness, peer_mode and the twin offset. -/
  | heartbeatReceived (v : VHead) (h : HbMsg)
  /-- HEARTBEAT_STALE (R190): hb_stale passes without an authenticated heartbeat, and the heartbeat becomes stale. -/
  | heartbeatStale
  /-- ALIVE_EDGE_SEND (R191): Every 25 µs the module toggles GFP46. -/
  | aliveEdgeSend
  /-- ALIVE_EDGE_RECEIVED (R191): An edge from the peer arrives on GFP47. -/
  | aliveEdgeReceived
  /-- ALIVE_SILENT (R191): No alive edge arrives for hb_stale; with the heartbeat stale this is the STALE takeover trigger, otherwise kind 0x4F. -/
  | aliveSilent
  /-- LANE_DOWN (R186): A Varlan lane loses lock or misses four heartbeat copies, goes down, retrains and reports kind 0x4C. -/
  | laneDown (lane : Fin 4)
  /-- LANE_UP (R186): A Varlan lane completes training and carries messages. -/
  | laneUp (lane : Fin 4)
  /-- JOIN_RECEIVED (R183): A serving module receives JOIN and begins the copy as source. -/
  | joinReceived (v : VHead) (serial : Octets)
  /-- HANDOVER_RECEIVED (R198): A follower receives HANDOVER, or a heartbeat with FAULT, and starts a takeover. -/
  | handoverReceived (v : VHead)
  /-- TAKEOVER_FORCE (R204): takeover_cmd FORCE on a SYNCED follower sends STAND_DOWN to the lead. -/
  | takeoverForce
  /-- STAND_DOWN_RECEIVED (R204): The lead receives STAND_DOWN, stops owning its links within 10 µs and answers. -/
  | standDownReceived (v : VHead)
  /-- STAND_DOWN_ANSWER (R204): The lead's answer reaches the follower, which takes over with trigger FORCE. -/
  | standDownAnswer (v : VHead)
  /-- STAND_DOWN_TIMEOUT (R204): No answer comes within 100 µs, and takeover_result reads TIMEOUT. -/
  | standDownTimeout
  /-- FORWARDED_WRITE (R192): The follower receives a write to a shared object forwarded by the lead, applies it and acknowledges. -/
  | forwardedWrite (v : VHead) (key : Nat) (value : Nat) (octets : Octets)
  /-- FORWARD_ACK_TIMEOUT (R192): The follower does not acknowledge a forwarded write within 1 ms, and the mirror goes UNSYNCED. -/
  | forwardAckTimeout
  /-- COPY_COMPLETE (R193): A join or resync copy completes, and the source starts the automatic commit or the pair becomes SYNCED. -/
  | copyComplete (v : VHead) (data : Option CopyData)
  /-- COPY_TIMEOUT (R193): A copy does not finish within 2 s and is abandoned as peer lost. -/
  | copyTimeout
  /-- JOIN_RETRY (R183): 100 ms after a join commit ends ROLLED_BACK, the automatic commit is retried. -/
  | joinRetry
  /-- SEARCH_TIMEOUT (R526): search_time passes with no authenticated heartbeat, or with the peer not serving, and the module enters SOLO. -/
  | searchTimeout
  /-- MIRROR_RECORD_RECEIVED (R194): The follower receives a mirror record, applies it and acknowledges. -/
  | mirrorRecordReceived (v : VHead) (rec : MirrorRec)
  /-- MIRROR_ACK (R195): A mirror acknowledgement reaches the lead, advancing the mirrored counters and freeing any held binding. -/
  | mirrorAck (v : VHead) (n : Nat)
  /-- MIRROR_ACK_TIMEOUT (R195): A mirror acknowledgement misses mirror_ack_wait, and the mirror goes UNSYNCED. -/
  | mirrorAckTimeout
  /-- RXPN_ACK (R196): The follower acknowledges a receive-PN record, and the lead releases the held passing verdict. -/
  | rxpnAck (v : VHead) (token : Nat)
  /-- RXPN_WAIT_EXPIRE (R196): An RXPN acknowledgement misses rxpn_wait, so the verdict is released, rxpn_unacked counts and the mirror goes UNSYNCED. -/
  | rxpnWaitExpire (token : Nat)
  /-- PAIR_TX_RECEIVED (R210): The follower receives PAIR_TX with encrypted PSDUs and its precoder rows. -/
  | pairTxReceived (v : VHead) (c : TxCmd)
  /-- PAIR_GO_RECEIVED (R210): The follower receives PAIR_GO and issues a transmit command for the named instant. -/
  | pairGoReceived (v : VHead) (tag : Nat) (start : Nat)
  /-- PAIR_RESULT_RECEIVED (R211): The lead receives PAIR_RESULT and falls back to the lead-only precoder or to its own half. -/
  | pairResultReceived (v : VHead) (tag : Nat) (sent : Bool)
  /-- PAIR_CANCEL_RECEIVED (R211): The follower receives PAIR_CANCEL and drops its paired command. -/
  | pairCancelReceived (v : VHead) (tag : Nat)
  /-- PEER_KEY_WRITE (R189): A write of peer_key stores it at once in its own flash record. -/
  | peerKeyWrite (key : Octets)
  /-- FORGET (R189): peer_key_cmd FORGET erases the peer key. -/
  | forget
  /-- KEY_INSTALL (R224): key_cmd INSTALL checks the staged key and loads it into an EMPTY slot, zeroising key_value. -/
  | keyInstall
  /-- KEY_CLEAR (R223): key_cmd CLEAR zeroises the slot within 1 µs and drops its unacknowledged MPDUs. -/
  | keyClear
  /-- SET_TX (R225): key_cmd SET_TX makes the slot the transmit key of its owner and kind. -/
  | setTx
  /-- MPDU_DECRYPT (R229): The Locksmith takes a released protected MPDU, checks format, key and tentative PN, and starts decryption and speculative release. -/
  | mpduDecrypt
  /-- TAG_VERDICT (R234): A tag verdict arrives; a pass moves C and delivers the verdict to the Carter, a fail cancels the frame's token. -/
  | tagVerdict (m : Nat) (v : TagResult)
  /-- VERDICT_TIMEOUT (R236): No verdict has arrived 2 µs after the last ciphertext byte, so the gate fails closed and reports kind 0x46. -/
  | verdictTimeout (m : Nat)
  /-- SA_INSTALL (R244): sa_cmd INSTALL loads a MACsec SA from sa_key and sa_salt and zeroises them. -/
  | saInstall
  /-- SA_CLEAR (R244): sa_cmd CLEAR zeroises the SA within 1 µs and drops its queued frames. -/
  | saClear
  /-- PARSE_WALK (R256): A frame's first node visit fixes its graph bank and rule version, and the engine walks the graph to ACCEPT or an exception class. -/
  | parseWalk (bad : Option Nat)
  /-- GRAPH_CHECK (R263): graph_check_cmd checks the staged graph and fills graph_status and graph_bad_index. -/
  | graphCheck
  /-- GRAPH_DEFAULT (R264): graph_default_cmd stages the default graph over every node and transition. -/
  | graphDefault
  /-- SHADOW_COPY_DONE (R265): The new shadow bank has been made equal to the active bank, and graph writes are accepted again. -/
  | shadowCopyDone
  /-- RULE_STAGE_WRITE (R277): A write to a rule row, block_width or rule_miss_action enters the staging log, or returns BUSY when the log is full. -/
  | ruleStageWrite (w : RuleWrite)
  /-- RULE_COMMIT (R280): rule_cmd COMMIT applies the log to the standby bank and switches rule_version, or returns BUSY. -/
  | ruleCommit (peerBusy : Bool)
  /-- RULE_DISCARD (R280): rule_cmd DISCARD clears the staging log. -/
  | ruleDiscard
  /-- RULE_LOOKUP (R271): A frame's key is looked up in the bank of its version, and the frame releases its version. -/
  | ruleLookup
  /-- DRAIN_LIMIT_EXPIRE (R280): drain_limit passes, so frames still on the old version are forced to DROP and catch-up begins. -/
  | drainLimitExpire
  /-- CATCH_UP_DONE (R280): The catch-up list and faulty rows have been copied, and the rule state becomes SYNCED. -/
  | catchUpDone
  /-- RULE_SCRUB (R283): The scrubber checks the rows of both banks each scrub_interval, and rewrites or marks rows with errors. -/
  | ruleScrub (errors : List RowError)
  /-- UPLINK_FRAME_RX (R289): A frame received on an uplink port passes FCS, length, MACsec and port_accept checks, or is dropped. -/
  | uplinkFrameRx (port : Fin 8) (f : UplinkFrame)
  /-- VARLAN_FRAME_RX (R294): A class 5 frame from the peer module enters forwarding restricted to stations, BSSIDs, host queues and mirror sessions. -/
  | varlanFrameRx (crcOk : Bool) (bytes : Octets)
  /-- PORT_UP (R289): An uplink port's PCS aligns with no uncorrectable FEC codeword for 10 ms, and the port reads UP. -/
  | portUp (port : Fin 8)
  /-- PORT_DOWN (R289): A port leaves UP, counts link_downs, reports kind 0x56 and drops its wired queues. -/
  | portDown (port : Fin 8) (codewords : Nat)
  /-- FLOW_BUCKET_ARRIVAL (R301): A flow bucket read from DRAM arrives, and the joined lookups hit or miss and take their decisions. -/
  | flowBucketArrival (bucket : Nat) (bad : List Nat)
  /-- ROUTE_ADD (R295): rt_cmd ADD inserts or replaces a prefix atomically and advances route_gen. -/
  | routeAdd
  /-- ROUTE_DELETE (R295): rt_cmd DELETE removes a prefix atomically and advances route_gen. -/
  | routeDelete
  /-- ROUTE_LOOKUP (R311): rt_cmd LOOKUP finds the longest match for rt_prefix and reports it. -/
  | routeLookup
  /-- FLOW_DELETE (R304): flow_cmd DELETE frees the selected flow record at once. -/
  | flowDelete
  /-- FLOW_FLUSH (R304): flow_cmd FLUSH starts freeing every record allocated before it, at the ager's pace. -/
  | flowFlush
  /-- FLOW_FLUSH_DONE (R304): A FLUSH completes, and flow_flush_active clears. -/
  | flowFlushDone
  /-- AGE_SCAN (R304): The ager visits records once per age_scan and frees those past their idle timeout. -/
  | ageScan
  /-- FDB_AGE_EXPIRE (R292): An FDB entry not refreshed for fdb_age is removed. -/
  | fdbAgeExpire
  /-- ANNOUNCE_FRAME (R307): After a takeover, the new lead sends the next RARP announcement, at most announce_rate per ms. -/
  | announceFrame
  /-- SPILL (R317): While on-die free cells are below spill_on, the spill engine moves whole frames to the overflow. -/
  | spill
  /-- FETCH (R317): A spilled frame comes within spill_depth of its queue head, or its station wakes, and is fetched back on die. -/
  | fetch
  /-- OVERFLOW_UNAVAILABLE (R318): The Cellarer reports the overflow unavailable, so spill and fetch stop and kind 0x5A is reported. -/
  | overflowUnavailable
  /-- AIR_AGE_SWEEP (R326): Every 10 ms the age sweep drops air frames older than air_lifetime. -/
  | airAgeSweep
  /-- WIRED_DEQUEUE (R324): A port's scheduler serves its strict and deficit-round-robin queues and starts the next frame. -/
  | wiredDequeue (port : Fin 8) (e : QueueError)
  /-- AUDIT_RECLAIM (R328): After a queue-link error, the audit engine returns unowned cells to the free list within 10 ms. -/
  | auditReclaim
  /-- TASK_DISPATCH (R348): An executor takes the next dispatchable task and carries out its actions, meters, counters, flow update and queue entry. -/
  | taskDispatch (e : TaskError)
  /-- TASK_LEAVE_SERVICE (R350): A task leaves service, and held tasks of its tag and its frame's copy tasks become dispatchable. -/
  | taskLeaveService (n : Nat)
  /-- TASK_AGE_TIMEOUT (R350): A token or task has waited task_age_max and is cancelled with kind 0x5E. -/
  | taskAgeTimeout (token : Nat)
  /-- RING_REFILL (R349): The ring engine moves tasks from a DRAM ring back on die as slots free. -/
  | ringRefill (urgent : Bool)
  /-- TRACKER_REWRITE_DONE (R351): A quiesced tracker bank is rewritten from the surviving tokens, and its releases resume. -/
  | trackerRewriteDone
  /-- CHANNEL_COMMAND (R359): A channel controller chooses and issues its next command by the rules of R359. -/
  | channelCommand (ch : Fin 8)
  /-- REFRESH_DUE (R361): A bank's refresh interval passes, and a refresh becomes due. -/
  | refreshDue (ch : Fin 8) (bank : Fin 16)
  /-- MR4_READ (R361): Every 16 ms the Cellarer reads MR4 and sets each die's rate factor. -/
  | mr4Read (factors : List Nat) (temps : List Int)
  /-- WCK_TRACKING (R364): Each track_interval a channel runs WCK-to-DQ tracking and adjusts its DQ delay. -/
  | wckTracking (ch : Fin 8) (trim : Int)
  /-- DRAM_TRAIN_DONE (R363): Training in TRAIN ends, with a retry on failure or dram_state FAILED. -/
  | dramTrainDone (failed : List Nat)
  /-- DRAM_INIT_DONE (R363): Every data address has been written with zero, and region_status reads 0x0F. -/
  | dramInitDone
  /-- RETRAIN_END (R365): A DRAM retrain ends, and region_status bits 1 to 3 return. -/
  | retrainEnd (failed : List Nat)
  /-- PATROL_SCRUB (R367): The patrol scrubber reads the next data address and handles its errors. -/
  | patrolScrub (e : ReadResult)
  /-- REGION_ENABLE (R368): region_cmd ENABLE starts re-initialising the disabled DRAM regions. -/
  | regionEnable
  /-- REGION_ENABLE_DONE (R368): Re-initialisation ends, and the regions' bits are set. -/
  | regionEnableDone
  /-- REF_LOSS (R376): REF_IN stops or leaves range, and the reference PLL enters HOLDOVER. -/
  | refLoss
  /-- REF_ACQUIRED (R376): After 10 ms locked to REF_IN, ref_state reads LOCKED. -/
  | refAcquired
  /-- REF_RESTORED (R376): REF_IN has been good for 100 ms, so the PLL slews its phase in and returns to LOCKED. -/
  | refRestored
  /-- DOMAIN_QUIESCE_DONE (R374): A quiescing domain's accepted accesses complete, and its gate closes to STOPPED. -/
  | domainQuiesceDone (d : Fin 18)
  /-- DOMAIN_CLOCK_START (R374): A stopped domain's clock restarts with empty crossings, and hung accesses proceed. -/
  | domainClockStart (d : Fin 18)
  /-- CROSSING_STALL (R383): An access has hung for 1 ms on a stopped clock, so kind 0x68 is reported once. -/
  | crossingStall (n : Nat)
  /-- PLL_UNLOCK (R387): A PLL loses lock for over 10 µs, its domains stop and are fenced, and kind 0x6A is reported. -/
  | pllUnlock (pll : Pll)
  /-- TB_SET (R394): tb_cmd SET steps TB96 to tb_set. -/
  | tbSet
  /-- TB_ADJUST (R394): tb_cmd ADJUST steps TB96 by tb_adjust. -/
  | tbAdjust
  /-- TB_SLEW (R394): tb_cmd SLEW spreads tb_adjust over time at slew_max. -/
  | tbSlew
  /-- TB_SOURCE_WRITE (R392): A write of tb_source stops the servo, holds the frequency and enters FREERUN. -/
  | tbSourceWrite (v : Fin 3)
  /-- PTP_MESSAGE_RX (R404): A PTP message is taken off at a port and drives the port state machine, or gives an offset measurement for the servo. -/
  | ptpMessageRx (port : Fin 8) (m : PtpMsg)
  /-- PTP_MESSAGE_TX (R404): A PTP message interval expires and the port sends its Sync, Announce or delay request. -/
  | ptpMessageTx (port : Fin 8) (kind : PtpKind)
  /-- PTP_ANNOUNCE_TIMEOUT (R404): The announce timeout passes, and when no slave port remains the source is lost and the time base enters HOLDOVER. -/
  | ptpAnnounceTimeout (port : Fin 8)
  /-- PPS_IN_EDGE (R411): A rising edge on PPS_IN is stamped and, with tb_source PPS_IN, gives a measurement or counts a fault. -/
  | ppsInEdge
  /-- PPS_IN_TIMEOUT (R411): No PPS_IN edge arrives for 2 s, and the source is lost. -/
  | ppsInTimeout
  /-- PPS_OUT_RISE (R412): At each whole second plus pps_out_offset, PPS_OUT rises for pps_out_width. -/
  | ppsOutRise
  /-- SYNCE_LOST (R410): The recovered SyncE clock loses lock, so steering falls back to the servo and kind 0x6B is reported. -/
  | synceLost
  /-- BAK_RATE_WINDOW (R399): At the end of each 16 s window, bak_rate_ppb is updated, and with trim_auto it is written to bak_trim. -/
  | bakRateWindow (ppb : Int)
  /-- GT_ARM (R414): gt_cmd ARM starts a GFP timer, handling past instants by CATCH. -/
  | gtArm (t : Fin 32)
  /-- GT_DISARM (R420): gt_cmd DISARM stops a GFP timer. -/
  | gtDisarm (t : Fin 32)
  /-- GT_INSTANT (R413): TB96 reaches a timer instant, and the pin is driven or toggled. -/
  | gtInstant (t : Fin 32)
  /-- GT_CAPTURE_EDGE (R413): A chosen edge on a capture pin is stamped into the queue, or lost when the queue is full. -/
  | gtCaptureEdge (t : Fin 32) (rising : Bool)
  /-- GT_CAP_READ (R413): A read of gt_cap_read returns and removes the oldest capture. -/
  | gtCapRead (t : Fin 32)
  /-- INTERNAL_RAIL_LOW (R423): The internal rail falls below 1.70 V, and the backup domain switches to VBAK. -/
  | internalRailLow
  /-- INTERNAL_RAIL_RESTORED (R423): The internal rail stays above 1.75 V for 10 ms, and the backup domain switches back to it. -/
  | internalRailRestored
  /-- VBAK_MEASURE (R423): The Watchman measures VBAK and sets or clears vbak_low. -/
  | vbakMeasure (mv : Nat)
  /-- BACKUP_POR (R425): Both the internal rail and VBAK fall below 1.60 V, and the backup domain is reset. -/
  | backupPor
  /-- BAK_RESET (R425): bak_cmd RESET resets the backup domain. -/
  | bakReset
  /-- XTAL_STOP (R424): No crystal tick for 4 ms clears bak_valid and reports kind 0x74. -/
  | xtalStop
  /-- XTAL_RESUME (R424): Ticks return, and counting resumes from the held values. -/
  | xtalResume
  /-- SECOND_BOUNDARY (R427): The prescaler reaches the length of the second, and the seconds count increments with the trim applied. -/
  | secondBoundary
  /-- BAK_SECONDS_WRITE (R429): A write of bak_seconds sets the seconds, resets the prescaler and sets bak_valid. -/
  | bakSecondsWrite (value : Nat)
  /-- BAK_SYNC_WRITE (R429): The Clocksmith writes the Watchman seconds on entry to LOCKED and hourly while LOCKED. -/
  | bakSyncWrite
  /-- BAK_TRIM_WRITE (R430): A write of bak_trim sets trim_pending, and the new trim is used from the next second boundary. -/
  | bakTrimWrite (value : Int)
  /-- BACKUP_TIME_READ (R428): The first read of a backup time object in a message latches all five values for that message. -/
  | backupTimeRead (sub : Fin 5)
  /-- ALARM_ARM (R431): al_cmd ARM sets the alarm ARMED, or handles it as a forward step when its time has passed. -/
  | alarmArm (a : Fin 2)
  /-- ALARM_DISARM (R431): al_cmd DISARM sets the alarm IDLE. -/
  | alarmDisarm (a : Fin 2)
  /-- PWRON_RELEASE (R433): pwron_cmd RELEASE starts the pwron_delay countdown. -/
  | pwronRelease
  /-- PWRON_CANCEL (R433): pwron_cmd CANCEL stops the countdown or drives PWRON_OUT high. -/
  | pwronCancel
  /-- PWRON_DELAY_EXPIRE (R433): pwron_delay expires, and PWRON_OUT goes low. -/
  | pwronDelayExpire
  /-- SCRATCH_WRITE (R434): The last transfer of a scratch write arrives, and the 32 bytes are stored in one backup cycle. -/
  | scratchWrite (bytes : Octets)
  /-- VIN_RISE (R438): The input rises above 34.0 V, and the converter and auxiliary supply start. -/
  | vinRise
  /-- VIN_WARN (R438): The input falls below vin_warn, so vin_low sets and kind 0x78 is reported. -/
  | vinWarn (mv : Nat)
  /-- POWER_FAIL_WARNING (R439): The input falls below 33.0 V; kind 0x79 is raised as a package fault while the rails hold. -/
  | powerFailWarning
  /-- VIN_COLLAPSE (R438): The input falls below 32.0 V, the converter stops, and the package enters HOLD or OFF. -/
  | vinCollapse
  /-- VIN_OVERVOLTAGE (R438): The input stays above 78.0 V for 1 ms, and the converter stops. -/
  | vinOvervoltage
  /-- VIN_OV_RECOVER (R438): The input falls below 76.0 V after an over-voltage, and the converter restarts. -/
  | vinOvRecover
  /-- V12_STARTED (R440): The 12 V output reaches 11.4 V within 3 ms and reads ON. -/
  | v12Started
  /-- V12_START_FAIL (R440): The 12 V output is below 11.4 V 5 ms after start, and latches off with kind 0x7C. -/
  | v12StartFail
  /-- V12_FAULT (R440): Over-current, under-voltage or over-temperature turns the 12 V output off and latches it. -/
  | v12Fault (cause : V12Cause)
  /-- CONVERTER_HOT (R440): The converter exceeds 125 °C, and kind 0x7E is reported once. -/
  | converterHot (celsius : Int)
  /-- AVS_REQUEST (R442): The AVSBus master writes a new VCORE target to the regulator. -/
  | avsRequest (ack : Fin 4)
  /-- AVS_RETRY (R442): 20 µs after a failed SlaveAck, the target write is retried. -/
  | avsRetry (ack : Fin 4)
  /-- AVS_STATUS_POLL (R442): Every 10 µs the master reads the status until VDone, then checks the sensed voltage. -/
  | avsStatusPoll (vdone : Bool) (mv : Nat)
  /-- AVS_SETTLE_TIMEOUT (R442): VDone is not set within avs_settle_max, so the request fails with kind 0x7A. -/
  | avsSettleTimeout
  /-- VCORE_FAULT (R444): VCORE stays out of bounds for 10 µs, and kind 0x7B is raised as a package fault. -/
  | vcoreFault (mv : Nat)
  /-- DORMANT_ENTER (R449): dormant_cmd ENTER checks the conditions and, with OK, runs DORMANT entry. -/
  | dormantEnter
  /-- WAKE_SOURCE (R452): An enabled wake source wakes a DORMANT package, which checks its banks, rebuilds TB96 and returns to IDLE. -/
  | wakeSource (source : Nat) (banksOk : Nat)
  /-- PAD_RELEASE (R457): A write to pad_release releases latched pad groups whose domains are ON, or returns BUSY. -/
  | padRelease (value : BitVec 8)
  /-- FAULT_MESSAGE (R466): A fault message reaches the collector, is classified, logged or coalesced, and its reaction runs. -/
  | faultMessage (m : Option FaultMsg)
  /-- QUIET_EXPIRE (R472): The quiet timer reaches quiet_period, and the Tinker makes a recovery or latches the module. -/
  | quietExpire
  /-- Q_ENTER (R474): q_cmd ENTER puts a serving package into QUARANTINE, or restarts the quiet timer. -/
  | qEnter
  /-- Q_EXIT (R474): q_cmd EXIT leaves QUARANTINE without counting a recovery. -/
  | qExit
  /-- CLEAR_LATCH (R474): q_cmd CLEAR_LATCH clears the latch and the recovery history. -/
  | clearLatch
  /-- FORCE (R470): force_cmd FORCE makes a source unit raise one message of the named kind with FORCED set. -/
  | force
  /-- NOTIFY_SEND (R475): Once notify_gap has passed, pending log entries are announced on management Ethernet or by MSI-X vector 65. -/
  | notifySend
  /-- MAINT_REQUEST (R480): A maintenance activity is requested by a unit or by mreq_cmd REQUEST, and is admitted, queued or refused. -/
  | maintRequest (u : Option MaintRaise)
  /-- MAINT_CANCEL (R492): mreq_cmd CANCEL removes a queued entry with result DENIED. -/
  | maintCancel
  /-- ACTIVITY_END (R483): An activity ends, its result is recorded, and the Steward scans its queue. -/
  | activityEnd (activity : Nat) (target : Nat) (result : ActivityReport)
  /-- ACTIVITY_BOUND (R483): An activity's bound passes, the engine is reset and kind 0x80 is reported. -/
  | activityBound (activity : Nat) (target : Nat)
  /-- QUEUE_LIMIT_EXPIRE (R482): A queued entry exceeds queue_limit and is removed with TIMEOUT. -/
  | queueLimitExpire (n : Fin 32)
  /-- ALIGN_ANSWER (R485): The follower's ADMIT or WAIT for a JOINT_ALIGN reaches the lead's Steward. -/
  | alignAnswer (v : VHead) (admitted : Bool)
  /-- ALIGN_ANSWER_TIMEOUT (R485): No follower answer within 100 µs, so the lead queues JOINT_ALIGN as DEFERRED. -/
  | alignAnswerTimeout
  /-- ALIGN_TIMER (R479): align_interval passes, and the twin unit requests JOINT_ALIGN. -/
  | alignTimer
  /-- SURVEY_TIMER (R479): Every 600 s the Surveyor requests SURVEY. -/
  | surveyTimer
  /-- MEM_SURVEY_TIMER (R479): mem_survey_interval passes, and the Surveyor requests MEM_SURVEY. -/
  | memSurveyTimer
  /-- DAILY_MEAN (R490): Once a day the plan store records each item's daily mean and refits its trend. -/
  | dailyMean
  /-- PORST_ASSERT (R506): PORST_N low for 10 µs or more causes a package reset. -/
  | porstAssert
  /-- PORST_RELEASE (R506): At the release instant tR, reset ends and the straps are sampled. -/
  | porstRelease (samples : List Nat)
  /-- BOOT_START (R522): BOOT begins at the later of tR + 10 ms and ref_state LOCKED, computing keys, the boot count and TB96. -/
  | bootStart
  /-- IMAGE_CHECK_DONE (R519): A boot slot finishes streaming and its check passes or fails. -/
  | imageCheckDone (failed : Fin 5) (revision : Nat)
  /-- SELF_TEST_DONE (R523): Built-in memory test ends, disabling failed units or halting BOOT. -/
  | selfTestDone (failed : List Nat)
  /-- BOOT_END (R522): Objects take their values, features claim, and TRAIN begins. -/
  | bootEnd
  /-- TRAIN_END (R525): TRAIN's tasks complete, and R183 chooses the serving mode taken at the next boundary. -/
  | trainEnd
  /-- TAKEOVER_END (R199): At most 600 µs after D the takeover ends: the package leaves TAKEOVER for SOLO, twin_state reads SEARCHING, the RARP announcements of R307 begin, and any QUARANTINE entry deferred under R471 now runs. -/
  | takeoverEnd
  /-- ALIGN_AGE_EXPIRE (R207): The last successful JOINT_ALIGN becomes older than align_max_age, so pair_state goes to SUSPENDED with bit 3 of pair_suspend_cause set and kind 0x4E. -/
  | alignAgeExpire
  /-- SYNCE_LOCKED (R410): The recovered SyncE clock of synce_port regains lock, synce_state reads LOCKED, and synce_steer resumes steering the frequency. -/
  | synceLocked
  /-- VIN_LOW_CLEAR (R438): The input rises above vin_warn + 1 V and vin_low clears. -/
  | vinLowClear (mv : Nat)
  /-- VBAK_APPLIED (R459): VBAK is applied with the input absent; the backup domain leaves power-on reset within 5 ms and the package goes from OFF to HOLD. -/
  | vbakApplied
  /-- DORMANT_ENTRY_DONE (R450): At most 5 ms after ENTER, the 12 V output is off and pd 3 to 8 are unpowered; dormant_entries counts, and a wake that arrived during entry now begins. -/
  | dormantEntryDone
  /-- EPOCH_MESSAGE_RECEIVED (R33): The peer's Ledger receives PREPARE, APPLY_AT, DONE, ABORT or ROLLBACK_AT in Varlan class 1 from the coordinator and passes it to its units. -/
  | epochMessageReceived (v : VHead) (msg : EpochMsg)
  /-- ALIGN_REQUEST_RECEIVED (R485): The follower's Steward receives the lead's JOINT_ALIGN request in class 1, judges it against its own table, and reserves radio C and answers ADMIT, or answers WAIT. -/
  | alignRequestReceived (v : VHead)
  /-- FOLLOWER_CSI_RECEIVED (R209): The lead receives, in class 4, the follower's uplink measurement of a station's PPDU on the follower's 16 chains, and updates the joint CSI. -/
  | followerCsiReceived (v : VHead) (station : Nat) (corr : List (Nat × Nat))
  /-- HEARTBEAT_MISSED (R213): A heartbeat from the peer that was due does not arrive in its 50 µs slot, and hb_missed counts it. -/
  | heartbeatMissed
  deriving DecidableEq, Repr

end Sys2Proof
end

