-- ==== Sys2Proof/Config.lean ====
section
/-! DEFINITION. The values the spec leaves open: a free value has no body, so that no proof can see a number in it. -/

namespace Sys2Proof.Config

/-- A free value: what a step uses where the spec fixes no value. The argument is the state's counter `free`, advanced at
each use (log 1). -/
opaque freeValue : Nat → BitVec 64

/-- A free octet string's bytes, for a value of several bytes that the spec does not fix (log 1). -/
opaque freeByte : Nat → Nat → BitVec 8

/-- The set of the forwarding database that a VID and an address fall into (R292): the spec gives 16,384 sets and no function
(log 30). The argument is VID × 2^48 + address. -/
opaque fdbSet : Nat → BitVec 14

end Sys2Proof.Config
end

