-- ==== Sys2Proof/Machine/Bits.lean ====
section
/-! DEFINITION. Tables, byte orders and number formats: the helpers every family of commands shares. -/

namespace Sys2Proof

/-- The entry of number `k`, if the table has one. -/
def Tab.look {α : Type} : Tab α → Nat → Option α
  | [], _ => none
  | (j, v) :: t, k => if j = k then some v else Tab.look t k

/-- The table with entry `k` set to `v`. -/
def Tab.put {α : Type} : Tab α → Nat → α → Tab α
  | [], k, v => [(k, v)]
  | (j, w) :: t, k, v =>
    if k < j then (k, v) :: (j, w) :: t
    else if k = j then (k, v) :: t
    else (j, w) :: Tab.put t k v

/-- The table without entry `k`. -/
def Tab.del {α : Type} : Tab α → Nat → Tab α
  | [], _ => []
  | (j, w) :: t, k => if j = k then Tab.del t k else (j, w) :: Tab.del t k

/-- Entry `k`, or `d` where the table has none. -/
def Tab.getD {α : Type} (t : Tab α) (k : Nat) (d : α) : α := (t.look k).getD d

/-- Entry `k` changed by `f`; a table without it stays. -/
def Tab.upd {α : Type} (t : Tab α) (k : Nat) (f : α → α) : Tab α :=
  match t.look k with
  | some v => t.put k (f v)
  | none => t

/-- Whether the table has an entry `k`. -/
def Tab.has {α : Type} (t : Tab α) (k : Nat) : Bool := (t.look k).isSome

/-- A value put into a sorted list, before those it may precede. -/
def sortIn {α : Type} (le : α → α → Bool) (x : α) : List α → List α
  | [] => [x]
  | y :: t => if le x y then x :: y :: t else y :: sortIn le x t

/-- A list sorted by `le`; values that may stand either way keep their order. -/
def sortBy {α : Type} (le : α → α → Bool) (l : List α) : List α := l.foldr (sortIn le) []

/-- The canonical form of a table: numbers strictly rising. -/
def Tab.sorted {α : Type} : Tab α → Bool
  | [] => true
  | [_] => true
  | (j, _) :: (k, w) :: t => decide (j < k) && Tab.sorted ((k, w) :: t)

namespace Machine

/-- Bits `hi` down to `lo` of a number. -/
def bits (v hi lo : Nat) : Nat := (v / 2 ^ lo) % 2 ^ (hi + 1 - lo)

/-- Bit `i` of a number. -/
def bit (v i : Nat) : Bool := (v / 2 ^ i) % 2 = 1

/-- A number with bit `i` set. -/
def setBit (v i : Nat) : Nat := if bit v i then v else v + 2 ^ i

/-- A number with bit `i` clear. -/
def clrBit (v i : Nat) : Nat := if bit v i then v - 2 ^ i else v

/-- A number with bit `i` equal to `b`. -/
def putBit (v i : Nat) (b : Bool) : Nat := if b then setBit v i else clrBit v i

/-- The number of one bits among the low `n`. -/
def popCount : Nat → Nat → Nat
  | 0, _ => 0
  | n + 1, v => v % 2 + popCount n (v / 2)

/-- The numbers below `n` whose bit is set in `v`, rising. -/
def bitList (n v : Nat) : List Nat := (List.range n).filter (fun i => bit v i)

/-- The value of little-endian octets (R8). -/
def leNat : Octets → Nat
  | [] => 0
  | b :: t => b.toNat + 256 * leNat t

/-- The value of octets most significant first, as frames on the wire carry numbers (R8). -/
def beNat (l : Octets) : Nat := l.foldl (fun a b => a * 256 + b.toNat) 0

/-- `n` little-endian octets of a number. -/
def leBytes : Nat → Nat → Octets
  | 0, _ => []
  | n + 1, v => BitVec.ofNat 8 v :: leBytes n (v / 256)

/-- `n` octets of a number, most significant first. -/
def beBytes (n v : Nat) : Octets := (leBytes n v).reverse

/-- `n` zero octets. -/
def zeros (n : Nat) : Octets := List.replicate n 0

/-- `n` octets of `l` from position `i`. -/
def slice (l : Octets) (i n : Nat) : Octets := (l.drop i).take n

/-- Octet `i`, as a number; 0 past the end. -/
def octet (l : Octets) (i : Nat) : Nat := (l.getD i 0).toNat

/-- The octets with those from `i` replaced by `v`. -/
def patch (l : Octets) (i : Nat) (v : Octets) : Octets := l.take i ++ v ++ l.drop (i + v.length)

/-- A signed number of `w` bits read from its two's complement. -/
def toSigned (w v : Nat) : Int := if v < 2 ^ (w - 1) then (v : Int) else (v : Int) - (2 : Int) ^ w

/-- The two's complement of a signed number in `w` bits. -/
def ofSigned (w : Nat) (v : Int) : Nat := (v % (2 : Int) ^ w).toNat

/-- The sum that stops at `top`, as a counter that saturates. -/
def satAdd (top a b : Nat) : Nat := min (a + b) top

/-- The least multiple of `m` that is at least `v`. -/
def alignUp (m v : Nat) : Nat := if m = 0 then v else (v + (m - 1)) / m * m

/-- The quotient rounded up. -/
def ceilDiv (a b : Nat) : Nat := if b = 0 then 0 else (a + (b - 1)) / b

end Machine
end Sys2Proof
end

