-- ==== Sys2Proof/Machine/ObjNames.lean ====
section
/-! DEFINITION. The names of the Ledger objects (R37, R38): each constant is the register key of one object of the spec's object tables, index times 256 plus sub-index; an arrayed object takes its index letter as an argument, a radio object its radio (R73). -/

namespace Sys2Proof.Machine

/-- The register key of an object: index times 256 plus sub-index (R37). -/
abbrev objKey (index sub : Nat) : Nat := index * 256 + sub

/-- The register key of a windowed object's value for the entry a selector names: the entry in the bits above 24. -/
abbrev winKey (inst key : Nat) : Nat := inst * 16777216 + key

namespace O

/-- `0x1182.01` HID (R25). -/
abbrev reset_target : Nat := objKey (0x1182) 0x01
/-- `0x1182.02` U8 (R25). -/
abbrev reset_cmd : Nat := objKey (0x1182) 0x02
/-- `0x1181.01` HID (R28). -/
abbrev mode_query : Nat := objKey (0x1181) 0x01
/-- `0x1181.02` ENUM (R28). -/
abbrev mode_of_query : Nat := objKey (0x1181) 0x02
/-- `0x1181.03` ENUM (R28). -/
abbrev package_mode : Nat := objKey (0x1181) 0x03
/-- `0x1181.04` ENUM (R28). -/
abbrev peer_mode : Nat := objKey (0x1181) 0x04
/-- `0x1180.01` U32 (R29). -/
abbrev epoch_current : Nat := objKey (0x1180) 0x01
/-- `0x1180.02` BOOL (R29). -/
abbrev epoch_staged : Nat := objKey (0x1180) 0x02
/-- `0x1180.03` ENUM (R29). -/
abbrev epoch_cmd : Nat := objKey (0x1180) 0x03
/-- `0x1180.04` ENUM (R29). -/
abbrev target_mode_a : Nat := objKey (0x1180) 0x04
/-- `0x1180.05` ENUM (R29). -/
abbrev target_mode_b : Nat := objKey (0x1180) 0x05
/-- `0x1180.06` U32 (R29). -/
abbrev prepare_timeout : Nat := objKey (0x1180) 0x06
/-- `0x1180.07` U32 (R29). -/
abbrev apply_timeout : Nat := objKey (0x1180) 0x07
/-- `0x1180.08` U16 (R29). -/
abbrev apply_guard : Nat := objKey (0x1180) 0x08
/-- `0x1180.09` ENUM (R29). -/
abbrev epoch_scope : Nat := objKey (0x1180) 0x09
/-- `0x1180.0A` ENUM (R29). -/
abbrev epoch_phase : Nat := objKey (0x1180) 0x0a
/-- `0x1180.0B` U8 (R29). -/
abbrev epoch_result : Nat := objKey (0x1180) 0x0b
/-- `0x1180.0C` HID (R29). -/
abbrev first_laggard : Nat := objKey (0x1180) 0x0c
/-- `0x1180.0D` U16 (R29). -/
abbrev laggard_count : Nat := objKey (0x1180) 0x0d
/-- `0x1001.01` U8 (R45). -/
abbrev save_cmd : Nat := objKey (0x1001) 0x01
/-- `0x1001.02` U8 (R45). -/
abbrev save_result : Nat := objKey (0x1001) 0x02
/-- `0x1001.03` BOOL (R45). -/
abbrev save_dirty : Nat := objKey (0x1001) 0x03
/-- `0x1001.04` U32 (R45). -/
abbrev save_generation : Nat := objKey (0x1001) 0x04
/-- `0x1001.05` BOOL (R45). -/
abbrev saved_valid : Nat := objKey (0x1001) 0x05
/-- `0x1001.06` U16 (R45). -/
abbrev save_rejects : Nat := objKey (0x1001) 0x06
/-- `0x1001.07` BOOL (R45). -/
abbrev save_busy : Nat := objKey (0x1001) 0x07
/-- `0x0000.01` U16 (R46). -/
abbrev part_number : Nat := objKey (0x0000) 0x01
/-- `0x0000.02` U8 (R46). -/
abbrev silicon_rev : Nat := objKey (0x0000) 0x02
/-- `0x0000.03` U32 (R46). -/
abbrev firmware_rev : Nat := objKey (0x0000) 0x03
/-- `0x0000.04` OCTETS (R46). -/
abbrev serial : Nat := objKey (0x0000) 0x04
/-- `0x0000.05` HID (R46). -/
abbrev package_hid : Nat := objKey (0x0000) 0x05
/-- `0x0000.06` U16 (R46). -/
abbrev strap_word : Nat := objKey (0x0000) 0x06
/-- `0x0000.07` U16 (R46). -/
abbrev ledger_layout : Nat := objKey (0x0000) 0x07
/-- `0x0001.01` ENUM (R46). -/
abbrev radio_a : Nat := objKey (0x0001) 0x01
/-- `0x0001.02` ENUM (R46). -/
abbrev radio_b : Nat := objKey (0x0001) 0x02
/-- `0x0001.03` ENUM (R46). -/
abbrev radio_c : Nat := objKey (0x0001) 0x03
/-- `0x0001.04` U8 (R46). -/
abbrev chains_a : Nat := objKey (0x0001) 0x04
/-- `0x0001.05` U8 (R46). -/
abbrev chains_b : Nat := objKey (0x0001) 0x05
/-- `0x0001.06` U8 (R46). -/
abbrev chains_c : Nat := objKey (0x0001) 0x06
/-- `0x0001.07` U16 (R46). -/
abbrev stations : Nat := objKey (0x0001) 0x07
/-- `0x0001.08` U16 (R46). -/
abbrev cap_key_slots : Nat := objKey (0x0001) 0x08
/-- `0x0001.09` U32 (R46). -/
abbrev flow_records : Nat := objKey (0x0001) 0x09
/-- `0x0001.0A` ENUM (R46). -/
abbrev twin : Nat := objKey (0x0001) 0x0a
/-- `0x0001.0B` ENUM (R46). -/
abbrev paired_tx : Nat := objKey (0x0001) 0x0b
/-- `0x0001.0C` ENUM (R46). -/
abbrev macsec : Nat := objKey (0x0001) 0x0c
/-- `0x0001.0D` U8 (R46). -/
abbrev uplink_lanes : Nat := objKey (0x0001) 0x0d
/-- `0x0001.0E` U8 (R46). -/
abbrev cap_varlan_lanes : Nat := objKey (0x0001) 0x0e
/-- `0x0002.01` HID (R46). -/
abbrev fit_query : Nat := objKey (0x0002) 0x01
/-- `0x0002.02` ENUM (R46). -/
abbrev fit_of_query : Nat := objKey (0x0002) 0x02
/-- `0x1000.01` U8 (R57). -/
abbrev ledger_node : Nat := objKey (0x1000) 0x01
/-- `0x1000.02` U16 (R57). -/
abbrev boot_count : Nat := objKey (0x1000) 0x02
/-- `0x1000.03` U8 (R57). -/
abbrev transports : Nat := objKey (0x1000) 0x03
/-- `0x1000.04` U16 (R57). -/
abbrev mgmt_vid : Nat := objKey (0x1000) 0x04
/-- `0x1000.05` OCTETS (R57). -/
abbrev mgmt_addr : Nat := objKey (0x1000) 0x05
/-- `0x1000.06` U32 (R57). -/
abbrev auth_fail_eth : Nat := objKey (0x1000) 0x06
/-- `0x1000.07` U32 (R57). -/
abbrev auth_fail_mb : Nat := objKey (0x1000) 0x07
/-- `0x1000.08` U32 (R57). -/
abbrev auth_fail_spi : Nat := objKey (0x1000) 0x08
/-- `0x1000.09` U32 (R57). -/
abbrev accepted_eth : Nat := objKey (0x1000) 0x09
/-- `0x1000.0A` U32 (R57). -/
abbrev accepted_mb : Nat := objKey (0x1000) 0x0a
/-- `0x1000.0B` U32 (R57). -/
abbrev accepted_spi : Nat := objKey (0x1000) 0x0b
/-- `0x1000.0C` U32 (R57). -/
abbrev format_err : Nat := objKey (0x1000) 0x0c
/-- `0x1000.0D` U32 (R57). -/
abbrev eth_queue_drop : Nat := objKey (0x1000) 0x0d
/-- `0x1040 + q.01` U64 (R62). -/
abbrev ring_base (q : Nat) : Nat := objKey (0x1040 + q) 0x01
/-- `0x1040 + q.02` U8 (R62). -/
abbrev ring_log2 (q : Nat) : Nat := objKey (0x1040 + q) 0x02
/-- `0x1040 + q.03` BOOL (R62). -/
abbrev enable (q : Nat) : Nat := objKey (0x1040 + q) 0x03
/-- `0x1040 + q.04` U8 (R62). -/
abbrev msix_vector (q : Nat) : Nat := objKey (0x1040 + q) 0x04
/-- `0x1040 + q.05` U16 (R62). -/
abbrev irq_count (q : Nat) : Nat := objKey (0x1040 + q) 0x05
/-- `0x1040 + q.06` U16 (R62). -/
abbrev irq_time (q : Nat) : Nat := objKey (0x1040 + q) 0x06
/-- `0x1040 + q.07` U64 (R62). -/
abbrev frames (q : Nat) : Nat := objKey (0x1040 + q) 0x07
/-- `0x1040 + q.08` U64 (R62). -/
abbrev bytes (q : Nat) : Nat := objKey (0x1040 + q) 0x08
/-- `0x1040 + q.09` U64 (R62). -/
abbrev drop_full (q : Nat) : Nat := objKey (0x1040 + q) 0x09
/-- `0x1040 + q.0A` U64 (R62). -/
abbrev len_range (q : Nat) : Nat := objKey (0x1040 + q) 0x0a
/-- `0x1040 + q.0B` U64 (R62). -/
abbrev short_buf (q : Nat) : Nat := objKey (0x1040 + q) 0x0b
/-- `0x1040 + q.0C` U64 (R62). -/
abbrev dma_error (q : Nat) : Nat := objKey (0x1040 + q) 0x0c
/-- `0x8000.01` U16 (R72). -/
abbrev claim_resource : Nat := objKey (0x8000) 0x01
/-- `0x8000.02` HID (R72). -/
abbrev claim_owner : Nat := objKey (0x8000) 0x02
/-- `0x8000.03` U8 (R72). -/
abbrev claim_cmd : Nat := objKey (0x8000) 0x03
/-- `0x8000.04` BOOL (R72). -/
abbrev claim_held : Nat := objKey (0x8000) 0x04
/-- `0x8000.05` HID (R72). -/
abbrev claim_holder : Nat := objKey (0x8000) 0x05
/-- `0x8000.06` U32 (R72). -/
abbrev claim_conflicts : Nat := objKey (0x8000) 0x06
/-- `B + 0x00.01` ENUM (R108). -/
abbrev radio_target (r : Nat) : Nat := objKey (0x2000 + 1024 * r) 0x01
/-- `B + 0x00.02` ENUM (R108). -/
abbrev radio_state (r : Nat) : Nat := objKey (0x2000 + 1024 * r) 0x02
/-- `B + 0x00.03` BOOL (R108). -/
abbrev tx_mute (r : Nat) : Nat := objKey (0x2000 + 1024 * r) 0x03
/-- `B + 0x00.04` U8 (R108). -/
abbrev mute_cause (r : Nat) : Nat := objKey (0x2000 + 1024 * r) 0x04
/-- `B + 0x00.05` U32 (R108). -/
abbrev lock_losses (r : Nat) : Nat := objKey (0x2000 + 1024 * r) 0x05
/-- `B + 0x00.06` BOOL (R108). -/
abbrev synth_locked (r : Nat) : Nat := objKey (0x2000 + 1024 * r) 0x06
/-- `B + 0x01.01` U8 (R108). -/
abbrev primary (r : Nat) : Nat := objKey (0x2001 + 1024 * r) 0x01
/-- `B + 0x01.02` ENUM (R108). -/
abbrev width (r : Nat) : Nat := objKey (0x2001 + 1024 * r) 0x02
/-- `B + 0x01.03` U16 (R108). -/
abbrev puncture (r : Nat) : Nat := objKey (0x2001 + 1024 * r) 0x03
/-- `B + 0x01.04` BOOL (R108). -/
abbrev channel_ok (r : Nat) : Nat := objKey (0x2001 + 1024 * r) 0x04
/-- `B + 0x02.01` U16 (R108). -/
abbrev chain_enable (r : Nat) : Nat := objKey (0x2002 + 1024 * r) 0x01
/-- `B + 0x02.02` U16 (R108). -/
abbrev fem_tx_lead (r : Nat) : Nat := objKey (0x2002 + 1024 * r) 0x02
/-- `B + 0x02.03` U16 (R108). -/
abbrev fem_tx_lag (r : Nat) : Nat := objKey (0x2002 + 1024 * r) 0x03
/-- `B + 0x02.04` U16 (R108). -/
abbrev fem_gap (r : Nat) : Nat := objKey (0x2002 + 1024 * r) 0x04
/-- `B + 0x02.05` U8 (R108). -/
abbrev fem_polarity (r : Nat) : Nat := objKey (0x2002 + 1024 * r) 0x05
/-- `B + 0x02.06` I32 (R108). -/
abbrev byp_threshold (r : Nat) : Nat := objKey (0x2002 + 1024 * r) 0x06
/-- `B + 0x03.01` U64 (R108). -/
abbrev tx_sent (r : Nat) : Nat := objKey (0x2003 + 1024 * r) 0x01
/-- `B + 0x03.02` U64 (R108). -/
abbrev tx_held (r : Nat) : Nat := objKey (0x2003 + 1024 * r) 0x02
/-- `B + 0x03.03` U64 (R108). -/
abbrev tx_synth_not_ready (r : Nat) : Nat := objKey (0x2003 + 1024 * r) 0x03
/-- `B + 0x03.04` U64 (R108). -/
abbrev tx_busy (r : Nat) : Nat := objKey (0x2003 + 1024 * r) 0x04
/-- `B + 0x03.05` U64 (R108). -/
abbrev tx_late (r : Nat) : Nat := objKey (0x2003 + 1024 * r) 0x05
/-- `B + 0x03.06` U64 (R108). -/
abbrev tx_no_grant (r : Nat) : Nat := objKey (0x2003 + 1024 * r) 0x06
/-- `B + 0x03.07` U64 (R108). -/
abbrev tx_duty_limit (r : Nat) : Nat := objKey (0x2003 + 1024 * r) 0x07
/-- `B + 0x03.08` U64 (R108). -/
abbrev tx_muted (r : Nat) : Nat := objKey (0x2003 + 1024 * r) 0x08
/-- `B + 0x03.09` U64 (R108). -/
abbrev tx_reg_blocked (r : Nat) : Nat := objKey (0x2003 + 1024 * r) 0x09
/-- `B + 0x03.0A` U64 (R108). -/
abbrev power_clamps (r : Nat) : Nat := objKey (0x2003 + 1024 * r) 0x0a
/-- `B + 0x03.0B` U32 (R108). -/
abbrev power_overshoots (r : Nat) : Nat := objKey (0x2003 + 1024 * r) 0x0b
/-- `B + 0x03.0C` U16 (R108). -/
abbrev duty_now (r : Nat) : Nat := objKey (0x2003 + 1024 * r) 0x0c
/-- `B + 0x04.01` ENUM (R108). -/
abbrev cal_kind (r : Nat) : Nat := objKey (0x2004 + 1024 * r) 0x01
/-- `B + 0x04.02` U8 (R108). -/
abbrev cal_chain (r : Nat) : Nat := objKey (0x2004 + 1024 * r) 0x02
/-- `B + 0x04.03` U8 (R108). -/
abbrev cal_cmd (r : Nat) : Nat := objKey (0x2004 + 1024 * r) 0x03
/-- `B + 0x04.04` U8 (R108). -/
abbrev cal_result (r : Nat) : Nat := objKey (0x2004 + 1024 * r) 0x04
/-- `B + 0x04.05` ENUM (R108). -/
abbrev cal_state (r : Nat) : Nat := objKey (0x2004 + 1024 * r) 0x05
/-- `B + 0x04.06` U16 (R108). -/
abbrev cal_resume_gap (r : Nat) : Nat := objKey (0x2004 + 1024 * r) 0x06
/-- `B + 0x04.07` U16 (R108). -/
abbrev cal_limit (r : Nat) : Nat := objKey (0x2004 + 1024 * r) 0x07
/-- `B + 0x04.08` U8 (R108). -/
abbrev cal_temp_step (r : Nat) : Nat := objKey (0x2004 + 1024 * r) 0x08
/-- `B + 0x04.09` U32 (R108). -/
abbrev cal_yields (r : Nat) : Nat := objKey (0x2004 + 1024 * r) 0x09
/-- `B + 0x08.01` U16 (R108). -/
abbrev reg_chain_max (r : Nat) : Nat := objKey (0x2008 + 1024 * r) 0x01
/-- `B + 0x08.02` U16 (R108). -/
abbrev reg_band_max (r : Nat) : Nat := objKey (0x2008 + 1024 * r) 0x02
/-- `B + 0x08.03` U16 (R108). -/
abbrev reg_nogrant_max (r : Nat) : Nat := objKey (0x2008 + 1024 * r) 0x03
/-- `B + 0x08.04` U16 (R108). -/
abbrev reg_duty_max (r : Nat) : Nat := objKey (0x2008 + 1024 * r) 0x04
/-- `B + 0x08.05` OCTETS (R108). -/
abbrev reg_channels (r : Nat) : Nat := objKey (0x2008 + 1024 * r) 0x05
/-- `B + 0x08.06` OCTETS (R108). -/
abbrev reg_grant_channels (r : Nat) : Nat := objKey (0x2008 + 1024 * r) 0x06
/-- `B + 0x08.07` BOOL (R108). -/
abbrev reg_programmed (r : Nat) : Nat := objKey (0x2008 + 1024 * r) 0x07
/-- `B + 0x09.01` U16 (R108). -/
abbrev tx_limit_band (r : Nat) : Nat := objKey (0x2009 + 1024 * r) 0x01
/-- `B + 0x09.02` U16 (R108). -/
abbrev band_limit_eff (r : Nat) : Nat := objKey (0x2009 + 1024 * r) 0x02
/-- `B + 0x09.03` I32 (R108). -/
abbrev die_temp (r : Nat) : Nat := objKey (0x2009 + 1024 * r) 0x03
/-- `B + 0x09.04` U8 (R108). -/
abbrev derate_start (r : Nat) : Nat := objKey (0x2009 + 1024 * r) 0x04
/-- `B + 0x09.05` U8 (R108). -/
abbrev thermal_derate (r : Nat) : Nat := objKey (0x2009 + 1024 * r) 0x05
/-- `B + 0x09.06` U8 (R108). -/
abbrev life_derate (r : Nat) : Nat := objKey (0x2009 + 1024 * r) 0x06
/-- `B + 0x09.07` U32 (R108). -/
abbrev cal_failures (r : Nat) : Nat := objKey (0x2009 + 1024 * r) 0x07
/-- `B + 0x10 + k.01` U16 (R109). -/
abbrev chain_limit (r : Nat) (k : Nat) : Nat := objKey (0x2010 + 1024 * r + k) 0x01
/-- `B + 0x10 + k.02` ENUM (R109). -/
abbrev chain_state (r : Nat) (k : Nat) : Nat := objKey (0x2010 + 1024 * r + k) 0x02
/-- `B + 0x10 + k.03` U16 (R109). -/
abbrev chain_power (r : Nat) (k : Nat) : Nat := objKey (0x2010 + 1024 * r + k) 0x03
/-- `B + 0x10 + k.04` I32 (R109). -/
abbrev chain_temp (r : Nat) (k : Nat) : Nat := objKey (0x2010 + 1024 * r + k) 0x04
/-- `B + 0x10 + k.05` U32 (R109). -/
abbrev pd_age (r : Nat) (k : Nat) : Nat := objKey (0x2010 + 1024 * r + k) 0x05
/-- `B + 0x10 + k.06` U32 (R109). -/
abbrev chain_faults (r : Nat) (k : Nat) : Nat := objKey (0x2010 + 1024 * r + k) 0x06
/-- `B + 0x40 + g.01` U8 (R110). -/
abbrev grant_first (r : Nat) (g : Nat) : Nat := objKey (0x2040 + 1024 * r + g) 0x01
/-- `B + 0x40 + g.02` U8 (R110). -/
abbrev grant_last (r : Nat) (g : Nat) : Nat := objKey (0x2040 + 1024 * r + g) 0x02
/-- `B + 0x40 + g.03` U16 (R110). -/
abbrev grant_power (r : Nat) (g : Nat) : Nat := objKey (0x2040 + 1024 * r + g) 0x03
/-- `B + 0x40 + g.04` TIME80 (R110). -/
abbrev grant_expiry (r : Nat) (g : Nat) : Nat := objKey (0x2040 + 1024 * r + g) 0x04
/-- `B + 0x40 + g.05` ENUM (R110). -/
abbrev grant_state (r : Nat) (g : Nat) : Nat := objKey (0x2040 + 1024 * r + g) 0x05
/-- `B + 0x40 + g.06` U8 (R110). -/
abbrev grant_cmd (r : Nat) (g : Nat) : Nat := objKey (0x2040 + 1024 * r + g) 0x06
/-- `B + 0x40 + g.07` U32 (R110). -/
abbrev grant_lapses (r : Nat) (g : Nat) : Nat := objKey (0x2040 + 1024 * r + g) 0x07
/-- `0x3048 + r.01` OCTETS (R117). -/
abbrev rx_group_list (r : Nat) : Nat := objKey (0x3048 + r) 0x01
/-- `0x3048 + r.02` U8 (R117). -/
abbrev rx_group_count (r : Nat) : Nat := objKey (0x3048 + r) 0x02
/-- `0x3048 + r.03` U64 (R117). -/
abbrev rx_group_hits (r : Nat) : Nat := objKey (0x3048 + r) 0x03
/-- `0x3000.01` U16 (R144). -/
abbrev sta_capacity : Nat := objKey (0x3000) 0x01
/-- `0x3000.02` U16 (R144). -/
abbrev sta_in_use : Nat := objKey (0x3000) 0x02
/-- `0x3000.03` U8 (R144). -/
abbrev mgmt_queue : Nat := objKey (0x3000) 0x03
/-- `0x3000.04` U8 (R144). -/
abbrev eapol_queue : Nat := objKey (0x3000) 0x04
/-- `0x3000.05` BOOL (R144). -/
abbrev deauth_unknown : Nat := objKey (0x3000) 0x05
/-- `0x3000.06` U16 (R144). -/
abbrev ba_max_window : Nat := objKey (0x3000) 0x06
/-- `0x3000.07` U16 (R144). -/
abbrev reorder_timeout : Nat := objKey (0x3000) 0x07
/-- `0x3000.08` U32 (R144). -/
abbrev reorder_pool : Nat := objKey (0x3000) 0x08
/-- `0x3000.09` U32 (R144). -/
abbrev reorder_pool_used : Nat := objKey (0x3000) 0x09
/-- `0x3000.0A` U8 (R144). -/
abbrev retry_limit : Nat := objKey (0x3000) 0x0a
/-- `0x3000.0B` ENUM (R144). -/
abbrev probe_mode : Nat := objKey (0x3000) 0x0b
/-- `0x3000.0C` U16 (R144). -/
abbrev twt_capacity : Nat := objKey (0x3000) 0x0c
/-- `0x3001 + r.01` U8 (R144). -/
abbrev bss_count (r : Nat) : Nat := objKey (0x3001 + r) 0x01
/-- `0x3001 + r.02` U16 (R144). -/
abbrev beacon_interval (r : Nat) : Nat := objKey (0x3001 + r) 0x02
/-- `0x3001 + r.03` U8 (R144). -/
abbrev dtim_period (r : Nat) : Nat := objKey (0x3001 + r) 0x03
/-- `0x3001 + r.04` U16 (R144). -/
abbrev tbtt_offset (r : Nat) : Nat := objKey (0x3001 + r) 0x04
/-- `0x3001 + r.05` U64 (R144). -/
abbrev tsf_now (r : Nat) : Nat := objKey (0x3001 + r) 0x05
/-- `0x3001 + r.06` U8 (R144). -/
abbrev beacon_wait (r : Nat) : Nat := objKey (0x3001 + r) 0x06
/-- `0x3001 + r.07` BOOL (R144). -/
abbrev monitor_lead (r : Nat) : Nat := objKey (0x3001 + r) 0x07
/-- `0x3010 + 16r + i.01` OCTETS (R144). -/
abbrev bssid (r : Nat) (i : Nat) : Nat := objKey (0x3010 + 16 * r + i) 0x01
/-- `0x3010 + 16r + i.02` BOOL (R144). -/
abbrev bss_enable (r : Nat) (i : Nat) : Nat := objKey (0x3010 + 16 * r + i) 0x02
/-- `0x3010 + 16r + i.03` OCTETS (R144). -/
abbrev beacon_template (r : Nat) (i : Nat) : Nat := objKey (0x3010 + 16 * r + i) 0x03
/-- `0x3010 + 16r + i.04` OCTETS (R144). -/
abbrev probe_template (r : Nat) (i : Nat) : Nat := objKey (0x3010 + 16 * r + i) 0x04
/-- `0x3010 + 16r + i.05` U16 (R144). -/
abbrev template_gen (r : Nat) (i : Nat) : Nat := objKey (0x3010 + 16 * r + i) 0x05
/-- `0x3010 + 16r + i.06` U64 (R144). -/
abbrev beacon_sent (r : Nat) (i : Nat) : Nat := objKey (0x3010 + 16 * r + i) 0x06
/-- `0x3010 + 16r + i.07` U32 (R144). -/
abbrev beacon_tx_fail (r : Nat) (i : Nat) : Nat := objKey (0x3010 + 16 * r + i) 0x07
/-- `0x3040 + r.01` U64 (R145). -/
abbrev rx_fcs_ok (r : Nat) : Nat := objKey (0x3040 + r) 0x01
/-- `0x3040 + r.02` U64 (R145). -/
abbrev air_rx_fcs_err (r : Nat) : Nat := objKey (0x3040 + r) 0x02
/-- `0x3040 + r.03` U64 (R145). -/
abbrev rx_not_mine (r : Nat) : Nat := objKey (0x3040 + r) 0x03
/-- `0x3040 + r.04` U64 (R145). -/
abbrev rx_unknown_ta (r : Nat) : Nat := objKey (0x3040 + r) 0x04
/-- `0x3040 + r.05` U64 (R145). -/
abbrev air_rx_dup (r : Nat) : Nat := objKey (0x3040 + r) 0x05
/-- `0x3040 + r.06` U64 (R145). -/
abbrev rx_class_drop (r : Nat) : Nat := objKey (0x3040 + r) 0x06
/-- `0x3040 + r.07` U64 (R145). -/
abbrev resp_sent (r : Nat) : Nat := objKey (0x3040 + r) 0x07
/-- `0x3040 + r.08` U64 (R145). -/
abbrev resp_failed (r : Nat) : Nat := objKey (0x3040 + r) 0x08
/-- `0x3040 + r.09` U64 (R145). -/
abbrev reorder_gap_skips (r : Nat) : Nat := objKey (0x3040 + r) 0x09
/-- `0x3040 + r.0A` U64 (R145). -/
abbrev reorder_flushes (r : Nat) : Nat := objKey (0x3040 + r) 0x0a
/-- `0x3040 + r.0B` U64 (R145). -/
abbrev probe_resp_sent (r : Nat) : Nat := objKey (0x3040 + r) 0x0b
/-- `0x3040 + r.0C` U32 (R145). -/
abbrev deauth_sent (r : Nat) : Nat := objKey (0x3040 + r) 0x0c
/-- `0x3040 + r.0D` U32 (R145). -/
abbrev nstr_conflicts (r : Nat) : Nat := objKey (0x3040 + r) 0x0d
/-- `0x3040 + r.0E` U64 (R145). -/
abbrev ps_polls (r : Nat) : Nat := objKey (0x3040 + r) 0x0e
/-- `0x3040 + r.0F` U64 (R145). -/
abbrev air_rx_oversize (r : Nat) : Nat := objKey (0x3040 + r) 0x0f
/-- `0x3040 + r.10` U64 (R145). -/
abbrev tx_acked (r : Nat) : Nat := objKey (0x3040 + r) 0x10
/-- `0x3040 + r.11` U64 (R145). -/
abbrev air_tx_retries (r : Nat) : Nat := objKey (0x3040 + r) 0x11
/-- `0x3040 + r.12` U64 (R145). -/
abbrev air_tx_failed (r : Nat) : Nat := objKey (0x3040 + r) 0x12
/-- `0x3040 + r.13` U32 (R145). -/
abbrev lead_beacon_missed (r : Nat) : Nat := objKey (0x3040 + r) 0x13
/-- `0x3040 + r.14` U32 (R145). -/
abbrev lead_loss_events (r : Nat) : Nat := objKey (0x3040 + r) 0x14
/-- `0x3100.01` U16 (R146). -/
abbrev sta_select : Nat := objKey (0x3100) 0x01
/-- `0x3100.02` U8 (R146). -/
abbrev sta_cmd : Nat := objKey (0x3100) 0x02
/-- `0x3100.03` ENUM (R146). -/
abbrev sta_state : Nat := objKey (0x3100) 0x03
/-- `0x3100.04` OCTETS (R146). -/
abbrev sta_mld_addr : Nat := objKey (0x3100) 0x04
/-- `0x3100.05` U8 (R146). -/
abbrev sta_bss : Nat := objKey (0x3100) 0x05
/-- `0x3100.06` U16 (R146). -/
abbrev sta_aid : Nat := objKey (0x3100) 0x06
/-- `0x3100.07` U8 (R146). -/
abbrev sta_links : Nat := objKey (0x3100) 0x07
/-- `0x3100.08` OCTETS (R146). -/
abbrev sta_link_addr : Nat := objKey (0x3100) 0x08
/-- `0x3100.09` U8 (R146). -/
abbrev sta_nstr : Nat := objKey (0x3100) 0x09
/-- `0x3100.0A` U16 (R146). -/
abbrev sta_caps : Nat := objKey (0x3100) 0x0a
/-- `0x3100.0B` U32 (R146). -/
abbrev sta_tid_map : Nat := objKey (0x3100) 0x0b
/-- `0x3100.0C` U8 (R146). -/
abbrev sta_ps : Nat := objKey (0x3100) 0x0c
/-- `0x3100.0D` OCTETS (R146). -/
abbrev sta_ba_window : Nat := objKey (0x3100) 0x0d
/-- `0x3101.01` U64 (R146). -/
abbrev rx_mpdu : Nat := objKey (0x3101) 0x01
/-- `0x3101.02` U64 (R146). -/
abbrev sta_rx_bytes : Nat := objKey (0x3101) 0x02
/-- `0x3101.03` U64 (R146). -/
abbrev sta_rx_dup : Nat := objKey (0x3101) 0x03
/-- `0x3101.04` U64 (R146). -/
abbrev tx_mpdu : Nat := objKey (0x3101) 0x04
/-- `0x3101.05` U64 (R146). -/
abbrev sta_tx_bytes : Nat := objKey (0x3101) 0x05
/-- `0x3101.06` U64 (R146). -/
abbrev sta_tx_retries : Nat := objKey (0x3101) 0x06
/-- `0x3101.07` U64 (R146). -/
abbrev sta_tx_failed : Nat := objKey (0x3101) 0x07
/-- `0x3101.08` TIME80 (R146). -/
abbrev last_rx : Nat := objKey (0x3101) 0x08
/-- `0x3101.09` I32 (R146). -/
abbrev rssi : Nat := objKey (0x3101) 0x09
/-- `0x3110.01` ENUM (R147). -/
abbrev twt_mode : Nat := objKey (0x3110) 0x01
/-- `0x3110.02` U16 (R147). -/
abbrev twt_min_interval : Nat := objKey (0x3110) 0x02
/-- `0x3110.03` U16 (R147). -/
abbrev twt_max_duration : Nat := objKey (0x3110) 0x03
/-- `0x3110.04` U8 (R147). -/
abbrev twt_load_max : Nat := objKey (0x3110) 0x04
/-- `0x3110.05` U16 (R147). -/
abbrev twt_guard : Nat := objKey (0x3110) 0x05
/-- `0x3110.06` U8 (R147). -/
abbrev twt_drift_gain : Nat := objKey (0x3110) 0x06
/-- `0x3110.07` U16 (R147). -/
abbrev twt_resync : Nat := objKey (0x3110) 0x07
/-- `0x3110.08` U16 (R147). -/
abbrev twt_drift_max : Nat := objKey (0x3110) 0x08
/-- `0x3110.09` U16 (R147). -/
abbrev twt_in_use : Nat := objKey (0x3110) 0x09
/-- `0x3110.0A` U32 (R147). -/
abbrev twt_rejects : Nat := objKey (0x3110) 0x0a
/-- `0x3111.01` U16 (R147). -/
abbrev twt_select : Nat := objKey (0x3111) 0x01
/-- `0x3111.02` U16 (R147). -/
abbrev twt_sta : Nat := objKey (0x3111) 0x02
/-- `0x3111.03` U8 (R147). -/
abbrev twt_flow : Nat := objKey (0x3111) 0x03
/-- `0x3111.04` U8 (R147). -/
abbrev twt_radio : Nat := objKey (0x3111) 0x04
/-- `0x3111.05` U32 (R147). -/
abbrev twt_interval : Nat := objKey (0x3111) 0x05
/-- `0x3111.06` U16 (R147). -/
abbrev twt_duration : Nat := objKey (0x3111) 0x06
/-- `0x3111.07` I32 (R147). -/
abbrev twt_offset : Nat := objKey (0x3111) 0x07
/-- `0x3111.08` I32 (R147). -/
abbrev twt_rate : Nat := objKey (0x3111) 0x08
/-- `0x3111.09` I32 (R147). -/
abbrev twt_drift : Nat := objKey (0x3111) 0x09
/-- `0x3111.0A` U8 (R147). -/
abbrev twt_cmd : Nat := objKey (0x3111) 0x0a
/-- `0x3120 + 8r + j.01` BOOL (R147). -/
abbrev btwt_enable (r : Nat) (j : Nat) : Nat := objKey (0x3120 + 8 * r + j) 0x01
/-- `0x3120 + 8r + j.02` U16 (R147). -/
abbrev btwt_interval (r : Nat) (j : Nat) : Nat := objKey (0x3120 + 8 * r + j) 0x02
/-- `0x3120 + 8r + j.03` U16 (R147). -/
abbrev btwt_duration (r : Nat) (j : Nat) : Nat := objKey (0x3120 + 8 * r + j) 0x03
/-- `0x3120 + 8r + j.04` U16 (R147). -/
abbrev btwt_offset (r : Nat) (j : Nat) : Nat := objKey (0x3120 + 8 * r + j) 0x04
/-- `0x3120 + 8r + j.05` U16 (R147). -/
abbrev btwt_members (r : Nat) (j : Nat) : Nat := objKey (0x3120 + 8 * r + j) 0x05
/-- `0x3180.01` BOOL (R148). -/
abbrev bh_enable : Nat := objKey (0x3180) 0x01
/-- `0x3180.02` OCTETS (R148). -/
abbrev bh_ap_addr : Nat := objKey (0x3180) 0x02
/-- `0x3180.03` U8 (R148). -/
abbrev bh_links : Nat := objKey (0x3180) 0x03
/-- `0x3180.04` OCTETS (R148). -/
abbrev bh_link_bssid : Nat := objKey (0x3180) 0x04
/-- `0x3180.05` OCTETS (R148). -/
abbrev bh_own_addr : Nat := objKey (0x3180) 0x05
/-- `0x3180.06` U8 (R148). -/
abbrev bh_link_state : Nat := objKey (0x3180) 0x06
/-- `0x3180.07` ENUM (R148). -/
abbrev bh_state : Nat := objKey (0x3180) 0x07
/-- `0x3180.08` U8 (R148). -/
abbrev bh_regain : Nat := objKey (0x3180) 0x08
/-- `0x3180.09` U32 (R148). -/
abbrev bh_link_lost : Nat := objKey (0x3180) 0x09
/-- `0x3180.0A` U64 (R148). -/
abbrev bh_no_link_drop : Nat := objKey (0x3180) 0x0a
/-- `0x3180.0B` U16 (R148). -/
abbrev bh_station : Nat := objKey (0x3180) 0x0b
/-- `0x3800.01` U64 (R175). -/
abbrev frame_count : Nat := objKey (0x3800) 0x01
/-- `0x3800.02` U16 (R175). -/
abbrev plan_close : Nat := objKey (0x3800) 0x02
/-- `0x3800.03` I32 (R175). -/
abbrev frame_phase : Nat := objKey (0x3800) 0x03
/-- `0x3800.04` ENUM (R175). -/
abbrev sync_mode : Nat := objKey (0x3800) 0x04
/-- `0x3800.05` I32 (R175). -/
abbrev sync_offset : Nat := objKey (0x3800) 0x05
/-- `0x3800.06` U16 (R175). -/
abbrev sync_step_max : Nat := objKey (0x3800) 0x06
/-- `0x3800.07` U16 (R175). -/
abbrev sync_slew : Nat := objKey (0x3800) 0x07
/-- `0x3800.08` U16 (R175). -/
abbrev sync_timeout : Nat := objKey (0x3800) 0x08
/-- `0x3800.09` ENUM (R175). -/
abbrev sync_state : Nat := objKey (0x3800) 0x09
/-- `0x3800.0A` I32 (R175). -/
abbrev sync_error : Nat := objKey (0x3800) 0x0a
/-- `0x3800.0B` U32 (R175). -/
abbrev sync_events : Nat := objKey (0x3800) 0x0b
/-- `0x3800.0C` U32 (R175). -/
abbrev sync_ignored : Nat := objKey (0x3800) 0x0c
/-- `0x3800.0D` U32 (R175). -/
abbrev sync_slews : Nat := objKey (0x3800) 0x0d
/-- `0x3801 + r.01` BOOL (R176). -/
abbrev plan_enable (r : Nat) : Nat := objKey (0x3801 + r) 0x01
/-- `0x3801 + r.02` BOOL (R176). -/
abbrev ofdma_dl (r : Nat) : Nat := objKey (0x3801 + r) 0x02
/-- `0x3801 + r.03` BOOL (R176). -/
abbrev ofdma_ul (r : Nat) : Nat := objKey (0x3801 + r) 0x03
/-- `0x3801 + r.04` U8 (R176). -/
abbrev dl_mu_max (r : Nat) : Nat := objKey (0x3801 + r) 0x04
/-- `0x3801 + r.05` U8 (R176). -/
abbrev mu_nss_max (r : Nat) : Nat := objKey (0x3801 + r) 0x05
/-- `0x3801 + r.06` U8 (R176). -/
abbrev ul_mu_max (r : Nat) : Nat := objKey (0x3801 + r) 0x06
/-- `0x3801 + r.07` U8 (R176). -/
abbrev dl_ofdma_max (r : Nat) : Nat := objKey (0x3801 + r) 0x07
/-- `0x3801 + r.08` ENUM (R176). -/
abbrev min_ru (r : Nat) : Nat := objKey (0x3801 + r) 0x08
/-- `0x3801 + r.09` U16 (R176). -/
abbrev ppdu_max (r : Nat) : Nat := objKey (0x3801 + r) 0x09
/-- `0x3801 + r.0A` U16 (R176). -/
abbrev txop_max (r : Nat) : Nat := objKey (0x3801 + r) 0x0a
/-- `0x3801 + r.0B` U16 (R176). -/
abbrev access_price (r : Nat) : Nat := objKey (0x3801 + r) 0x0b
/-- `0x3801 + r.0C` U16 (R176). -/
abbrev slip_max (r : Nat) : Nat := objKey (0x3801 + r) 0x0c
/-- `0x3801 + r.0D` U8 (R176). -/
abbrev ul_share (r : Nat) : Nat := objKey (0x3801 + r) 0x0d
/-- `0x3801 + r.0E` I32 (R176). -/
abbrev ul_target_rssi (r : Nat) : Nat := objKey (0x3801 + r) 0x0e
/-- `0x3801 + r.0F` BOOL (R176). -/
abbrev dyn_puncture (r : Nat) : Nat := objKey (0x3801 + r) 0x0f
/-- `0x3801 + r.10` ENUM (R176). -/
abbrev beacon_rate (r : Nat) : Nat := objKey (0x3801 + r) 0x10
/-- `0x3801 + r.11` U8 (R176). -/
abbrev per_target (r : Nat) : Nat := objKey (0x3801 + r) 0x11
/-- `0x3801 + r.12` OCTETS (R176). -/
abbrev edca_set (r : Nat) : Nat := objKey (0x3801 + r) 0x12
/-- `0x3804.01` U16 (R177). -/
abbrev sound_interval : Nat := objKey (0x3804) 0x01
/-- `0x3804.02` U16 (R177). -/
abbrev csi_max_age : Nat := objKey (0x3804) 0x02
/-- `0x3804.03` U8 (R177). -/
abbrev mu_corr_max : Nat := objKey (0x3804) 0x03
/-- `0x3804.04` U8 (R177). -/
abbrev sound_max : Nat := objKey (0x3804) 0x04
/-- `0x3804.05` U16 (R177). -/
abbrev fb_time : Nat := objKey (0x3804) 0x05
/-- `0x3804.06` U32 (R177). -/
abbrev ul_quantum : Nat := objKey (0x3804) 0x06
/-- `0x3804.07` U16 (R177). -/
abbrev bsrp_interval : Nat := objKey (0x3804) 0x07
/-- `0x3804.08` U8 (R177). -/
abbrev la_up_count : Nat := objKey (0x3804) 0x08
/-- `0x3808 + r.01` U64 (R178). -/
abbrev frames_planned (r : Nat) : Nat := objKey (0x3808 + r) 0x01
/-- `0x3808 + r.02` U64 (R178). -/
abbrev exchanges_planned (r : Nat) : Nat := objKey (0x3808 + r) 0x02
/-- `0x3808 + r.03` U64 (R178). -/
abbrev mu_groups (r : Nat) : Nat := objKey (0x3808 + r) 0x03
/-- `0x3808 + r.04` U64 (R178). -/
abbrev ofdma_ppdus (r : Nat) : Nat := objKey (0x3808 + r) 0x04
/-- `0x3808 + r.05` U64 (R178). -/
abbrev su_ppdus (r : Nat) : Nat := objKey (0x3808 + r) 0x05
/-- `0x3808 + r.06` U64 (R178). -/
abbrev triggers (r : Nat) : Nat := objKey (0x3808 + r) 0x06
/-- `0x3808 + r.07` U64 (R178). -/
abbrev bsrp_sent (r : Nat) : Nat := objKey (0x3808 + r) 0x07
/-- `0x3808 + r.08` U64 (R178). -/
abbrev soundings (r : Nat) : Nat := objKey (0x3808 + r) 0x08
/-- `0x3808 + r.09` U64 (R178). -/
abbrev ost_late (r : Nat) : Nat := objKey (0x3808 + r) 0x09
/-- `0x3808 + r.0A` U64 (R178). -/
abbrev ost_not_ready (r : Nat) : Nat := objKey (0x3808 + r) 0x0a
/-- `0x3808 + r.0B` U64 (R178). -/
abbrev ost_busy (r : Nat) : Nat := objKey (0x3808 + r) 0x0b
/-- `0x3808 + r.0C` U64 (R178). -/
abbrev ost_muted (r : Nat) : Nat := objKey (0x3808 + r) 0x0c
/-- `0x3808 + r.0D` U64 (R178). -/
abbrev ost_duty (r : Nat) : Nat := objKey (0x3808 + r) 0x0d
/-- `0x3808 + r.0E` U64 (R178). -/
abbrev ost_reg (r : Nat) : Nat := objKey (0x3808 + r) 0x0e
/-- `0x3808 + r.0F` U64 (R178). -/
abbrev ost_skipped (r : Nat) : Nat := objKey (0x3808 + r) 0x0f
/-- `0x3808 + r.10` U64 (R178). -/
abbrev ul_silent (r : Nat) : Nat := objKey (0x3808 + r) 0x10
/-- `0x3808 + r.11` U64 (R178). -/
abbrev dyn_punctures (r : Nat) : Nat := objKey (0x3808 + r) 0x11
/-- `0x3808 + r.12` U64 (R178). -/
abbrev airtime_planned (r : Nat) : Nat := objKey (0x3808 + r) 0x12
/-- `0x3808 + r.13` U64 (R178). -/
abbrev airtime_sent (r : Nat) : Nat := objKey (0x3808 + r) 0x13
/-- `0x3808 + r.14` U64 (R178). -/
abbrev grants_unplanned (r : Nat) : Nat := objKey (0x3808 + r) 0x14
/-- `0x3810.01` U16 (R179). -/
abbrev ost_sta : Nat := objKey (0x3810) 0x01
/-- `0x3810.02` U8 (R179). -/
abbrev rate_a : Nat := objKey (0x3810) 0x02
/-- `0x3810.03` U8 (R179). -/
abbrev rate_b : Nat := objKey (0x3810) 0x03
/-- `0x3810.04` U8 (R179). -/
abbrev rate_c : Nat := objKey (0x3810) 0x04
/-- `0x3810.05` U16 (R179). -/
abbrev csi_age_a : Nat := objKey (0x3810) 0x05
/-- `0x3810.06` U16 (R179). -/
abbrev csi_age_b : Nat := objKey (0x3810) 0x06
/-- `0x3810.07` U16 (R179). -/
abbrev csi_age_c : Nat := objKey (0x3810) 0x07
/-- `0x3810.08` I32 (R179). -/
abbrev ul_credit : Nat := objKey (0x3810) 0x08
/-- `0x3810.09` U32 (R179). -/
abbrev ul_bsr : Nat := objKey (0x3810) 0x09
/-- `0x4000.01` ENUM (R213). -/
abbrev twin_role : Nat := objKey (0x4000) 0x01
/-- `0x4000.02` ENUM (R213). -/
abbrev twin_state : Nat := objKey (0x4000) 0x02
/-- `0x4000.03` BOOL (R213). -/
abbrev peer_present : Nat := objKey (0x4000) 0x03
/-- `0x4000.04` OCTETS (R213). -/
abbrev peer_serial : Nat := objKey (0x4000) 0x04
/-- `0x4000.05` U16 (R213). -/
abbrev search_time : Nat := objKey (0x4000) 0x05
/-- `0x4000.06` U8 (R213). -/
abbrev takeover_cmd : Nat := objKey (0x4000) 0x06
/-- `0x4000.07` BOOL (R213). -/
abbrev auto_rejoin : Nat := objKey (0x4000) 0x07
/-- `0x4000.08` U32 (R213). -/
abbrev split_heals : Nat := objKey (0x4000) 0x08
/-- `0x4000.09` U8 (R213). -/
abbrev takeover_result : Nat := objKey (0x4000) 0x09
/-- `0x4001.01` U8 (R213). -/
abbrev varlan_lanes : Nat := objKey (0x4001) 0x01
/-- `0x4001.02` ENUM (R213). -/
abbrev varlan_state : Nat := objKey (0x4001) 0x02
/-- `0x4001.03` OCTETS (R213). -/
abbrev peer_key : Nat := objKey (0x4001) 0x03
/-- `0x4001.04` BOOL (R213). -/
abbrev peer_key_set : Nat := objKey (0x4001) 0x04
/-- `0x4001.05` U8 (R213). -/
abbrev peer_key_cmd : Nat := objKey (0x4001) 0x05
/-- `0x4001.06` U32 (R213). -/
abbrev varlan_auth_fail : Nat := objKey (0x4001) 0x06
/-- `0x4001.07` U32 (R213). -/
abbrev lane_downs : Nat := objKey (0x4001) 0x07
/-- `0x4001.08` I32 (R213). -/
abbrev varlan_asym : Nat := objKey (0x4001) 0x08
/-- `0x4001.09` U32 (R213). -/
abbrev varlan_delay : Nat := objKey (0x4001) 0x09
/-- `0x4002.01` U16 (R213). -/
abbrev hb_period : Nat := objKey (0x4002) 0x01
/-- `0x4002.02` U16 (R213). -/
abbrev hb_stale : Nat := objKey (0x4002) 0x02
/-- `0x4002.03` U32 (R213). -/
abbrev hb_last_age : Nat := objKey (0x4002) 0x03
/-- `0x4002.04` U32 (R213). -/
abbrev alive_last_age : Nat := objKey (0x4002) 0x04
/-- `0x4002.05` U32 (R213). -/
abbrev hb_missed : Nat := objKey (0x4002) 0x05
/-- `0x4002.06` U32 (R213). -/
abbrev takeovers : Nat := objKey (0x4002) 0x06
/-- `0x4002.07` U32 (R213). -/
abbrev cold_takeovers : Nat := objKey (0x4002) 0x07
/-- `0x4002.08` TIME80 (R213). -/
abbrev last_takeover_time : Nat := objKey (0x4002) 0x08
/-- `0x4002.09` U16 (R213). -/
abbrev last_takeover_us : Nat := objKey (0x4002) 0x09
/-- `0x4002.0A` ENUM (R213). -/
abbrev last_trigger : Nat := objKey (0x4002) 0x0a
/-- `0x4002.0B` U32 (R213). -/
abbrev peer_lost : Nat := objKey (0x4002) 0x0b
/-- `0x4003.01` U8 (R213). -/
abbrev mirror_lag_now : Nat := objKey (0x4003) 0x01
/-- `0x4003.02` U16 (R213). -/
abbrev mirror_ack_wait : Nat := objKey (0x4003) 0x02
/-- `0x4003.03` U8 (R213). -/
abbrev rxpn_wait : Nat := objKey (0x4003) 0x03
/-- `0x4003.04` U16 (R213). -/
abbrev sn_jump : Nat := objKey (0x4003) 0x04
/-- `0x4003.05` U32 (R213). -/
abbrev pn_jump : Nat := objKey (0x4003) 0x05
/-- `0x4003.06` U64 (R213). -/
abbrev mirror_records : Nat := objKey (0x4003) 0x06
/-- `0x4003.07` U64 (R213). -/
abbrev mirror_stalls : Nat := objKey (0x4003) 0x07
/-- `0x4003.08` U32 (R213). -/
abbrev rxpn_unacked : Nat := objKey (0x4003) 0x08
/-- `0x4003.09` U32 (R213). -/
abbrev resyncs : Nat := objKey (0x4003) 0x09
/-- `0x4003.0A` U32 (R213). -/
abbrev copy_time : Nat := objKey (0x4003) 0x0a
/-- `0x4003.0B` U32 (R213). -/
abbrev unsync_events : Nat := objKey (0x4003) 0x0b
/-- `0x4004.01` BOOL (R213). -/
abbrev pair_enable : Nat := objKey (0x4004) 0x01
/-- `0x4004.02` ENUM (R213). -/
abbrev pair_state : Nat := objKey (0x4004) 0x02
/-- `0x4004.03` U8 (R213). -/
abbrev pair_suspend_cause : Nat := objKey (0x4004) 0x03
/-- `0x4004.04` U16 (R213). -/
abbrev align_interval : Nat := objKey (0x4004) 0x04
/-- `0x4004.05` U16 (R213). -/
abbrev align_max_age : Nat := objKey (0x4004) 0x05
/-- `0x4004.06` U16 (R213). -/
abbrev align_limit : Nat := objKey (0x4004) 0x06
/-- `0x4004.07` U16 (R213). -/
abbrev align_residual : Nat := objKey (0x4004) 0x07
/-- `0x4004.08` U16 (R213). -/
abbrev phase_residual : Nat := objKey (0x4004) 0x08
/-- `0x4004.09` I32 (R213). -/
abbrev twin_offset : Nat := objKey (0x4004) 0x09
/-- `0x4004.0A` ENUM (R213). -/
abbrev pair_ng : Nat := objKey (0x4004) 0x0a
/-- `0x4004.0B` U64 (R213). -/
abbrev pair_ppdus : Nat := objKey (0x4004) 0x0b
/-- `0x4004.0C` U64 (R213). -/
abbrev pair_fallback : Nat := objKey (0x4004) 0x0c
/-- `0x4004.0D` U32 (R213). -/
abbrev align_runs : Nat := objKey (0x4004) 0x0d
/-- `0x4004.0E` U32 (R213). -/
abbrev align_failures : Nat := objKey (0x4004) 0x0e
/-- `0x4800.01` U16 (R241). -/
abbrev key_slots : Nat := objKey (0x4800) 0x01
/-- `0x4800.02` U16 (R241). -/
abbrev slots_in_use : Nat := objKey (0x4800) 0x02
/-- `0x4800.03` U32 (R241). -/
abbrev sec_config : Nat := objKey (0x4800) 0x03
/-- `0x4808.01` U64 (R241). -/
abbrev rx_ok : Nat := objKey (0x4808) 0x01
/-- `0x4808.02` U64 (R241). -/
abbrev mic_fail : Nat := objKey (0x4808) 0x02
/-- `0x4808.03` U64 (R241). -/
abbrev replays : Nat := objKey (0x4808) 0x03
/-- `0x4808.04` U64 (R241). -/
abbrev rx_no_key : Nat := objKey (0x4808) 0x04
/-- `0x4808.05` U64 (R241). -/
abbrev rx_format : Nat := objKey (0x4808) 0x05
/-- `0x4808.06` U64 (R241). -/
abbrev pn_waits : Nat := objKey (0x4808) 0x06
/-- `0x4808.07` U32 (R241). -/
abbrev gate_faults : Nat := objKey (0x4808) 0x07
/-- `0x4808.08` U32 (R241). -/
abbrev bip_fail : Nat := objKey (0x4808) 0x08
/-- `0x4808.09` U64 (R241). -/
abbrev tx_encrypted : Nat := objKey (0x4808) 0x09
/-- `0x4808.0A` U64 (R241). -/
abbrev no_key_drop : Nat := objKey (0x4808) 0x0a
/-- `0x4808.0B` U16 (R241). -/
abbrev exhausted_slots : Nat := objKey (0x4808) 0x0b
/-- `0x4801.01` U16 (R242). -/
abbrev key_select : Nat := objKey (0x4801) 0x01
/-- `0x4801.02` ENUM (R242). -/
abbrev key_cipher : Nat := objKey (0x4801) 0x02
/-- `0x4801.03` ENUM (R242). -/
abbrev key_owner_kind : Nat := objKey (0x4801) 0x03
/-- `0x4801.04` U16 (R242). -/
abbrev key_owner : Nat := objKey (0x4801) 0x04
/-- `0x4801.05` U8 (R242). -/
abbrev key_id : Nat := objKey (0x4801) 0x05
/-- `0x4801.06` OCTETS (R242). -/
abbrev key_value : Nat := objKey (0x4801) 0x06
/-- `0x4801.07` U64 (R242). -/
abbrev key_rsc : Nat := objKey (0x4801) 0x07
/-- `0x4801.08` U8 (R242). -/
abbrev key_cmd : Nat := objKey (0x4801) 0x08
/-- `0x4801.09` ENUM (R242). -/
abbrev key_state : Nat := objKey (0x4801) 0x09
/-- `0x4801.0A` ENUM (R242). -/
abbrev key_use : Nat := objKey (0x4801) 0x0a
/-- `0x4801.0B` U64 (R242). -/
abbrev key_tx_pn : Nat := objKey (0x4801) 0x0b
/-- `0x4802.01` U64 (R242). -/
abbrev slot_rx_ok : Nat := objKey (0x4802) 0x01
/-- `0x4802.02` U32 (R242). -/
abbrev slot_mic_fail : Nat := objKey (0x4802) 0x02
/-- `0x4802.03` U32 (R242). -/
abbrev slot_replays : Nat := objKey (0x4802) 0x03
/-- `0x4802.04` U64 (R242). -/
abbrev slot_tx : Nat := objKey (0x4802) 0x04
/-- `0x4802.05` OCTETS (R242). -/
abbrev slot_rx_pn : Nat := objKey (0x4802) 0x05
/-- `0x4810 + q.01` BOOL (R243). -/
abbrev ms_enable (q : Nat) : Nat := objKey (0x4810 + q) 0x01
/-- `0x4810 + q.02` ENUM (R243). -/
abbrev ms_validate (q : Nat) : Nat := objKey (0x4810 + q) 0x02
/-- `0x4810 + q.03` BOOL (R243). -/
abbrev ms_protect (q : Nat) : Nat := objKey (0x4810 + q) 0x03
/-- `0x4810 + q.04` U32 (R243). -/
abbrev ms_replay_window (q : Nat) : Nat := objKey (0x4810 + q) 0x04
/-- `0x4810 + q.05` U8 (R243). -/
abbrev ms_tx_an (q : Nat) : Nat := objKey (0x4810 + q) 0x05
/-- `0x4810 + q.06` BOOL (R243). -/
abbrev ms_include_sci (q : Nat) : Nat := objKey (0x4810 + q) 0x06
/-- `0x4810 + q.07` OCTETS (R243). -/
abbrev ms_peer_sci (q : Nat) : Nat := objKey (0x4810 + q) 0x07
/-- `0x4810 + q.08` U8 (R243). -/
abbrev mka_queue (q : Nat) : Nat := objKey (0x4810 + q) 0x08
/-- `0x4810 + q.09` U64 (R243). -/
abbrev in_ok (q : Nat) : Nat := objKey (0x4810 + q) 0x09
/-- `0x4810 + q.0A` U64 (R243). -/
abbrev in_not_valid (q : Nat) : Nat := objKey (0x4810 + q) 0x0a
/-- `0x4810 + q.0B` U64 (R243). -/
abbrev in_invalid (q : Nat) : Nat := objKey (0x4810 + q) 0x0b
/-- `0x4810 + q.0C` U64 (R243). -/
abbrev in_late (q : Nat) : Nat := objKey (0x4810 + q) 0x0c
/-- `0x4810 + q.0D` U64 (R243). -/
abbrev in_no_sa (q : Nat) : Nat := objKey (0x4810 + q) 0x0d
/-- `0x4810 + q.0E` U64 (R243). -/
abbrev in_untagged_drop (q : Nat) : Nat := objKey (0x4810 + q) 0x0e
/-- `0x4810 + q.0F` U64 (R243). -/
abbrev out_protected (q : Nat) : Nat := objKey (0x4810 + q) 0x0f
/-- `0x4810 + q.10` U64 (R243). -/
abbrev out_sa_drop (q : Nat) : Nat := objKey (0x4810 + q) 0x10
/-- `0x4820.01` U8 (R244). -/
abbrev sa_port : Nat := objKey (0x4820) 0x01
/-- `0x4820.02` ENUM (R244). -/
abbrev sa_dir : Nat := objKey (0x4820) 0x02
/-- `0x4820.03` U8 (R244). -/
abbrev sa_an : Nat := objKey (0x4820) 0x03
/-- `0x4820.04` OCTETS (R244). -/
abbrev sa_key : Nat := objKey (0x4820) 0x04
/-- `0x4820.05` OCTETS (R244). -/
abbrev sa_salt : Nat := objKey (0x4820) 0x05
/-- `0x4820.06` U32 (R244). -/
abbrev sa_ssci : Nat := objKey (0x4820) 0x06
/-- `0x4820.07` U64 (R244). -/
abbrev sa_pn : Nat := objKey (0x4820) 0x07
/-- `0x4820.08` U8 (R244). -/
abbrev sa_cmd : Nat := objKey (0x4820) 0x08
/-- `0x4820.09` ENUM (R244). -/
abbrev sa_state : Nat := objKey (0x4820) 0x09
/-- `0x5010.01` U8 (R251). -/
abbrev node_select : Nat := objKey (0x5010) 0x01
/-- `0x5010.02` BOOL (R251). -/
abbrev node_valid : Nat := objKey (0x5010) 0x02
/-- `0x5010.03` ENUM (R251). -/
abbrev node_role : Nat := objKey (0x5010) 0x03
/-- `0x5010.04` U8 (R251). -/
abbrev node_hdr_min : Nat := objKey (0x5010) 0x04
/-- `0x5010.05` U32 (R251). -/
abbrev node_adv : Nat := objKey (0x5010) 0x05
/-- `0x5010.06` U32 (R251). -/
abbrev node_tot : Nat := objKey (0x5010) 0x06
/-- `0x5010.07` U32 (R251). -/
abbrev node_sel_a : Nat := objKey (0x5010) 0x07
/-- `0x5010.08` U32 (R251). -/
abbrev node_sel_b : Nat := objKey (0x5010) 0x08
/-- `0x5010.09` U16 (R251). -/
abbrev node_tr_base : Nat := objKey (0x5010) 0x09
/-- `0x5010.0A` U8 (R251). -/
abbrev node_tr_count : Nat := objKey (0x5010) 0x0a
/-- `0x5010.0B` U16 (R251). -/
abbrev node_default : Nat := objKey (0x5010) 0x0b
/-- `0x5010.0C` U8 (R251). -/
abbrev node_flags : Nat := objKey (0x5010) 0x0c
/-- `0x5010.0D` U32 (R251). -/
abbrev node_ext0 : Nat := objKey (0x5010) 0x0d
/-- `0x5010.0E` U32 (R251). -/
abbrev node_ext1 : Nat := objKey (0x5010) 0x0e
/-- `0x5010.0F` U32 (R251). -/
abbrev node_ext2 : Nat := objKey (0x5010) 0x0f
/-- `0x5010.10` U32 (R251). -/
abbrev node_ext3 : Nat := objKey (0x5010) 0x10
/-- `0x5011.01` U16 (R251). -/
abbrev tr_select : Nat := objKey (0x5011) 0x01
/-- `0x5011.02` U32 (R251). -/
abbrev tr_value : Nat := objKey (0x5011) 0x02
/-- `0x5011.03` U32 (R251). -/
abbrev tr_mask : Nat := objKey (0x5011) 0x03
/-- `0x5011.04` U16 (R251). -/
abbrev tr_next : Nat := objKey (0x5011) 0x04
/-- `0x5020 + c.01` ENUM (R261). -/
abbrev exc_action (c : Nat) : Nat := objKey (0x5020 + c) 0x01
/-- `0x5020 + c.02` U8 (R261). -/
abbrev exc_queue (c : Nat) : Nat := objKey (0x5020 + c) 0x02
/-- `0x5020 + c.03` U64 (R261). -/
abbrev exc_count (c : Nat) : Nat := objKey (0x5020 + c) 0x03
/-- `0x5020 + c.04` U16 (R261). -/
abbrev exc_last_source (c : Nat) : Nat := objKey (0x5020 + c) 0x04
/-- `0x5000.01` U8 (R264). -/
abbrev start_node : Nat := objKey (0x5000) 0x01
/-- `0x5000.02` U8 (R264). -/
abbrev graph_check_cmd : Nat := objKey (0x5000) 0x02
/-- `0x5000.03` ENUM (R264). -/
abbrev graph_status : Nat := objKey (0x5000) 0x03
/-- `0x5000.04` U16 (R264). -/
abbrev graph_bad_index : Nat := objKey (0x5000) 0x04
/-- `0x5000.05` U16 (R264). -/
abbrev graph_gen : Nat := objKey (0x5000) 0x05
/-- `0x5000.06` U8 (R264). -/
abbrev graph_default_cmd : Nat := objKey (0x5000) 0x06
/-- `0x5000.07` BOOL (R264). -/
abbrev graph_staged : Nat := objKey (0x5000) 0x07
/-- `0x5001.01` U64 (R264). -/
abbrev parse_frames : Nat := objKey (0x5001) 0x01
/-- `0x5001.02` U64 (R264). -/
abbrev parse_accept : Nat := objKey (0x5001) 0x02
/-- `0x5001.03` U64 (R264). -/
abbrev amsdu_subframes : Nat := objKey (0x5001) 0x03
/-- `0x5001.04` U64 (R264). -/
abbrev node_visits : Nat := objKey (0x5001) 0x04
/-- `0x5001.05` U8 (R264). -/
abbrev depth_max : Nat := objKey (0x5001) 0x05
/-- `0x5001.06` U32 (R264). -/
abbrev graph_repairs : Nat := objKey (0x5001) 0x06
/-- `0x5410 + s.01` BOOL (R275). -/
abbrev mir_enable (s : Nat) : Nat := objKey (0x5410 + s) 0x01
/-- `0x5410 + s.02` U16 (R275). -/
abbrev mir_dest (s : Nat) : Nat := objKey (0x5410 + s) 0x02
/-- `0x5410 + s.03` U16 (R275). -/
abbrev mir_vid (s : Nat) : Nat := objKey (0x5410 + s) 0x03
/-- `0x5410 + s.04` U64 (R275). -/
abbrev mir_copies (s : Nat) : Nat := objKey (0x5410 + s) 0x04
/-- `0x5410 + s.05` U64 (R275). -/
abbrev mir_drops (s : Nat) : Nat := objKey (0x5410 + s) 0x05
/-- `0x5400.01` U8 (R284). -/
abbrev rule_version : Nat := objKey (0x5400) 0x01
/-- `0x5400.02` U8 (R284). -/
abbrev rule_old_version : Nat := objKey (0x5400) 0x02
/-- `0x5400.03` ENUM (R284). -/
abbrev rule_state : Nat := objKey (0x5400) 0x03
/-- `0x5400.04` U8 (R284). -/
abbrev rule_cmd : Nat := objKey (0x5400) 0x04
/-- `0x5400.05` U16 (R284). -/
abbrev rule_log_used : Nat := objKey (0x5400) 0x05
/-- `0x5400.06` U32 (R284). -/
abbrev block_width : Nat := objKey (0x5400) 0x06
/-- `0x5400.07` U32 (R284). -/
abbrev rule_miss_action : Nat := objKey (0x5400) 0x07
/-- `0x5400.08` U32 (R284). -/
abbrev drain_limit : Nat := objKey (0x5400) 0x08
/-- `0x5400.09` U32 (R284). -/
abbrev drain_time : Nat := objKey (0x5400) 0x09
/-- `0x5400.0A` ENUM (R284). -/
abbrev ecc_action : Nat := objKey (0x5400) 0x0a
/-- `0x5400.0B` U16 (R284). -/
abbrev scrub_interval : Nat := objKey (0x5400) 0x0b
/-- `0x5400.0C` U32 (R284). -/
abbrev commits : Nat := objKey (0x5400) 0x0c
/-- `0x5400.0D` U32 (R284). -/
abbrev commit_busy : Nat := objKey (0x5400) 0x0d
/-- `0x5400.0E` U64 (R284). -/
abbrev drain_drops : Nat := objKey (0x5400) 0x0e
/-- `0x5400.0F` U64 (R284). -/
abbrev stale_hits : Nat := objKey (0x5400) 0x0f
/-- `0x5400.10` U64 (R284). -/
abbrev rule_misses : Nat := objKey (0x5400) 0x10
/-- `0x5400.11` U64 (R284). -/
abbrev target_drops : Nat := objKey (0x5400) 0x11
/-- `0x5400.12` U32 (R284). -/
abbrev ecc_corrected : Nat := objKey (0x5400) 0x12
/-- `0x5400.13` U32 (R284). -/
abbrev ecc_uncorrected : Nat := objKey (0x5400) 0x13
/-- `0x5401.01` U16 (R285). -/
abbrev rule_select : Nat := objKey (0x5401) 0x01
/-- `0x5401.02` BOOL (R285). -/
abbrev rule_valid : Nat := objKey (0x5401) 0x02
/-- `0x5401.03` OCTETS (R285). -/
abbrev rule_value : Nat := objKey (0x5401) 0x03
/-- `0x5401.04` OCTETS (R285). -/
abbrev rule_mask : Nat := objKey (0x5401) 0x04
/-- `0x5401.05` U32 (R285). -/
abbrev rule_action : Nat := objKey (0x5401) 0x05
/-- `0x5401.06` U64 (R285). -/
abbrev rule_hits : Nat := objKey (0x5401) 0x06
/-- `0x5401.07` U64 (R285). -/
abbrev rule_bytes : Nat := objKey (0x5401) 0x07
/-- `0x5401.08` BOOL (R285). -/
abbrev rule_faulty : Nat := objKey (0x5401) 0x08
/-- `0x5800.01` U32 (R308). -/
abbrev flow_capacity : Nat := objKey (0x5800) 0x01
/-- `0x5800.02` U32 (R308). -/
abbrev flows_in_use : Nat := objKey (0x5800) 0x02
/-- `0x5800.03` BOOL (R308). -/
abbrev flow_enable : Nat := objKey (0x5800) 0x03
/-- `0x5800.04` BOOL (R308). -/
abbrev flow_repin : Nat := objKey (0x5800) 0x04
/-- `0x5800.05` U32 (R308). -/
abbrev idle_tcp : Nat := objKey (0x5800) 0x05
/-- `0x5800.06` U16 (R308). -/
abbrev idle_closing : Nat := objKey (0x5800) 0x06
/-- `0x5800.07` U32 (R308). -/
abbrev idle_udp : Nat := objKey (0x5800) 0x07
/-- `0x5800.08` U32 (R308). -/
abbrev idle_other : Nat := objKey (0x5800) 0x08
/-- `0x5800.09` U16 (R308). -/
abbrev age_scan : Nat := objKey (0x5800) 0x09
/-- `0x5800.0A` U16 (R308). -/
abbrev route_gen : Nat := objKey (0x5800) 0x0a
/-- `0x5801.01` U64 (R308). -/
abbrev flow_hits : Nat := objKey (0x5801) 0x01
/-- `0x5801.02` U64 (R308). -/
abbrev flow_misses : Nat := objKey (0x5801) 0x02
/-- `0x5801.03` U64 (R308). -/
abbrev miss_overflow : Nat := objKey (0x5801) 0x03
/-- `0x5801.04` U64 (R308). -/
abbrev alloc_ok : Nat := objKey (0x5801) 0x04
/-- `0x5801.05` U64 (R308). -/
abbrev alloc_full : Nat := objKey (0x5801) 0x05
/-- `0x5801.06` U64 (R308). -/
abbrev aged_out : Nat := objKey (0x5801) 0x06
/-- `0x5801.07` U64 (R308). -/
abbrev repins : Nat := objKey (0x5801) 0x07
/-- `0x5801.08` U16 (R308). -/
abbrev miss_slots_peak : Nat := objKey (0x5801) 0x08
/-- `0x5802.01` U32 (R308). -/
abbrev flow_select : Nat := objKey (0x5802) 0x01
/-- `0x5802.02` OCTETS (R308). -/
abbrev flow_key : Nat := objKey (0x5802) 0x02
/-- `0x5802.03` U8 (R308). -/
abbrev flow_state : Nat := objKey (0x5802) 0x03
/-- `0x5802.04` U16 (R308). -/
abbrev flow_pin : Nat := objKey (0x5802) 0x04
/-- `0x5802.05` OCTETS (R308). -/
abbrev flow_counts : Nat := objKey (0x5802) 0x05
/-- `0x5802.06` U8 (R308). -/
abbrev flow_cmd : Nat := objKey (0x5802) 0x06
/-- `0x5802.07` BOOL (R308). -/
abbrev flow_flush_active : Nat := objKey (0x5802) 0x07
/-- `0x5808 + p.01` BOOL (R309). -/
abbrev port_enable (p : Nat) : Nat := objKey (0x5808 + p) 0x01
/-- `0x5808 + p.02` ENUM (R309). -/
abbrev port_state (p : Nat) : Nat := objKey (0x5808 + p) 0x02
/-- `0x5808 + p.03` U16 (R309). -/
abbrev port_mtu (p : Nat) : Nat := objKey (0x5808 + p) 0x03
/-- `0x5808 + p.04` U16 (R309). -/
abbrev port_pvid (p : Nat) : Nat := objKey (0x5808 + p) 0x04
/-- `0x5808 + p.05` ENUM (R309). -/
abbrev port_accept (p : Nat) : Nat := objKey (0x5808 + p) 0x05
/-- `0x5808 + p.06` BOOL (R309). -/
abbrev port_training (p : Nat) : Nat := objKey (0x5808 + p) 0x06
/-- `0x5808 + p.07` U64 (R309). -/
abbrev rx_frames (p : Nat) : Nat := objKey (0x5808 + p) 0x07
/-- `0x5808 + p.08` U64 (R309). -/
abbrev port_rx_bytes (p : Nat) : Nat := objKey (0x5808 + p) 0x08
/-- `0x5808 + p.09` U64 (R309). -/
abbrev tx_frames (p : Nat) : Nat := objKey (0x5808 + p) 0x09
/-- `0x5808 + p.0A` U64 (R309). -/
abbrev port_tx_bytes (p : Nat) : Nat := objKey (0x5808 + p) 0x0a
/-- `0x5808 + p.0B` U64 (R309). -/
abbrev port_rx_fcs_err (p : Nat) : Nat := objKey (0x5808 + p) 0x0b
/-- `0x5808 + p.0C` U64 (R309). -/
abbrev port_rx_oversize (p : Nat) : Nat := objKey (0x5808 + p) 0x0c
/-- `0x5808 + p.0D` U64 (R309). -/
abbrev rx_accept_drop (p : Nat) : Nat := objKey (0x5808 + p) 0x0d
/-- `0x5808 + p.0E` U32 (R309). -/
abbrev link_downs (p : Nat) : Nat := objKey (0x5808 + p) 0x0e
/-- `0x5808 + p.0F` U64 (R309). -/
abbrev fec_uncorrected (p : Nat) : Nat := objKey (0x5808 + p) 0x0f
/-- `0x5810.01` ENUM (R310). -/
abbrev uplink_mode : Nat := objKey (0x5810) 0x01
/-- `0x5810.02` OCTETS (R310). -/
abbrev router_mac : Nat := objKey (0x5810) 0x02
/-- `0x5810.03` ENUM (R310). -/
abbrev route_miss_action : Nat := objKey (0x5810) 0x03
/-- `0x5810.04` ENUM (R310). -/
abbrev ttl_action : Nat := objKey (0x5810) 0x04
/-- `0x5810.05` U8 (R310). -/
abbrev route_host_queue : Nat := objKey (0x5810) 0x05
/-- `0x5810.06` U16 (R310). -/
abbrev fdb_age : Nat := objKey (0x5810) 0x06
/-- `0x5810.07` U16 (R310). -/
abbrev host_vid : Nat := objKey (0x5810) 0x07
/-- `0x5810.08` U16 (R310). -/
abbrev announce_rate : Nat := objKey (0x5810) 0x08
/-- `0x5810.09` OCTETS (R310). -/
abbrev bss_vid : Nat := objKey (0x5810) 0x09
/-- `0x5811.01` U64 (R310). -/
abbrev fwd_routed : Nat := objKey (0x5811) 0x01
/-- `0x5811.02` U64 (R310). -/
abbrev fwd_bridged : Nat := objKey (0x5811) 0x02
/-- `0x5811.03` U64 (R310). -/
abbrev fwd_flooded : Nat := objKey (0x5811) 0x03
/-- `0x5811.04` U64 (R310). -/
abbrev direct_frames : Nat := objKey (0x5811) 0x04
/-- `0x5811.05` U64 (R310). -/
abbrev follow_air_drop : Nat := objKey (0x5811) 0x05
/-- `0x5811.06` U64 (R310). -/
abbrev vlan_drop : Nat := objKey (0x5811) 0x06
/-- `0x5811.07` U64 (R310). -/
abbrev fwd_sta_drop : Nat := objKey (0x5811) 0x07
/-- `0x5811.08` U64 (R310). -/
abbrev varlan_hairpin_drop : Nat := objKey (0x5811) 0x08
/-- `0x5811.09` U64 (R310). -/
abbrev route_miss : Nat := objKey (0x5811) 0x09
/-- `0x5811.0A` U64 (R310). -/
abbrev route_drop : Nat := objKey (0x5811) 0x0a
/-- `0x5811.0B` U64 (R310). -/
abbrev ttl_expired : Nat := objKey (0x5811) 0x0b
/-- `0x5811.0C` U64 (R310). -/
abbrev mtu_drop : Nat := objKey (0x5811) 0x0c
/-- `0x5811.0D` U64 (R310). -/
abbrev decap_frames : Nat := objKey (0x5811) 0x0d
/-- `0x5811.0E` U64 (R310). -/
abbrev encap_frames : Nat := objKey (0x5811) 0x0e
/-- `0x5811.0F` U64 (R310). -/
abbrev fdb_learned : Nat := objKey (0x5811) 0x0f
/-- `0x5811.10` U64 (R310). -/
abbrev fdb_full : Nat := objKey (0x5811) 0x10
/-- `0x5811.11` U32 (R310). -/
abbrev fdb_in_use : Nat := objKey (0x5811) 0x11
/-- `0x5811.12` U32 (R310). -/
abbrev announce_sent : Nat := objKey (0x5811) 0x12
/-- `0x5811.13` U32 (R310). -/
abbrev ecc_uncorrected_fwd : Nat := objKey (0x5811) 0x13
/-- `0x5820.01` ENUM (R311). -/
abbrev rt_family : Nat := objKey (0x5820) 0x01
/-- `0x5820.02` U8 (R311). -/
abbrev rt_vrf : Nat := objKey (0x5820) 0x02
/-- `0x5820.03` OCTETS (R311). -/
abbrev rt_prefix : Nat := objKey (0x5820) 0x03
/-- `0x5820.04` U8 (R311). -/
abbrev rt_len : Nat := objKey (0x5820) 0x04
/-- `0x5820.05` U16 (R311). -/
abbrev rt_nexthop : Nat := objKey (0x5820) 0x05
/-- `0x5820.06` U8 (R311). -/
abbrev rt_cmd : Nat := objKey (0x5820) 0x06
/-- `0x5820.07` BOOL (R311). -/
abbrev rt_found : Nat := objKey (0x5820) 0x07
/-- `0x5820.08` U32 (R311). -/
abbrev rt_count_v4 : Nat := objKey (0x5820) 0x08
/-- `0x5820.09` U32 (R311). -/
abbrev rt_count_v6 : Nat := objKey (0x5820) 0x09
/-- `0x5830.01` U16 (R311). -/
abbrev nh_select : Nat := objKey (0x5830) 0x01
/-- `0x5830.02` ENUM (R311). -/
abbrev nh_kind : Nat := objKey (0x5830) 0x02
/-- `0x5830.03` U16 (R311). -/
abbrev nh_port : Nat := objKey (0x5830) 0x03
/-- `0x5830.04` OCTETS (R311). -/
abbrev nh_dmac : Nat := objKey (0x5830) 0x04
/-- `0x5830.05` U16 (R311). -/
abbrev nh_vid : Nat := objKey (0x5830) 0x05
/-- `0x5830.06` U16 (R311). -/
abbrev nh_tunnel : Nat := objKey (0x5830) 0x06
/-- `0x5830.07` U32 (R311). -/
abbrev nh_refs : Nat := objKey (0x5830) 0x07
/-- `0x5838.01` U16 (R311). -/
abbrev grp_select : Nat := objKey (0x5838) 0x01
/-- `0x5838.02` OCTETS (R311). -/
abbrev grp_members : Nat := objKey (0x5838) 0x02
/-- `0x5838.03` U8 (R311). -/
abbrev grp_count : Nat := objKey (0x5838) 0x03
/-- `0x5840.01` U16 (R311). -/
abbrev tn_select : Nat := objKey (0x5840) 0x01
/-- `0x5840.02` ENUM (R311). -/
abbrev tn_kind : Nat := objKey (0x5840) 0x02
/-- `0x5840.03` OCTETS (R311). -/
abbrev tn_local : Nat := objKey (0x5840) 0x03
/-- `0x5840.04` OCTETS (R311). -/
abbrev tn_remote : Nat := objKey (0x5840) 0x04
/-- `0x5840.05` U32 (R311). -/
abbrev tn_vni : Nat := objKey (0x5840) 0x05
/-- `0x5840.06` U16 (R311). -/
abbrev tn_vid : Nat := objKey (0x5840) 0x06
/-- `0x5840.07` U16 (R311). -/
abbrev tn_nexthop : Nat := objKey (0x5840) 0x07
/-- `0x5840.08` U8 (R311). -/
abbrev tn_ttl : Nat := objKey (0x5840) 0x08
/-- `0x5840.09` BOOL (R311). -/
abbrev tn_decap : Nat := objKey (0x5840) 0x09
/-- `0x5840.0A` BOOL (R311). -/
abbrev tn_flood : Nat := objKey (0x5840) 0x0a
/-- `0x5840.0B` U64 (R311). -/
abbrev tn_rx_frames : Nat := objKey (0x5840) 0x0b
/-- `0x5840.0C` U64 (R311). -/
abbrev tn_tx_frames : Nat := objKey (0x5840) 0x0c
/-- `0x5850.01` U16 (R311). -/
abbrev vid_select : Nat := objKey (0x5850) 0x01
/-- `0x5850.02` BOOL (R311). -/
abbrev vid_valid : Nat := objKey (0x5850) 0x02
/-- `0x5850.03` U8 (R311). -/
abbrev vid_vrf : Nat := objKey (0x5850) 0x03
/-- `0x5850.04` BOOL (R311). -/
abbrev vid_route : Nat := objKey (0x5850) 0x04
/-- `0x5850.05` U64 (R311). -/
abbrev vid_members : Nat := objKey (0x5850) 0x05
/-- `0x5850.06` U64 (R311). -/
abbrev vid_untag : Nat := objKey (0x5850) 0x06
/-- `0x6000.01` U32 (R334). -/
abbrev cells_on_die : Nat := objKey (0x6000) 0x01
/-- `0x6000.02` U32 (R334). -/
abbrev cells_free : Nat := objKey (0x6000) 0x02
/-- `0x6000.03` U32 (R334). -/
abbrev cell_reserve : Nat := objKey (0x6000) 0x03
/-- `0x6000.04` BOOL (R334). -/
abbrev overflow_enable : Nat := objKey (0x6000) 0x04
/-- `0x6000.05` U32 (R334). -/
abbrev overflow_cells : Nat := objKey (0x6000) 0x05
/-- `0x6000.06` U32 (R334). -/
abbrev overflow_used : Nat := objKey (0x6000) 0x06
/-- `0x6000.07` U32 (R334). -/
abbrev spill_on : Nat := objKey (0x6000) 0x07
/-- `0x6000.08` U32 (R334). -/
abbrev spill_depth : Nat := objKey (0x6000) 0x08
/-- `0x6000.09` U32 (R334). -/
abbrev cells_low : Nat := objKey (0x6000) 0x09
/-- `0x6000.0A` U64 (R334). -/
abbrev no_cell_drop : Nat := objKey (0x6000) 0x0a
/-- `0x6000.0B` U64 (R334). -/
abbrev direct_spills : Nat := objKey (0x6000) 0x0b
/-- `0x6000.0C` U64 (R334). -/
abbrev spills : Nat := objKey (0x6000) 0x0c
/-- `0x6000.0D` U64 (R334). -/
abbrev fetches : Nat := objKey (0x6000) 0x0d
/-- `0x6000.0E` U64 (R334). -/
abbrev fetch_waits : Nat := objKey (0x6000) 0x0e
/-- `0x6000.0F` U32 (R334). -/
abbrev cell_ecc_drop : Nat := objKey (0x6000) 0x0f
/-- `0x6000.10` U32 (R334). -/
abbrev audit_reclaimed : Nat := objKey (0x6000) 0x10
/-- `0x6000.11` U32 (R334). -/
abbrev varlan_fifo_limit : Nat := objKey (0x6000) 0x11
/-- `0x6000.12` U64 (R334). -/
abbrev varlan_fifo_drop : Nat := objKey (0x6000) 0x12
/-- `0x6001.01` U32 (R335). -/
abbrev ac_quantum_be : Nat := objKey (0x6001) 0x01
/-- `0x6001.02` U32 (R335). -/
abbrev ac_quantum_bk : Nat := objKey (0x6001) 0x02
/-- `0x6001.03` U32 (R335). -/
abbrev ac_quantum_vi : Nat := objKey (0x6001) 0x03
/-- `0x6001.04` U32 (R335). -/
abbrev ac_quantum_vo : Nat := objKey (0x6001) 0x04
/-- `0x6001.05` U16 (R335). -/
abbrev air_lifetime_be : Nat := objKey (0x6001) 0x05
/-- `0x6001.06` U16 (R335). -/
abbrev air_lifetime_bk : Nat := objKey (0x6001) 0x06
/-- `0x6001.07` U16 (R335). -/
abbrev air_lifetime_vi : Nat := objKey (0x6001) 0x07
/-- `0x6001.08` U16 (R335). -/
abbrev air_lifetime_vo : Nat := objKey (0x6001) 0x08
/-- `0x6001.09` U32 (R335). -/
abbrev aq_limit : Nat := objKey (0x6001) 0x09
/-- `0x6001.0A` U8 (R335). -/
abbrev deficit_cap : Nat := objKey (0x6001) 0x0a
/-- `0x6001.0B` U8 (R335). -/
abbrev aq_yellow_limit : Nat := objKey (0x6001) 0x0b
/-- `0x6002.01` U64 (R335). -/
abbrev grants : Nat := objKey (0x6002) 0x01
/-- `0x6002.02` U64 (R335). -/
abbrev bytes_charged : Nat := objKey (0x6002) 0x02
/-- `0x6002.03` U64 (R335). -/
abbrev aq_tail_drop : Nat := objKey (0x6002) 0x03
/-- `0x6002.04` U64 (R335). -/
abbrev aq_yellow_drop : Nat := objKey (0x6002) 0x04
/-- `0x6002.05` U64 (R335). -/
abbrev aged_drops : Nat := objKey (0x6002) 0x05
/-- `0x6002.06` U16 (R335). -/
abbrev aq_active : Nat := objKey (0x6002) 0x06
/-- `0x6008 + p.01` U8 (R336). -/
abbrev tc_strict (p : Nat) : Nat := objKey (0x6008 + p) 0x01
/-- `0x6008 + p.02` OCTETS (R336). -/
abbrev tc_quantum (p : Nat) : Nat := objKey (0x6008 + p) 0x02
/-- `0x6008 + p.03` U32 (R336). -/
abbrev wq_limit (p : Nat) : Nat := objKey (0x6008 + p) 0x03
/-- `0x6008 + p.04` U8 (R336). -/
abbrev wq_yellow_limit (p : Nat) : Nat := objKey (0x6008 + p) 0x04
/-- `0x6008 + p.05` U64 (R336). -/
abbrev sched_rounds (p : Nat) : Nat := objKey (0x6008 + p) 0x05
/-- `0x6010.01` U32 (R336). -/
abbrev prio_tc_map : Nat := objKey (0x6010) 0x01
/-- `0x6010.02` U64 (R336). -/
abbrev wq_tail_drop : Nat := objKey (0x6010) 0x02
/-- `0x6010.03` U64 (R336). -/
abbrev wq_yellow_drop : Nat := objKey (0x6010) 0x03
/-- `0x6010.04` U64 (R336). -/
abbrev down_drops : Nat := objKey (0x6010) 0x04
/-- `0x6020.01` U16 (R337). -/
abbrev aq_select : Nat := objKey (0x6020) 0x01
/-- `0x6020.02` ENUM (R337). -/
abbrev aq_state : Nat := objKey (0x6020) 0x02
/-- `0x6020.03` U32 (R337). -/
abbrev aq_frames : Nat := objKey (0x6020) 0x03
/-- `0x6020.04` U32 (R337). -/
abbrev aq_bytes : Nat := objKey (0x6020) 0x04
/-- `0x6020.05` U32 (R337). -/
abbrev aq_spilled : Nat := objKey (0x6020) 0x05
/-- `0x6020.06` U32 (R337). -/
abbrev aq_deficit : Nat := objKey (0x6020) 0x06
/-- `0x6020.07` U16 (R337). -/
abbrev aq_round : Nat := objKey (0x6020) 0x07
/-- `0x6020.08` U8 (R337). -/
abbrev sta_weight : Nat := objKey (0x6020) 0x08
/-- `0x6020.09` U64 (R337). -/
abbrev aq_granted : Nat := objKey (0x6020) 0x09
/-- `0x6020.0A` U64 (R337). -/
abbrev aq_drops : Nat := objKey (0x6020) 0x0a
/-- `0x6020.0B` U32 (R337). -/
abbrev aq_oldest : Nat := objKey (0x6020) 0x0b
/-- `0x6030.01` U16 (R337). -/
abbrev wq_select : Nat := objKey (0x6030) 0x01
/-- `0x6030.02` U8 (R337). -/
abbrev wq_port : Nat := objKey (0x6030) 0x02
/-- `0x6030.03` U8 (R337). -/
abbrev wq_tc : Nat := objKey (0x6030) 0x03
/-- `0x6030.04` U32 (R337). -/
abbrev wq_frames : Nat := objKey (0x6030) 0x04
/-- `0x6030.05` U32 (R337). -/
abbrev wq_bytes : Nat := objKey (0x6030) 0x05
/-- `0x6030.06` U32 (R337). -/
abbrev wq_deficit : Nat := objKey (0x6030) 0x06
/-- `0x6030.07` U16 (R337). -/
abbrev wq_round : Nat := objKey (0x6030) 0x07
/-- `0x6030.08` U64 (R337). -/
abbrev wq_sent_frames : Nat := objKey (0x6030) 0x08
/-- `0x6030.09` U64 (R337). -/
abbrev wq_sent_bytes : Nat := objKey (0x6030) 0x09
/-- `0x6030.0A` U64 (R337). -/
abbrev wq_drops : Nat := objKey (0x6030) 0x0a
/-- `0x6040.01` U32 (R338). -/
abbrev mb_sta_up : Nat := objKey (0x6040) 0x01
/-- `0x6040.02` U32 (R338). -/
abbrev mb_port_in : Nat := objKey (0x6040) 0x02
/-- `0x6040.03` U32 (R338). -/
abbrev mb_sta_down : Nat := objKey (0x6040) 0x03
/-- `0x6040.04` U32 (R338). -/
abbrev mb_port_out : Nat := objKey (0x6040) 0x04
/-- `0x6040.05` U64 (R338). -/
abbrev meter_drops : Nat := objKey (0x6040) 0x05
/-- `0x6040.06` U32 (R338). -/
abbrev meter_ecc : Nat := objKey (0x6040) 0x06
/-- `0x6040.07` U64 (R338). -/
abbrev meter_updates : Nat := objKey (0x6040) 0x07
/-- `0x6041.01` U16 (R338). -/
abbrev m_select : Nat := objKey (0x6041) 0x01
/-- `0x6041.02` ENUM (R338). -/
abbrev m_mode : Nat := objKey (0x6041) 0x02
/-- `0x6041.03` BOOL (R338). -/
abbrev m_aware : Nat := objKey (0x6041) 0x03
/-- `0x6041.04` U32 (R338). -/
abbrev m_cir : Nat := objKey (0x6041) 0x04
/-- `0x6041.05` U32 (R338). -/
abbrev m_cbs : Nat := objKey (0x6041) 0x05
/-- `0x6041.06` U32 (R338). -/
abbrev m_pir : Nat := objKey (0x6041) 0x06
/-- `0x6041.07` U32 (R338). -/
abbrev m_xbs : Nat := objKey (0x6041) 0x07
/-- `0x6041.08` ENUM (R338). -/
abbrev m_green_act : Nat := objKey (0x6041) 0x08
/-- `0x6041.09` ENUM (R338). -/
abbrev m_yellow_act : Nat := objKey (0x6041) 0x09
/-- `0x6041.0A` ENUM (R338). -/
abbrev m_red_act : Nat := objKey (0x6041) 0x0a
/-- `0x6041.0B` U32 (R338). -/
abbrev m_tc_level : Nat := objKey (0x6041) 0x0b
/-- `0x6041.0C` U32 (R338). -/
abbrev m_x_level : Nat := objKey (0x6041) 0x0c
/-- `0x6041.0D` U64 (R338). -/
abbrev m_green_bytes : Nat := objKey (0x6041) 0x0d
/-- `0x6041.0E` U64 (R338). -/
abbrev m_yellow_bytes : Nat := objKey (0x6041) 0x0e
/-- `0x6041.0F` U64 (R338). -/
abbrev m_red_bytes : Nat := objKey (0x6041) 0x0f
/-- `0x6041.10` U64 (R338). -/
abbrev m_frames : Nat := objKey (0x6041) 0x10
/-- `0x6041.11` U64 (R338). -/
abbrev m_dropped : Nat := objKey (0x6041) 0x11
/-- `0x6800.01` U16 (R352). -/
abbrev match_capacity : Nat := objKey (0x6800) 0x01
/-- `0x6800.02` U16 (R352). -/
abbrev match_in_use : Nat := objKey (0x6800) 0x02
/-- `0x6800.03` U16 (R352). -/
abbrev match_peak : Nat := objKey (0x6800) 0x03
/-- `0x6800.04` U16 (R352). -/
abbrev ready_capacity : Nat := objKey (0x6800) 0x04
/-- `0x6800.05` U16 (R352). -/
abbrev ready_in_use : Nat := objKey (0x6800) 0x05
/-- `0x6800.06` BOOL (R352). -/
abbrev ring_enable : Nat := objKey (0x6800) 0x06
/-- `0x6800.07` U32 (R352). -/
abbrev ring_entries : Nat := objKey (0x6800) 0x07
/-- `0x6800.08` U32 (R352). -/
abbrev ring_used_urgent : Nat := objKey (0x6800) 0x08
/-- `0x6800.09` U32 (R352). -/
abbrev ring_used_normal : Nat := objKey (0x6800) 0x09
/-- `0x6800.0A` U8 (R352). -/
abbrev urgent_burst : Nat := objKey (0x6800) 0x0a
/-- `0x6800.0B` U16 (R352). -/
abbrev task_age_max : Nat := objKey (0x6800) 0x0b
/-- `0x6801.01` U64 (R352). -/
abbrev tokens_issued : Nat := objKey (0x6801) 0x01
/-- `0x6801.02` U64 (R352). -/
abbrev tasks_dispatched : Nat := objKey (0x6801) 0x02
/-- `0x6801.03` U64 (R352). -/
abbrev cancel_verdict : Nat := objKey (0x6801) 0x03
/-- `0x6801.04` U64 (R352). -/
abbrev cancel_other : Nat := objKey (0x6801) 0x04
/-- `0x6801.05` U64 (R352). -/
abbrev match_full_drop : Nat := objKey (0x6801) 0x05
/-- `0x6801.06` U64 (R352). -/
abbrev ring_spills : Nat := objKey (0x6801) 0x06
/-- `0x6801.07` U64 (R352). -/
abbrev ring_drop : Nat := objKey (0x6801) 0x07
/-- `0x6801.08` U64 (R352). -/
abbrev tag_holds : Nat := objKey (0x6801) 0x08
/-- `0x6801.09` U32 (R352). -/
abbrev task_timeouts : Nat := objKey (0x6801) 0x09
/-- `0x6801.0A` U32 (R352). -/
abbrev ecc_cancels : Nat := objKey (0x6801) 0x0a
/-- `0x6801.0B` U64 (R352). -/
abbrev urgent_dispatched : Nat := objKey (0x6801) 0x0b
/-- `0x7000.01` U8 (R369). -/
abbrev channels : Nat := objKey (0x7000) 0x01
/-- `0x7000.02` U64 (R369). -/
abbrev data_capacity : Nat := objKey (0x7000) 0x02
/-- `0x7000.03` U16 (R369). -/
abbrev data_rate : Nat := objKey (0x7000) 0x03
/-- `0x7000.04` ENUM (R369). -/
abbrev dram_state : Nat := objKey (0x7000) 0x04
/-- `0x7000.05` ENUM (R369). -/
abbrev refresh_mult : Nat := objKey (0x7000) 0x05
/-- `0x7000.06` U16 (R369). -/
abbrev scrub_period : Nat := objKey (0x7000) 0x06
/-- `0x7000.07` BOOL (R369). -/
abbrev ecc_writeback : Nat := objKey (0x7000) 0x07
/-- `0x7000.08` U16 (R369). -/
abbrev ecc_disable_count : Nat := objKey (0x7000) 0x08
/-- `0x7000.09` U8 (R369). -/
abbrev region_status : Nat := objKey (0x7000) 0x09
/-- `0x7000.0A` U8 (R369). -/
abbrev region_cmd : Nat := objKey (0x7000) 0x0a
/-- `0x7000.0B` U8 (R369). -/
abbrev retrain_temp : Nat := objKey (0x7000) 0x0b
/-- `0x7000.0C` U16 (R369). -/
abbrev retrain_interval : Nat := objKey (0x7000) 0x0c
/-- `0x7000.0D` U16 (R369). -/
abbrev track_interval : Nat := objKey (0x7000) 0x0d
/-- `0x7000.0E` U32 (R369). -/
abbrev retrains : Nat := objKey (0x7000) 0x0e
/-- `0x7000.0F` U32 (R369). -/
abbrev retrain_fail : Nat := objKey (0x7000) 0x0f
/-- `0x7000.10` TIME80 (R369). -/
abbrev last_retrain : Nat := objKey (0x7000) 0x10
/-- `0x7001 + ch.01` I32 (R370). -/
abbrev ch_temp (ch : Nat) : Nat := objKey (0x7001 + ch) 0x01
/-- `0x7001 + ch.02` U8 (R370). -/
abbrev ch_rate_factor (ch : Nat) : Nat := objKey (0x7001 + ch) 0x02
/-- `0x7001 + ch.03` U64 (R370). -/
abbrev ch_ecc_corrected (ch : Nat) : Nat := objKey (0x7001 + ch) 0x03
/-- `0x7001 + ch.04` U32 (R370). -/
abbrev ch_ecc_uncorrected (ch : Nat) : Nat := objKey (0x7001 + ch) 0x04
/-- `0x7001 + ch.05` U8 (R370). -/
abbrev ch_postponed_max (ch : Nat) : Nat := objKey (0x7001 + ch) 0x05
/-- `0x7001 + ch.06` U8 (R370). -/
abbrev ch_train_result (ch : Nat) : Nat := objKey (0x7001 + ch) 0x06
/-- `0x7001 + ch.07` I32 (R370). -/
abbrev ch_wck_trim (ch : Nat) : Nat := objKey (0x7001 + ch) 0x07
/-- `0x7001 + ch.08` U32 (R370). -/
abbrev ch_tracks (ch : Nat) : Nat := objKey (0x7001 + ch) 0x08
/-- `0x7010 + k.01` U16 (R371). -/
abbrev dp_buffer (k : Nat) : Nat := objKey (0x7010 + k) 0x01
/-- `0x7010 + k.02` U16 (R371). -/
abbrev dp_level (k : Nat) : Nat := objKey (0x7010 + k) 0x02
/-- `0x7010 + k.03` BOOL (R371). -/
abbrev dp_panic (k : Nat) : Nat := objKey (0x7010 + k) 0x03
/-- `0x7010 + k.04` U32 (R371). -/
abbrev dp_panic_events (k : Nat) : Nat := objKey (0x7010 + k) 0x04
/-- `0x7010 + k.05` U64 (R371). -/
abbrev dp_panic_us (k : Nat) : Nat := objKey (0x7010 + k) 0x05
/-- `0x7010 + k.06` U64 (R371). -/
abbrev dp_bytes (k : Nat) : Nat := objKey (0x7010 + k) 0x06
/-- `0x7018.01` U64 (R371). -/
abbrev err_addr : Nat := objKey (0x7018) 0x01
/-- `0x7018.02` U8 (R371). -/
abbrev err_channel : Nat := objKey (0x7018) 0x02
/-- `0x7018.03` ENUM (R371). -/
abbrev err_region : Nat := objKey (0x7018) 0x03
/-- `0x7018.04` TIME80 (R371). -/
abbrev err_time : Nat := objKey (0x7018) 0x04
/-- `0x1200.01` ENUM (R388). -/
abbrev ref_state : Nat := objKey (0x1200) 0x01
/-- `0x1200.02` U32 (R388). -/
abbrev ref_losses : Nat := objKey (0x1200) 0x02
/-- `0x1200.03` BOOL (R388). -/
abbrev ref_out_enable : Nat := objKey (0x1200) 0x03
/-- `0x1200.04` U32 (R388). -/
abbrev holdover_time : Nat := objKey (0x1200) 0x04
/-- `0x1200.05` U16 (R388). -/
abbrev stall_timeout : Nat := objKey (0x1200) 0x05
/-- `0x1200.06` U32 (R388). -/
abbrev stalls : Nat := objKey (0x1200) 0x06
/-- `0x1200.07` U8 (R388). -/
abbrev stalls_open : Nat := objKey (0x1200) 0x07
/-- `0x1200.08` U8 (R388). -/
abbrev last_stall_domain : Nat := objKey (0x1200) 0x08
/-- `0x1210 + d.01` U32 (R388). -/
abbrev clk_rate (d : Nat) : Nat := objKey (0x1210 + d) 0x01
/-- `0x1210 + d.02` ENUM (R388). -/
abbrev clk_state (d : Nat) : Nat := objKey (0x1210 + d) 0x02
/-- `0x1210 + d.03` U32 (R388). -/
abbrev clk_lock_losses (d : Nat) : Nat := objKey (0x1210 + d) 0x03
/-- `0x1210 + d.04` U32 (R388). -/
abbrev clk_stalls (d : Nat) : Nat := objKey (0x1210 + d) 0x04
/-- `0x1210 + d.05` HID (R388). -/
abbrev clk_hid (d : Nat) : Nat := objKey (0x1210 + d) 0x05
/-- `0x1300.01` ENUM (R417). -/
abbrev tb_state : Nat := objKey (0x1300) 0x01
/-- `0x1300.02` BOOL (R417). -/
abbrev tb_valid : Nat := objKey (0x1300) 0x02
/-- `0x1300.03` ENUM (R417). -/
abbrev tb_source : Nat := objKey (0x1300) 0x03
/-- `0x1300.04` ENUM (R417). -/
abbrev tb_locked_to : Nat := objKey (0x1300) 0x04
/-- `0x1300.05` TIME80 (R417). -/
abbrev tb_now : Nat := objKey (0x1300) 0x05
/-- `0x1300.06` TIME80 (R417). -/
abbrev tb_set : Nat := objKey (0x1300) 0x06
/-- `0x1300.07` I32 (R417). -/
abbrev tb_adjust : Nat := objKey (0x1300) 0x07
/-- `0x1300.08` U8 (R417). -/
abbrev tb_cmd : Nat := objKey (0x1300) 0x08
/-- `0x1300.09` I32 (R417). -/
abbrev tb_freq_adj : Nat := objKey (0x1300) 0x09
/-- `0x1300.0A` U16 (R417). -/
abbrev slew_max : Nat := objKey (0x1300) 0x0a
/-- `0x1300.0B` U32 (R417). -/
abbrev step_threshold : Nat := objKey (0x1300) 0x0b
/-- `0x1300.0C` U32 (R417). -/
abbrev lock_threshold : Nat := objKey (0x1300) 0x0c
/-- `0x1300.0D` U32 (R417). -/
abbrev tb_uncertainty : Nat := objKey (0x1300) 0x0d
/-- `0x1300.0E` U16 (R417). -/
abbrev holdover_ppb : Nat := objKey (0x1300) 0x0e
/-- `0x1300.0F` U32 (R417). -/
abbrev tb_steps : Nat := objKey (0x1300) 0x0f
/-- `0x1300.10` I32 (R417). -/
abbrev tb_last_step : Nat := objKey (0x1300) 0x10
/-- `0x1300.11` I32 (R417). -/
abbrev bak_rate_ppb : Nat := objKey (0x1300) 0x11
/-- `0x1301.01` ENUM (R418). -/
abbrev ptp_mode : Nat := objKey (0x1301) 0x01
/-- `0x1301.02` ENUM (R418). -/
abbrev ptp_transport : Nat := objKey (0x1301) 0x02
/-- `0x1301.03` U8 (R418). -/
abbrev ptp_domain : Nat := objKey (0x1301) 0x03
/-- `0x1301.04` U8 (R418). -/
abbrev ptp_priority1 : Nat := objKey (0x1301) 0x04
/-- `0x1301.05` U8 (R418). -/
abbrev ptp_priority2 : Nat := objKey (0x1301) 0x05
/-- `0x1301.06` U8 (R418). -/
abbrev ptp_clock_class : Nat := objKey (0x1301) 0x06
/-- `0x1301.07` BOOL (R418). -/
abbrev ptp_slave_only : Nat := objKey (0x1301) 0x07
/-- `0x1301.08` I32 (R418). -/
abbrev ptp_log_sync : Nat := objKey (0x1301) 0x08
/-- `0x1301.09` I32 (R418). -/
abbrev ptp_log_announce : Nat := objKey (0x1301) 0x09
/-- `0x1301.0A` I32 (R418). -/
abbrev ptp_log_delay : Nat := objKey (0x1301) 0x0a
/-- `0x1301.0B` U8 (R418). -/
abbrev ptp_announce_timeout : Nat := objKey (0x1301) 0x0b
/-- `0x1301.0C` U16 (R418). -/
abbrev ptp_vid : Nat := objKey (0x1301) 0x0c
/-- `0x1301.0D` OCTETS (R418). -/
abbrev ptp_src_addr : Nat := objKey (0x1301) 0x0d
/-- `0x1301.0E` OCTETS (R418). -/
abbrev ptp_clock_id : Nat := objKey (0x1301) 0x0e
/-- `0x1301.0F` U8 (R418). -/
abbrev ptp_slave_port : Nat := objKey (0x1301) 0x0f
/-- `0x1301.10` I32 (R418). -/
abbrev ptp_offset : Nat := objKey (0x1301) 0x10
/-- `0x1301.11` U32 (R418). -/
abbrev ptp_path_delay : Nat := objKey (0x1301) 0x11
/-- `0x1301.12` OCTETS (R418). -/
abbrev ptp_gm_id : Nat := objKey (0x1301) 0x12
/-- `0x1301.13` U16 (R418). -/
abbrev ptp_steps_removed : Nat := objKey (0x1301) 0x13
/-- `0x1301.14` U64 (R418). -/
abbrev tc_corrected : Nat := objKey (0x1301) 0x14
/-- `0x1308 + p.01` BOOL (R418). -/
abbrev pp_enable (p : Nat) : Nat := objKey (0x1308 + p) 0x01
/-- `0x1308 + p.02` ENUM (R418). -/
abbrev pp_state (p : Nat) : Nat := objKey (0x1308 + p) 0x02
/-- `0x1308 + p.03` ENUM (R418). -/
abbrev pp_delay_mech (p : Nat) : Nat := objKey (0x1308 + p) 0x03
/-- `0x1308 + p.04` I32 (R418). -/
abbrev pp_asym (p : Nat) : Nat := objKey (0x1308 + p) 0x04
/-- `0x1308 + p.05` U32 (R418). -/
abbrev pp_link_delay (p : Nat) : Nat := objKey (0x1308 + p) 0x05
/-- `0x1308 + p.06` U64 (R418). -/
abbrev pp_rx_event (p : Nat) : Nat := objKey (0x1308 + p) 0x06
/-- `0x1308 + p.07` U64 (R418). -/
abbrev pp_tx_event (p : Nat) : Nat := objKey (0x1308 + p) 0x07
/-- `0x1308 + p.08` U64 (R418). -/
abbrev pp_rx_general (p : Nat) : Nat := objKey (0x1308 + p) 0x08
/-- `0x1308 + p.09` U64 (R418). -/
abbrev pp_discard (p : Nat) : Nat := objKey (0x1308 + p) 0x09
/-- `0x1308 + p.0A` BOOL (R418). -/
abbrev pp_as_capable (p : Nat) : Nat := objKey (0x1308 + p) 0x0a
/-- `0x1310.01` U8 (R419). -/
abbrev synce_port : Nat := objKey (0x1310) 0x01
/-- `0x1310.02` BOOL (R419). -/
abbrev synce_steer : Nat := objKey (0x1310) 0x02
/-- `0x1310.03` ENUM (R419). -/
abbrev synce_state : Nat := objKey (0x1310) 0x03
/-- `0x1310.04` U8 (R419). -/
abbrev rclk_pin : Nat := objKey (0x1310) 0x04
/-- `0x1310.05` U8 (R419). -/
abbrev esmc_queue : Nat := objKey (0x1310) 0x05
/-- `0x1310.06` BOOL (R419). -/
abbrev pps_in_enable : Nat := objKey (0x1310) 0x06
/-- `0x1310.07` TIME80 (R419). -/
abbrev pps_in_last : Nat := objKey (0x1310) 0x07
/-- `0x1310.08` I32 (R419). -/
abbrev pps_in_error : Nat := objKey (0x1310) 0x08
/-- `0x1310.09` U64 (R419). -/
abbrev tod_next : Nat := objKey (0x1310) 0x09
/-- `0x1310.0A` U32 (R419). -/
abbrev pps_in_faults : Nat := objKey (0x1310) 0x0a
/-- `0x1310.0B` ENUM (R419). -/
abbrev pps_out_mode : Nat := objKey (0x1310) 0x0b
/-- `0x1310.0C` I32 (R419). -/
abbrev pps_out_offset : Nat := objKey (0x1310) 0x0c
/-- `0x1310.0D` U32 (R419). -/
abbrev pps_out_width : Nat := objKey (0x1310) 0x0d
/-- `0x1320 + t.01` ENUM (R420). -/
abbrev gt_mode (t : Nat) : Nat := objKey (0x1320 + t) 0x01
/-- `0x1320 + t.02` U8 (R420). -/
abbrev gt_pin (t : Nat) : Nat := objKey (0x1320 + t) 0x02
/-- `0x1320 + t.03` TIME80 (R420). -/
abbrev gt_start (t : Nat) : Nat := objKey (0x1320 + t) 0x03
/-- `0x1320 + t.04` U64 (R420). -/
abbrev gt_period (t : Nat) : Nat := objKey (0x1320 + t) 0x04
/-- `0x1320 + t.05` U32 (R420). -/
abbrev gt_width (t : Nat) : Nat := objKey (0x1320 + t) 0x05
/-- `0x1320 + t.06` U32 (R420). -/
abbrev gt_repeats (t : Nat) : Nat := objKey (0x1320 + t) 0x06
/-- `0x1320 + t.07` U8 (R420). -/
abbrev gt_flags (t : Nat) : Nat := objKey (0x1320 + t) 0x07
/-- `0x1320 + t.08` U8 (R420). -/
abbrev gt_cmd (t : Nat) : Nat := objKey (0x1320 + t) 0x08
/-- `0x1320 + t.09` ENUM (R420). -/
abbrev gt_state (t : Nat) : Nat := objKey (0x1320 + t) 0x09
/-- `0x1320 + t.0A` U64 (R420). -/
abbrev gt_fired (t : Nat) : Nat := objKey (0x1320 + t) 0x0a
/-- `0x1320 + t.0B` U32 (R420). -/
abbrev gt_skipped (t : Nat) : Nat := objKey (0x1320 + t) 0x0b
/-- `0x1320 + t.0C` U8 (R420). -/
abbrev gt_cap_level (t : Nat) : Nat := objKey (0x1320 + t) 0x0c
/-- `0x1320 + t.0D` TIME80 (R420). -/
abbrev gt_cap_read (t : Nat) : Nat := objKey (0x1320 + t) 0x0d
/-- `0x1320 + t.0E` U32 (R420). -/
abbrev gt_cap_lost (t : Nat) : Nat := objKey (0x1320 + t) 0x0e
/-- `0x1400.01` BOOL (R435). -/
abbrev bak_valid : Nat := objKey (0x1400) 0x01
/-- `0x1400.02` BOOL (R435). -/
abbrev bak_por : Nat := objKey (0x1400) 0x02
/-- `0x1400.03` ENUM (R435). -/
abbrev bak_supply : Nat := objKey (0x1400) 0x03
/-- `0x1400.04` U16 (R435). -/
abbrev vbak_mv : Nat := objKey (0x1400) 0x04
/-- `0x1400.05` U16 (R435). -/
abbrev vbak_warn : Nat := objKey (0x1400) 0x05
/-- `0x1400.06` BOOL (R435). -/
abbrev vbak_low : Nat := objKey (0x1400) 0x06
/-- `0x1400.07` U32 (R435). -/
abbrev vbak_switches : Nat := objKey (0x1400) 0x07
/-- `0x1400.08` U8 (R435). -/
abbrev bak_cmd : Nat := objKey (0x1400) 0x08
/-- `0x1401.01` U64 (R435). -/
abbrev bak_seconds : Nat := objKey (0x1401) 0x01
/-- `0x1401.02` U16 (R435). -/
abbrev bak_prescaler : Nat := objKey (0x1401) 0x02
/-- `0x1401.03` U64 (R435). -/
abbrev bak_ticks : Nat := objKey (0x1401) 0x03
/-- `0x1401.04` TIME80 (R435). -/
abbrev bak_time : Nat := objKey (0x1401) 0x04
/-- `0x1401.05` OCTETS (R435). -/
abbrev calendar : Nat := objKey (0x1401) 0x05
/-- `0x1401.06` I32 (R435). -/
abbrev cal_utc_offset : Nat := objKey (0x1401) 0x06
/-- `0x1401.07` BOOL (R435). -/
abbrev bak_sync : Nat := objKey (0x1401) 0x07
/-- `0x1401.08` U32 (R435). -/
abbrev xtal_stops : Nat := objKey (0x1401) 0x08
/-- `0x1402.01` I32 (R435). -/
abbrev bak_trim : Nat := objKey (0x1402) 0x01
/-- `0x1402.02` BOOL (R435). -/
abbrev trim_auto : Nat := objKey (0x1402) 0x02
/-- `0x1402.03` BOOL (R435). -/
abbrev trim_pending : Nat := objKey (0x1402) 0x03
/-- `0x1404 + a.01` U64 (R435). -/
abbrev al_seconds (a : Nat) : Nat := objKey (0x1404 + a) 0x01
/-- `0x1404 + a.02` U8 (R435). -/
abbrev al_flags (a : Nat) : Nat := objKey (0x1404 + a) 0x02
/-- `0x1404 + a.03` U8 (R435). -/
abbrev al_cmd (a : Nat) : Nat := objKey (0x1404 + a) 0x03
/-- `0x1404 + a.04` ENUM (R435). -/
abbrev al_state (a : Nat) : Nat := objKey (0x1404 + a) 0x04
/-- `0x1404 + a.05` U32 (R435). -/
abbrev al_fired (a : Nat) : Nat := objKey (0x1404 + a) 0x05
/-- `0x1404 + a.06` U32 (R435). -/
abbrev al_skipped (a : Nat) : Nat := objKey (0x1404 + a) 0x06
/-- `0x1408.01` ENUM (R435). -/
abbrev pwron_state : Nat := objKey (0x1408) 0x01
/-- `0x1408.02` U8 (R435). -/
abbrev pwron_cmd : Nat := objKey (0x1408) 0x02
/-- `0x1408.03` U16 (R435). -/
abbrev pwron_delay : Nat := objKey (0x1408) 0x03
/-- `0x1408.04` U32 (R435). -/
abbrev pwron_cancels : Nat := objKey (0x1408) 0x04
/-- `0x1410.01` OCTETS (R435). -/
abbrev scratch : Nat := objKey (0x1410) 0x01
/-- `0x1100.01` U32 (R461). -/
abbrev vin_mv : Nat := objKey (0x1100) 0x01
/-- `0x1100.02` U16 (R461). -/
abbrev vin_warn : Nat := objKey (0x1100) 0x02
/-- `0x1100.03` BOOL (R461). -/
abbrev vin_low : Nat := objKey (0x1100) 0x03
/-- `0x1100.04` ENUM (R461). -/
abbrev v12_state : Nat := objKey (0x1100) 0x04
/-- `0x1100.05` U16 (R461). -/
abbrev v12_mv : Nat := objKey (0x1100) 0x05
/-- `0x1100.06` I32 (R461). -/
abbrev conv_temp : Nat := objKey (0x1100) 0x06
/-- `0x1100.07` U32 (R461). -/
abbrev pwrfail_events : Nat := objKey (0x1100) 0x07
/-- `0x1100.08` U32 (R461). -/
abbrev v12_faults : Nat := objKey (0x1100) 0x08
/-- `0x1100.09` ENUM (R461). -/
abbrev last_loss_cause : Nat := objKey (0x1100) 0x09
/-- `0x1101.01` U16 (R461). -/
abbrev vcore_nominal : Nat := objKey (0x1101) 0x01
/-- `0x1101.02` U16 (R461). -/
abbrev vcore_idle : Nat := objKey (0x1101) 0x02
/-- `0x1101.03` U16 (R461). -/
abbrev vcore_age_offset : Nat := objKey (0x1101) 0x03
/-- `0x1101.04` U16 (R461). -/
abbrev vcore_target : Nat := objKey (0x1101) 0x04
/-- `0x1101.05` U16 (R461). -/
abbrev vcore_mv : Nat := objKey (0x1101) 0x05
/-- `0x1101.06` ENUM (R461). -/
abbrev avs_state : Nat := objKey (0x1101) 0x06
/-- `0x1101.07` U16 (R461). -/
abbrev avs_settle_max : Nat := objKey (0x1101) 0x07
/-- `0x1101.08` U8 (R461). -/
abbrev avs_clk : Nat := objKey (0x1101) 0x08
/-- `0x1101.09` U32 (R461). -/
abbrev avs_nacks : Nat := objKey (0x1101) 0x09
/-- `0x1101.0A` U32 (R461). -/
abbrev avs_timeouts : Nat := objKey (0x1101) 0x0a
/-- `0x1101.0B` U32 (R461). -/
abbrev vcore_faults : Nat := objKey (0x1101) 0x0b
/-- `0x1102.01` HID (R461). -/
abbrev rm_select : Nat := objKey (0x1102) 0x01
/-- `0x1102.02` ENUM (R461). -/
abbrev rm_target : Nat := objKey (0x1102) 0x02
/-- `0x1102.03` U16 (R461). -/
abbrev rm_allowed : Nat := objKey (0x1102) 0x03
/-- `0x1104.01` U8 (R461). -/
abbrev dormant_cmd : Nat := objKey (0x1104) 0x01
/-- `0x1104.02` U8 (R461). -/
abbrev wake_enable : Nat := objKey (0x1104) 0x02
/-- `0x1104.03` U8 (R461). -/
abbrev wake_cause : Nat := objKey (0x1104) 0x03
/-- `0x1104.04` U32 (R461). -/
abbrev dormant_entries : Nat := objKey (0x1104) 0x04
/-- `0x1104.05` U32 (R461). -/
abbrev last_dormant_s : Nat := objKey (0x1104) 0x05
/-- `0x1104.06` U16 (R461). -/
abbrev last_wake_ms : Nat := objKey (0x1104) 0x06
/-- `0x1105.01` U8 (R461). -/
abbrev retain_status : Nat := objKey (0x1105) 0x01
/-- `0x1105.02` U8 (R461). -/
abbrev retain_sealed : Nat := objKey (0x1105) 0x02
/-- `0x1105.03` U32 (R461). -/
abbrev retain_failures : Nat := objKey (0x1105) 0x03
/-- `0x1105.04` OCTETS (R461). -/
abbrev retain_sig : Nat := objKey (0x1105) 0x04
/-- `0x1106.01` U8 (R461). -/
abbrev pad_latched : Nat := objKey (0x1106) 0x01
/-- `0x1106.02` U8 (R461). -/
abbrev pad_release : Nat := objKey (0x1106) 0x02
/-- `0x1106.03` U32 (R461). -/
abbrev pad_latch_events : Nat := objKey (0x1106) 0x03
/-- `0x1110 + pd.01` ENUM (R461). -/
abbrev pd_state (pd : Nat) : Nat := objKey (0x1110 + pd) 0x01
/-- `0x1110 + pd.02` HID (R461). -/
abbrev pd_hid (pd : Nat) : Nat := objKey (0x1110 + pd) 0x02
/-- `0x1110 + pd.03` U32 (R461). -/
abbrev pd_cycles (pd : Nat) : Nat := objKey (0x1110 + pd) 0x03
/-- `0x7800.01` ENUM (R477). -/
abbrev q_state : Nat := objKey (0x7800) 0x01
/-- `0x7800.02` U32 (R477). -/
abbrev quiet_period : Nat := objKey (0x7800) 0x02
/-- `0x7800.03` U8 (R477). -/
abbrev q_cmd : Nat := objKey (0x7800) 0x03
/-- `0x7800.04` U32 (R477). -/
abbrev recoveries : Nat := objKey (0x7800) 0x04
/-- `0x7800.05` U8 (R477). -/
abbrev recent_recoveries : Nat := objKey (0x7800) 0x05
/-- `0x7800.06` U32 (R477). -/
abbrev q_entries : Nat := objKey (0x7800) 0x06
/-- `0x7800.07` U32 (R477). -/
abbrev q_host_entries : Nat := objKey (0x7800) 0x07
/-- `0x7800.08` U32 (R477). -/
abbrev q_host_exits : Nat := objKey (0x7800) 0x08
/-- `0x7800.09` U64 (R477). -/
abbrev msgs_received : Nat := objKey (0x7800) 0x09
/-- `0x7800.0A` U32 (R477). -/
abbrev msgs_dropped : Nat := objKey (0x7800) 0x0a
/-- `0x7800.0B` U32 (R477). -/
abbrev log_overrun : Nat := objKey (0x7800) 0x0b
/-- `0x7800.0C` U16 (R477). -/
abbrev coalesce_time : Nat := objKey (0x7800) 0x0c
/-- `0x7800.0D` U8 (R477). -/
abbrev notify_transports : Nat := objKey (0x7800) 0x0d
/-- `0x7800.0E` OCTETS (R477). -/
abbrev notify_addr : Nat := objKey (0x7800) 0x0e
/-- `0x7800.0F` U16 (R477). -/
abbrev notify_gap : Nat := objKey (0x7800) 0x0f
/-- `0x7801.01` HID (R477). -/
abbrev force_source : Nat := objKey (0x7801) 0x01
/-- `0x7801.02` U8 (R477). -/
abbrev force_kind : Nat := objKey (0x7801) 0x02
/-- `0x7801.03` U64 (R477). -/
abbrev force_address : Nat := objKey (0x7801) 0x03
/-- `0x7801.04` BOOL (R477). -/
abbrev force_dry : Nat := objKey (0x7801) 0x04
/-- `0x7801.05` U8 (R477). -/
abbrev force_cmd : Nat := objKey (0x7801) 0x05
/-- `0x7802.01` U32 (R477). -/
abbrev log_select : Nat := objKey (0x7802) 0x01
/-- `0x7802.02` OCTETS (R477). -/
abbrev log_entry : Nat := objKey (0x7802) 0x02
/-- `0x7802.03` U32 (R477). -/
abbrev log_written : Nat := objKey (0x7802) 0x03
/-- `0x7808.01` U8 (R477). -/
abbrev kind_select : Nat := objKey (0x7808) 0x01
/-- `0x7808.02` ENUM (R477). -/
abbrev kind_severity : Nat := objKey (0x7808) 0x02
/-- `0x7808.03` ENUM (R477). -/
abbrev kind_reaction : Nat := objKey (0x7808) 0x03
/-- `0x7808.04` U32 (R477). -/
abbrev kind_count : Nat := objKey (0x7808) 0x04
/-- `0x7808.05` TIME80 (R477). -/
abbrev kind_last : Nat := objKey (0x7808) 0x05
/-- `0x7808.06` HID (R477). -/
abbrev kind_last_source : Nat := objKey (0x7808) 0x06
/-- `0x7C00.01` U8 (R492). -/
abbrev maint_running : Nat := objKey (0x7c00) 0x01
/-- `0x7C00.02` U8 (R492). -/
abbrev maint_queued : Nat := objKey (0x7c00) 0x02
/-- `0x7C00.03` U8 (R492). -/
abbrev radio_wide_max : Nat := objKey (0x7c00) 0x03
/-- `0x7C00.04` U16 (R492). -/
abbrev queue_limit : Nat := objKey (0x7c00) 0x04
/-- `0x7C00.05` ENUM (R492). -/
abbrev service_role : Nat := objKey (0x7c00) 0x05
/-- `0x7C00.06` U32 (R492). -/
abbrev maint_admitted : Nat := objKey (0x7c00) 0x06
/-- `0x7C00.07` U32 (R492). -/
abbrev maint_deferred : Nat := objKey (0x7c00) 0x07
/-- `0x7C00.08` U32 (R492). -/
abbrev maint_refused : Nat := objKey (0x7c00) 0x08
/-- `0x7C00.09` U32 (R492). -/
abbrev maint_timeouts : Nat := objKey (0x7c00) 0x09
/-- `0x7C00.0A` U32 (R492). -/
abbrev maint_aborted : Nat := objKey (0x7c00) 0x0a
/-- `0x7C00.0B` U32 (R492). -/
abbrev maint_expired : Nat := objKey (0x7c00) 0x0b
/-- `0x7C01.01` ENUM (R492). -/
abbrev mreq_activity : Nat := objKey (0x7c01) 0x01
/-- `0x7C01.02` HID (R492). -/
abbrev mreq_target : Nat := objKey (0x7c01) 0x02
/-- `0x7C01.03` U8 (R492). -/
abbrev mreq_cmd : Nat := objKey (0x7c01) 0x03
/-- `0x7C02.01` U8 (R492). -/
abbrev mt_select : Nat := objKey (0x7c02) 0x01
/-- `0x7C02.02` ENUM (R492). -/
abbrev mt_activity : Nat := objKey (0x7c02) 0x02
/-- `0x7C02.03` HID (R492). -/
abbrev mt_target : Nat := objKey (0x7c02) 0x03
/-- `0x7C02.04` HID (R492). -/
abbrev mt_requester : Nat := objKey (0x7c02) 0x04
/-- `0x7C02.05` ENUM (R492). -/
abbrev mt_state : Nat := objKey (0x7c02) 0x05
/-- `0x7C02.06` TIME80 (R492). -/
abbrev mt_since : Nat := objKey (0x7c02) 0x06
/-- `0x7C08 + a.01` U32 (R492). -/
abbrev act_runs (a : Nat) : Nat := objKey (0x7c08 + a) 0x01
/-- `0x7C08 + a.02` U8 (R492). -/
abbrev act_last_result (a : Nat) : Nat := objKey (0x7c08 + a) 0x02
/-- `0x7C08 + a.03` TIME80 (R492). -/
abbrev act_last_end (a : Nat) : Nat := objKey (0x7c08 + a) 0x03
/-- `0x7C08 + a.04` U32 (R492). -/
abbrev act_bound (a : Nat) : Nat := objKey (0x7c08 + a) 0x04
/-- `0x7E00.01` U16 (R493). -/
abbrev survey_interval : Nat := objKey (0x7e00) 0x01
/-- `0x7E00.02` U32 (R493). -/
abbrev surveys : Nat := objKey (0x7e00) 0x02
/-- `0x7E00.03` TIME80 (R493). -/
abbrev survey_last : Nat := objKey (0x7e00) 0x03
/-- `0x7E00.04` U16 (R493). -/
abbrev trend_window : Nat := objKey (0x7e00) 0x04
/-- `0x7E00.05` U16 (R493). -/
abbrev life_warn : Nat := objKey (0x7e00) 0x05
/-- `0x7E00.06` U32 (R493). -/
abbrev life_estimate : Nat := objKey (0x7e00) 0x06
/-- `0x7E00.07` U8 (R493). -/
abbrev life_item : Nat := objKey (0x7e00) 0x07
/-- `0x7E00.08` BOOL (R493). -/
abbrev plan_valid : Nat := objKey (0x7e00) 0x08
/-- `0x7E00.09` U16 (R493). -/
abbrev mem_survey_interval : Nat := objKey (0x7e00) 0x09
/-- `0x7E08 + i.01` I32 (R493). -/
abbrev mi_margin (i : Nat) : Nat := objKey (0x7e08 + i) 0x01
/-- `0x7E08 + i.02` I32 (R493). -/
abbrev mi_min (i : Nat) : Nat := objKey (0x7e08 + i) 0x02
/-- `0x7E08 + i.03` U8 (R493). -/
abbrev mi_steps (i : Nat) : Nat := objKey (0x7e08 + i) 0x03
/-- `0x7E08 + i.04` U8 (R493). -/
abbrev mi_steps_max (i : Nat) : Nat := objKey (0x7e08 + i) 0x04
/-- `0x7E08 + i.05` ENUM (R493). -/
abbrev mi_state (i : Nat) : Nat := objKey (0x7e08 + i) 0x05
/-- `0x7E08 + i.06` U32 (R493). -/
abbrev mi_next_step (i : Nat) : Nat := objKey (0x7e08 + i) 0x06
/-- `0x7E08 + i.07` U32 (R493). -/
abbrev mi_life (i : Nat) : Nat := objKey (0x7e08 + i) 0x07

end O

end Sys2Proof.Machine
end

