-- ==== Sys2Proof/Machine/ObjTable.lean ====
section
/-! DEFINITION. The Ledger object dictionary: for every object of the spec its type (R39), access code (R40), allowed values, fixed default and when a write acts. Rows are those of the spec's object tables, page by page; a value taken from fuses, straps or the part stands in Machine/Objects.lean. -/

namespace Sys2Proof.Machine

/-- The object types of R39; `oct lo hi` is OCTETS of that least and greatest length. -/
inductive ObjType where
  | u8 | u16 | u32 | u64 | i32 | bool | enum | time80 | hid
  | oct (lo hi : Nat)
  deriving DecidableEq, Repr

/-- The access codes of R40. -/
inductive Access where
  | ro | rw | rws | wo | w1c | cmd
  deriving DecidableEq, Repr

/-- The values an object lists for itself: any of its type, an unsigned range, a signed range, or a list. -/
inductive Limit where
  | any
  | le (lo hi : Nat)
  | si (lo hi : Int)
  | mem (l : List Nat)
  deriving DecidableEq, Repr

/-- When a write acts: at once, at the next epoch (R29), through the shadow graph bank (R251, R265), or through the
rule staging log (R276). -/
inductive Staging where
  | now | epoch | graph | rule
  deriving DecidableEq, Repr

/-- One row of the dictionary: `n` indices from `base` define sub-index `sub`. -/
structure ObjRow where
  base : Nat
  n : Nat
  sub : Nat
  ty : ObjType
  acc : Access
  lim : Limit
  dflt : Nat
  stg : Staging
  fuse : Bool
  deriving DecidableEq, Repr

/-- Rows of indices 0x0000 to 0x00FF. -/
def objPage00 : List ObjRow := [
  ⟨0x0000, 1, 0x01, .u16, .ro, .any, 0, .now, false⟩,
  ⟨0x0000, 1, 0x02, .u8, .ro, .any, 0, .now, false⟩,
  ⟨0x0000, 1, 0x03, .u32, .ro, .any, 0, .now, false⟩,
  ⟨0x0000, 1, 0x04, (.oct 16 16), .ro, .any, 0, .now, false⟩,
  ⟨0x0000, 1, 0x05, .hid, .ro, .any, 0, .now, false⟩,
  ⟨0x0000, 1, 0x06, .u16, .ro, .any, 0, .now, false⟩,
  ⟨0x0000, 1, 0x07, .u16, .ro, .any, 1, .now, false⟩,
  ⟨0x0001, 1, 0x01, .enum, .ro, .any, 0, .now, false⟩,
  ⟨0x0001, 1, 0x02, .enum, .ro, .any, 0, .now, false⟩,
  ⟨0x0001, 1, 0x03, .enum, .ro, .any, 0, .now, false⟩,
  ⟨0x0001, 1, 0x04, .u8, .ro, .any, 0, .now, false⟩,
  ⟨0x0001, 1, 0x05, .u8, .ro, .any, 0, .now, false⟩,
  ⟨0x0001, 1, 0x06, .u8, .ro, .any, 0, .now, false⟩,
  ⟨0x0001, 1, 0x07, .u16, .ro, .any, 0, .now, false⟩,
  ⟨0x0001, 1, 0x08, .u16, .ro, .any, 0, .now, false⟩,
  ⟨0x0001, 1, 0x09, .u32, .ro, .any, 0, .now, false⟩,
  ⟨0x0001, 1, 0x0a, .enum, .ro, .any, 0, .now, false⟩,
  ⟨0x0001, 1, 0x0b, .enum, .ro, .any, 0, .now, false⟩,
  ⟨0x0001, 1, 0x0c, .enum, .ro, .any, 0, .now, false⟩,
  ⟨0x0001, 1, 0x0d, .u8, .ro, .any, 8, .now, false⟩,
  ⟨0x0001, 1, 0x0e, .u8, .ro, .any, 0, .now, false⟩,
  ⟨0x0002, 1, 0x01, .hid, .rw, .any, 0, .now, false⟩,
  ⟨0x0002, 1, 0x02, .enum, .ro, .any, 0, .now, false⟩]

/-- Rows of indices 0x1000 to 0x10FF. -/
def objPage10 : List ObjRow := [
  ⟨0x1000, 1, 0x01, .u8, .rws, (.le 0 7), 0, .now, false⟩,
  ⟨0x1000, 1, 0x02, .u16, .ro, .any, 0, .now, false⟩,
  ⟨0x1000, 1, 0x03, .u8, .rws, (.le 1 7), 0, .now, false⟩,
  ⟨0x1000, 1, 0x04, .u16, .rws, (.le 1 4094), 1, .now, false⟩,
  ⟨0x1000, 1, 0x05, (.oct 16 16), .rws, .any, 0, .now, false⟩,
  ⟨0x1000, 1, 0x06, .u32, .ro, .any, 0, .now, false⟩,
  ⟨0x1000, 1, 0x07, .u32, .ro, .any, 0, .now, false⟩,
  ⟨0x1000, 1, 0x08, .u32, .ro, .any, 0, .now, false⟩,
  ⟨0x1000, 1, 0x09, .u32, .ro, .any, 0, .now, false⟩,
  ⟨0x1000, 1, 0x0a, .u32, .ro, .any, 0, .now, false⟩,
  ⟨0x1000, 1, 0x0b, .u32, .ro, .any, 0, .now, false⟩,
  ⟨0x1000, 1, 0x0c, .u32, .ro, .any, 0, .now, false⟩,
  ⟨0x1000, 1, 0x0d, .u32, .ro, .any, 0, .now, false⟩,
  ⟨0x1001, 1, 0x01, .u8, .cmd, .any, 0, .now, false⟩,
  ⟨0x1001, 1, 0x02, .u8, .ro, .any, 0, .now, false⟩,
  ⟨0x1001, 1, 0x03, .bool, .ro, .any, 0, .now, false⟩,
  ⟨0x1001, 1, 0x04, .u32, .ro, .any, 0, .now, false⟩,
  ⟨0x1001, 1, 0x05, .bool, .ro, .any, 0, .now, false⟩,
  ⟨0x1001, 1, 0x06, .u16, .ro, .any, 0, .now, false⟩,
  ⟨0x1001, 1, 0x07, .bool, .ro, .any, 0, .now, false⟩,
  ⟨0x1040, 64, 0x01, .u64, .rw, .any, 0, .now, false⟩,
  ⟨0x1040, 64, 0x02, .u8, .rw, (.le 6 16), 10, .now, false⟩,
  ⟨0x1040, 64, 0x03, .bool, .rw, .any, 0, .now, false⟩,
  ⟨0x1040, 64, 0x04, .u8, .rw, (.le 0 71), 0, .now, false⟩,
  ⟨0x1040, 64, 0x05, .u16, .rw, (.le 1 1024), 1, .now, false⟩,
  ⟨0x1040, 64, 0x06, .u16, .rw, (.le 0 10000), 0, .now, false⟩,
  ⟨0x1040, 64, 0x07, .u64, .ro, .any, 0, .now, false⟩,
  ⟨0x1040, 64, 0x08, .u64, .ro, .any, 0, .now, false⟩,
  ⟨0x1040, 64, 0x09, .u64, .ro, .any, 0, .now, false⟩,
  ⟨0x1040, 64, 0x0a, .u64, .ro, .any, 0, .now, false⟩,
  ⟨0x1040, 64, 0x0b, .u64, .ro, .any, 0, .now, false⟩,
  ⟨0x1040, 64, 0x0c, .u64, .ro, .any, 0, .now, false⟩]

/-- Rows of indices 0x1100 to 0x11FF. -/
def objPage11 : List ObjRow := [
  ⟨0x1100, 1, 0x01, .u32, .ro, .any, 0, .now, false⟩,
  ⟨0x1100, 1, 0x02, .u16, .rws, (.le 36000 60000), 38000, .now, false⟩,
  ⟨0x1100, 1, 0x03, .bool, .ro, .any, 0, .now, false⟩,
  ⟨0x1100, 1, 0x04, .enum, .ro, .any, 2, .now, false⟩,
  ⟨0x1100, 1, 0x05, .u16, .ro, .any, 0, .now, false⟩,
  ⟨0x1100, 1, 0x06, .i32, .ro, .any, 0, .now, false⟩,
  ⟨0x1100, 1, 0x07, .u32, .ro, .any, 0, .now, false⟩,
  ⟨0x1100, 1, 0x08, .u32, .ro, .any, 0, .now, false⟩,
  ⟨0x1100, 1, 0x09, .enum, .ro, .any, 0, .now, false⟩,
  ⟨0x1101, 1, 0x01, .u16, .ro, .any, 0, .now, true⟩,
  ⟨0x1101, 1, 0x02, .u16, .rws, .any, 0, .epoch, false⟩,
  ⟨0x1101, 1, 0x03, .u16, .ro, .any, 0, .now, false⟩,
  ⟨0x1101, 1, 0x04, .u16, .ro, .any, 0, .now, false⟩,
  ⟨0x1101, 1, 0x05, .u16, .ro, .any, 0, .now, false⟩,
  ⟨0x1101, 1, 0x06, .enum, .ro, .any, 0, .now, false⟩,
  ⟨0x1101, 1, 0x07, .u16, .rws, (.le 100 5000), 500, .now, false⟩,
  ⟨0x1101, 1, 0x08, .u8, .rws, (.le 1 20), 10, .epoch, false⟩,
  ⟨0x1101, 1, 0x09, .u32, .ro, .any, 0, .now, false⟩,
  ⟨0x1101, 1, 0x0a, .u32, .ro, .any, 0, .now, false⟩,
  ⟨0x1101, 1, 0x0b, .u32, .ro, .any, 0, .now, false⟩,
  ⟨0x1102, 1, 0x01, .hid, .rw, .any, 0, .now, false⟩,
  ⟨0x1102, 1, 0x02, .enum, .rw, (.mem [0, 1, 3, 4, 11]), 0, .epoch, false⟩,
  ⟨0x1102, 1, 0x03, .u16, .ro, .any, 0, .now, false⟩,
  ⟨0x1104, 1, 0x01, .u8, .cmd, .any, 0, .now, false⟩,
  ⟨0x1104, 1, 0x02, .u8, .rws, (.le 0 3), 1, .now, false⟩,
  ⟨0x1104, 1, 0x03, .u8, .ro, .any, 0, .now, false⟩,
  ⟨0x1104, 1, 0x04, .u32, .ro, .any, 0, .now, false⟩,
  ⟨0x1104, 1, 0x05, .u32, .ro, .any, 0, .now, false⟩,
  ⟨0x1104, 1, 0x06, .u16, .ro, .any, 0, .now, false⟩,
  ⟨0x1105, 1, 0x01, .u8, .w1c, (.le 0 127), 0, .now, false⟩,
  ⟨0x1105, 1, 0x02, .u8, .ro, .any, 0, .now, false⟩,
  ⟨0x1105, 1, 0x03, .u32, .ro, .any, 0, .now, false⟩,
  ⟨0x1105, 1, 0x04, (.oct 28 28), .ro, .any, 0, .now, false⟩,
  ⟨0x1106, 1, 0x01, .u8, .ro, .any, 0, .now, false⟩,
  ⟨0x1106, 1, 0x02, .u8, .wo, (.le 0 31), 0, .now, false⟩,
  ⟨0x1106, 1, 0x03, .u32, .ro, .any, 0, .now, false⟩,
  ⟨0x1110, 9, 0x01, .enum, .ro, .any, 0, .now, false⟩,
  ⟨0x1110, 9, 0x02, .hid, .ro, .any, 0, .now, false⟩,
  ⟨0x1110, 9, 0x03, .u32, .ro, .any, 0, .now, false⟩,
  ⟨0x1180, 1, 0x01, .u32, .ro, .any, 1, .now, false⟩]

/-- Rows of indices 0x1100 to 0x11FF. -/
def objPage11_1 : List ObjRow := [
  ⟨0x1180, 1, 0x02, .bool, .ro, .any, 0, .now, false⟩,
  ⟨0x1180, 1, 0x03, .enum, .cmd, .any, 0, .now, false⟩,
  ⟨0x1180, 1, 0x04, .enum, .rw, (.mem [4, 7, 8, 9, 11]), 0, .now, false⟩,
  ⟨0x1180, 1, 0x05, .enum, .rw, (.mem [4, 7, 8, 9, 11]), 0, .now, false⟩,
  ⟨0x1180, 1, 0x06, .u32, .rws, (.le 100 50000), 2000, .now, false⟩,
  ⟨0x1180, 1, 0x07, .u32, .rws, (.le 500 50000), 2000, .now, false⟩,
  ⟨0x1180, 1, 0x08, .u16, .rws, (.le 50 900), 200, .now, false⟩,
  ⟨0x1180, 1, 0x09, .enum, .rw, (.mem [0, 1]), 0, .now, false⟩,
  ⟨0x1180, 1, 0x0a, .enum, .ro, .any, 0, .now, false⟩,
  ⟨0x1180, 1, 0x0b, .u8, .ro, .any, 0, .now, false⟩,
  ⟨0x1180, 1, 0x0c, .hid, .ro, .any, 0, .now, false⟩,
  ⟨0x1180, 1, 0x0d, .u16, .ro, .any, 0, .now, false⟩,
  ⟨0x1181, 1, 0x01, .hid, .rw, .any, 0, .now, false⟩,
  ⟨0x1181, 1, 0x02, .enum, .ro, .any, 0, .now, false⟩,
  ⟨0x1181, 1, 0x03, .enum, .ro, .any, 5, .now, false⟩,
  ⟨0x1181, 1, 0x04, .enum, .ro, .any, 1, .now, false⟩,
  ⟨0x1182, 1, 0x01, .hid, .rw, .any, 0, .now, false⟩,
  ⟨0x1182, 1, 0x02, .u8, .cmd, .any, 0, .now, false⟩]

/-- Rows of indices 0x1200 to 0x12FF. -/
def objPage12 : List ObjRow := [
  ⟨0x1200, 1, 0x01, .enum, .ro, .any, 0, .now, false⟩,
  ⟨0x1200, 1, 0x02, .u32, .ro, .any, 0, .now, false⟩,
  ⟨0x1200, 1, 0x03, .bool, .rws, .any, 1, .now, false⟩,
  ⟨0x1200, 1, 0x04, .u32, .ro, .any, 0, .now, false⟩,
  ⟨0x1200, 1, 0x05, .u16, .ro, .any, 1000, .now, false⟩,
  ⟨0x1200, 1, 0x06, .u32, .ro, .any, 0, .now, false⟩,
  ⟨0x1200, 1, 0x07, .u8, .ro, .any, 0, .now, false⟩,
  ⟨0x1200, 1, 0x08, .u8, .ro, .any, 255, .now, false⟩,
  ⟨0x1210, 18, 0x01, .u32, .ro, .any, 0, .now, false⟩,
  ⟨0x1210, 18, 0x02, .enum, .ro, .any, 0, .now, false⟩,
  ⟨0x1210, 18, 0x03, .u32, .ro, .any, 0, .now, false⟩,
  ⟨0x1210, 18, 0x04, .u32, .ro, .any, 0, .now, false⟩,
  ⟨0x1210, 18, 0x05, .hid, .ro, .any, 0, .now, false⟩]

/-- Rows of indices 0x1300 to 0x13FF. -/
def objPage13 : List ObjRow := [
  ⟨0x1300, 1, 0x01, .enum, .ro, .any, 0, .now, false⟩,
  ⟨0x1300, 1, 0x02, .bool, .ro, .any, 0, .now, false⟩,
  ⟨0x1300, 1, 0x03, .enum, .rws, (.mem [0, 1, 2]), 1, .now, false⟩,
  ⟨0x1300, 1, 0x04, .enum, .ro, .any, 0, .now, false⟩,
  ⟨0x1300, 1, 0x05, .time80, .ro, .any, 0, .now, false⟩,
  ⟨0x1300, 1, 0x06, .time80, .rw, .any, 0, .now, false⟩,
  ⟨0x1300, 1, 0x07, .i32, .rw, .any, 0, .now, false⟩,
  ⟨0x1300, 1, 0x08, .u8, .cmd, .any, 0, .now, false⟩,
  ⟨0x1300, 1, 0x09, .i32, .ro, .any, 0, .now, false⟩,
  ⟨0x1300, 1, 0x0a, .u16, .rws, (.le 1 500), 100, .now, false⟩,
  ⟨0x1300, 1, 0x0b, .u32, .rws, (.le 1000 1000000000), 10000, .now, false⟩,
  ⟨0x1300, 1, 0x0c, .u32, .rws, (.le 10 100000), 100, .now, false⟩,
  ⟨0x1300, 1, 0x0d, .u32, .ro, .any, 0, .now, false⟩,
  ⟨0x1300, 1, 0x0e, .u16, .rws, (.le 1 10000), 50, .now, false⟩,
  ⟨0x1300, 1, 0x0f, .u32, .ro, .any, 0, .now, false⟩,
  ⟨0x1300, 1, 0x10, .i32, .ro, .any, 0, .now, false⟩,
  ⟨0x1300, 1, 0x11, .i32, .ro, .any, 0, .now, false⟩,
  ⟨0x1301, 1, 0x01, .enum, .rws, (.mem [0, 1, 2, 3]), 0, .epoch, false⟩,
  ⟨0x1301, 1, 0x02, .enum, .rws, (.le 0 2), 0, .epoch, false⟩,
  ⟨0x1301, 1, 0x03, .u8, .rws, (.le 0 127), 0, .now, false⟩,
  ⟨0x1301, 1, 0x04, .u8, .rws, .any, 128, .now, false⟩,
  ⟨0x1301, 1, 0x05, .u8, .rws, .any, 128, .now, false⟩,
  ⟨0x1301, 1, 0x06, .u8, .rws, .any, 248, .now, false⟩,
  ⟨0x1301, 1, 0x07, .bool, .rws, .any, 0, .now, false⟩,
  ⟨0x1301, 1, 0x08, .i32, .rws, (.si (-7) (1)), 4294967293, .now, false⟩,
  ⟨0x1301, 1, 0x09, .i32, .rws, (.si (-3) (4)), 1, .now, false⟩,
  ⟨0x1301, 1, 0x0a, .i32, .rws, (.si (-7) (5)), 4294967293, .now, false⟩,
  ⟨0x1301, 1, 0x0b, .u8, .rws, (.le 2 10), 3, .now, false⟩,
  ⟨0x1301, 1, 0x0c, .u16, .rws, .any, 0, .now, false⟩,
  ⟨0x1301, 1, 0x0d, (.oct 16 16), .rws, .any, 0, .now, false⟩,
  ⟨0x1301, 1, 0x0e, (.oct 8 8), .rws, .any, 0, .now, false⟩,
  ⟨0x1301, 1, 0x0f, .u8, .ro, .any, 255, .now, false⟩,
  ⟨0x1301, 1, 0x10, .i32, .ro, .any, 0, .now, false⟩,
  ⟨0x1301, 1, 0x11, .u32, .ro, .any, 0, .now, false⟩,
  ⟨0x1301, 1, 0x12, (.oct 8 8), .ro, .any, 0, .now, false⟩,
  ⟨0x1301, 1, 0x13, .u16, .ro, .any, 0, .now, false⟩,
  ⟨0x1301, 1, 0x14, .u64, .ro, .any, 0, .now, false⟩,
  ⟨0x1308, 8, 0x01, .bool, .rws, .any, 1, .now, false⟩,
  ⟨0x1308, 8, 0x02, .enum, .ro, .any, 1, .now, false⟩,
  ⟨0x1308, 8, 0x03, .enum, .rws, (.mem [1, 2]), 1, .now, false⟩]

/-- Rows of indices 0x1300 to 0x13FF. -/
def objPage13_1 : List ObjRow := [
  ⟨0x1308, 8, 0x04, .i32, .rws, .any, 0, .now, false⟩,
  ⟨0x1308, 8, 0x05, .u32, .ro, .any, 0, .now, false⟩,
  ⟨0x1308, 8, 0x06, .u64, .ro, .any, 0, .now, false⟩,
  ⟨0x1308, 8, 0x07, .u64, .ro, .any, 0, .now, false⟩,
  ⟨0x1308, 8, 0x08, .u64, .ro, .any, 0, .now, false⟩,
  ⟨0x1308, 8, 0x09, .u64, .ro, .any, 0, .now, false⟩,
  ⟨0x1308, 8, 0x0a, .bool, .ro, .any, 0, .now, false⟩,
  ⟨0x1310, 1, 0x01, .u8, .rws, .any, 255, .now, false⟩,
  ⟨0x1310, 1, 0x02, .bool, .rws, .any, 0, .now, false⟩,
  ⟨0x1310, 1, 0x03, .enum, .ro, .any, 0, .now, false⟩,
  ⟨0x1310, 1, 0x04, .u8, .rws, .any, 255, .now, false⟩,
  ⟨0x1310, 1, 0x05, .u8, .rws, (.le 0 31), 5, .now, false⟩,
  ⟨0x1310, 1, 0x06, .bool, .rws, .any, 0, .now, false⟩,
  ⟨0x1310, 1, 0x07, .time80, .ro, .any, 0, .now, false⟩,
  ⟨0x1310, 1, 0x08, .i32, .ro, .any, 0, .now, false⟩,
  ⟨0x1310, 1, 0x09, .u64, .rw, (.le 0 281474976710655), 0, .now, false⟩,
  ⟨0x1310, 1, 0x0a, .u32, .ro, .any, 0, .now, false⟩,
  ⟨0x1310, 1, 0x0b, .enum, .rws, (.mem [0, 1, 2]), 1, .now, false⟩,
  ⟨0x1310, 1, 0x0c, .i32, .rws, (.si (-500000000) (499999999)), 0, .now, false⟩,
  ⟨0x1310, 1, 0x0d, .u32, .rws, .any, 100000, .now, false⟩,
  ⟨0x1320, 32, 0x01, .enum, .rw, (.mem [0, 1, 2, 3]), 0, .now, false⟩,
  ⟨0x1320, 32, 0x02, .u8, .rw, (.le 0 47), 0, .now, false⟩,
  ⟨0x1320, 32, 0x03, .time80, .rw, .any, 0, .now, false⟩,
  ⟨0x1320, 32, 0x04, .u64, .rw, .any, 0, .now, false⟩,
  ⟨0x1320, 32, 0x05, .u32, .rw, .any, 0, .now, false⟩,
  ⟨0x1320, 32, 0x06, .u32, .rw, .any, 0, .now, false⟩,
  ⟨0x1320, 32, 0x07, .u8, .rw, (.le 0 15), 0, .now, false⟩,
  ⟨0x1320, 32, 0x08, .u8, .cmd, .any, 0, .now, false⟩,
  ⟨0x1320, 32, 0x09, .enum, .ro, .any, 0, .now, false⟩,
  ⟨0x1320, 32, 0x0a, .u64, .ro, .any, 0, .now, false⟩,
  ⟨0x1320, 32, 0x0b, .u32, .ro, .any, 0, .now, false⟩,
  ⟨0x1320, 32, 0x0c, .u8, .ro, .any, 0, .now, false⟩,
  ⟨0x1320, 32, 0x0d, .time80, .ro, .any, 0, .now, false⟩,
  ⟨0x1320, 32, 0x0e, .u32, .ro, .any, 0, .now, false⟩]

/-- Rows of indices 0x1400 to 0x14FF. -/
def objPage14 : List ObjRow := [
  ⟨0x1400, 1, 0x01, .bool, .ro, .any, 0, .now, false⟩,
  ⟨0x1400, 1, 0x02, .bool, .w1c, .any, 1, .now, false⟩,
  ⟨0x1400, 1, 0x03, .enum, .ro, .any, 0, .now, false⟩,
  ⟨0x1400, 1, 0x04, .u16, .ro, .any, 0, .now, false⟩,
  ⟨0x1400, 1, 0x05, .u16, .rw, (.le 1900 3000), 2200, .now, false⟩,
  ⟨0x1400, 1, 0x06, .bool, .ro, .any, 0, .now, false⟩,
  ⟨0x1400, 1, 0x07, .u32, .ro, .any, 0, .now, false⟩,
  ⟨0x1400, 1, 0x08, .u8, .cmd, .any, 0, .now, false⟩,
  ⟨0x1401, 1, 0x01, .u64, .rw, (.le 0 281474976710655), 0, .now, false⟩,
  ⟨0x1401, 1, 0x02, .u16, .ro, .any, 0, .now, false⟩,
  ⟨0x1401, 1, 0x03, .u64, .ro, .any, 0, .now, false⟩,
  ⟨0x1401, 1, 0x04, .time80, .ro, .any, 0, .now, false⟩,
  ⟨0x1401, 1, 0x05, (.oct 8 8), .ro, .any, 0, .now, false⟩,
  ⟨0x1401, 1, 0x06, .i32, .rw, (.si (0) (255)), 37, .now, false⟩,
  ⟨0x1401, 1, 0x07, .bool, .rw, .any, 1, .now, false⟩,
  ⟨0x1401, 1, 0x08, .u32, .ro, .any, 0, .now, false⟩,
  ⟨0x1402, 1, 0x01, .i32, .rw, (.si (-30000) (30000)), 0, .now, false⟩,
  ⟨0x1402, 1, 0x02, .bool, .rw, .any, 1, .now, false⟩,
  ⟨0x1402, 1, 0x03, .bool, .ro, .any, 0, .now, false⟩,
  ⟨0x1404, 2, 0x01, .u64, .rw, (.le 0 281474976710655), 0, .now, false⟩,
  ⟨0x1404, 2, 0x02, .u8, .rw, (.le 0 3), 0, .now, false⟩,
  ⟨0x1404, 2, 0x03, .u8, .cmd, .any, 0, .now, false⟩,
  ⟨0x1404, 2, 0x04, .enum, .ro, .any, 0, .now, false⟩,
  ⟨0x1404, 2, 0x05, .u32, .ro, .any, 0, .now, false⟩,
  ⟨0x1404, 2, 0x06, .u32, .ro, .any, 0, .now, false⟩,
  ⟨0x1408, 1, 0x01, .enum, .ro, .any, 0, .now, false⟩,
  ⟨0x1408, 1, 0x02, .u8, .cmd, .any, 0, .now, false⟩,
  ⟨0x1408, 1, 0x03, .u16, .rw, (.le 10 60000), 1000, .now, false⟩,
  ⟨0x1408, 1, 0x04, .u32, .ro, .any, 0, .now, false⟩,
  ⟨0x1410, 1, 0x01, (.oct 32 32), .rw, .any, 0, .now, false⟩]

/-- Rows of indices 0x2000 to 0x20FF. -/
def objPage20 : List ObjRow := [
  ⟨0x2000, 1, 0x01, .enum, .rw, (.mem [0, 1, 2, 3]), 3, .epoch, false⟩,
  ⟨0x2000, 1, 0x02, .enum, .ro, .any, 1, .now, false⟩,
  ⟨0x2000, 1, 0x03, .bool, .rw, .any, 0, .now, false⟩,
  ⟨0x2000, 1, 0x04, .u8, .ro, .any, 0, .now, false⟩,
  ⟨0x2000, 1, 0x05, .u32, .ro, .any, 0, .now, false⟩,
  ⟨0x2000, 1, 0x06, .bool, .ro, .any, 0, .now, false⟩,
  ⟨0x2001, 1, 0x01, .u8, .rw, .any, 0, .epoch, false⟩,
  ⟨0x2001, 1, 0x02, .enum, .rw, (.le 0 4), 0, .epoch, false⟩,
  ⟨0x2001, 1, 0x03, .u16, .rw, .any, 0, .epoch, false⟩,
  ⟨0x2001, 1, 0x04, .bool, .ro, .any, 0, .now, false⟩,
  ⟨0x2002, 1, 0x01, .u16, .rw, .any, 0, .epoch, false⟩,
  ⟨0x2002, 1, 0x02, .u16, .rw, (.le 100 1600), 800, .now, false⟩,
  ⟨0x2002, 1, 0x03, .u16, .rw, (.le 0 800), 200, .now, false⟩,
  ⟨0x2002, 1, 0x04, .u16, .rw, (.le 50 400), 100, .now, false⟩,
  ⟨0x2002, 1, 0x05, .u8, .rw, (.le 0 7), 0, .epoch, false⟩,
  ⟨0x2002, 1, 0x06, .i32, .rw, (.si (-50) (-10)), 4294967266, .now, false⟩,
  ⟨0x2003, 1, 0x01, .u64, .ro, .any, 0, .now, false⟩,
  ⟨0x2003, 1, 0x02, .u64, .ro, .any, 0, .now, false⟩,
  ⟨0x2003, 1, 0x03, .u64, .ro, .any, 0, .now, false⟩,
  ⟨0x2003, 1, 0x04, .u64, .ro, .any, 0, .now, false⟩,
  ⟨0x2003, 1, 0x05, .u64, .ro, .any, 0, .now, false⟩,
  ⟨0x2003, 1, 0x06, .u64, .ro, .any, 0, .now, false⟩,
  ⟨0x2003, 1, 0x07, .u64, .ro, .any, 0, .now, false⟩,
  ⟨0x2003, 1, 0x08, .u64, .ro, .any, 0, .now, false⟩,
  ⟨0x2003, 1, 0x09, .u64, .ro, .any, 0, .now, false⟩,
  ⟨0x2003, 1, 0x0a, .u64, .ro, .any, 0, .now, false⟩,
  ⟨0x2003, 1, 0x0b, .u32, .ro, .any, 0, .now, false⟩,
  ⟨0x2003, 1, 0x0c, .u16, .ro, .any, 0, .now, false⟩,
  ⟨0x2004, 1, 0x01, .enum, .rw, (.le 1 7), 3, .now, false⟩,
  ⟨0x2004, 1, 0x02, .u8, .rw, .any, 255, .now, false⟩,
  ⟨0x2004, 1, 0x03, .u8, .cmd, .any, 0, .now, false⟩,
  ⟨0x2004, 1, 0x04, .u8, .ro, .any, 0, .now, false⟩,
  ⟨0x2004, 1, 0x05, .enum, .ro, .any, 0, .now, false⟩,
  ⟨0x2004, 1, 0x06, .u16, .rws, (.le 50 2000), 200, .now, false⟩,
  ⟨0x2004, 1, 0x07, .u16, .rws, (.le 1 600), 10, .now, false⟩,
  ⟨0x2004, 1, 0x08, .u8, .rws, (.le 2 30), 8, .now, false⟩,
  ⟨0x2004, 1, 0x09, .u32, .ro, .any, 0, .now, false⟩,
  ⟨0x2008, 1, 0x01, .u16, .rw, .any, 0, .now, true⟩,
  ⟨0x2008, 1, 0x02, .u16, .rw, .any, 0, .now, true⟩,
  ⟨0x2008, 1, 0x03, .u16, .rw, .any, 0, .now, true⟩]

/-- Rows of indices 0x2000 to 0x20FF. -/
def objPage20_1 : List ObjRow := [
  ⟨0x2008, 1, 0x04, .u16, .rw, .any, 0, .now, true⟩,
  ⟨0x2008, 1, 0x05, (.oct 32 32), .rw, .any, 0, .now, true⟩,
  ⟨0x2008, 1, 0x06, (.oct 32 32), .rw, .any, 0, .now, true⟩,
  ⟨0x2008, 1, 0x07, .bool, .rw, .any, 0, .now, true⟩,
  ⟨0x2009, 1, 0x01, .u16, .rws, .any, 0, .now, false⟩,
  ⟨0x2009, 1, 0x02, .u16, .ro, .any, 0, .now, false⟩,
  ⟨0x2009, 1, 0x03, .i32, .ro, .any, 0, .now, false⟩,
  ⟨0x2009, 1, 0x04, .u8, .rws, (.le 85 120), 105, .now, false⟩,
  ⟨0x2009, 1, 0x05, .u8, .ro, .any, 0, .now, false⟩,
  ⟨0x2009, 1, 0x06, .u8, .ro, .any, 0, .now, false⟩,
  ⟨0x2009, 1, 0x07, .u32, .ro, .any, 0, .now, false⟩,
  ⟨0x2010, 16, 0x01, .u16, .rws, .any, 0, .now, false⟩,
  ⟨0x2010, 16, 0x02, .enum, .ro, .any, 0, .now, false⟩,
  ⟨0x2010, 16, 0x03, .u16, .ro, .any, 0, .now, false⟩,
  ⟨0x2010, 16, 0x04, .i32, .ro, .any, 0, .now, false⟩,
  ⟨0x2010, 16, 0x05, .u32, .ro, .any, 0, .now, false⟩,
  ⟨0x2010, 16, 0x06, .u32, .ro, .any, 0, .now, false⟩,
  ⟨0x2040, 16, 0x01, .u8, .rw, .any, 0, .now, false⟩,
  ⟨0x2040, 16, 0x02, .u8, .rw, .any, 0, .now, false⟩,
  ⟨0x2040, 16, 0x03, .u16, .rw, .any, 0, .now, false⟩,
  ⟨0x2040, 16, 0x04, .time80, .rw, .any, 0, .now, false⟩,
  ⟨0x2040, 16, 0x05, .enum, .ro, .any, 0, .now, false⟩,
  ⟨0x2040, 16, 0x06, .u8, .cmd, .any, 0, .now, false⟩,
  ⟨0x2040, 16, 0x07, .u32, .ro, .any, 0, .now, false⟩]

/-- Rows of indices 0x3000 to 0x30FF. -/
def objPage30 : List ObjRow := [
  ⟨0x3000, 1, 0x01, .u16, .ro, .any, 0, .now, false⟩,
  ⟨0x3000, 1, 0x02, .u16, .ro, .any, 0, .now, false⟩,
  ⟨0x3000, 1, 0x03, .u8, .rw, (.le 0 31), 0, .now, false⟩,
  ⟨0x3000, 1, 0x04, .u8, .rw, (.le 0 31), 1, .now, false⟩,
  ⟨0x3000, 1, 0x05, .bool, .rw, .any, 1, .now, false⟩,
  ⟨0x3000, 1, 0x06, .u16, .rws, (.mem [64, 256, 512, 1024]), 1024, .now, false⟩,
  ⟨0x3000, 1, 0x07, .u16, .rws, (.le 1 100), 10, .now, false⟩,
  ⟨0x3000, 1, 0x08, .u32, .rws, (.le 4096 131072), 65536, .epoch, false⟩,
  ⟨0x3000, 1, 0x09, .u32, .ro, .any, 0, .now, false⟩,
  ⟨0x3000, 1, 0x0a, .u8, .rws, (.le 1 31), 10, .now, false⟩,
  ⟨0x3000, 1, 0x0b, .enum, .rws, (.mem [0, 1]), 1, .now, false⟩,
  ⟨0x3000, 1, 0x0c, .u16, .ro, .any, 0, .now, false⟩,
  ⟨0x3001, 3, 0x01, .u8, .rw, (.le 0 16), 0, .epoch, false⟩,
  ⟨0x3001, 3, 0x02, .u16, .rws, (.le 20 1000), 100, .epoch, false⟩,
  ⟨0x3001, 3, 0x03, .u8, .rws, (.le 1 255), 1, .epoch, false⟩,
  ⟨0x3001, 3, 0x04, .u16, .rws, .any, 0, .epoch, false⟩,
  ⟨0x3001, 3, 0x05, .u64, .ro, .any, 0, .now, false⟩,
  ⟨0x3001, 3, 0x06, .u8, .rws, (.le 1 50), 10, .now, false⟩,
  ⟨0x3001, 3, 0x07, .bool, .rws, .any, 1, .now, false⟩,
  ⟨0x3010, 48, 0x01, (.oct 6 6), .rw, .any, 0, .epoch, false⟩,
  ⟨0x3010, 48, 0x02, .bool, .rw, .any, 0, .epoch, false⟩,
  ⟨0x3010, 48, 0x03, (.oct 12 1024), .rw, .any, 0, .now, false⟩,
  ⟨0x3010, 48, 0x04, (.oct 12 1024), .rw, .any, 0, .now, false⟩,
  ⟨0x3010, 48, 0x05, .u16, .ro, .any, 0, .now, false⟩,
  ⟨0x3010, 48, 0x06, .u64, .ro, .any, 0, .now, false⟩,
  ⟨0x3010, 48, 0x07, .u32, .ro, .any, 0, .now, false⟩,
  ⟨0x3040, 3, 0x01, .u64, .ro, .any, 0, .now, false⟩,
  ⟨0x3040, 3, 0x02, .u64, .ro, .any, 0, .now, false⟩,
  ⟨0x3040, 3, 0x03, .u64, .ro, .any, 0, .now, false⟩,
  ⟨0x3040, 3, 0x04, .u64, .ro, .any, 0, .now, false⟩,
  ⟨0x3040, 3, 0x05, .u64, .ro, .any, 0, .now, false⟩,
  ⟨0x3040, 3, 0x06, .u64, .ro, .any, 0, .now, false⟩,
  ⟨0x3040, 3, 0x07, .u64, .ro, .any, 0, .now, false⟩,
  ⟨0x3040, 3, 0x08, .u64, .ro, .any, 0, .now, false⟩,
  ⟨0x3040, 3, 0x09, .u64, .ro, .any, 0, .now, false⟩,
  ⟨0x3040, 3, 0x0a, .u64, .ro, .any, 0, .now, false⟩,
  ⟨0x3040, 3, 0x0b, .u64, .ro, .any, 0, .now, false⟩,
  ⟨0x3040, 3, 0x0c, .u32, .ro, .any, 0, .now, false⟩,
  ⟨0x3040, 3, 0x0d, .u32, .ro, .any, 0, .now, false⟩,
  ⟨0x3040, 3, 0x0e, .u64, .ro, .any, 0, .now, false⟩]

/-- Rows of indices 0x3000 to 0x30FF. -/
def objPage30_1 : List ObjRow := [
  ⟨0x3040, 3, 0x0f, .u64, .ro, .any, 0, .now, false⟩,
  ⟨0x3040, 3, 0x10, .u64, .ro, .any, 0, .now, false⟩,
  ⟨0x3040, 3, 0x11, .u64, .ro, .any, 0, .now, false⟩,
  ⟨0x3040, 3, 0x12, .u64, .ro, .any, 0, .now, false⟩,
  ⟨0x3040, 3, 0x13, .u32, .ro, .any, 0, .now, false⟩,
  ⟨0x3040, 3, 0x14, .u32, .ro, .any, 0, .now, false⟩,
  ⟨0x3048, 3, 0x01, (.oct 0 192), .rws, .any, 0, .now, false⟩,
  ⟨0x3048, 3, 0x02, .u8, .ro, .any, 0, .now, false⟩,
  ⟨0x3048, 3, 0x03, .u64, .ro, .any, 0, .now, false⟩]

/-- Rows of indices 0x3100 to 0x31FF. -/
def objPage31 : List ObjRow := [
  ⟨0x3100, 1, 0x01, .u16, .rw, .any, 0, .now, false⟩,
  ⟨0x3100, 1, 0x02, .u8, .cmd, .any, 0, .now, false⟩,
  ⟨0x3100, 1, 0x03, .enum, .ro, .any, 0, .now, false⟩,
  ⟨0x3100, 1, 0x04, (.oct 6 6), .rw, .any, 0, .now, false⟩,
  ⟨0x3100, 1, 0x05, .u8, .rw, (.le 0 15), 0, .now, false⟩,
  ⟨0x3100, 1, 0x06, .u16, .rw, (.le 1 2007), 0, .now, false⟩,
  ⟨0x3100, 1, 0x07, .u8, .rw, (.le 0 7), 0, .now, false⟩,
  ⟨0x3100, 1, 0x08, (.oct 18 18), .rw, .any, 0, .now, false⟩,
  ⟨0x3100, 1, 0x09, .u8, .rw, (.le 0 7), 0, .now, false⟩,
  ⟨0x3100, 1, 0x0a, .u16, .rw, (.le 0 255), 0, .now, false⟩,
  ⟨0x3100, 1, 0x0b, .u32, .rw, (.le 0 16777215), 16777215, .now, false⟩,
  ⟨0x3100, 1, 0x0c, .u8, .ro, .any, 0, .now, false⟩,
  ⟨0x3100, 1, 0x0d, (.oct 16 16), .ro, .any, 0, .now, false⟩,
  ⟨0x3101, 1, 0x01, .u64, .ro, .any, 0, .now, false⟩,
  ⟨0x3101, 1, 0x02, .u64, .ro, .any, 0, .now, false⟩,
  ⟨0x3101, 1, 0x03, .u64, .ro, .any, 0, .now, false⟩,
  ⟨0x3101, 1, 0x04, .u64, .ro, .any, 0, .now, false⟩,
  ⟨0x3101, 1, 0x05, .u64, .ro, .any, 0, .now, false⟩,
  ⟨0x3101, 1, 0x06, .u64, .ro, .any, 0, .now, false⟩,
  ⟨0x3101, 1, 0x07, .u64, .ro, .any, 0, .now, false⟩,
  ⟨0x3101, 1, 0x08, .time80, .ro, .any, 0, .now, false⟩,
  ⟨0x3101, 1, 0x09, .i32, .ro, .any, 0, .now, false⟩,
  ⟨0x3110, 1, 0x01, .enum, .rws, (.mem [0, 1, 2]), 2, .now, false⟩,
  ⟨0x3110, 1, 0x02, .u16, .rws, (.le 4 65535), 20, .now, false⟩,
  ⟨0x3110, 1, 0x03, .u16, .rws, (.le 256 16384), 4096, .now, false⟩,
  ⟨0x3110, 1, 0x04, .u8, .rws, (.le 5 80), 40, .now, false⟩,
  ⟨0x3110, 1, 0x05, .u16, .rws, (.le 16 1000), 64, .now, false⟩,
  ⟨0x3110, 1, 0x06, .u8, .rws, (.le 1 5), 2, .now, false⟩,
  ⟨0x3110, 1, 0x07, .u16, .rws, (.le 50 5000), 500, .now, false⟩,
  ⟨0x3110, 1, 0x08, .u16, .rws, (.le 10 500), 200, .now, false⟩,
  ⟨0x3110, 1, 0x09, .u16, .ro, .any, 0, .now, false⟩,
  ⟨0x3110, 1, 0x0a, .u32, .ro, .any, 0, .now, false⟩,
  ⟨0x3111, 1, 0x01, .u16, .rw, .any, 0, .now, false⟩,
  ⟨0x3111, 1, 0x02, .u16, .ro, .any, 65535, .now, false⟩,
  ⟨0x3111, 1, 0x03, .u8, .ro, .any, 0, .now, false⟩,
  ⟨0x3111, 1, 0x04, .u8, .ro, .any, 0, .now, false⟩,
  ⟨0x3111, 1, 0x05, .u32, .ro, .any, 0, .now, false⟩,
  ⟨0x3111, 1, 0x06, .u16, .ro, .any, 0, .now, false⟩,
  ⟨0x3111, 1, 0x07, .i32, .ro, .any, 0, .now, false⟩,
  ⟨0x3111, 1, 0x08, .i32, .ro, .any, 0, .now, false⟩]

/-- Rows of indices 0x3100 to 0x31FF. -/
def objPage31_1 : List ObjRow := [
  ⟨0x3111, 1, 0x09, .i32, .ro, .any, 0, .now, false⟩,
  ⟨0x3111, 1, 0x0a, .u8, .cmd, .any, 0, .now, false⟩,
  ⟨0x3120, 24, 0x01, .bool, .rw, .any, 0, .epoch, false⟩,
  ⟨0x3120, 24, 0x02, .u16, .rw, (.le 4 65535), 100, .epoch, false⟩,
  ⟨0x3120, 24, 0x03, .u16, .rw, (.le 256 16384), 2048, .epoch, false⟩,
  ⟨0x3120, 24, 0x04, .u16, .rw, .any, 0, .epoch, false⟩,
  ⟨0x3120, 24, 0x05, .u16, .ro, .any, 0, .now, false⟩,
  ⟨0x3180, 1, 0x01, .bool, .rw, .any, 0, .epoch, false⟩,
  ⟨0x3180, 1, 0x02, (.oct 6 6), .rw, .any, 0, .now, false⟩,
  ⟨0x3180, 1, 0x03, .u8, .rw, (.le 0 7), 0, .epoch, false⟩,
  ⟨0x3180, 1, 0x04, (.oct 18 18), .rw, .any, 0, .now, false⟩,
  ⟨0x3180, 1, 0x05, (.oct 18 18), .rw, .any, 0, .now, false⟩,
  ⟨0x3180, 1, 0x06, .u8, .ro, .any, 0, .now, false⟩,
  ⟨0x3180, 1, 0x07, .enum, .ro, .any, 0, .now, false⟩,
  ⟨0x3180, 1, 0x08, .u8, .rws, (.le 1 16), 3, .now, false⟩,
  ⟨0x3180, 1, 0x09, .u32, .ro, .any, 0, .now, false⟩,
  ⟨0x3180, 1, 0x0a, .u64, .ro, .any, 0, .now, false⟩,
  ⟨0x3180, 1, 0x0b, .u16, .rw, .any, 65535, .epoch, false⟩]

/-- Rows of indices 0x3800 to 0x38FF. -/
def objPage38 : List ObjRow := [
  ⟨0x3800, 1, 0x01, .u64, .ro, .any, 0, .now, false⟩,
  ⟨0x3800, 1, 0x02, .u16, .ro, .any, 40, .now, false⟩,
  ⟨0x3800, 1, 0x03, .i32, .ro, .any, 0, .now, false⟩,
  ⟨0x3800, 1, 0x04, .enum, .rws, (.mem [0, 1]), 0, .now, false⟩,
  ⟨0x3800, 1, 0x05, .i32, .rws, (.si (-500000) (499999)), 0, .now, false⟩,
  ⟨0x3800, 1, 0x06, .u16, .rws, (.le 1 50), 50, .now, false⟩,
  ⟨0x3800, 1, 0x07, .u16, .rws, (.le 1 50), 5, .now, false⟩,
  ⟨0x3800, 1, 0x08, .u16, .rws, (.le 10 60000), 1000, .now, false⟩,
  ⟨0x3800, 1, 0x09, .enum, .ro, .any, 0, .now, false⟩,
  ⟨0x3800, 1, 0x0a, .i32, .ro, .any, 0, .now, false⟩,
  ⟨0x3800, 1, 0x0b, .u32, .ro, .any, 0, .now, false⟩,
  ⟨0x3800, 1, 0x0c, .u32, .ro, .any, 0, .now, false⟩,
  ⟨0x3800, 1, 0x0d, .u32, .ro, .any, 0, .now, false⟩,
  ⟨0x3801, 3, 0x01, .bool, .rw, .any, 1, .epoch, false⟩,
  ⟨0x3801, 3, 0x02, .bool, .rws, .any, 1, .now, false⟩,
  ⟨0x3801, 3, 0x03, .bool, .rws, .any, 1, .now, false⟩,
  ⟨0x3801, 3, 0x04, .u8, .rws, (.le 1 16), 0, .now, false⟩,
  ⟨0x3801, 3, 0x05, .u8, .rws, (.le 1 4), 2, .now, false⟩,
  ⟨0x3801, 3, 0x06, .u8, .rws, (.le 1 8), 4, .now, false⟩,
  ⟨0x3801, 3, 0x07, .u8, .rws, (.le 2 64), 16, .now, false⟩,
  ⟨0x3801, 3, 0x08, .enum, .rws, (.mem [0, 1, 2, 3]), 1, .now, false⟩,
  ⟨0x3801, 3, 0x09, .u16, .rws, (.le 100 900), 500, .now, false⟩,
  ⟨0x3801, 3, 0x0a, .u16, .rws, (.le 0 1000), 1000, .now, false⟩,
  ⟨0x3801, 3, 0x0b, .u16, .rws, (.le 16 200), 50, .now, false⟩,
  ⟨0x3801, 3, 0x0c, .u16, .rws, (.le 0 500), 100, .now, false⟩,
  ⟨0x3801, 3, 0x0d, .u8, .rws, (.le 0 90), 50, .now, false⟩,
  ⟨0x3801, 3, 0x0e, .i32, .rws, (.si (-90) (-20)), 4294967236, .now, false⟩,
  ⟨0x3801, 3, 0x0f, .bool, .rws, .any, 0, .now, false⟩,
  ⟨0x3801, 3, 0x10, .enum, .rws, (.le 0 2), 2, .epoch, false⟩,
  ⟨0x3801, 3, 0x11, .u8, .rws, (.le 1 50), 10, .now, false⟩,
  ⟨0x3801, 3, 0x12, (.oct 16 16), .rws, .any, 0, .now, false⟩,
  ⟨0x3804, 1, 0x01, .u16, .rws, (.le 2 1000), 20, .now, false⟩,
  ⟨0x3804, 1, 0x02, .u16, .rws, (.le 0 2000), 30, .now, false⟩,
  ⟨0x3804, 1, 0x03, .u8, .rws, .any, 77, .now, false⟩,
  ⟨0x3804, 1, 0x04, .u8, .rws, (.le 1 16), 8, .now, false⟩,
  ⟨0x3804, 1, 0x05, .u16, .rws, (.le 50 1000), 200, .now, false⟩,
  ⟨0x3804, 1, 0x06, .u32, .rws, (.le 1500 1048576), 16384, .now, false⟩,
  ⟨0x3804, 1, 0x07, .u16, .rws, (.le 1 1000), 10, .now, false⟩,
  ⟨0x3804, 1, 0x08, .u8, .rws, (.le 1 64), 8, .now, false⟩,
  ⟨0x3808, 3, 0x01, .u64, .ro, .any, 0, .now, false⟩]

/-- Rows of indices 0x3800 to 0x38FF. -/
def objPage38_1 : List ObjRow := [
  ⟨0x3808, 3, 0x02, .u64, .ro, .any, 0, .now, false⟩,
  ⟨0x3808, 3, 0x03, .u64, .ro, .any, 0, .now, false⟩,
  ⟨0x3808, 3, 0x04, .u64, .ro, .any, 0, .now, false⟩,
  ⟨0x3808, 3, 0x05, .u64, .ro, .any, 0, .now, false⟩,
  ⟨0x3808, 3, 0x06, .u64, .ro, .any, 0, .now, false⟩,
  ⟨0x3808, 3, 0x07, .u64, .ro, .any, 0, .now, false⟩,
  ⟨0x3808, 3, 0x08, .u64, .ro, .any, 0, .now, false⟩,
  ⟨0x3808, 3, 0x09, .u64, .ro, .any, 0, .now, false⟩,
  ⟨0x3808, 3, 0x0a, .u64, .ro, .any, 0, .now, false⟩,
  ⟨0x3808, 3, 0x0b, .u64, .ro, .any, 0, .now, false⟩,
  ⟨0x3808, 3, 0x0c, .u64, .ro, .any, 0, .now, false⟩,
  ⟨0x3808, 3, 0x0d, .u64, .ro, .any, 0, .now, false⟩,
  ⟨0x3808, 3, 0x0e, .u64, .ro, .any, 0, .now, false⟩,
  ⟨0x3808, 3, 0x0f, .u64, .ro, .any, 0, .now, false⟩,
  ⟨0x3808, 3, 0x10, .u64, .ro, .any, 0, .now, false⟩,
  ⟨0x3808, 3, 0x11, .u64, .ro, .any, 0, .now, false⟩,
  ⟨0x3808, 3, 0x12, .u64, .ro, .any, 0, .now, false⟩,
  ⟨0x3808, 3, 0x13, .u64, .ro, .any, 0, .now, false⟩,
  ⟨0x3808, 3, 0x14, .u64, .ro, .any, 0, .now, false⟩,
  ⟨0x3810, 1, 0x01, .u16, .rw, .any, 0, .now, false⟩,
  ⟨0x3810, 1, 0x02, .u8, .ro, .any, 4, .now, false⟩,
  ⟨0x3810, 1, 0x03, .u8, .ro, .any, 4, .now, false⟩,
  ⟨0x3810, 1, 0x04, .u8, .ro, .any, 4, .now, false⟩,
  ⟨0x3810, 1, 0x05, .u16, .ro, .any, 65535, .now, false⟩,
  ⟨0x3810, 1, 0x06, .u16, .ro, .any, 65535, .now, false⟩,
  ⟨0x3810, 1, 0x07, .u16, .ro, .any, 65535, .now, false⟩,
  ⟨0x3810, 1, 0x08, .i32, .ro, .any, 0, .now, false⟩,
  ⟨0x3810, 1, 0x09, .u32, .ro, .any, 0, .now, false⟩]

/-- Rows of indices 0x4000 to 0x40FF. -/
def objPage40 : List ObjRow := [
  ⟨0x4000, 1, 0x01, .enum, .ro, .any, 0, .now, false⟩,
  ⟨0x4000, 1, 0x02, .enum, .ro, .any, 0, .now, false⟩,
  ⟨0x4000, 1, 0x03, .bool, .ro, .any, 0, .now, false⟩,
  ⟨0x4000, 1, 0x04, (.oct 16 16), .ro, .any, 0, .now, false⟩,
  ⟨0x4000, 1, 0x05, .u16, .rws, (.le 500 60000), 2000, .now, false⟩,
  ⟨0x4000, 1, 0x06, .u8, .cmd, .any, 0, .now, false⟩,
  ⟨0x4000, 1, 0x07, .bool, .rws, .any, 1, .now, false⟩,
  ⟨0x4000, 1, 0x08, .u32, .ro, .any, 0, .now, false⟩,
  ⟨0x4000, 1, 0x09, .u8, .ro, .any, 0, .now, false⟩,
  ⟨0x4001, 1, 0x01, .u8, .ro, .any, 0, .now, false⟩,
  ⟨0x4001, 1, 0x02, .enum, .ro, .any, 0, .now, false⟩,
  ⟨0x4001, 1, 0x03, (.oct 16 16), .wo, .any, 0, .now, false⟩,
  ⟨0x4001, 1, 0x04, .bool, .ro, .any, 0, .now, false⟩,
  ⟨0x4001, 1, 0x05, .u8, .cmd, .any, 0, .now, false⟩,
  ⟨0x4001, 1, 0x06, .u32, .ro, .any, 0, .now, false⟩,
  ⟨0x4001, 1, 0x07, .u32, .ro, .any, 0, .now, false⟩,
  ⟨0x4001, 1, 0x08, .i32, .rws, .any, 0, .now, false⟩,
  ⟨0x4001, 1, 0x09, .u32, .ro, .any, 0, .now, false⟩,
  ⟨0x4002, 1, 0x01, .u16, .ro, .any, 50, .now, false⟩,
  ⟨0x4002, 1, 0x02, .u16, .rws, (.le 100 200), 200, .now, false⟩,
  ⟨0x4002, 1, 0x03, .u32, .ro, .any, 4294967295, .now, false⟩,
  ⟨0x4002, 1, 0x04, .u32, .ro, .any, 4294967295, .now, false⟩,
  ⟨0x4002, 1, 0x05, .u32, .ro, .any, 0, .now, false⟩,
  ⟨0x4002, 1, 0x06, .u32, .ro, .any, 0, .now, false⟩,
  ⟨0x4002, 1, 0x07, .u32, .ro, .any, 0, .now, false⟩,
  ⟨0x4002, 1, 0x08, .time80, .ro, .any, 0, .now, false⟩,
  ⟨0x4002, 1, 0x09, .u16, .ro, .any, 0, .now, false⟩,
  ⟨0x4002, 1, 0x0a, .enum, .ro, .any, 0, .now, false⟩,
  ⟨0x4002, 1, 0x0b, .u32, .ro, .any, 0, .now, false⟩,
  ⟨0x4003, 1, 0x01, .u8, .ro, .any, 0, .now, false⟩,
  ⟨0x4003, 1, 0x02, .u16, .rws, (.le 100 2000), 500, .now, false⟩,
  ⟨0x4003, 1, 0x03, .u8, .rws, (.le 4 50), 10, .now, false⟩,
  ⟨0x4003, 1, 0x04, .u16, .ro, .any, 64, .now, false⟩,
  ⟨0x4003, 1, 0x05, .u32, .ro, .any, 65536, .now, false⟩,
  ⟨0x4003, 1, 0x06, .u64, .ro, .any, 0, .now, false⟩,
  ⟨0x4003, 1, 0x07, .u64, .ro, .any, 0, .now, false⟩,
  ⟨0x4003, 1, 0x08, .u32, .ro, .any, 0, .now, false⟩,
  ⟨0x4003, 1, 0x09, .u32, .ro, .any, 0, .now, false⟩,
  ⟨0x4003, 1, 0x0a, .u32, .ro, .any, 0, .now, false⟩,
  ⟨0x4003, 1, 0x0b, .u32, .ro, .any, 0, .now, false⟩]

/-- Rows of indices 0x4000 to 0x40FF. -/
def objPage40_1 : List ObjRow := [
  ⟨0x4004, 1, 0x01, .bool, .rws, .any, 1, .now, false⟩,
  ⟨0x4004, 1, 0x02, .enum, .ro, .any, 0, .now, false⟩,
  ⟨0x4004, 1, 0x03, .u8, .ro, .any, 2, .now, false⟩,
  ⟨0x4004, 1, 0x04, .u16, .rws, (.le 200 10000), 1000, .now, false⟩,
  ⟨0x4004, 1, 0x05, .u16, .rws, (.le 0 30000), 5000, .now, false⟩,
  ⟨0x4004, 1, 0x06, .u16, .rws, (.le 200 1000), 800, .now, false⟩,
  ⟨0x4004, 1, 0x07, .u16, .ro, .any, 65535, .now, false⟩,
  ⟨0x4004, 1, 0x08, .u16, .ro, .any, 65535, .now, false⟩,
  ⟨0x4004, 1, 0x09, .i32, .ro, .any, 0, .now, false⟩,
  ⟨0x4004, 1, 0x0a, .enum, .rws, (.mem [0, 1]), 0, .now, false⟩,
  ⟨0x4004, 1, 0x0b, .u64, .ro, .any, 0, .now, false⟩,
  ⟨0x4004, 1, 0x0c, .u64, .ro, .any, 0, .now, false⟩,
  ⟨0x4004, 1, 0x0d, .u32, .ro, .any, 0, .now, false⟩,
  ⟨0x4004, 1, 0x0e, .u32, .ro, .any, 0, .now, false⟩]

/-- Rows of indices 0x4800 to 0x48FF. -/
def objPage48 : List ObjRow := [
  ⟨0x4800, 1, 0x01, .u16, .ro, .any, 0, .now, false⟩,
  ⟨0x4800, 1, 0x02, .u16, .ro, .any, 0, .now, false⟩,
  ⟨0x4800, 1, 0x03, .u32, .ro, .any, 0, .now, true⟩,
  ⟨0x4801, 1, 0x01, .u16, .rw, .any, 0, .now, false⟩,
  ⟨0x4801, 1, 0x02, .enum, .rw, (.le 1 4), 2, .now, false⟩,
  ⟨0x4801, 1, 0x03, .enum, .rw, (.le 0 1), 0, .now, false⟩,
  ⟨0x4801, 1, 0x04, .u16, .rw, .any, 0, .now, false⟩,
  ⟨0x4801, 1, 0x05, .u8, .rw, (.le 0 7), 0, .now, false⟩,
  ⟨0x4801, 1, 0x06, (.oct 16 32), .wo, .any, 0, .now, false⟩,
  ⟨0x4801, 1, 0x07, .u64, .rw, (.le 0 281474976710655), 0, .now, false⟩,
  ⟨0x4801, 1, 0x08, .u8, .cmd, .any, 0, .now, false⟩,
  ⟨0x4801, 1, 0x09, .enum, .ro, .any, 0, .now, false⟩,
  ⟨0x4801, 1, 0x0a, .enum, .ro, .any, 0, .now, false⟩,
  ⟨0x4801, 1, 0x0b, .u64, .ro, .any, 0, .now, false⟩,
  ⟨0x4802, 1, 0x01, .u64, .ro, .any, 0, .now, false⟩,
  ⟨0x4802, 1, 0x02, .u32, .ro, .any, 0, .now, false⟩,
  ⟨0x4802, 1, 0x03, .u32, .ro, .any, 0, .now, false⟩,
  ⟨0x4802, 1, 0x04, .u64, .ro, .any, 0, .now, false⟩,
  ⟨0x4802, 1, 0x05, (.oct 80 80), .ro, .any, 0, .now, false⟩,
  ⟨0x4808, 1, 0x01, .u64, .ro, .any, 0, .now, false⟩,
  ⟨0x4808, 1, 0x02, .u64, .ro, .any, 0, .now, false⟩,
  ⟨0x4808, 1, 0x03, .u64, .ro, .any, 0, .now, false⟩,
  ⟨0x4808, 1, 0x04, .u64, .ro, .any, 0, .now, false⟩,
  ⟨0x4808, 1, 0x05, .u64, .ro, .any, 0, .now, false⟩,
  ⟨0x4808, 1, 0x06, .u64, .ro, .any, 0, .now, false⟩,
  ⟨0x4808, 1, 0x07, .u32, .ro, .any, 0, .now, false⟩,
  ⟨0x4808, 1, 0x08, .u32, .ro, .any, 0, .now, false⟩,
  ⟨0x4808, 1, 0x09, .u64, .ro, .any, 0, .now, false⟩,
  ⟨0x4808, 1, 0x0a, .u64, .ro, .any, 0, .now, false⟩,
  ⟨0x4808, 1, 0x0b, .u16, .ro, .any, 0, .now, false⟩,
  ⟨0x4810, 16, 0x01, .bool, .rw, .any, 0, .epoch, false⟩,
  ⟨0x4810, 16, 0x02, .enum, .rw, (.le 0 2), 2, .now, false⟩,
  ⟨0x4810, 16, 0x03, .bool, .rw, .any, 1, .now, false⟩,
  ⟨0x4810, 16, 0x04, .u32, .rw, .any, 0, .now, false⟩,
  ⟨0x4810, 16, 0x05, .u8, .rw, (.le 0 3), 0, .now, false⟩,
  ⟨0x4810, 16, 0x06, .bool, .rw, .any, 1, .epoch, false⟩,
  ⟨0x4810, 16, 0x07, (.oct 8 8), .rw, .any, 0, .epoch, false⟩,
  ⟨0x4810, 16, 0x08, .u8, .rw, (.le 0 31), 2, .now, false⟩,
  ⟨0x4810, 16, 0x09, .u64, .ro, .any, 0, .now, false⟩,
  ⟨0x4810, 16, 0x0a, .u64, .ro, .any, 0, .now, false⟩]

/-- Rows of indices 0x4800 to 0x48FF. -/
def objPage48_1 : List ObjRow := [
  ⟨0x4810, 16, 0x0b, .u64, .ro, .any, 0, .now, false⟩,
  ⟨0x4810, 16, 0x0c, .u64, .ro, .any, 0, .now, false⟩,
  ⟨0x4810, 16, 0x0d, .u64, .ro, .any, 0, .now, false⟩,
  ⟨0x4810, 16, 0x0e, .u64, .ro, .any, 0, .now, false⟩,
  ⟨0x4810, 16, 0x0f, .u64, .ro, .any, 0, .now, false⟩,
  ⟨0x4810, 16, 0x10, .u64, .ro, .any, 0, .now, false⟩,
  ⟨0x4820, 1, 0x01, .u8, .rw, (.le 0 15), 0, .now, false⟩,
  ⟨0x4820, 1, 0x02, .enum, .rw, (.le 0 1), 0, .now, false⟩,
  ⟨0x4820, 1, 0x03, .u8, .rw, (.le 0 3), 0, .now, false⟩,
  ⟨0x4820, 1, 0x04, (.oct 32 32), .wo, .any, 0, .now, false⟩,
  ⟨0x4820, 1, 0x05, (.oct 12 12), .wo, .any, 0, .now, false⟩,
  ⟨0x4820, 1, 0x06, .u32, .rw, .any, 0, .now, false⟩,
  ⟨0x4820, 1, 0x07, .u64, .rw, .any, 1, .now, false⟩,
  ⟨0x4820, 1, 0x08, .u8, .cmd, .any, 0, .now, false⟩,
  ⟨0x4820, 1, 0x09, .enum, .ro, .any, 0, .now, false⟩]

/-- Rows of indices 0x5000 to 0x50FF. -/
def objPage50 : List ObjRow := [
  ⟨0x5000, 1, 0x01, .u8, .rws, .any, 0, .epoch, false⟩,
  ⟨0x5000, 1, 0x02, .u8, .cmd, .any, 0, .now, false⟩,
  ⟨0x5000, 1, 0x03, .enum, .ro, .any, 0, .now, false⟩,
  ⟨0x5000, 1, 0x04, .u16, .ro, .any, 0, .now, false⟩,
  ⟨0x5000, 1, 0x05, .u16, .ro, .any, 0, .now, false⟩,
  ⟨0x5000, 1, 0x06, .u8, .cmd, .any, 0, .now, false⟩,
  ⟨0x5000, 1, 0x07, .bool, .ro, .any, 0, .now, false⟩,
  ⟨0x5001, 1, 0x01, .u64, .ro, .any, 0, .now, false⟩,
  ⟨0x5001, 1, 0x02, .u64, .ro, .any, 0, .now, false⟩,
  ⟨0x5001, 1, 0x03, .u64, .ro, .any, 0, .now, false⟩,
  ⟨0x5001, 1, 0x04, .u64, .ro, .any, 0, .now, false⟩,
  ⟨0x5001, 1, 0x05, .u8, .ro, .any, 0, .now, false⟩,
  ⟨0x5001, 1, 0x06, .u32, .ro, .any, 0, .now, false⟩,
  ⟨0x5010, 1, 0x01, .u8, .rw, (.le 0 255), 0, .now, false⟩,
  ⟨0x5010, 1, 0x02, .bool, .rws, .any, 0, .graph, false⟩,
  ⟨0x5010, 1, 0x03, .enum, .rws, (.le 0 10), 0, .graph, false⟩,
  ⟨0x5010, 1, 0x04, .u8, .rws, (.le 0 64), 0, .graph, false⟩,
  ⟨0x5010, 1, 0x05, .u32, .rws, .any, 0, .graph, false⟩,
  ⟨0x5010, 1, 0x06, .u32, .rws, .any, 0, .graph, false⟩,
  ⟨0x5010, 1, 0x07, .u32, .rws, .any, 0, .graph, false⟩,
  ⟨0x5010, 1, 0x08, .u32, .rws, .any, 0, .graph, false⟩,
  ⟨0x5010, 1, 0x09, .u16, .rws, (.le 0 2047), 0, .graph, false⟩,
  ⟨0x5010, 1, 0x0a, .u8, .rws, (.le 0 16), 0, .graph, false⟩,
  ⟨0x5010, 1, 0x0b, .u16, .rws, (.le 0 257), 0, .graph, false⟩,
  ⟨0x5010, 1, 0x0c, .u8, .rws, (.le 0 1), 0, .graph, false⟩,
  ⟨0x5010, 1, 0x0d, .u32, .rws, .any, 0, .graph, false⟩,
  ⟨0x5010, 1, 0x0e, .u32, .rws, .any, 0, .graph, false⟩,
  ⟨0x5010, 1, 0x0f, .u32, .rws, .any, 0, .graph, false⟩,
  ⟨0x5010, 1, 0x10, .u32, .rws, .any, 0, .graph, false⟩,
  ⟨0x5011, 1, 0x01, .u16, .rw, (.le 0 2047), 0, .now, false⟩,
  ⟨0x5011, 1, 0x02, .u32, .rws, .any, 0, .graph, false⟩,
  ⟨0x5011, 1, 0x03, .u32, .rws, .any, 0, .graph, false⟩,
  ⟨0x5011, 1, 0x04, .u16, .rws, (.le 0 257), 0, .graph, false⟩,
  ⟨0x5021, 7, 0x01, .enum, .rws, (.mem [0, 1, 2, 3]), 0, .now, false⟩,
  ⟨0x5021, 7, 0x02, .u8, .rws, (.le 0 31), 3, .now, false⟩,
  ⟨0x5021, 7, 0x03, .u64, .ro, .any, 0, .now, false⟩,
  ⟨0x5021, 7, 0x04, .u16, .ro, .any, 0, .now, false⟩]

/-- Rows of indices 0x5400 to 0x54FF. -/
def objPage54 : List ObjRow := [
  ⟨0x5400, 1, 0x01, .u8, .ro, .any, 0, .now, false⟩,
  ⟨0x5400, 1, 0x02, .u8, .ro, .any, 255, .now, false⟩,
  ⟨0x5400, 1, 0x03, .enum, .ro, .any, 0, .now, false⟩,
  ⟨0x5400, 1, 0x04, .u8, .cmd, .any, 0, .now, false⟩,
  ⟨0x5400, 1, 0x05, .u16, .ro, .any, 0, .now, false⟩,
  ⟨0x5400, 1, 0x06, .u32, .rws, .any, 0, .rule, false⟩,
  ⟨0x5400, 1, 0x07, .u32, .rws, .any, 1073741824, .rule, false⟩,
  ⟨0x5400, 1, 0x08, .u32, .rws, (.le 50 100000), 1000, .now, false⟩,
  ⟨0x5400, 1, 0x09, .u32, .ro, .any, 0, .now, false⟩,
  ⟨0x5400, 1, 0x0a, .enum, .rws, (.mem [0, 1]), 0, .now, false⟩,
  ⟨0x5400, 1, 0x0b, .u16, .rws, (.le 10 10000), 100, .now, false⟩,
  ⟨0x5400, 1, 0x0c, .u32, .ro, .any, 0, .now, false⟩,
  ⟨0x5400, 1, 0x0d, .u32, .ro, .any, 0, .now, false⟩,
  ⟨0x5400, 1, 0x0e, .u64, .ro, .any, 0, .now, false⟩,
  ⟨0x5400, 1, 0x0f, .u64, .ro, .any, 0, .now, false⟩,
  ⟨0x5400, 1, 0x10, .u64, .ro, .any, 0, .now, false⟩,
  ⟨0x5400, 1, 0x11, .u64, .ro, .any, 0, .now, false⟩,
  ⟨0x5400, 1, 0x12, .u32, .ro, .any, 0, .now, false⟩,
  ⟨0x5400, 1, 0x13, .u32, .ro, .any, 0, .now, false⟩,
  ⟨0x5401, 1, 0x01, .u16, .rw, (.le 0 8191), 0, .now, false⟩,
  ⟨0x5401, 1, 0x02, .bool, .rws, .any, 0, .rule, false⟩,
  ⟨0x5401, 1, 0x03, (.oct 40 80), .rws, .any, 0, .rule, false⟩,
  ⟨0x5401, 1, 0x04, (.oct 40 80), .rws, .any, 0, .rule, false⟩,
  ⟨0x5401, 1, 0x05, .u32, .rws, .any, 0, .rule, false⟩,
  ⟨0x5401, 1, 0x06, .u64, .ro, .any, 0, .now, false⟩,
  ⟨0x5401, 1, 0x07, .u64, .ro, .any, 0, .now, false⟩,
  ⟨0x5401, 1, 0x08, .bool, .ro, .any, 0, .now, false⟩,
  ⟨0x5410, 16, 0x01, .bool, .rws, .any, 0, .now, false⟩,
  ⟨0x5410, 16, 0x02, .u16, .rws, .any, 4096, .now, false⟩,
  ⟨0x5410, 16, 0x03, .u16, .rws, (.le 0 4094), 0, .now, false⟩,
  ⟨0x5410, 16, 0x04, .u64, .ro, .any, 0, .now, false⟩,
  ⟨0x5410, 16, 0x05, .u64, .ro, .any, 0, .now, false⟩]

/-- Rows of indices 0x5800 to 0x58FF. -/
def objPage58 : List ObjRow := [
  ⟨0x5800, 1, 0x01, .u32, .ro, .any, 0, .now, false⟩,
  ⟨0x5800, 1, 0x02, .u32, .ro, .any, 0, .now, false⟩,
  ⟨0x5800, 1, 0x03, .bool, .rws, .any, 1, .epoch, false⟩,
  ⟨0x5800, 1, 0x04, .bool, .rws, .any, 0, .now, false⟩,
  ⟨0x5800, 1, 0x05, .u32, .rws, (.le 1 86400), 300, .now, false⟩,
  ⟨0x5800, 1, 0x06, .u16, .rws, (.le 1 600), 10, .now, false⟩,
  ⟨0x5800, 1, 0x07, .u32, .rws, (.le 1 86400), 60, .now, false⟩,
  ⟨0x5800, 1, 0x08, .u32, .rws, (.le 1 86400), 30, .now, false⟩,
  ⟨0x5800, 1, 0x09, .u16, .rws, (.le 100 60000), 1000, .now, false⟩,
  ⟨0x5800, 1, 0x0a, .u16, .ro, .any, 0, .now, false⟩,
  ⟨0x5801, 1, 0x01, .u64, .ro, .any, 0, .now, false⟩,
  ⟨0x5801, 1, 0x02, .u64, .ro, .any, 0, .now, false⟩,
  ⟨0x5801, 1, 0x03, .u64, .ro, .any, 0, .now, false⟩,
  ⟨0x5801, 1, 0x04, .u64, .ro, .any, 0, .now, false⟩,
  ⟨0x5801, 1, 0x05, .u64, .ro, .any, 0, .now, false⟩,
  ⟨0x5801, 1, 0x06, .u64, .ro, .any, 0, .now, false⟩,
  ⟨0x5801, 1, 0x07, .u64, .ro, .any, 0, .now, false⟩,
  ⟨0x5801, 1, 0x08, .u16, .ro, .any, 0, .now, false⟩,
  ⟨0x5802, 1, 0x01, .u32, .rw, .any, 0, .now, false⟩,
  ⟨0x5802, 1, 0x02, (.oct 40 40), .ro, .any, 0, .now, false⟩,
  ⟨0x5802, 1, 0x03, .u8, .ro, .any, 0, .now, false⟩,
  ⟨0x5802, 1, 0x04, .u16, .ro, .any, 65535, .now, false⟩,
  ⟨0x5802, 1, 0x05, (.oct 16 16), .ro, .any, 0, .now, false⟩,
  ⟨0x5802, 1, 0x06, .u8, .cmd, .any, 0, .now, false⟩,
  ⟨0x5802, 1, 0x07, .bool, .ro, .any, 0, .now, false⟩,
  ⟨0x5808, 8, 0x01, .bool, .rws, .any, 1, .epoch, false⟩,
  ⟨0x5808, 8, 0x02, .enum, .ro, .any, 0, .now, false⟩,
  ⟨0x5808, 8, 0x03, .u16, .rws, (.le 1518 9216), 1522, .now, false⟩,
  ⟨0x5808, 8, 0x04, .u16, .rws, (.le 1 4094), 1, .now, false⟩,
  ⟨0x5808, 8, 0x05, .enum, .rws, (.mem [0, 1, 2]), 0, .now, false⟩,
  ⟨0x5808, 8, 0x06, .bool, .rws, .any, 1, .epoch, false⟩,
  ⟨0x5808, 8, 0x07, .u64, .ro, .any, 0, .now, false⟩,
  ⟨0x5808, 8, 0x08, .u64, .ro, .any, 0, .now, false⟩,
  ⟨0x5808, 8, 0x09, .u64, .ro, .any, 0, .now, false⟩,
  ⟨0x5808, 8, 0x0a, .u64, .ro, .any, 0, .now, false⟩,
  ⟨0x5808, 8, 0x0b, .u64, .ro, .any, 0, .now, false⟩,
  ⟨0x5808, 8, 0x0c, .u64, .ro, .any, 0, .now, false⟩,
  ⟨0x5808, 8, 0x0d, .u64, .ro, .any, 0, .now, false⟩,
  ⟨0x5808, 8, 0x0e, .u32, .ro, .any, 0, .now, false⟩,
  ⟨0x5808, 8, 0x0f, .u64, .ro, .any, 0, .now, false⟩]

/-- Rows of indices 0x5800 to 0x58FF. -/
def objPage58_1 : List ObjRow := [
  ⟨0x5810, 1, 0x01, .enum, .rws, (.le 0 3), 0, .epoch, false⟩,
  ⟨0x5810, 1, 0x02, (.oct 6 6), .rws, .any, 0, .now, false⟩,
  ⟨0x5810, 1, 0x03, .enum, .rws, (.mem [0, 1]), 0, .now, false⟩,
  ⟨0x5810, 1, 0x04, .enum, .rws, (.mem [0, 1]), 0, .now, false⟩,
  ⟨0x5810, 1, 0x05, .u8, .rws, (.le 0 31), 4, .now, false⟩,
  ⟨0x5810, 1, 0x06, .u16, .rws, (.le 10 3600), 300, .now, false⟩,
  ⟨0x5810, 1, 0x07, .u16, .rws, (.le 1 4094), 1, .now, false⟩,
  ⟨0x5810, 1, 0x08, .u16, .rws, (.le 100 10000), 1000, .now, false⟩,
  ⟨0x5810, 1, 0x09, (.oct 96 96), .rws, .any, 0, .now, false⟩,
  ⟨0x5811, 1, 0x01, .u64, .ro, .any, 0, .now, false⟩,
  ⟨0x5811, 1, 0x02, .u64, .ro, .any, 0, .now, false⟩,
  ⟨0x5811, 1, 0x03, .u64, .ro, .any, 0, .now, false⟩,
  ⟨0x5811, 1, 0x04, .u64, .ro, .any, 0, .now, false⟩,
  ⟨0x5811, 1, 0x05, .u64, .ro, .any, 0, .now, false⟩,
  ⟨0x5811, 1, 0x06, .u64, .ro, .any, 0, .now, false⟩,
  ⟨0x5811, 1, 0x07, .u64, .ro, .any, 0, .now, false⟩,
  ⟨0x5811, 1, 0x08, .u64, .ro, .any, 0, .now, false⟩,
  ⟨0x5811, 1, 0x09, .u64, .ro, .any, 0, .now, false⟩,
  ⟨0x5811, 1, 0x0a, .u64, .ro, .any, 0, .now, false⟩,
  ⟨0x5811, 1, 0x0b, .u64, .ro, .any, 0, .now, false⟩,
  ⟨0x5811, 1, 0x0c, .u64, .ro, .any, 0, .now, false⟩,
  ⟨0x5811, 1, 0x0d, .u64, .ro, .any, 0, .now, false⟩,
  ⟨0x5811, 1, 0x0e, .u64, .ro, .any, 0, .now, false⟩,
  ⟨0x5811, 1, 0x0f, .u64, .ro, .any, 0, .now, false⟩,
  ⟨0x5811, 1, 0x10, .u64, .ro, .any, 0, .now, false⟩,
  ⟨0x5811, 1, 0x11, .u32, .ro, .any, 0, .now, false⟩,
  ⟨0x5811, 1, 0x12, .u32, .ro, .any, 0, .now, false⟩,
  ⟨0x5811, 1, 0x13, .u32, .ro, .any, 0, .now, false⟩,
  ⟨0x5820, 1, 0x01, .enum, .rw, (.mem [0, 1]), 0, .now, false⟩,
  ⟨0x5820, 1, 0x02, .u8, .rw, (.le 0 15), 0, .now, false⟩,
  ⟨0x5820, 1, 0x03, (.oct 4 16), .rw, .any, 0, .now, false⟩,
  ⟨0x5820, 1, 0x04, .u8, .rw, .any, 0, .now, false⟩,
  ⟨0x5820, 1, 0x05, .u16, .rw, (.le 0 16383), 0, .now, false⟩,
  ⟨0x5820, 1, 0x06, .u8, .cmd, .any, 0, .now, false⟩,
  ⟨0x5820, 1, 0x07, .bool, .ro, .any, 0, .now, false⟩,
  ⟨0x5820, 1, 0x08, .u32, .ro, .any, 0, .now, false⟩,
  ⟨0x5820, 1, 0x09, .u32, .ro, .any, 0, .now, false⟩,
  ⟨0x5830, 1, 0x01, .u16, .rw, (.le 0 16383), 0, .now, false⟩,
  ⟨0x5830, 1, 0x02, .enum, .rws, (.mem [0, 1, 2, 3, 4, 5]), 0, .now, false⟩,
  ⟨0x5830, 1, 0x03, .u16, .rws, .any, 0, .now, false⟩]

/-- Rows of indices 0x5800 to 0x58FF. -/
def objPage58_2 : List ObjRow := [
  ⟨0x5830, 1, 0x04, (.oct 6 6), .rws, .any, 0, .now, false⟩,
  ⟨0x5830, 1, 0x05, .u16, .rws, .any, 1, .now, false⟩,
  ⟨0x5830, 1, 0x06, .u16, .rws, .any, 65535, .now, false⟩,
  ⟨0x5830, 1, 0x07, .u32, .ro, .any, 0, .now, false⟩,
  ⟨0x5838, 1, 0x01, .u16, .rw, (.le 0 1023), 0, .now, false⟩,
  ⟨0x5838, 1, 0x02, (.oct 0 32), .rws, .any, 0, .now, false⟩,
  ⟨0x5838, 1, 0x03, .u8, .ro, .any, 0, .now, false⟩,
  ⟨0x5840, 1, 0x01, .u16, .rw, (.le 0 4095), 0, .now, false⟩,
  ⟨0x5840, 1, 0x02, .enum, .rws, (.mem [0, 1, 2, 3, 4]), 0, .now, false⟩,
  ⟨0x5840, 1, 0x03, (.oct 16 16), .rws, .any, 0, .now, false⟩,
  ⟨0x5840, 1, 0x04, (.oct 16 16), .rws, .any, 0, .now, false⟩,
  ⟨0x5840, 1, 0x05, .u32, .rws, (.le 0 16777215), 0, .now, false⟩,
  ⟨0x5840, 1, 0x06, .u16, .rws, (.le 1 4094), 1, .now, false⟩,
  ⟨0x5840, 1, 0x07, .u16, .rws, .any, 0, .now, false⟩,
  ⟨0x5840, 1, 0x08, .u8, .rws, (.le 1 255), 64, .now, false⟩,
  ⟨0x5840, 1, 0x09, .bool, .rws, .any, 0, .now, false⟩,
  ⟨0x5840, 1, 0x0a, .bool, .rws, .any, 0, .now, false⟩,
  ⟨0x5840, 1, 0x0b, .u64, .ro, .any, 0, .now, false⟩,
  ⟨0x5840, 1, 0x0c, .u64, .ro, .any, 0, .now, false⟩,
  ⟨0x5850, 1, 0x01, .u16, .rw, (.le 1 4094), 1, .now, false⟩,
  ⟨0x5850, 1, 0x02, .bool, .rws, .any, 0, .now, false⟩,
  ⟨0x5850, 1, 0x03, .u8, .rws, (.le 0 15), 0, .now, false⟩,
  ⟨0x5850, 1, 0x04, .bool, .rws, .any, 0, .now, false⟩,
  ⟨0x5850, 1, 0x05, .u64, .rws, .any, 0, .now, false⟩,
  ⟨0x5850, 1, 0x06, .u64, .rws, (.le 0 255), 0, .now, false⟩]

/-- Rows of indices 0x6000 to 0x60FF. -/
def objPage60 : List ObjRow := [
  ⟨0x6000, 1, 0x01, .u32, .ro, .any, 196608, .now, false⟩,
  ⟨0x6000, 1, 0x02, .u32, .ro, .any, 196608, .now, false⟩,
  ⟨0x6000, 1, 0x03, .u32, .rws, (.le 0 32768), 8192, .now, false⟩,
  ⟨0x6000, 1, 0x04, .bool, .rws, .any, 1, .epoch, false⟩,
  ⟨0x6000, 1, 0x05, .u32, .ro, .any, 8388608, .now, false⟩,
  ⟨0x6000, 1, 0x06, .u32, .ro, .any, 0, .now, false⟩,
  ⟨0x6000, 1, 0x07, .u32, .rws, (.le 8192 98304), 32768, .now, false⟩,
  ⟨0x6000, 1, 0x08, .u32, .rws, (.le 16384 16777216), 262144, .now, false⟩,
  ⟨0x6000, 1, 0x09, .u32, .ro, .any, 196608, .now, false⟩,
  ⟨0x6000, 1, 0x0a, .u64, .ro, .any, 0, .now, false⟩,
  ⟨0x6000, 1, 0x0b, .u64, .ro, .any, 0, .now, false⟩,
  ⟨0x6000, 1, 0x0c, .u64, .ro, .any, 0, .now, false⟩,
  ⟨0x6000, 1, 0x0d, .u64, .ro, .any, 0, .now, false⟩,
  ⟨0x6000, 1, 0x0e, .u64, .ro, .any, 0, .now, false⟩,
  ⟨0x6000, 1, 0x0f, .u32, .ro, .any, 0, .now, false⟩,
  ⟨0x6000, 1, 0x10, .u32, .ro, .any, 0, .now, false⟩,
  ⟨0x6000, 1, 0x11, .u32, .rws, (.le 256 65536), 8192, .now, false⟩,
  ⟨0x6000, 1, 0x12, .u64, .ro, .any, 0, .now, false⟩,
  ⟨0x6001, 1, 0x01, .u32, .rws, (.le 1500 1048576), 8192, .now, false⟩,
  ⟨0x6001, 1, 0x02, .u32, .rws, (.le 1500 1048576), 4096, .now, false⟩,
  ⟨0x6001, 1, 0x03, .u32, .rws, (.le 1500 1048576), 16384, .now, false⟩,
  ⟨0x6001, 1, 0x04, .u32, .rws, (.le 1500 1048576), 4096, .now, false⟩,
  ⟨0x6001, 1, 0x05, .u16, .rws, (.le 10 10000), 500, .now, false⟩,
  ⟨0x6001, 1, 0x06, .u16, .rws, (.le 10 10000), 1000, .now, false⟩,
  ⟨0x6001, 1, 0x07, .u16, .rws, (.le 10 10000), 200, .now, false⟩,
  ⟨0x6001, 1, 0x08, .u16, .rws, (.le 10 10000), 100, .now, false⟩,
  ⟨0x6001, 1, 0x09, .u32, .rws, (.le 16 65536), 1024, .now, false⟩,
  ⟨0x6001, 1, 0x0a, .u8, .rws, (.le 1 16), 4, .now, false⟩,
  ⟨0x6001, 1, 0x0b, .u8, .rws, (.le 0 100), 50, .now, false⟩,
  ⟨0x6002, 1, 0x01, .u64, .ro, .any, 0, .now, false⟩,
  ⟨0x6002, 1, 0x02, .u64, .ro, .any, 0, .now, false⟩,
  ⟨0x6002, 1, 0x03, .u64, .ro, .any, 0, .now, false⟩,
  ⟨0x6002, 1, 0x04, .u64, .ro, .any, 0, .now, false⟩,
  ⟨0x6002, 1, 0x05, .u64, .ro, .any, 0, .now, false⟩,
  ⟨0x6002, 1, 0x06, .u16, .ro, .any, 0, .now, false⟩,
  ⟨0x6008, 8, 0x01, .u8, .rws, .any, 0, .now, false⟩,
  ⟨0x6008, 8, 0x02, (.oct 16 16), .rws, .any, 0, .now, false⟩,
  ⟨0x6008, 8, 0x03, .u32, .rws, (.le 16 262144), 4096, .now, false⟩,
  ⟨0x6008, 8, 0x04, .u8, .rws, (.le 0 100), 50, .now, false⟩,
  ⟨0x6008, 8, 0x05, .u64, .ro, .any, 0, .now, false⟩]

/-- Rows of indices 0x6000 to 0x60FF. -/
def objPage60_1 : List ObjRow := [
  ⟨0x6010, 1, 0x01, .u32, .rws, .any, 1985229328, .now, false⟩,
  ⟨0x6010, 1, 0x02, .u64, .ro, .any, 0, .now, false⟩,
  ⟨0x6010, 1, 0x03, .u64, .ro, .any, 0, .now, false⟩,
  ⟨0x6010, 1, 0x04, .u64, .ro, .any, 0, .now, false⟩,
  ⟨0x6020, 1, 0x01, .u16, .rw, .any, 0, .now, false⟩,
  ⟨0x6020, 1, 0x02, .enum, .ro, .any, 0, .now, false⟩,
  ⟨0x6020, 1, 0x03, .u32, .ro, .any, 0, .now, false⟩,
  ⟨0x6020, 1, 0x04, .u32, .ro, .any, 0, .now, false⟩,
  ⟨0x6020, 1, 0x05, .u32, .ro, .any, 0, .now, false⟩,
  ⟨0x6020, 1, 0x06, .u32, .ro, .any, 0, .now, false⟩,
  ⟨0x6020, 1, 0x07, .u16, .ro, .any, 0, .now, false⟩,
  ⟨0x6020, 1, 0x08, .u8, .rws, (.le 1 16), 1, .now, false⟩,
  ⟨0x6020, 1, 0x09, .u64, .ro, .any, 0, .now, false⟩,
  ⟨0x6020, 1, 0x0a, .u64, .ro, .any, 0, .now, false⟩,
  ⟨0x6020, 1, 0x0b, .u32, .ro, .any, 0, .now, false⟩,
  ⟨0x6030, 1, 0x01, .u16, .rw, (.le 0 2047), 0, .now, false⟩,
  ⟨0x6030, 1, 0x02, .u8, .ro, .any, 0, .now, false⟩,
  ⟨0x6030, 1, 0x03, .u8, .ro, .any, 0, .now, false⟩,
  ⟨0x6030, 1, 0x04, .u32, .ro, .any, 0, .now, false⟩,
  ⟨0x6030, 1, 0x05, .u32, .ro, .any, 0, .now, false⟩,
  ⟨0x6030, 1, 0x06, .u32, .ro, .any, 0, .now, false⟩,
  ⟨0x6030, 1, 0x07, .u16, .ro, .any, 0, .now, false⟩,
  ⟨0x6030, 1, 0x08, .u64, .ro, .any, 0, .now, false⟩,
  ⟨0x6030, 1, 0x09, .u64, .ro, .any, 0, .now, false⟩,
  ⟨0x6030, 1, 0x0a, .u64, .ro, .any, 0, .now, false⟩,
  ⟨0x6040, 1, 0x01, .u32, .rws, .any, 0, .now, false⟩,
  ⟨0x6040, 1, 0x02, .u32, .rws, .any, 0, .now, false⟩,
  ⟨0x6040, 1, 0x03, .u32, .rws, .any, 0, .now, false⟩,
  ⟨0x6040, 1, 0x04, .u32, .rws, .any, 0, .now, false⟩,
  ⟨0x6040, 1, 0x05, .u64, .ro, .any, 0, .now, false⟩,
  ⟨0x6040, 1, 0x06, .u32, .ro, .any, 0, .now, false⟩,
  ⟨0x6040, 1, 0x07, .u64, .ro, .any, 0, .now, false⟩,
  ⟨0x6041, 1, 0x01, .u16, .rw, (.le 0 65535), 0, .now, false⟩,
  ⟨0x6041, 1, 0x02, .enum, .rws, (.mem [0, 1, 2]), 0, .now, false⟩,
  ⟨0x6041, 1, 0x03, .bool, .rws, .any, 0, .now, false⟩,
  ⟨0x6041, 1, 0x04, .u32, .rws, (.le 0 1000000000), 0, .now, false⟩,
  ⟨0x6041, 1, 0x05, .u32, .rws, (.le 0 16777216), 0, .now, false⟩,
  ⟨0x6041, 1, 0x06, .u32, .rws, (.le 0 1000000000), 0, .now, false⟩,
  ⟨0x6041, 1, 0x07, .u32, .rws, (.le 0 16777216), 0, .now, false⟩,
  ⟨0x6041, 1, 0x08, .enum, .rws, (.mem [0, 1]), 0, .now, false⟩]

/-- Rows of indices 0x6000 to 0x60FF. -/
def objPage60_2 : List ObjRow := [
  ⟨0x6041, 1, 0x09, .enum, .rws, (.mem [0, 1]), 0, .now, false⟩,
  ⟨0x6041, 1, 0x0a, .enum, .rws, (.mem [0, 1]), 1, .now, false⟩,
  ⟨0x6041, 1, 0x0b, .u32, .ro, .any, 0, .now, false⟩,
  ⟨0x6041, 1, 0x0c, .u32, .ro, .any, 0, .now, false⟩,
  ⟨0x6041, 1, 0x0d, .u64, .ro, .any, 0, .now, false⟩,
  ⟨0x6041, 1, 0x0e, .u64, .ro, .any, 0, .now, false⟩,
  ⟨0x6041, 1, 0x0f, .u64, .ro, .any, 0, .now, false⟩,
  ⟨0x6041, 1, 0x10, .u64, .ro, .any, 0, .now, false⟩,
  ⟨0x6041, 1, 0x11, .u64, .ro, .any, 0, .now, false⟩]

/-- Rows of indices 0x6800 to 0x68FF. -/
def objPage68 : List ObjRow := [
  ⟨0x6800, 1, 0x01, .u16, .ro, .any, 16384, .now, false⟩,
  ⟨0x6800, 1, 0x02, .u16, .ro, .any, 0, .now, false⟩,
  ⟨0x6800, 1, 0x03, .u16, .ro, .any, 0, .now, false⟩,
  ⟨0x6800, 1, 0x04, .u16, .ro, .any, 32768, .now, false⟩,
  ⟨0x6800, 1, 0x05, .u16, .ro, .any, 0, .now, false⟩,
  ⟨0x6800, 1, 0x06, .bool, .rws, .any, 1, .epoch, false⟩,
  ⟨0x6800, 1, 0x07, .u32, .ro, .any, 1048576, .now, false⟩,
  ⟨0x6800, 1, 0x08, .u32, .ro, .any, 0, .now, false⟩,
  ⟨0x6800, 1, 0x09, .u32, .ro, .any, 0, .now, false⟩,
  ⟨0x6800, 1, 0x0a, .u8, .rws, (.le 1 64), 8, .now, false⟩,
  ⟨0x6800, 1, 0x0b, .u16, .rws, (.le 20 1000), 100, .now, false⟩,
  ⟨0x6801, 1, 0x01, .u64, .ro, .any, 0, .now, false⟩,
  ⟨0x6801, 1, 0x02, .u64, .ro, .any, 0, .now, false⟩,
  ⟨0x6801, 1, 0x03, .u64, .ro, .any, 0, .now, false⟩,
  ⟨0x6801, 1, 0x04, .u64, .ro, .any, 0, .now, false⟩,
  ⟨0x6801, 1, 0x05, .u64, .ro, .any, 0, .now, false⟩,
  ⟨0x6801, 1, 0x06, .u64, .ro, .any, 0, .now, false⟩,
  ⟨0x6801, 1, 0x07, .u64, .ro, .any, 0, .now, false⟩,
  ⟨0x6801, 1, 0x08, .u64, .ro, .any, 0, .now, false⟩,
  ⟨0x6801, 1, 0x09, .u32, .ro, .any, 0, .now, false⟩,
  ⟨0x6801, 1, 0x0a, .u32, .ro, .any, 0, .now, false⟩,
  ⟨0x6801, 1, 0x0b, .u64, .ro, .any, 0, .now, false⟩]

/-- Rows of indices 0x7000 to 0x70FF. -/
def objPage70 : List ObjRow := [
  ⟨0x7000, 1, 0x01, .u8, .ro, .any, 8, .now, false⟩,
  ⟨0x7000, 1, 0x02, .u64, .ro, .any, 30064771072, .now, false⟩,
  ⟨0x7000, 1, 0x03, .u16, .ro, .any, 8533, .now, false⟩,
  ⟨0x7000, 1, 0x04, .enum, .ro, .any, 0, .now, false⟩,
  ⟨0x7000, 1, 0x05, .enum, .rws, (.mem [0, 1, 2]), 0, .epoch, false⟩,
  ⟨0x7000, 1, 0x06, .u16, .rws, (.le 1 168), 24, .now, false⟩,
  ⟨0x7000, 1, 0x07, .bool, .rws, .any, 1, .now, false⟩,
  ⟨0x7000, 1, 0x08, .u16, .rws, (.le 1 1024), 16, .now, false⟩,
  ⟨0x7000, 1, 0x09, .u8, .ro, .any, 0, .now, false⟩,
  ⟨0x7000, 1, 0x0a, .u8, .cmd, .any, 0, .now, false⟩,
  ⟨0x7000, 1, 0x0b, .u8, .rws, (.le 3 30), 10, .now, false⟩,
  ⟨0x7000, 1, 0x0c, .u16, .rws, (.le 1 720), 168, .now, false⟩,
  ⟨0x7000, 1, 0x0d, .u16, .rws, (.le 10 1000), 100, .now, false⟩,
  ⟨0x7000, 1, 0x0e, .u32, .ro, .any, 0, .now, false⟩,
  ⟨0x7000, 1, 0x0f, .u32, .ro, .any, 0, .now, false⟩,
  ⟨0x7000, 1, 0x10, .time80, .ro, .any, 0, .now, false⟩,
  ⟨0x7001, 8, 0x01, .i32, .ro, .any, 0, .now, false⟩,
  ⟨0x7001, 8, 0x02, .u8, .ro, .any, 1, .now, false⟩,
  ⟨0x7001, 8, 0x03, .u64, .ro, .any, 0, .now, false⟩,
  ⟨0x7001, 8, 0x04, .u32, .ro, .any, 0, .now, false⟩,
  ⟨0x7001, 8, 0x05, .u8, .ro, .any, 0, .now, false⟩,
  ⟨0x7001, 8, 0x06, .u8, .ro, .any, 0, .now, false⟩,
  ⟨0x7001, 8, 0x07, .i32, .ro, .any, 0, .now, false⟩,
  ⟨0x7001, 8, 0x08, .u32, .ro, .any, 0, .now, false⟩,
  ⟨0x7010, 5, 0x01, .u16, .ro, .any, 0, .now, false⟩,
  ⟨0x7010, 5, 0x02, .u16, .ro, .any, 0, .now, false⟩,
  ⟨0x7010, 5, 0x03, .bool, .ro, .any, 0, .now, false⟩,
  ⟨0x7010, 5, 0x04, .u32, .ro, .any, 0, .now, false⟩,
  ⟨0x7010, 5, 0x05, .u64, .ro, .any, 0, .now, false⟩,
  ⟨0x7010, 5, 0x06, .u64, .ro, .any, 0, .now, false⟩,
  ⟨0x7018, 1, 0x01, .u64, .ro, .any, 0, .now, false⟩,
  ⟨0x7018, 1, 0x02, .u8, .ro, .any, 0, .now, false⟩,
  ⟨0x7018, 1, 0x03, .enum, .ro, .any, 0, .now, false⟩,
  ⟨0x7018, 1, 0x04, .time80, .ro, .any, 0, .now, false⟩]

/-- Rows of indices 0x7800 to 0x78FF. -/
def objPage78 : List ObjRow := [
  ⟨0x7800, 1, 0x01, .enum, .ro, .any, 0, .now, false⟩,
  ⟨0x7800, 1, 0x02, .u32, .rws, (.le 10 60000), 100, .now, false⟩,
  ⟨0x7800, 1, 0x03, .u8, .cmd, .any, 0, .now, false⟩,
  ⟨0x7800, 1, 0x04, .u32, .ro, .any, 0, .now, false⟩,
  ⟨0x7800, 1, 0x05, .u8, .ro, .any, 0, .now, false⟩,
  ⟨0x7800, 1, 0x06, .u32, .ro, .any, 0, .now, false⟩,
  ⟨0x7800, 1, 0x07, .u32, .ro, .any, 0, .now, false⟩,
  ⟨0x7800, 1, 0x08, .u32, .ro, .any, 0, .now, false⟩,
  ⟨0x7800, 1, 0x09, .u64, .ro, .any, 0, .now, false⟩,
  ⟨0x7800, 1, 0x0a, .u32, .ro, .any, 0, .now, false⟩,
  ⟨0x7800, 1, 0x0b, .u32, .ro, .any, 0, .now, false⟩,
  ⟨0x7800, 1, 0x0c, .u16, .rws, (.le 0 60000), 1000, .now, false⟩,
  ⟨0x7800, 1, 0x0d, .u8, .rws, (.le 0 3), 3, .now, false⟩,
  ⟨0x7800, 1, 0x0e, (.oct 16 16), .rws, .any, 0, .now, false⟩,
  ⟨0x7800, 1, 0x0f, .u16, .rws, (.le 100 60000), 1000, .now, false⟩,
  ⟨0x7801, 1, 0x01, .hid, .rw, .any, 0, .now, false⟩,
  ⟨0x7801, 1, 0x02, .u8, .rw, .any, 1, .now, false⟩,
  ⟨0x7801, 1, 0x03, .u64, .rw, (.le 0 281474976710655), 0, .now, false⟩,
  ⟨0x7801, 1, 0x04, .bool, .rw, .any, 1, .now, false⟩,
  ⟨0x7801, 1, 0x05, .u8, .cmd, .any, 0, .now, false⟩,
  ⟨0x7802, 1, 0x01, .u32, .rw, .any, 0, .now, false⟩,
  ⟨0x7802, 1, 0x02, (.oct 32 32), .ro, .any, 0, .now, false⟩,
  ⟨0x7802, 1, 0x03, .u32, .ro, .any, 0, .now, false⟩,
  ⟨0x7808, 1, 0x01, .u8, .rw, .any, 1, .now, false⟩,
  ⟨0x7808, 1, 0x02, .enum, .ro, .any, 0, .now, false⟩,
  ⟨0x7808, 1, 0x03, .enum, .rws, (.le 0 3), 0, .now, false⟩,
  ⟨0x7808, 1, 0x04, .u32, .ro, .any, 0, .now, false⟩,
  ⟨0x7808, 1, 0x05, .time80, .ro, .any, 0, .now, false⟩,
  ⟨0x7808, 1, 0x06, .hid, .ro, .any, 0, .now, false⟩]

/-- Rows of indices 0x7c00 to 0x7cFF. -/
def objPage7c : List ObjRow := [
  ⟨0x7c00, 1, 0x01, .u8, .ro, .any, 0, .now, false⟩,
  ⟨0x7c00, 1, 0x02, .u8, .ro, .any, 0, .now, false⟩,
  ⟨0x7c00, 1, 0x03, .u8, .rws, (.le 1 3), 1, .now, false⟩,
  ⟨0x7c00, 1, 0x04, .u16, .rws, (.le 1 3600), 60, .now, false⟩,
  ⟨0x7c00, 1, 0x05, .enum, .ro, .any, 0, .now, false⟩,
  ⟨0x7c00, 1, 0x06, .u32, .ro, .any, 0, .now, false⟩,
  ⟨0x7c00, 1, 0x07, .u32, .ro, .any, 0, .now, false⟩,
  ⟨0x7c00, 1, 0x08, .u32, .ro, .any, 0, .now, false⟩,
  ⟨0x7c00, 1, 0x09, .u32, .ro, .any, 0, .now, false⟩,
  ⟨0x7c00, 1, 0x0a, .u32, .ro, .any, 0, .now, false⟩,
  ⟨0x7c00, 1, 0x0b, .u32, .ro, .any, 0, .now, false⟩,
  ⟨0x7c01, 1, 0x01, .enum, .rw, (.le 4 7), 5, .now, false⟩,
  ⟨0x7c01, 1, 0x02, .hid, .rw, .any, 0, .now, false⟩,
  ⟨0x7c01, 1, 0x03, .u8, .cmd, .any, 0, .now, false⟩,
  ⟨0x7c02, 1, 0x01, .u8, .rw, .any, 0, .now, false⟩,
  ⟨0x7c02, 1, 0x02, .enum, .ro, .any, 0, .now, false⟩,
  ⟨0x7c02, 1, 0x03, .hid, .ro, .any, 0, .now, false⟩,
  ⟨0x7c02, 1, 0x04, .hid, .ro, .any, 0, .now, false⟩,
  ⟨0x7c02, 1, 0x05, .enum, .ro, .any, 0, .now, false⟩,
  ⟨0x7c02, 1, 0x06, .time80, .ro, .any, 0, .now, false⟩,
  ⟨0x7c09, 7, 0x01, .u32, .ro, .any, 0, .now, false⟩,
  ⟨0x7c09, 7, 0x02, .u8, .ro, .any, 0, .now, false⟩,
  ⟨0x7c09, 7, 0x03, .time80, .ro, .any, 0, .now, false⟩,
  ⟨0x7c09, 7, 0x04, .u32, .ro, .any, 0, .now, false⟩]

/-- Rows of indices 0x7e00 to 0x7eFF. -/
def objPage7e : List ObjRow := [
  ⟨0x7e00, 1, 0x01, .u16, .ro, .any, 600, .now, false⟩,
  ⟨0x7e00, 1, 0x02, .u32, .ro, .any, 0, .now, false⟩,
  ⟨0x7e00, 1, 0x03, .time80, .ro, .any, 0, .now, false⟩,
  ⟨0x7e00, 1, 0x04, .u16, .rws, (.le 7 365), 30, .now, false⟩,
  ⟨0x7e00, 1, 0x05, .u16, .rws, (.le 30 3650), 365, .now, false⟩,
  ⟨0x7e00, 1, 0x06, .u32, .ro, .any, 4294967295, .now, false⟩,
  ⟨0x7e00, 1, 0x07, .u8, .ro, .any, 255, .now, false⟩,
  ⟨0x7e00, 1, 0x08, .bool, .ro, .any, 0, .now, false⟩,
  ⟨0x7e00, 1, 0x09, .u16, .rws, (.le 24 8760), 720, .now, false⟩,
  ⟨0x7e08, 24, 0x01, .i32, .ro, .any, 0, .now, false⟩,
  ⟨0x7e08, 24, 0x02, .i32, .rws, .any, 0, .now, false⟩,
  ⟨0x7e08, 24, 0x03, .u8, .ro, .any, 0, .now, false⟩,
  ⟨0x7e08, 24, 0x04, .u8, .ro, .any, 0, .now, false⟩,
  ⟨0x7e08, 24, 0x05, .enum, .ro, .any, 0, .now, false⟩,
  ⟨0x7e08, 24, 0x06, .u32, .ro, .any, 4294967295, .now, false⟩,
  ⟨0x7e08, 24, 0x07, .u32, .ro, .any, 4294967295, .now, false⟩]

/-- Rows of indices 0x8000 to 0x80FF. -/
def objPage80 : List ObjRow := [
  ⟨0x8000, 1, 0x01, .u16, .rw, .any, 4096, .now, false⟩,
  ⟨0x8000, 1, 0x02, .hid, .rw, .any, 0, .now, false⟩,
  ⟨0x8000, 1, 0x03, .u8, .cmd, .any, 0, .now, false⟩,
  ⟨0x8000, 1, 0x04, .bool, .ro, .any, 0, .now, false⟩,
  ⟨0x8000, 1, 0x05, .hid, .ro, .any, 0, .now, false⟩,
  ⟨0x8000, 1, 0x06, .u32, .ro, .any, 0, .now, false⟩]

/-- The rows that can define objects of a page of 256 indices. -/
def objPage (page : Nat) : List ObjRow :=
  if page = 0x00 then objPage00 else
  if page = 0x10 then objPage10 else
  if page = 0x11 then objPage11 ++ objPage11_1 else
  if page = 0x12 then objPage12 else
  if page = 0x13 then objPage13 ++ objPage13_1 else
  if page = 0x14 then objPage14 else
  if page = 0x20 then objPage20 ++ objPage20_1 else
  if page = 0x30 then objPage30 ++ objPage30_1 else
  if page = 0x31 then objPage31 ++ objPage31_1 else
  if page = 0x38 then objPage38 ++ objPage38_1 else
  if page = 0x40 then objPage40 ++ objPage40_1 else
  if page = 0x48 then objPage48 ++ objPage48_1 else
  if page = 0x50 then objPage50 else
  if page = 0x54 then objPage54 else
  if page = 0x58 then objPage58 ++ objPage58_1 ++ objPage58_2 else
  if page = 0x60 then objPage60 ++ objPage60_1 ++ objPage60_2 else
  if page = 0x68 then objPage68 else
  if page = 0x70 then objPage70 else
  if page = 0x78 then objPage78 else
  if page = 0x7c then objPage7c else
  if page = 0x7e then objPage7e else
  if page = 0x80 then objPage80 else
  []

end Sys2Proof.Machine
end

