-- ==== Sys2Proof/Machine/AirTypes.lean ====
section
/-! DEFINITION. What the air MAC, the Ostler and the Locksmith hold beside their objects: stations, scoreboards, TWT
agreements, plans, key slots and secure associations. -/

namespace Sys2Proof.Machine

/-- An MPDU that a scoreboard holds (R125): its sequence number, its number among received MPDUs and when it was held. -/
structure Held where
  sn : Nat
  mpdu : Nat
  since : Nat
  deriving DecidableEq, Repr

/-- A receive scoreboard (R123): the agreed window, 0 with no agreement, WinStart, the marked numbers, the MPDUs held, and the
last number accepted without an agreement. -/
structure Scoreboard where
  window : Nat := 0
  start : Nat := 0
  marked : List Nat := []
  held : List Held := []
  lastSn : Option Nat := none
  /-- MPDUs marked since the scoreboard was last mirrored (R194). -/
  unsent : Nat := 0
  deriving DecidableEq, Repr

/-- A station beside its entry in the Ledger (R114, R123, R128, R129, R160 to R165). -/
structure Station where
  boards : Tab Scoreboard := []
  /-- The one-entry cache of non-QoS data and management frames: SN and fragment number. -/
  cache : Option (Nat × Nat) := none
  /-- The next sequence number by TID, 8 for non-QoS frames. -/
  txSn : Tab Nat := []
  /-- The agreed transmit window by TID, for agreements this module originates. -/
  txWindow : Tab Nat := []
  /-- TIDs for which an ADDBA request has gone out (R128). -/
  asked : List Nat := []
  /-- BlockAckReqs owed: TID and the next sequence number (R128, R200). -/
  bars : List (Nat × Nat) := []
  /-- The last 16 received signal strengths, newest first. -/
  rssi : List Int := []
  /-- Links with a PS-Poll flag, and links in a U-APSD service period (R129). -/
  psPoll : List Nat := []
  service : List Nat := []
  /-- MCS and NSS by radio, in the layout of `rate_a` (R160, R179), and good exchanges in a row. -/
  rate : Tab Nat := []
  good : Tab Nat := []
  /-- Real time of the last CSI by radio, and the correlation with other stations in 1/256 (R161, R164). -/
  csiAt : Tab Nat := []
  corr : Tab (List (Nat × Nat)) := []
  /-- The uplink: credit, bytes last reported, real time of the report (R165). -/
  credit : Int := 0
  bsr : Nat := 0
  bsrAt : Option Nat := none
  deriving DecidableEq, Repr

/-- A key slot beside its objects (R221, R228): the key, the ten replay counters C, whether kind 0x44 was reported. -/
structure KeySlot where
  material : Octets := []
  replay : Tab Nat := []
  warned : Bool := false
  deriving DecidableEq, Repr

/-- A secure association of MACsec (R239, R240): the key, the next or lowest acceptable PN and C. -/
structure SecAssoc where
  key : Octets
  salt : Octets
  ssci : Nat
  /-- 1 ACTIVE, 2 EXHAUSTED. -/
  state : Nat
  pn : Nat
  passed : Nat
  warned : Bool
  deriving DecidableEq, Repr

/-- A protected MPDU or uplink frame in flight through a cipher engine (R230): who it is for, its slot, counter and PN. -/
structure InFlight where
  id : Nat
  /-- The key slot, or for MACsec the secure association. -/
  slot : Nat
  counter : Nat
  pn : Nat
  macsec : Bool
  /-- For MACsec: the frame's length, and whether `port_accept` refuses it (R289). -/
  len : Nat
  refused : Bool
  deriving DecidableEq, Repr

/-- The Locksmith (R215 to R245). -/
structure Locksmith where
  slots : Tab KeySlot := []
  /-- Released protected MPDUs not yet taken, by number, in release order (R229). -/
  input : List Nat := []
  /-- MPDUs held at check 5 (R230). -/
  waiting : List Nat := []
  flight : List InFlight := []
  assocs : Tab SecAssoc := []
  /-- `sa_key` and `sa_salt` have been written since the last INSTALL (R244). -/
  saKey : Option Octets := none
  saSalt : Option Octets := none
  /-- `key_value` as staged (R222). -/
  keyValue : Octets := []
  /-- Real time of the last kind 0x42, by port (R240). -/
  lastIcv : Tab Nat := []
  deriving DecidableEq, Repr

/-- A received MPDU that is still on its way: by which radio, the MPDU, its receive time and its cells' buffer. -/
structure Arrived where
  radio : Nat
  mpdu : RxMpdu
  station : Option Nat
  stamp : Nat
  buf : Nat
  deriving DecidableEq, Repr

/-- What a PPDU being received has shown the SIFS responder so far (R119, R120): the frames to answer. -/
structure RxPpdu where
  acks : List (Nat × Nat) := []
  single : Option Octets := none
  rts : Option Octets := none
  bar : Option (Nat × Nat) := none
  psPoll : Option Octets := none
  stations : List Nat := []
  deriving DecidableEq, Repr

/-- A template that waits for its TBTT (R139): its bytes and when the write completed. -/
structure Shadow where
  bytes : Octets
  written : Nat
  deriving DecidableEq, Repr

/-- The air MAC (R112 to R149). -/
structure Mac where
  stations : Tab Station := []
  /-- The NAV's end by radio, in ns of the time base (R116). -/
  nav : Tab Nat := []
  arrived : Tab Arrived := []
  next : Nat := 0
  ppdu : Tab RxPpdu := []
  /-- Deauthentications sent in the last second: radio, transmitter address, real time (R118). -/
  deauths : List (Nat × Octets × Nat) := []
  /-- Management frames to send, oldest first: radio and frame. -/
  outgoing : List (Nat × TxContent) := []
  /-- Beacon results other than SENT in a row, by radio (R138). -/
  beaconFails : Tab Nat := []
  /-- Shadow templates by register key, and templates in use (R139). -/
  shadows : Tab Shadow := []
  templates : Tab Octets := []
  /-- Watched beacons missed in a row: lead's by radio, upstream's by 3 + radio; and upstream beacons received in a row on a
  lost link (R140 to R142). -/
  missed : Tab Nat := []
  regained : Tab Nat := []
  twt : Tab Twt := []
  /-- Stations joined to broadcast schedules: 8 × radio + schedule (R134). -/
  members : Tab (List Nat) := []
  /-- BSSIDs whose group key must be installed again after a cold takeover, 48 for the upstream AP's (R202). -/
  coldBss : List Nat := []
  deriving DecidableEq, Repr

/-- A frame in an air queue (R322, R326): its buffer, bytes, TID, the link that a host descriptor names (R63), when it
entered, and its binding if it has one. -/
structure AirFrame where
  buf : Nat
  bytes : Octets
  tid : Nat
  link : Option Nat
  since : Nat
  eapol : Bool
  radio : Option Nat
  sn : Option Nat
  pn : Option Nat
  slot : Option Nat
  sends : Nat
  deriving DecidableEq, Repr

/-- One user of an exchange: the station, the access category it is drawn from, its MCS and NSS, the resource unit in data
subcarriers and the frames bound. -/
structure ExUser where
  station : Nat
  ac : Nat
  mcs : Nat
  nss : Nat
  ru : Nat
  bytes : Nat
  frames : List AirFrame
  deriving DecidableEq, Repr

/-- The kinds of exchange (R157 to R168). -/
inductive ExKind where
  | beacon | group | management | psPoll | twt | retry | muMimo | ofdma | su | trigger | bsrp | sounding | muRts
  deriving DecidableEq, Repr

/-- One exchange of a plan (R168): the start, its PPDU's and its whole duration in ns from the boundary, whether it opens a
TXOP, and where it must end. -/
structure Exchange where
  kind : ExKind
  ac : Nat
  users : List ExUser
  content : Option TxContent
  start : Nat
  preamble : Nat
  ppdu : Nat
  length : Nat
  opens : Bool
  windowEnd : Option Nat
  paired : Bool
  subchannels : List Nat
  chains : Nat
  bss : Nat
  /-- The tag of its transmit command. -/
  tag : Nat
  deriving DecidableEq, Repr

/-- A radio's plan (R152, R171): the plan that closed for the coming frame, what is left of the running one, the slip so far,
and the contention's doublings. -/
structure RadioPlan where
  closed : List Exchange := []
  running : List Exchange := []
  slip : Nat := 0
  doubled : Nat := 0
  /-- The radio's plan for the coming frame is empty by R153. -/
  empty : Bool := false
  /-- Exchanges sent and not yet ended, by the tag of their command. -/
  sent : Tab Exchange := []
  deriving DecidableEq, Repr

/-- A grant of the Miller (R325): the air queue and its allowance in bytes. -/
structure Allowance where
  queue : Nat
  bytes : Nat
  deriving DecidableEq, Repr

/-- An MPDU sent and not yet acknowledged (R128): its station, access category and radio, the exchange's tag and the frame. -/
structure Unacked where
  station : Nat
  ac : Nat
  radio : Nat
  tag : Nat
  frame : AirFrame
  deriving DecidableEq, Repr

/-- The Ostler (R150 to R180). -/
structure Ostler where
  plans : Tab RadioPlan := []
  grants : List Allowance := []
  /-- The real time at which the present frame began, and the time base's ns of it. -/
  began : Nat := 0
  beganTb : Nat := 0
  /-- The ns the running frame and the coming one last. -/
  frameLength : Nat := 1000000
  nextTag : Nat := 0
  sent : List Unacked := []
  /-- MPDUs sent and found lost, by tag × 65,536 + station, of exchanges not yet wholly answered (R160). -/
  tally : Tab (Nat × Nat) := []
  /-- The station whose uplink was served last (R165). -/
  lastUplink : Nat := 0
  /-- Stations triggered whose TB PPDU is awaited: radio, station, bytes. -/
  triggered : List (Nat × Nat × Nat) := []
  /-- Beacons and group deliveries planned by TBTT, not yet laid out: radio. -/
  beacons : List (Nat × TxContent) := []
  deriving DecidableEq, Repr

end Sys2Proof.Machine
end

