-- ==== Sys2Proof/Machine/FabricTypes.lean ====
section
/-! DEFINITION. What the fabric holds beside its objects: cells, frames, tokens and tasks, the parse graph's banks, the rule
versions, flows, routes and the forwarding database, queues and meters, and the DRAM channels. -/

namespace Sys2Proof.Machine

/-- A buffer of cells (R314): its cells on die and in the overflow, whether it is a reserved frame's, whether a scoreboard
holds it (R315), its legs (what still refers to it), and the from-host queue and descriptor whose stamp its first leg's
departure gives (R403). -/
structure Buf where
  onDie : Nat
  spilled : Nat
  reserved : Bool
  held : Bool
  legs : Nat
  stampFor : Option (Nat × Nat)
  /-- An uncorrectable error was found in its cells in the overflow: it is dropped when fetched (R367). -/
  bad : Bool := false
  deriving DecidableEq, Repr

/-- A frame as the presenter gives it (R248): its buffer, the presented bytes, the source in the `port` layout of R63, the
TID byte, BSSID index, whether it was protected, whether a subframe, its receive stamp in ns, its colour, and the verdict it
waits for. -/
structure Frame where
  buf : Nat
  bytes : Octets
  source : Nat
  tid : Nat
  bss : Nat
  isProtected : Bool
  subframe : Bool
  stamp : Nat
  colour : Nat
  awaits : Option Nat
  /-- An air frame that is not presented: the to-host queue the air MAC fixed (R341), and its bytes are the MPDU. -/
  toHost : Option Nat
  /-- The length class of the presenter that ends the frame's walk before it begins (R250), or 0. -/
  cls : Nat
  deriving DecidableEq, Repr

/-- A walk of the parse graph (R256): the cursor and the end, visits, tags and the first TCI, the FRAG and TUNNEL flags, the key's
extracted bytes, the layer record, the last node, and the class that ended it. -/
structure Walk where
  c : Nat
  last : Nat
  visits : Nat
  vlans : Nat
  tci : Nat
  frag : Bool
  tunnel : Bool
  ext : Octets
  layers : List Nat
  node : Nat
  cls : Nat
  deriving DecidableEq, Repr

/-- Where a leg goes. -/
inductive Target where
  | uplink (port : Nat)
  | station (index : Nat)
  | bss (index : Nat)
  | varlan
  | host (queue : Nat)
  | tunnel (index : Nat)
  | drop
  deriving DecidableEq, Repr

/-- One leg of a frame (R347): the target, the bytes that go there, the egress VID and priority, the reason and session of a
host or mirror copy, and whether it counts as flooded or as a copy that R274 keeps. -/
structure Leg where
  target : Target
  bytes : Octets
  vid : Nat
  prio : Nat
  /-- Sent as given: neither tag nor membership (R306). -/
  asGiven : Bool
  reason : Nat
  session : Option Nat
  flooded : Bool
  /-- A copy leg of a rule action (R274). -/
  kept : Bool
  deriving DecidableEq, Repr

/-- How the flow lookup of an IP frame went (R301). -/
inductive FlowLookup where
  | none | hit (record : Nat) | miss | overflow
  deriving DecidableEq, Repr

/-- The decision of R290 for a frame: its step-by-step outcome, read only until dispatch. -/
structure Decision where
  legs : List Leg
  /-- Counters of R311 and R312 that move at dispatch. -/
  counts : List Nat
  vid : Nat
  /-- The flow key and its hash, for an IP frame (R299). -/
  flow : Option (Octets × Nat)
  lookup : FlowLookup
  at_ : Nat
  pin : Nat
  pinGen : Nat
  /-- The address to learn: VID, SA and the port or tunnel (R292). -/
  learn : Option (Nat × Octets × Nat)
  /-- TCP flags of the innermost TCP header (R300). -/
  tcpFlags : Nat
  proto : Nat
  dropped : Bool
  /-- The colour and the priority the frame comes with (R320, R330), and whether the flow table takes it (R301). -/
  colour : Nat
  prio : Nat
  tracked : Bool
  /-- The decision was not that of a usable pin, so a record that was hit takes the new one (R302). -/
  repin : Bool
  deriving DecidableEq, Repr

/-- The classification operand (R342). -/
inductive Fate where
  | exception (action : Nat)
  | ruled (row : Option Nat) (commit : Nat) (action : Nat) (d : Decision)
  /-- Forced to DROP at the drain limit (R280), or by a faulty row (R283). -/
  | forced (drained : Bool)
  /-- A frame that is not presented (R342). -/
  | fixed (queue : Nat)
  deriving DecidableEq, Repr

/-- A token of the matching store (R341 to R347). -/
structure Token where
  id : Nat
  frame : Frame
  walk : Walk
  key : Octets
  tag : Nat
  since : Nat
  verdict : Bool
  fate : Option Fate
  /-- The rule version of its stamp and the commit it stood at, whether it still holds it, and whether the lookup is still to
  be made. -/
  version : Nat
  commit : Nat
  holds : Bool
  toLook : Bool
  /-- The bucket whose arrival its decision waits for, with the rule's row and action. -/
  bucket : Option Nat
  row : Option Nat
  action : Nat
  deriving DecidableEq, Repr

/-- A task (R347): the token's number, primary or one copy leg, when released, and all the primary needs. -/
structure Task where
  token : Token
  leg : Option Leg
  since : Nat
  urgent : Bool
  /-- A copy task becomes dispatchable when its primary has left service. -/
  blocked : Bool
  held : Bool
  deriving DecidableEq, Repr

/-- The Carter (R340 to R353). -/
structure Carter where
  tokens : List Token := []
  next : Nat := 0
  urgent : List Task := []
  normal : List Task := []
  ringUrgent : List Task := []
  ringNormal : List Task := []
  service : List Task := []
  /-- Tasks taken from URGENT in a row while NORMAL held any (R348). -/
  burst : Nat := 0
  /-- Real times of the last kinds 0x5D and 0x5F. -/
  lastFull : Option Nat := none
  lastRing : Option Nat := none
  /-- A tracker bank is quiesced and holds its releases (R351). -/
  quiesced : Bool := false
  deriving DecidableEq, Repr

/-- The parse graph's banks (R265): entries that differ from the default graph, by windowed register key; errors that stay. -/
structure Graph where
  active : Tab Nat := []
  shadow : Tab Nat := []
  /-- The shadow bank is being made equal to the active one. -/
  copying : Bool := false
  /-- Entries with an uncorrectable error that a staged change keeps from being restored, and real times of kind 0x51. -/
  bad : List Nat := []
  lastBad : Option Nat := none
  /-- The real time of the last kind 0x50, by class (R260). -/
  lastExc : Tab Nat := []
  /-- Whether the last boundary swapped the banks for a commit, so that a rollback swaps them back. -/
  swapped : Bool := false
  deriving DecidableEq, Repr

/-- One rule row (R269, R270), the commit that last wrote it and whether it is faulty (R283). -/
structure RuleRow where
  value : Octets
  mask : Octets
  action : Nat
  deriving DecidableEq, Repr

/-- One version of the rule memory. -/
structure RuleBank where
  width : Nat := 0
  miss : Nat := 0x40000000
  rows : Tab RuleRow := []
  faulty : List Nat := []
  deriving DecidableEq, Repr

/-- A row as the staging log holds it (R276): whole, as it is to stand. -/
structure RowStage where
  valid : Bool
  value : Octets
  mask : Octets
  action : Nat
  deriving DecidableEq, Repr

/-- The rule memory (R268 to R286). -/
structure Rules where
  current : RuleBank := {}
  other : RuleBank := {}
  logWidth : Option Nat := none
  logMiss : Option Nat := none
  logRows : Tab RowStage := []
  /-- The commit that last wrote each row, for stale hits (R281), and the number of the present commit. -/
  written : Tab Nat := []
  missWritten : Nat := 0
  commit : Nat := 0
  switched : Nat := 0
  deriving DecidableEq, Repr

/-- A flow record (R300). -/
structure FlowRec where
  key : Octets
  state : Nat
  fin : Bool
  rst : Bool
  cls : Nat
  pin : Nat
  pinGen : Nat
  lastSeen : Nat
  packets : Nat
  bytes : Nat
  /-- The real time of its allocation or last repin (R300). -/
  fresh : Nat
  /-- It was allocated while a FLUSH ran, which keeps it (R304). -/
  young : Bool
  deriving DecidableEq, Repr

/-- An entry of the forwarding database (R292): the port, or 256 + tunnel, and when it was refreshed. -/
structure FdbEntry where
  vid : Nat
  addr : Octets
  where_ : Nat
  seen : Nat
  deriving DecidableEq, Repr

/-- A route (R295): the prefix as the number of its bits from the top. -/
structure Route where
  vrf : Nat
  prefixBytes : Octets
  len : Nat
  nexthop : Nat
  deriving DecidableEq, Repr

/-- The switch region (R287 to R312). -/
structure Switch where
  flows : Tab FlowRec := []
  /-- Cached records by set, most recently used first (R300). -/
  cache : Tab (List Nat) := []
  /-- Buckets being read (R301). -/
  slots : List Nat := []
  lastOverload : Option Nat := none
  /-- When the FLUSH that runs began. -/
  flushed : Option Nat := none
  fdb : List FdbEntry := []
  v4 : List Route := []
  v6 : List Route := []
  /-- Announcements still to send (R307): the VID, the SA and the ports left. -/
  announce : List (Nat × Octets × Nat) := []
  deriving DecidableEq, Repr

/-- A frame in a wired queue, a host direct queue or the Varlan direct queue. -/
structure OutFrame where
  buf : Nat
  bytes : Octets
  /-- The port's tag: VID and priority, or none. -/
  tag : Option Nat
  /-- The write-back fields of a host descriptor (R63). -/
  source : Nat
  tid : Nat
  reason : Nat
  info : Nat
  stamp : Nat
  session : Option Nat
  deriving DecidableEq, Repr

/-- An air queue (R321, R323, R325): its frames, deficit, round stamp, whether in the list, granted and the bytes charged. -/
structure AirQueue where
  frames : List AirFrame := []
  deficit : Nat := 0
  stamp : Nat := 0
  granted : Bool := false
  charged : Nat := 0
  drops : Nat := 0
  deriving DecidableEq, Repr

/-- A wired queue (R321, R324). -/
structure WiredQueue where
  frames : List OutFrame := []
  deficit : Nat := 0
  stamp : Nat := 0
  sentFrames : Nat := 0
  sentBytes : Nat := 0
  drops : Nat := 0
  /-- The queue has had its quantum in the turn that runs. -/
  turn : Bool := false
  deriving DecidableEq, Repr

/-- A scheduler (R323): the round and the list of active queues. -/
structure Scheduler where
  round : Nat := 1
  list : List Nat := []
  deriving DecidableEq, Repr

/-- A meter's buckets in 1/256 byte and when they were last filled (R331). -/
structure Meter where
  c : Nat
  x : Nat
  filled : Nat
  deriving DecidableEq, Repr

/-- The Draper, the Miller and the Weigher (R313 to R339). -/
structure Miller where
  bufs : Tab Buf := []
  next : Nat := 0
  lastExhausted : Option Nat := none
  air : Tab AirQueue := []
  airSched : Scheduler := {}
  /-- Group-addressed frames held for each BSSID, planned after its DTIM beacon (R130). -/
  group : Tab (List AirFrame) := []
  wired : Tab WiredQueue := []
  wiredSched : Tab Scheduler := []
  host : Tab (List OutFrame) := []
  varlan : List OutFrame := []
  meters : Tab Meter := []
  /-- Cells lost to a queue-link error, not yet reclaimed (R328). -/
  unowned : Nat := 0
  /-- The overflow is reported unavailable (R318). -/
  noOverflow : Bool := false
  deriving DecidableEq, Repr

/-- A request to a DRAM channel (R358, R359): port, bank, row, block, direction, and when it arrived. -/
structure DramReq where
  port : Nat
  bank : Nat
  row : Nat
  block : Nat
  write : Bool
  since : Nat
  deriving DecidableEq, Repr

/-- A channel controller (R359, R361): requests in order of arrival, the write buffer, whether it drains, the open row by bank,
refreshes owed by bank, and commands since port 4's last. -/
structure Channel where
  reqs : List DramReq := []
  writes : List DramReq := []
  draining : Bool := false
  openRow : Tab Nat := []
  owed : Tab Nat := []
  since4 : Nat := 0
  deriving DecidableEq, Repr

/-- The Cellarer (R354 to R372). -/
structure Cellarer where
  channels : Tab Channel := []
  /-- Ports in panic in the order of entry, with the time each entered. -/
  panic : List (Nat × Nat) := []
  /-- Regions disabled (R368), and the times of uncorrectable errors by region within the last hour. -/
  disabled : List Nat := []
  errors : Tab (List Nat) := []
  /-- Regions being re-initialised. -/
  enabling : Bool := false
  /-- Attempts of training that have failed (R363), by channel. -/
  attempts : Tab Nat := []
  /-- The patrol scrubber's next block. -/
  patrol : Nat := 0
  /-- Bad blocks of capture pools. -/
  badBlocks : List Nat := []
  /-- Tasks ever appended to and taken from each ring: 0 URGENT, 1 NORMAL (R349). -/
  ringIn : Tab Nat := []
  ringOut : Tab Nat := []
  /-- Channel temperatures at their last training, and the real time of it (R365). -/
  trainedTemp : Tab Int := []
  trainedAt : Nat := 0
  deriving DecidableEq, Repr

end Sys2Proof.Machine
end

