-- ==== Sys2Proof/Machine/Types.lean ====
section
/-! DEFINITION. The parts of the machine's state that every family of commands shares: statuses, the part and its fuses,
fault messages, the epoch coordinator, the transports, the host queues and what the module sends outward. -/

namespace Sys2Proof.Machine

/-- The status codes of R14. -/
inductive Status where
  | ok | busy | deferred | denied | absent | conflict | range | type | stale | authFail | timeout | rolledBack | locked
  deriving DecidableEq, Repr

/-- The three parts of R2. -/
inductive Part where
  | dr9316 | dr9212 | dr9108
  deriving DecidableEq, Repr

/-- The fused limits of one radio (R97, R98). -/
structure RadioFuse where
  chainMax : Nat
  bandMax : Nat
  nograntMax : Nat
  dutyMax : Nat
  channels : Octets
  grantChannels : Octets
  programmed : Bool
  deriving DecidableEq, Repr

/-- What is fixed at manufacture (R41, R46): the part, the identity and the fuses. No command changes it. -/
structure Fuses where
  part : Part
  siliconRev : Nat
  serial : Octets
  /-- The Geros root key of R218. -/
  root : Octets
  secConfig : Nat
  vcoreNominal : Nat
  radioA : RadioFuse
  radioB : RadioFuse
  radioC : RadioFuse
  deriving DecidableEq, Repr

/-- One log entry of R475, with the transports it has been announced on. -/
structure LogEntry where
  msg : FaultMsg
  time : Nat
  /-- The real time of the entry in ns, against which `coalesce_time` runs (R466). -/
  written : Nat
  repeats : Nat
  reaction : Nat
  eth : Bool
  pcie : Bool
  deriving DecidableEq, Repr

/-- The Tinker's own state (R463 to R475). -/
structure Tinker where
  /-- Messages taken but not yet classified, oldest first (R466). -/
  queue : List FaultMsg := []
  /-- A message was dropped and kind 0x0B is owed (R466). -/
  fullOwed : Bool := false
  /-- Each source's own count of messages raised (R464). -/
  seqs : Tab Nat := []
  /-- The last 127 entries, by number (R475). -/
  log : Tab LogEntry := []
  /-- The quiet timer runs (R472). -/
  quiet : Bool := false
  /-- The mode the package left for QUARANTINE, and the role it had (R472). -/
  modeLeft : Nat := 0
  roleLeft : Nat := 0
  /-- HANDOVER was sent at entry (R471 step 1). -/
  sentHandover : Bool := false
  /-- An entry waits for the end of TAKEOVER (R471): its reaction, source and kind. -/
  deferred : Option (Nat × Nat × Nat) := none
  /-- The module is latched (R473), held in the backup domain. -/
  latched : Bool := false
  /-- Watchman tick counts of recoveries (R472, R473). -/
  history : List Nat := []
  /-- Sources whose force bit is set (R470). -/
  forceBits : List Nat := []
  /-- Real time of the last announcement on management Ethernet and on PCIe (R475). -/
  lastEth : Option Nat := none
  lastPcie : Option Nat := none
  deriving DecidableEq, Repr

/-- The transports of R55. -/
inductive Transport where
  | eth | mailbox | spi
  deriving DecidableEq, Repr

/-- A management datagram of R55: the uplink port and source it came from, and its bytes. -/
structure Datagram where
  port : Nat
  vid : Nat
  srcAddr : Octets
  srcPort : Nat
  bytes : Octets
  deriving DecidableEq, Repr

/-- A complete message waiting for the Ledger, in order of arrival (R54). -/
structure Arrival where
  transport : Transport
  order : Nat
  /-- The real time at which it was complete. -/
  since : Nat
  /-- Where a response on management Ethernet goes. -/
  port : Nat
  vid : Nat
  srcAddr : Octets
  srcPort : Nat
  bytes : Octets
  deriving DecidableEq, Repr

/-- A Ledger access record (R49): the object, the operation (1 READ, 2 WRITE) and the value it carries. -/
structure LedgerRecord where
  index : Nat
  sub : Nat
  op : Nat
  value : Octets
  deriving DecidableEq, Repr

/-- A Ledger record whose far clock is stopped (R382): the message it stopped, the records answered before it, the record
itself and those after it. -/
structure Hung where
  transport : Option Transport
  arrival : Option Arrival
  /-- The response records already made, as octets. -/
  done : Octets
  doneCount : Nat
  /-- The record: index, sub-index, whether a write, and the value. -/
  index : Nat
  sub : Nat
  write : Bool
  value : Octets
  /-- The records still to run. -/
  rest : List LedgerRecord
  domain : Nat
  since : Nat
  reported : Bool
  /-- The wait is over and the record is still to end: `true` where the far clock runs again and the access goes on, `false` where a
  reset has cleared the crossing, which ends the record TIMEOUT (R382, R384). -/
  ended : Option Bool := none
  deriving DecidableEq, Repr

/-- A transport's replay state (R51) and its last AUTH_FAIL response (R52). -/
structure Replay where
  high : Nat := 0
  map : Nat := 0
  lastFail : Option Nat := none
  deriving DecidableEq, Repr

/-- One saved slot or other tagged flash record holding object values (R44). -/
structure SavedSet where
  valid : Bool := false
  generation : Nat := 0
  regs : Tab Nat := []
  blobs : Tab Octets := []
  deriving DecidableEq, Repr

/-- The operation a save engine runs (R45). -/
inductive SaveOp where
  | save (regs : Tab Nat) (blobs : Tab Octets)
  | clear
  deriving DecidableEq, Repr

/-- The Scrivener engines, the Ledger store and the boot flash (R48 to R59, R518). -/
structure Ledger where
  eth : Replay := {}
  mb : Replay := {}
  spi : Replay := {}
  /-- The module's own NOTIFY counter (R52). -/
  notifyCount : Nat := 0
  /-- `ledger_node` and `transports` in force: a write takes effect after its response (R57). -/
  node : Nat := 0
  enabled : Nat := 0
  mbReq : Octets := []
  mbResp : Octets := []
  mbStatus : Nat := 0
  mbRespLen : Nat := 0
  /-- The management SPI state byte of R56 and the response it holds. -/
  spiState : Nat := 0
  spiResp : Octets := []
  /-- Messages complete and waiting, oldest first. -/
  arrivals : List Arrival := []
  nextOrder : Nat := 0
  /-- The port and the source of the last accepted management datagram (R475). -/
  lastPort : Option Nat := none
  hung : List Hung := []
  saveOp : Option SaveOp := none
  slot0 : SavedSet := {}
  slot1 : SavedSet := {}
  peerKey : Option Octets := none
  bootCount0 : Nat := 0
  bootCount1 : Nat := 0
  /-- The backup time latched for the message that is running (R428). -/
  backupLatch : Option (List Nat) := none
  deriving DecidableEq, Repr

/-- A claim of R69: the resource and the HID of its owner, by resource number. -/
abbrev Claims := Tab Nat

/-- What an epoch commit carries (R33, R184): the host's staged writes, or an automatic commit's own target modes. -/
inductive CommitKind where
  | host | auto (modeA modeB : Nat)
  deriving DecidableEq, Repr

/-- The epoch coordinator and this package's own place in a commit (R30 to R36). -/
structure Epoch where
  kind : CommitKind := .host
  /-- This module coordinates the commit that runs. -/
  coordinator : Bool := false
  /-- The units that still owe an acknowledgement of the present phase. -/
  waiting : List Nat := []
  /-- The units that have applied. -/
  applied : List Nat := []
  /-- Units that refused or were late, or were reset. -/
  laggards : List Nat := []
  /-- The earliest instant of the apply or rollback boundary (R32). -/
  earliest : Option Nat := none
  /-- The boundary has passed and units may acknowledge. -/
  switched : Bool := false
  /-- Values before the switch, to restore: `none` where the register stood at its default. -/
  oldRegs : Tab (Option Nat) := []
  oldBlobs : Tab (Option Octets) := []
  oldMode : Nat := 0
  /-- The active parse graph before the switch. -/
  oldGraph : Tab Nat := []
  /-- Key slots that the switch orphaned (R223). -/
  orphaned : List Nat := []
  /-- Radios that run FULL from the apply boundary (R447). -/
  fulls : List Nat := []
  /-- Units whose acknowledgements no longer count: reset, or their package made a fast-path change (R33). -/
  lost : List Nat := []
  /-- This package made a fast-path change during the commit (R34): its mode is no longer the commit's to set. -/
  fast : Bool := false
  /-- Stopped domains and unpowered dies that the prepare starts (R375, R447). -/
  started : List Nat := []
  poweredUp : List Nat := []
  /-- The peer takes part in the commit (R36). -/
  peerIn : Bool := false
  /-- An automatic commit waits for phase IDLE (R184): its target modes. -/
  autoWaiting : Option (Nat × Nat) := none
  /-- As the peer of another coordinator: the phase it last named, 0 none, 1 PREPARE, 2 APPLY_AT, 3 applied. -/
  peerPhase : Nat := 0
  deriving DecidableEq, Repr

/-- What the module writes back into a descriptor (R63, R64). -/
structure WriteBack where
  result : Nat
  length : Nat
  flags : Nat
  cookie : Nat
  port : Nat
  tid : Nat
  reason : Nat
  info : Nat
  stamp : Nat
  deriving DecidableEq, Repr

/-- The registers of one host queue (R61) and what its engine holds. -/
structure HostQueue where
  tail : Nat := 0
  head : Nat := 0
  badTail : Bool := false
  dmaErr : Bool := false
  stopped : Bool := false
  full : Bool := false
  /-- The from-host descriptor in hand, and whether it waits for cells (R60). -/
  inHand : Option Descriptor := none
  waitCells : Bool := false
  /-- Disable was written while a descriptor was in hand (R62). -/
  stopping : Bool := false
  /-- Descriptors taken in whose write-back waits, in ring order: number, write-back, and whether its own stamp is awaited
  (R403); and the next number. -/
  held : List (Nat × WriteBack × Bool) := []
  nextId : Nat := 0
  /-- Completions not yet signalled, and whether `irq_time` runs. -/
  unsignalled : Nat := 0
  irqTimer : Bool := false
  deriving DecidableEq, Repr

/-- The results of R83. -/
inductive TxResult where
  | sent | muted | regBlocked | noGrant | dutyLimit | busy | synthNotReady | late
  deriving DecidableEq, Repr

/-- A calibration that a radio runs (R89, R91): its kind, the chains still to do with the present one first, the step
of the present chain, and when it first started. -/
structure CalRun where
  kind : Nat
  chains : List Nat
  step : Nat
  started : Nat
  yielded : Bool
  deriving DecidableEq, Repr

/-- A transmit command's result on its way to the unit that issued it (R85). -/
structure TxReport where
  radio : Nat
  cmd : TxCmd
  result : TxResult
  deriving DecidableEq, Repr

/-- A grant as INSTALL took it (R101, R102). -/
structure Grant where
  first : Nat
  last : Nat
  power : Nat
  expiry : Nat
  deriving DecidableEq, Repr

/-- A radio's own state beside its objects (R78 to R107). -/
structure Radio where
  /-- Commands accepted and not yet started, in start order (R83, R84). -/
  cmds : List TxCmd := []
  /-- The real time in ns of the first sample the radio can send after a PPDU or after lock (R79, R84). -/
  readyAt : Nat := 0
  /-- The PPDU on air and the power of each of its chains. -/
  onAir : Option TxCmd := none
  airPower : Tab Nat := []
  /-- Transmit times of the last second: start instant and duration in ns (R100). -/
  duty : List (Nat × Nat) := []
  cal : Option CalRun := none
  /-- The FULL of TRAIN or of R447, which is no maintenance activity, runs. -/
  trainFull : Bool := false
  /-- The radio has left OFF since reset, and has since reached RX (R96). -/
  leftOff : Bool := false
  reachedRx : Bool := false
  /-- A target that takes effect when the PPDU in progress has completed, 4 for a retune (R80). -/
  afterPpdu : Option Nat := none
  /-- The chain temperature at each chain's last successful PREDISTORT (R92), as read. -/
  pdTemp : Tab Nat := []
  /-- The real time of each chain's last successful PREDISTORT, alone or within FULL (`pd_age`, R109). -/
  pdAt : Tab Nat := []
  /-- The die's gain cut on each chain since the PPDU began, in 0.25 dB (R99). -/
  gainCut : Tab Nat := []
  /-- Coefficients kept by engine, as the number of the run that made them (R90). -/
  coeff : Tab Nat := []
  /-- Chains in state FAULT (R93), and their paths that were reset since: twice the chain, plus 1 for the receive path. -/
  faulty : List Nat := []
  resetSince : List Nat := []
  /-- The crystal has been started and is not yet stable (R80). -/
  crystal : Bool := false
  /-- The grants in force, by entry: first and last channel, power and expiry in ns (R102). -/
  grants : Tab Grant := []
  deriving DecidableEq, Repr

/-- The Varlan messages this module sends, by content (R187); a number names the record, tag or station they are about. -/
inductive VMsg where
  | heartbeat (h : HbMsg)
  | epoch (m : EpochMsg)
  | epochAck (phase hid : Nat) (agrees : Bool)
  | join (serial : Octets)
  | handover
  | standDown
  | standDownAnswer
  | forward (key value : Nat) (octets : Octets) (staged : Bool)
  | forwardAck (key : Nat) (accepted : Bool)
  | copy (d : CopyData)
  | rxpn (r : MirrorRec)
  | rxpnAck (token : Nat)
  | mirror (number : Nat) (r : MirrorRec)
  | mirrorAck (record : Nat)
  | pairTx (c : TxCmd)
  | pairGo (tag start : Nat)
  | pairResult (tag : Nat) (sent : Bool)
  | pairCancel (tag : Nat)
  | csi (station : Nat) (corr : List (Nat × Nat))
  | alignRequest
  | alignAnswer (admitted : Bool)
  | frame (bytes : Octets)
  deriving DecidableEq, Repr

/-- What the module sends outward. -/
inductive Out where
  /-- A Scrivener response on a transport, with the port, VLAN, address and UDP port for management Ethernet. -/
  | response (t : Transport) (port vid : Nat) (addr : Octets) (udp : Nat) (bytes : Octets)
  /-- A NOTIFY message on management Ethernet. -/
  | notify (port : Nat) (addr : Octets) (bytes : Octets)
  /-- An MSI-X vector raised. -/
  | msix (vector : Nat)
  /-- A Varlan message of a class (R187) with its `vcount` (R188). -/
  | varlan (cls vcount : Nat) (m : VMsg)
  /-- A PPDU sent on a radio at an instant, with the power of each chain. -/
  | air (radio start : Nat) (cmd : TxCmd) (power : Tab Nat)
  /-- A PPDU on air was cut (R77, R86). -/
  | airCut (radio tag : Nat)
  /-- A frame handed to a port, with its egress stamp. -/
  | uplink (port : Nat) (stamp : Nat) (bytes : Octets)
  /-- The same under MACsec (R239): the AN, the PN, whether the SecTAG carries the SCI, and the frame before encryption. -/
  | uplinkSec (port stamp an pn : Nat) (sci : Bool) (bytes : Octets)
  /-- A frame written into a to-host buffer, and a descriptor's write-back. -/
  | hostFrame (queue addr : Nat) (bytes : Octets)
  | writeBack (queue head : Nat) (d : WriteBack)
  /-- The level of a GFP pin, of PPS_OUT and of PWRON_OUT. -/
  | pin (gfp : Nat) (level : Bool)
  | ppsOut (level : Bool)
  | pwronOut (level : Bool)
  /-- An AVSBus write of a target, in mV, or a status read. -/
  | avsWrite (mv : Nat)
  | avsRead
  /-- A DRAM channel command: channel, bank, row, and what it does. -/
  | dram (ch bank row code : Nat)
  /-- The value a BAR0 read or a snapshot read gives. -/
  | bar0Read (offset value : Nat)
  /-- A PTP message of a port's own (R404), with its departure in units of TB96. -/
  | ptp (port : Nat) (kind : PtpKind) (stamp : Nat)
  deriving DecidableEq, Repr

/-- The start of the module (R506, R518 to R526). -/
structure Boot where
  /-- PORST_N is low, or VCORE has not met the release condition (R506). -/
  inReset : Bool := false
  /-- PERST_N is asserted (R507). -/
  perst : Bool := false
  /-- PCIe link training has ended (R524). -/
  pcieUp : Bool := false
  /-- `strap_word` as sampled (R503, R504). -/
  straps : Nat := 0
  /-- The last step of R522 that has ended: 0 before BOOT's step 1. -/
  step : Nat := 0
  /-- BOOT halted (R521). -/
  halted : Bool := false
  /-- The image slots still to try, the one streaming first (R520). -/
  slots : List Nat := []
  /-- This start follows a wake from DORMANT, and the banks that passed (R451, R454). -/
  wake : Bool := false
  banksOk : Nat := 0
  /-- TRAIN: radios whose FULL still runs, and whether the module waits at its end for its peer (R525, R526). -/
  fulls : List Nat := []
  waiting : Bool := false
  /-- `search_time` has passed since TRAIN began (R526). -/
  searched : Bool := false
  /-- The serving mode chosen at the end of TRAIN, taken at the next frame boundary (R525). -/
  chosen : Option Nat := none
  /-- Units that self-test disabled (R523). -/
  disabled : List Nat := []
  deriving DecidableEq, Repr

/-- What a retention bank holds (R453): object values, routes, and for a radio die the coefficients of its engines and what goes
with them. -/
structure Bank where
  sealed : Bool := false
  regs : Tab Nat := []
  blobs : Tab Octets := []
  /-- Routes of bank 2: VRF, prefix, length and next hop. -/
  routes : List (Nat × Octets × Nat × Nat) := []
  coeff : Tab Nat := []
  pdTemp : Tab Nat := []
  pdAt : Tab Nat := []
  /-- The JOINT_ALIGN corrections of bank 5: when they were made, and whether they have aged out. -/
  alignedAt : Option Nat := none
  alignAged : Bool := false
  deriving DecidableEq, Repr

/-- The DORMANT record of R400. -/
structure DormantRecord where
  tb : Nat
  origin : Int
  ticks : Nat
  tbState : Nat
  uncertainty : Nat
  deriving DecidableEq, Repr

/-- The converter, the 12 V output, AVSBus and the low-power machinery (R438 to R458). -/
structure Power where
  /-- The input is in range: risen above 34.0 V and not collapsed. -/
  inputOn : Bool := false
  /-- The converter stopped on over-voltage. -/
  overVoltage : Bool := false
  /-- Kind 0x7E has been reported and the converter has not fallen below 115 °C. -/
  hotReported : Bool := false
  /-- A new VCORE target waits for the AVSBus master (R442, R443). -/
  avsPending : Bool := false
  /-- The target of the request that runs, the retries it has used, and whether it is a raise that an epoch's prepare needs. -/
  avsTarget : Option Nat := none
  avsRetries : Nat := 0
  avsRaise : Bool := false
  /-- That raise has failed, or has succeeded (R443). -/
  avsFailed : Bool := false
  avsRaised : Bool := false
  /-- The request that waits or runs carries a change of `vcore_age_offset`. -/
  avsAge : Bool := false
  /-- DORMANT entry runs: the last step of R450 done; 0 none. -/
  entryStep : Nat := 0
  /-- A wake source arrived during entry (R460): 256 × the banks that will pass, plus 1. -/
  wakePending : Nat := 0
  enteredAt : Nat := 0
  wokeAt : Nat := 0
  banks : Tab Bank := []
  record : Option DormantRecord := none
  /-- The package entered IDLE by an epoch commit (R441). -/
  idleByCommit : Bool := false
  /-- The levels that the latched GFP pads hold, by pin (R456). -/
  latchedPins : Nat := 0
  /-- VBAK is present and can hold the backup domain (R423). -/
  vbak : Bool := false
  /-- Kinds raised while the hub die was unpowered, reported at the next BOOT (R432, R439). -/
  lateKinds : List FaultMsg := []
  deriving DecidableEq, Repr

/-- The AES-GCM replay counters of the Varlan link by class (R188), for one direction. -/
structure VarlanCount where
  boot : Nat := 0
  counts : Tab Nat := []
  deriving DecidableEq, Repr

/-- A takeover that runs (R199): its trigger, its instant D and whether it is cold. -/
structure Takeover where
  trigger : Nat
  since : Nat
  cold : Bool
  deriving DecidableEq, Repr

/-- The part a module plays in a copy of R193. -/
inductive CopyRole where
  | source | joiner
  deriving DecidableEq, Repr

/-- The twin unit, the mirror engine and the paired-transmission engine (R181 to R212). -/
structure Twin where
  /-- An authenticated heartbeat arrived within `hb_stale` (R190), and what it carried. -/
  hbFresh : Bool := false
  hb : Option HbMsg := none
  /-- Local TB96 at which it arrived, and the real time. -/
  hbAt : Nat := 0
  hbSeen : Option Nat := none
  /-- An alive edge arrived within `hb_stale`; the level this module drives on GFP46. -/
  aliveFresh : Bool := false
  aliveLevel : Bool := false
  /-- The real time of the last alive edge (`alive_last_age`). -/
  aliveSeen : Option Nat := none
  /-- Mirror records received during the copy, applied after it (R193). -/
  waitingRecs : List MirrorRec := []
  /-- Heartbeat copies missed in a row, by lane (R186). -/
  missed : Tab Nat := []
  /-- Lanes in training. -/
  training : Nat := 0
  tx : Tab Nat := []
  rx : VarlanCount := {}
  /-- Real time of the last kind 0x4D (R188). -/
  lastAuthReport : Option Nat := none
  /-- This module has sent HANDOVER or answered STAND_DOWN and owns no link (R183). -/
  handedOver : Bool := false
  /-- FAULT is set in the heartbeats sent (R471). -/
  faultFlag : Bool := false
  copy : Option CopyRole := none
  /-- The copy is a resync: no mode commit follows (R183). -/
  resync : Bool := false
  copyDone : Bool := false
  copyStart : Nat := 0
  takeover : Option Takeover := none
  standDown : Bool := false
  /-- A forwarded write waits for the follower's acknowledgement (R192): the object key. -/
  forwarding : Option Nat := none
  /-- The next value to assign as the follower last acknowledged it, by counter (R195). -/
  mirrored : Tab Nat := []
  recordsSent : Nat := 0
  recordsAcked : Nat := 0
  recordsApplied : Nat := 0
  /-- Records sent and not yet acknowledged, oldest first (R195). -/
  unacked : List (Nat × MirrorRec) := []
  /-- Passing verdicts held for an RXPN acknowledgement: token and record (R196). -/
  rxpnHeld : List (Nat × Nat) := []
  rxpnNext : Nat := 0
  /-- The mirrored counters of R194 on the follower, by counter number. -/
  kind48Sent : Bool := false
  /-- The serving state that a follower shows for its own radio C (R207). -/
  alignedAt : Option Nat := none
  alignAged : Bool := false
  /-- Paired PPDUs announced to this follower and their data (R210). -/
  pairTx : Tab TxCmd := []
  /-- On the lead: paired PPDUs and whether the lead-only precoder was chosen (R211). -/
  pairFallen : Tab Bool := []
  jointCsi : Tab Nat := []
  retryAuto : Bool := false
  deriving DecidableEq, Repr

/-- One entry of the Steward's activity table (R479, R482): the activity, its target and requester, the calibration kind for
a calibration, its `mt_state` (1 QUEUED, 2 ADMITTED, 3 RUNNING) and `mt_since` as an instant of the time base in ns. -/
structure Activity where
  activity : Nat
  target : Nat
  requester : Nat
  kind : Nat
  state : Nat
  since : Nat
  /-- The plan of the next boundary had closed at admission, so the start is the boundary after (R483). -/
  late : Bool
  deriving DecidableEq, Repr

/-- The Steward's tables (R478, R485). -/
structure Steward where
  /-- Admitted and running activities. -/
  running : List Activity := []
  /-- Queued activities, oldest first. -/
  queue : List Activity := []
  /-- A JOINT_ALIGN in flight: requested of the follower and not yet answered. -/
  inflight : Option Activity := none
  /-- The follower has answered WAIT to the request in flight. -/
  answeredWait : Bool := false
  /-- On a follower: the lead's request that was answered WAIT and is still to be admitted. -/
  waitingPeer : Bool := false
  /-- `region_status` as it stands again when a DRAM_RETRAIN ends (R365). -/
  regions : Nat := 0
  deriving DecidableEq, Repr

/-- What the Surveyor holds for one margin item (R488 to R491): consecutive samples below `mi_min`, samples still without a
step, the present day's sum and count, the daily means of the last 365 days with their days, newest first, and the days of its past steps, newest first. -/
structure MarginItem where
  below : Nat := 0
  hold : Nat := 0
  sum : Int := 0
  count : Nat := 0
  means : List (Nat × Int) := []
  stepDays : List Nat := []
  deriving DecidableEq, Repr

/-- The Surveyor's plan store and trends (R490, R491). -/
structure Survey where
  items : Tab MarginItem := []
  day : Nat := 0
  /-- The plan record in flash: steps by item. -/
  flash : Tab Nat := []
  /-- The last MEM_SURVEY's weak words by hub region. -/
  weak : Tab Nat := []
  /-- The last estimate was below `life_warn`. -/
  warned : Bool := false
  /-- A VCORE step's request failed and is due again at the next sample (R443). -/
  vcoreRetry : Bool := false
  deriving DecidableEq, Repr

/-- A foreign master that a PTP port has heard (R404): its source, its Announce messages in the window and its data set. -/
structure Foreign where
  source : Nat
  port : Nat
  heard : Nat
  dataset : PtpDataset
  deriving DecidableEq, Repr

/-- A PTP port's own state (R404): foreign masters, the Sync that waits for its Follow_Up, the last master-to-slave time, and
the departure of the last delay request. -/
structure PtpPort where
  foreign : List Foreign := []
  waitingSync : Option PtpMsg := none
  masterToSlave : Option Int := none
  delayReqAt : Option Nat := none
  pdelayReqAt : Option Nat := none
  pdelayResp : Option PtpMsg := none
  deriving DecidableEq, Repr

/-- A GFP timer's own state (R413): the next k, the pin's level as the timer drives it, the capture queue, the last edge. -/
structure GfpTimer where
  k : Nat := 0
  level : Bool := false
  captures : List Nat := []
  lastEdge : Option Nat := none
  deriving DecidableEq, Repr

/-- The Clocksmith's own state (R391 to R416). -/
structure TimeBase where
  /-- What of a 2^-16 ns unit TB96 has gathered, in units of 10^-12 of it (R391). -/
  acc : Nat := 0
  /-- The servo's present adjustment in 10^-12, and its past values with the real time each began (R398). -/
  freq : Int := 0
  history : List (Nat × Int) := []
  /-- What of a SLEW is still to be spread, in 10^-12 of 2^-16 ns (R394). -/
  slewLeft : Int := 0
  /-- Measurements in a row below `lock_threshold`, and above four times it (R392). -/
  good : Nat := 0
  bad : Nat := 0
  /-- `tb_uncertainty` at the last entry or step and the real time of it (R398). -/
  uncertainty : Nat := 0
  since : Nat := 0
  /-- The TSF origin of R138, in units of TB96. -/
  origin : Int := 0
  /-- Faulted PPS_IN edges in a row (R411). -/
  ppsRun : Nat := 0
  /-- The real time of the last rise of PPS_OUT (R412). -/
  lastPps : Option Nat := none
  /-- The real time of the last kind 0x6F (R414). -/
  lastSkip : Option Nat := none
  /-- The last 16 heartbeat offsets in 2^-16 ns, newest first (R409). -/
  offsets : List Int := []
  /-- The snapshot registers of R416. -/
  snapTb : Nat := 0
  snapStatus : Nat := 0
  ports : Tab PtpPort := []
  timers : Tab GfpTimer := []
  deriving DecidableEq, Repr

/-- A move of the Ostler frame boundary (R155): what is still to be applied in ns, boundaries to wait, whether it goes by
slewing, and whether SYNC_IN asked for it. -/
structure FrameMove where
  left : Int := 0
  wait : Nat := 0
  slewing : Bool := false
  fromSync : Bool := false
  /-- A SYNC_IN edge was accepted in the present frame (R156). -/
  edgeSeen : Bool := false
  deriving DecidableEq, Repr

/-- The Watchman's own state (R427, R430): the length of the present second, the trim accumulator, the trim in force, and the
crystal's stop. -/
structure Watchman where
  length : Nat := 32768
  acc : Int := 0
  trim : Int := 0
  stopped : Bool := false
  /-- What of a tick has passed since the last one, in units of 10^-9 / 32,768 s. -/
  frac : Nat := 0
  deriving DecidableEq, Repr

end Sys2Proof.Machine
end

