-- ==== Sys2Proof/Machine/State.lean ====
section
/-! DEFINITION. The state of the module: the queue of commands, the Ledger's object values, and what its units hold. -/

namespace Sys2Proof.Machine

/-- Why the machine stops with a fault. -/
inductive Fault where
  /-- An access beyond the 64 MiB of BAR0 (R58): raised by LEDGER_WRITE. Safe: the spec gives no such address. -/
  | outsideBar0
  deriving DecidableEq, Repr

/-- Why a command is refused. -/
inductive Refusal where
  /-- The command of this mnemonic has no meaning yet: raised by exec's refused arms. Safe. -/
  | notModelled (mnemonic : String)
  deriving DecidableEq, Repr

/-- The fuses of one radio in the module that State.reset describes (DESIGN CHOICE, log 3): programmed, 20 dBm a chain and 30
dBm in all, every channel, none of them needing a grant, no duty limit. -/
def resetRadioFuse : RadioFuse :=
  { chainMax := 0x50, bandMax := 0x78, nograntMax := 0xFFFF, dutyMax := 1000, channels := List.replicate 32 255,
    grantChannels := List.replicate 32 0, programmed := true }

/-- The fuses and identity of that module (DESIGN CHOICE, log 3). -/
def resetFuses : Fuses :=
  { part := .dr9316, siliconRev := 0x10, serial := List.replicate 12 0 ++ [0x16, 0x93, 0x10, 0], root := List.replicate 32 0, secConfig := 0x17,
    vcoreNominal := 750, radioA := resetRadioFuse, radioB := resetRadioFuse, radioC := resetRadioFuse }

/-- The state of the module. -/
structure State where
  /-- The commands that wait, first in, first out. -/
  pending : List Instr := []
  /-- Fuses and identity (R41, R46). -/
  fuse : Fuses := resetFuses
  /-- Values of Ledger objects that something has set, by register key; the others read their defaults (R37, R42). -/
  regs : Tab Nat := []
  /-- Values of OCTETS objects that something has set. -/
  blobs : Tab Octets := []
  /-- Staged values of objects that act at the next epoch (R29, R535). -/
  staged : Tab Nat := []
  stagedBlobs : Tab Octets := []
  /-- The status the last Ledger access or command returned (R14). -/
  status : Status := .ok
  /-- What the module has sent outward, oldest first. -/
  out : List Out := []
  /-- The model's own counter of free values (log 1). -/
  free : Nat := 0
  /-- Real time in ns, which never steps. -/
  now : Nat := 0
  /-- TB96 in units of 2^−16 ns (R391). -/
  tb : Nat := 0
  /-- The HID's `system` field (R10). -/
  system : Nat := 0
  boot : Boot := {}
  epoch : Epoch := {}
  claims : Claims := []
  led : Ledger := {}
  hostq : Tab HostQueue := []
  tinker : Tinker := {}
  power : Power := {}
  radios : Tab Radio := []
  /-- Results of transmit commands not yet taken by their issuers (R85). -/
  txReports : List TxReport := []
  twin : Twin := {}
  /-- The value the last Ledger or BAR0 read gave. -/
  lastRead : Octets := []
  time : TimeBase := {}
  move : FrameMove := {}
  watch : Watchman := {}
  /-- Real time at which the reference PLL entered HOLDOVER (R376). -/
  refSince : Nat := 0
  /-- The plan of the next Ostler frame has closed (R152). -/
  planClosed : Bool := false
  steward : Steward := {}
  survey : Survey := {}
  mac : Mac := {}
  ost : Ostler := {}
  lock : Locksmith := {}
  /-- Frames that wait for their first node visit, in order (R247). -/
  entering : List Frame := []
  carter : Carter := {}
  graph : Graph := {}
  rules : Rules := {}
  switch : Switch := {}
  miller : Miller := {}
  dram : Cellarer := {}
  deriving DecidableEq, Repr

/-- The module right after reset: PORST_N still low, the input present, the converter, the backup and the retention domain
powered and clocked, and nothing written; every object reads its default (R42). -/
def State.reset : State :=
  { regs := [(0x111001, 2), (0x111101, 2), (0x111201, 2), (0x121D01, 32768), (0x121D02, 1), (0x122101, 50000000), (0x122102, 1)],
    boot := { inReset := true }, power := { inputOn := true } }

end Sys2Proof.Machine
end

