-- ==== Sys2Proof/Machine/Objects.lean ====
section
/-! DEFINITION. The object dictionary at work: which part has what (R2, R5, R6), where an object's value comes from when
nothing has written it (R42, R43), reading and writing register values, and counters. -/

namespace Sys2Proof.Machine

/-- The code of a status (R14). -/
def Status.code : Status → Nat
  | .ok => 0 | .busy => 1 | .deferred => 2 | .denied => 3 | .absent => 4 | .conflict => 5 | .range => 6 | .type => 7
  | .stale => 8 | .authFail => 9 | .timeout => 10 | .rolledBack => 11 | .locked => 12

/-- Fitted chains of radio `r` (R2); 0 for an absent radio. -/
def chainsOf (p : Part) (r : Nat) : Nat :=
  match p with
  | .dr9316 => if r = 0 then 8 else 16
  | .dr9212 => if r = 0 then 0 else if r = 1 then 8 else 16
  | .dr9108 => if r = 0 then 4 else if r = 1 then 0 else 8

/-- Whether radio `r` is fitted (R2). -/
def radioFitted (p : Part) (r : Nat) : Bool := decide (r < 3) && decide (0 < chainsOf p r)

/-- Station table entries (R2). -/
def stationCount : Part → Nat
  | .dr9316 => 4096 | .dr9212 => 2048 | .dr9108 => 512

/-- Locksmith key slots (R2). -/
def keySlotCount : Part → Nat
  | .dr9316 => 8192 | .dr9212 => 2048 | .dr9108 => 512

/-- Flow records (R2). -/
def flowCount : Part → Nat
  | .dr9316 => 1048576 | .dr9212 => 524288 | .dr9108 => 131072

/-- Whether mirroring and takeover are fitted (R2). -/
def twinFitted : Part → Bool
  | .dr9108 => false | _ => true

/-- Whether paired transmission is fitted (R2). -/
def pairedFitted : Part → Bool
  | .dr9316 => true | _ => false

/-- Whether uplink MACsec is fitted (R2). -/
def macsecFitted : Part → Bool
  | .dr9108 => false | _ => true

/-- TWIN_ROLE as sampled (R43, R182). -/
def twinRoleStrap (s : State) : Nat := bits s.boot.straps 11 10

/-- `twin_role` of R182: 0 SINGLE, 1 MODULE_A, 2 MODULE_B; the KX-DR9108 ignores the strap (R7). -/
def twinRole (s : State) : Nat :=
  if twinFitted s.fuse.part = false then 0
  else if twinRoleStrap s = 1 then 1 else if twinRoleStrap s = 2 then 2 else 0

/-- The HID's `package` bit (R10, R43). -/
def packageBit (s : State) : Nat := if twinRole s = 2 then 1 else 0

/-- A HID of this package from its fields (R10). -/
def hidOf (s : State) (die region cluster unit : Nat) : Nat :=
  s.system * 4194304 + packageBit s * 2097152 + die * 262144 + region * 16384 + cluster * 256 + unit

/-- `package_hid`: this package as a whole level (R46). -/
def packageHid (s : State) : Nat := hidOf s 7 15 63 255

/-- The fused limits of radio `r`. -/
def radioFuse (f : Fuses) (r : Nat) : RadioFuse :=
  if r = 0 then f.radioA else if r = 1 then f.radioB else f.radioC

/-- The transports that `sec_config` bits 2:0 allow, in the layout of `transports` (R220). -/
def fusedTransports (f : Fuses) : Nat :=
  (if bit f.secConfig 0 then 1 else 0) + (if bit f.secConfig 1 then 2 else 0) + (if bit f.secConfig 2 then 4 else 0)

/-- The mask of two transport sets of three bits. -/
def maskTransports (a b : Nat) : Nat :=
  (if bit a 0 && bit b 0 then 1 else 0) + (if bit a 1 && bit b 1 then 2 else 0) + (if bit a 2 && bit b 2 then 4 else 0)

/-- The default of `transports` from MGMT_PATH (R43). -/
def transportsDefault (s : State) : Nat :=
  let m := maskTransports (if bit s.boot.straps 4 then 4 else 7) (fusedTransports s.fuse)
  if m = 0 then fusedTransports s.fuse else m

/-- Radio objects of B and C under radio A's indices, which the table lists (R73). -/
def normIndex (i : Nat) : Nat :=
  if 0x2400 ≤ i ∧ i < 0x2C00 then (i - 0x2000) % 1024 + 0x2000 else i

/-- The row that defines an object's sub-index, if any does (R37, R38). -/
def findRow (index sub : Nat) : Option ObjRow :=
  let i := normIndex index
  (objPage (i / 256)).find? (fun r => decide (r.sub = sub) && decide (r.base ≤ i) && decide (i < r.base + r.n))

/-- The highest sub-index an object defines; `none` where no chapter defines the object. -/
def subCount (index : Nat) : Option Nat :=
  let i := normIndex index
  ((objPage (i / 256)).filter (fun r => decide (r.base ≤ i) && decide (i < r.base + r.n))).foldl
    (fun a r => some (max (a.getD 0) r.sub)) none

/-- The radio a radio-indexed object belongs to, if it is one (R73, R113). -/
def radioOfIndex (i : Nat) : Option Nat :=
  if 0x2000 ≤ i ∧ i < 0x2C00 then some ((i - 0x2000) / 1024)
  else if 0x3001 ≤ i ∧ i ≤ 0x3003 then some (i - 0x3001)
  else if 0x3010 ≤ i ∧ i ≤ 0x303F then some ((i - 0x3010) / 16)
  else if 0x3040 ≤ i ∧ i ≤ 0x3042 then some (i - 0x3040)
  else if 0x3048 ≤ i ∧ i ≤ 0x304A then some (i - 0x3048)
  else if 0x3120 ≤ i ∧ i ≤ 0x3137 then some ((i - 0x3120) / 8)
  else if 0x3801 ≤ i ∧ i ≤ 0x3803 then some (i - 0x3801)
  else if 0x3808 ≤ i ∧ i ≤ 0x380A then some (i - 0x3808)
  else if 0x121E ≤ i ∧ i ≤ 0x1220 then some (i - 0x121E)
  else if 0x1116 ≤ i ∧ i ≤ 0x1118 then some (i - 0x1116)
  else if 0x7E09 ≤ i ∧ i ≤ 0x7E0B then some (i - 0x7E09)
  else none

/-- Whether the unit that holds an object is fitted (R5). -/
def objFitted (p : Part) (i : Nat) : Bool :=
  match radioOfIndex i with
  | some r => radioFitted p r
  | none =>
    if 0x4000 ≤ i ∧ i ≤ 0x4003 then twinFitted p
    else if i = 0x4004 then pairedFitted p
    else if 0x4810 ≤ i ∧ i ≤ 0x4820 then macsecFitted p
    else if 0x7E1C ≤ i ∧ i ≤ 0x7E1F then twinFitted p
    else true

/-- Whether an index is within the part's fitted count (R6, R74). -/
def objInCount (p : Part) (i : Nat) : Bool :=
  let n := normIndex i
  if 0x2010 ≤ n ∧ n ≤ 0x201F then
    match radioOfIndex i with
    | some r => decide (n - 0x2010 < chainsOf p r)
    | none => true
  else true

/-- The value of FITTED or ABSENT in a capability object (R46). -/
def fitValue (b : Bool) : Nat := if b then 1 else 0

/-- Severity of a kind: 0 INFO, 1 WARNING, 2 UNIT, 3 PACKAGE (R469). -/
def kindSeverity (k : Nat) : Nat :=
  if k ∈ [0x01, 0x08, 0x09, 0x0A, 0x12, 0x35, 0x39, 0x44, 0x49, 0x4E, 0x50, 0x6C, 0x6D, 0x6F, 0x71, 0x72, 0x86] then 0
  else if k ∈ [0x05, 0x06, 0x10, 0x11, 0x21, 0x22, 0x30, 0x38, 0x40, 0x46, 0x51, 0x52, 0x54, 0x59, 0x5B, 0x5C, 0x60, 0x61,
    0x62, 0x6A, 0x85] then 2
  else if k ∈ [0x79, 0x7B, 0x7C] then 3
  else 1

/-- The default of `kind_reaction` (R469): 0 COUNT, 1 NOTIFY, 2 QUARANTINE, 3 HANDOVER. -/
def kindReaction (k : Nat) : Nat :=
  if k ∈ [0x02, 0x31, 0x35, 0x39, 0x41, 0x42, 0x47, 0x4E, 0x50, 0x6D, 0x6E, 0x6F] then 0
  else if k = 0x46 then 2
  else if k ∈ [0x79, 0x7B, 0x7C] then 3
  else 1

/-- The kinds of R469. -/
def kindListed (k : Nat) : Bool :=
  decide (k ∈ [0x01, 0x02, 0x03, 0x04, 0x05, 0x06, 0x08, 0x09, 0x0A, 0x0B, 0x10, 0x11, 0x12, 0x20, 0x21, 0x22, 0x23, 0x24,
    0x25, 0x26, 0x30, 0x31, 0x32, 0x33, 0x34, 0x35, 0x38, 0x39, 0x3A, 0x3B]) ||
  decide (k ∈ [0x40, 0x41, 0x42, 0x44, 0x45, 0x46, 0x47, 0x48, 0x49, 0x4A, 0x4B, 0x4C, 0x4D, 0x4E, 0x4F, 0x50, 0x51, 0x52,
    0x53, 0x54, 0x55, 0x56, 0x57, 0x58, 0x59, 0x5A, 0x5B, 0x5C, 0x5D, 0x5E, 0x5F]) ||
  decide (k ∈ [0x60, 0x61, 0x62, 0x64, 0x68, 0x69, 0x6A, 0x6B, 0x6C, 0x6D, 0x6E, 0x6F, 0x70, 0x71, 0x72, 0x73, 0x74, 0x78,
    0x79, 0x7A, 0x7B, 0x7C, 0x7D, 0x7E, 0x80, 0x81, 0x84, 0x85, 0x86])

/-- The rate of a clock domain in Hz while it runs (R373); SERDES has another in `uplink_mode` 0. -/
def domainRate (d mode : Nat) : Nat :=
  if d = 0 then 40000000 else if d = 1 then 500000000 else if d = 2 then 1000000000
  else if d = 3 then 800000000 else if d = 4 then 800000000 else if d = 5 then 1000000000
  else if d = 6 then 1250000000 else if d = 7 then 1250000000 else if d = 8 then 1250000000
  else if d = 9 then 1000000000 else if d = 10 then 1066625000
  else if d = 11 then (if mode = 0 then 1289062500 else 1328125000)
  else if d = 12 then 1000000000 else if d = 13 then 32768
  else if d = 14 then 480000000 else if d = 15 then 960000000 else if d = 16 then 1280000000
  else 50000000

/-- `clk_hid`: the region or die of a domain as a whole-level HID (R373). -/
def domainHid (s : State) (d : Nat) : Nat :=
  if d = 1 then hidOf s 0 15 63 255
  else if d = 0 ∨ d = 12 then hidOf s 0 10 63 255
  else if d = 2 then hidOf s 0 0 63 255
  else if d = 11 then hidOf s 0 9 63 255
  else if d = 13 then hidOf s 0 13 63 255
  else if 14 ≤ d ∧ d ≤ 16 then hidOf s (d - 13) 15 63 255
  else if d = 17 then hidOf s 5 15 63 255
  else hidOf s 0 (d - 2) 63 255

/-- `pd_hid`: the region or die of a power domain (R445). -/
def powerHid (s : State) (pd : Nat) : Nat :=
  if pd = 0 then hidOf s 0 13 63 255
  else if pd = 1 then hidOf s 5 15 63 255
  else if pd = 5 then hidOf s 4 15 63 255
  else if 6 ≤ pd then hidOf s (pd - 5) 15 63 255
  else hidOf s 0 15 63 255

/-- UPLINK_MODE's default of `uplink_mode` (R288). -/
def uplinkDefault (s : State) : Nat :=
  let u := bits s.boot.straps 7 5
  if u < 4 then u else 1

/-- Defaults of the radio objects that differ by radio, or come from the part or the fuses. -/
def radioDefault (s : State) (r off sub : Nat) : Option Nat :=
  let f := radioFuse s.fuse r
  if off = 0x01 ∧ sub = 1 then some (if r = 0 then 1 else if r = 1 then 36 else 5)
  else if off = 0x01 ∧ sub = 2 then some (if r = 0 then 0 else if r = 1 then 3 else 4)
  else if off = 0x02 ∧ sub = 1 then some (2 ^ chainsOf s.fuse.part r - 1)
  else if off = 0x08 ∧ sub = 1 then some f.chainMax
  else if off = 0x08 ∧ sub = 2 then some f.bandMax
  else if off = 0x08 ∧ sub = 3 then some f.nograntMax
  else if off = 0x08 ∧ sub = 4 then some f.dutyMax
  else if off = 0x08 ∧ sub = 7 then some (fitValue f.programmed)
  else if off = 0x09 ∧ sub = 1 then some f.bandMax
  else if 0x10 ≤ off ∧ off < 0x20 ∧ sub = 1 then some f.chainMax
  else none

/-- Identity and capability values (R46). -/
def capabilityValue (s : State) (index sub : Nat) : Option Nat :=
  let p := s.fuse.part
  if index = 0x0000 then
    if sub = 1 then some (match p with | .dr9316 => 0x9316 | .dr9212 => 0x9212 | .dr9108 => 0x9108)
    else if sub = 2 then some s.fuse.siliconRev
    else if sub = 5 then some (packageHid s)
    else if sub = 6 then some s.boot.straps
    else if sub = 7 then some 1
    else none
  else if sub = 1 then some (fitValue (radioFitted p 0))
  else if sub = 2 then some (fitValue (radioFitted p 1))
  else if sub = 3 then some (fitValue (radioFitted p 2))
  else if sub = 4 then some (chainsOf p 0)
  else if sub = 5 then some (chainsOf p 1)
  else if sub = 6 then some (chainsOf p 2)
  else if sub = 7 then some (stationCount p)
  else if sub = 8 then some (keySlotCount p)
  else if sub = 9 then some (flowCount p)
  else if sub = 10 then some (fitValue (twinFitted p))
  else if sub = 11 then some (fitValue (pairedFitted p))
  else if sub = 12 then some (fitValue (macsecFitted p))
  else if sub = 13 then some 8
  else if sub = 14 then some (if twinFitted p then 4 else 0)
  else none

/-- A default that fuses, straps, the part or the object's place in an array set: index, sub-index, and the entry a
selector names for a windowed object (R42, R43). -/
def derivedDefault (s : State) (inst index sub : Nat) : Option Nat :=
  let p := s.fuse.part
  if index = 0x0000 ∨ index = 0x0001 then capabilityValue s index sub
  else if 0x2000 ≤ index ∧ index < 0x2C00 then radioDefault s ((index - 0x2000) / 1024) ((index - 0x2000) % 1024) sub
  else if index = 0x1180 ∧ sub = 9 then some (if twinRole s = 0 then 0 else 1)
  else if index = 0x1181 ∧ sub = 1 then some (packageHid s)
  else if index = 0x1000 ∧ sub = 1 then some (bits s.boot.straps 3 1)
  else if index = 0x1000 ∧ sub = 3 then some (transportsDefault s)
  else if 0x1040 ≤ index ∧ index < 0x1080 ∧ sub = 4 then some (index - 0x1040)
  else if index = 0x8000 ∧ sub = 2 then some (hidOf s 0 0 2 0)
  else if index = 0x3000 ∧ sub = 1 then some (stationCount p)
  else if index = 0x3000 ∧ sub = 12 then some (2 * stationCount p)
  else if 0x3001 ≤ index ∧ index ≤ 0x3003 ∧ sub = 4 then some (3 * (index - 0x3001))
  else if 0x3801 ≤ index ∧ index ≤ 0x3803 ∧ sub = 4 then some (if index = 0x3801 then 1 else 8)
  else if 0x3801 ≤ index ∧ index ≤ 0x3803 ∧ sub = 15 then some (if index = 0x3801 then 0 else 1)
  else if index = 0x4000 ∧ sub = 1 then some (twinRole s)
  else if index = 0x4000 ∧ sub = 2 then some (if twinRole s = 0 then 0 else 1)
  else if index = 0x4800 ∧ sub = 1 then some (keySlotCount p)
  else if index = 0x4800 ∧ sub = 3 then some s.fuse.secConfig
  else if index = 0x5800 ∧ sub = 1 then some (flowCount p)
  else if 0x5021 ≤ index ∧ index ≤ 0x5027 ∧ sub = 1 then
    some (if index = 0x5021 ∨ index = 0x5025 then 3 else if index = 0x5027 then 1 else 0)
  else if index = 0x5810 ∧ sub = 1 then some (uplinkDefault s)
  else if index = 0x5850 ∧ sub = 2 then some (if inst = 1 then 1 else 0)
  else if index = 0x5850 ∧ (sub = 5 ∨ sub = 6) then some (if inst = 1 then 255 else 0)
  else if 0x7010 ≤ index ∧ index ≤ 0x7014 ∧ sub = 1 then
    some (if index = 0x7010 then 1024 else if index = 0x7011 then 256 else if index = 0x7012 then 128 else 32)
  else if 0x1210 ≤ index ∧ index ≤ 0x1221 ∧ sub = 5 then some (domainHid s (index - 0x1210))
  else if index = 0x1101 ∧ sub = 1 then some s.fuse.vcoreNominal
  else if index = 0x1101 ∧ sub = 2 then some (s.fuse.vcoreNominal - 50)
  else if index = 0x1102 ∧ sub = 1 then some (hidOf s 1 15 63 255)
  else if 0x1110 ≤ index ∧ index ≤ 0x1118 ∧ sub = 2 then some (powerHid s (index - 0x1110))
  else if index = 0x7808 ∧ sub = 2 then some (kindSeverity inst)
  else if index = 0x7808 ∧ sub = 3 then some (kindReaction inst)
  else if 0x7C09 ≤ index ∧ index ≤ 0x7C0F ∧ sub = 4 then
    some (if index = 0x7C09 then 250000 else if index = 0x7C0A then 2000 else if index = 0x7C0B then 0xFFFFFFFF
      else if index = 0x7C0C then 2000 else if index = 0x7C0D then 10000 else if index = 0x7C0E then 1000000 else 5000000)
  else if 0x7E08 ≤ index ∧ index ≤ 0x7E1F ∧ sub = 2 then
    some (if index = 0x7E08 then 40 else if index ≤ 0x7E0B then 100 else if index ≤ 0x7E13 then 25 else 20)
  else if 0x7E08 ≤ index ∧ index ≤ 0x7E1F ∧ sub = 4 then
    some (if index = 0x7E08 then 10 else if index ≤ 0x7E0B then 12 else 4)
  else none

/-- The value an object has when nothing has written it (R42). -/
def defaultOf (s : State) (k : Nat) : Nat :=
  let index := k % 16777216 / 256
  let sub := k % 256
  match derivedDefault s (k / 16777216) index sub with
  | some v => v
  | none =>
    match findRow index sub with
    | some r => r.dflt
    | none => 0

/-- The value of a register: what was written last, else the object's default. -/
def rd (s : State) (k : Nat) : Nat :=
  match s.regs.look k with
  | some v => v
  | none => defaultOf s k

/-- A register set to a value. -/
def wr (s : State) (k v : Nat) : State := { s with regs := s.regs.put k v }

/-- A signed register (I32) read, and set. -/
def rdI (s : State) (k : Nat) : Int := toSigned 32 (rd s k)
def wrI (s : State) (k : Nat) (v : Int) : State := wr s k (ofSigned 32 v)

/-- The greatest value of an object type. -/
def ObjType.top : ObjType → Nat
  | .u8 => 0xFF | .u16 => 0xFFFF | .u32 => 0xFFFFFFFF | .u64 => 0xFFFFFFFFFFFFFFFF | .i32 => 0xFFFFFFFF
  | .bool => 1 | .enum => 0xFF | .time80 => 2 ^ 80 - 1 | .hid => 0xFFFFFF | .oct _ _ => 0

/-- The greatest value a register of key `k` can hold. -/
def topOf (k : Nat) : Nat :=
  match findRow (k % 16777216 / 256) (k % 256) with
  | some r => r.ty.top
  | none => 0xFFFFFFFF

/-- A counter raised by `n`; counters saturate at their maximum (R57, R108 and their like). -/
def bumpBy (s : State) (k n : Nat) : State := wr s k (satAdd (topOf k) (rd s k) n)

/-- A counter raised by one. -/
def bump (s : State) (k : Nat) : State := bumpBy s k 1

/-- The default of an OCTETS object. -/
def blobDefault (s : State) (k : Nat) : Octets :=
  let index := k % 16777216 / 256
  let sub := k % 256
  if index = 0x0000 then s.fuse.serial
  else if index = 0x3801 ∨ index = 0x3802 ∨ index = 0x3803 then [3, 4, 6, 0, 7, 4, 10, 0, 1, 3, 4, 0, 1, 2, 3, 0]
  else if index = 0x5810 ∧ sub = 9 then (List.replicate 48 [(1 : Byte), 0]).flatten
  else if 0x6008 ≤ index ∧ index ≤ 0x600F then (List.replicate 8 [(0xF2 : Byte), 5]).flatten
  else if 0x2000 ≤ index ∧ index < 0x2C00 then
    let f := radioFuse s.fuse ((index - 0x2000) / 1024)
    if sub = 5 then f.channels else f.grantChannels
  else
    match findRow index sub with
    | some r => match r.ty with
      | .oct lo hi => if lo = hi then zeros lo else if index = 0x5401 then zeros 40 else []
      | _ => []
    | none => []

/-- The value of an OCTETS object. -/
def rdB (s : State) (k : Nat) : Octets :=
  match s.blobs.look k with
  | some v => v
  | none => blobDefault s k

/-- An OCTETS object set. -/
def wrB (s : State) (k : Nat) (v : Octets) : State := { s with blobs := s.blobs.put k v }

/-- An enable or a flag register as a Boolean. -/
def flag (s : State) (k : Nat) : Bool := decide (rd s k = 1)

/-- A flag register set. -/
def setFlag (s : State) (k : Nat) (b : Bool) : State := wr s k (if b then 1 else 0)

end Sys2Proof.Machine
end

