-- ==== Sys2Proof/Machine/Units.lean ====
section
/-! DEFINITION. The units of the module and their HIDs (R10 to R13, R17, and the unit tables of the chapters), which of them
are fitted (R5), and the mode each reads (R27). -/

namespace Sys2Proof.Machine

/-- One row of the unit tables: die, region, cluster, and how many units the cluster has. -/
structure UnitRow where
  die : Nat
  region : Nat
  cluster : Nat
  units : Nat
  deriving DecidableEq, Repr

/-- The units of the hub die (R532, R112, R150, R181, R215, R246, R268, R287). -/
def hubUnitsLow : List UnitRow := [
  ⟨0, 0, 0, 2⟩, ⟨0, 0, 1, 3⟩, ⟨0, 0, 2, 2⟩,
  ⟨0, 1, 0, 3⟩, ⟨0, 1, 1, 2⟩, ⟨0, 1, 2, 3⟩, ⟨0, 1, 3, 1⟩, ⟨0, 1, 4, 1⟩,
  ⟨0, 2, 0, 2⟩, ⟨0, 2, 1, 3⟩, ⟨0, 2, 2, 2⟩, ⟨0, 2, 3, 1⟩, ⟨0, 2, 4, 1⟩,
  ⟨0, 3, 0, 16⟩, ⟨0, 3, 1, 2⟩, ⟨0, 3, 2, 1⟩, ⟨0, 3, 3, 1⟩,
  ⟨0, 4, 0, 32⟩, ⟨0, 4, 1, 3⟩, ⟨0, 4, 8, 2⟩, ⟨0, 4, 9, 3⟩, ⟨0, 4, 10, 1⟩,
  ⟨0, 5, 0, 8⟩, ⟨0, 5, 1, 3⟩, ⟨0, 5, 2, 2⟩, ⟨0, 5, 3, 3⟩, ⟨0, 5, 4, 1⟩, ⟨0, 5, 5, 1⟩]

/-- The units of the hub die's other regions and of dies 4 and 5 (R313, R340, R354, R390, R463, R478, R422, R437). -/
def hubUnitsHigh : List UnitRow := [
  ⟨0, 6, 0, 4⟩, ⟨0, 6, 1, 3⟩, ⟨0, 6, 2, 2⟩,
  ⟨0, 7, 0, 2⟩, ⟨0, 7, 1, 2⟩, ⟨0, 7, 2, 32⟩,
  ⟨0, 8, 0, 8⟩, ⟨0, 8, 1, 3⟩, ⟨0, 8, 2, 8⟩,
  ⟨0, 9, 0, 8⟩, ⟨0, 9, 1, 8⟩, ⟨0, 9, 4, 4⟩, ⟨0, 9, 5, 1⟩, ⟨0, 9, 6, 8⟩,
  ⟨0, 10, 0, 2⟩, ⟨0, 10, 1, 1⟩, ⟨0, 10, 2, 9⟩, ⟨0, 10, 3, 2⟩,
  ⟨0, 11, 0, 4⟩, ⟨0, 11, 1, 2⟩, ⟨0, 11, 8, 3⟩,
  ⟨0, 12, 0, 3⟩, ⟨0, 13, 0, 5⟩, ⟨0, 13, 1, 2⟩, ⟨0, 14, 0, 1⟩, ⟨0, 14, 1, 32⟩,
  ⟨4, 0, 0, 1⟩, ⟨4, 1, 0, 1⟩, ⟨4, 2, 0, 1⟩, ⟨4, 3, 0, 1⟩, ⟨4, 4, 0, 1⟩, ⟨4, 5, 0, 1⟩, ⟨4, 6, 0, 1⟩, ⟨4, 7, 0, 1⟩,
  ⟨5, 0, 0, 3⟩, ⟨5, 0, 1, 2⟩]

/-- The units of a radio die with `n` chains (R75): whether or not the part fits them. -/
def radioUnits (die n : Nat) : List UnitRow :=
  [⟨die, 0, 0, 1⟩, ⟨die, 0, 1, n⟩, ⟨die, 0, 2, 1⟩, ⟨die, 2, 16, 3⟩] ++
  (List.range n).map (fun k => ⟨die, 1, k, 2⟩) ++ (List.range n).map (fun k => ⟨die, 2, k, 12⟩)

/-- The fields of a HID (R10). -/
def hidPackage (h : Nat) : Nat := bits h 23 21
def hidDie (h : Nat) : Nat := bits h 20 18
def hidRegion (h : Nat) : Nat := bits h 17 14
def hidCluster (h : Nat) : Nat := bits h 13 8
def hidUnit (h : Nat) : Nat := bits h 7 0

/-- A HID is malformed when an all-ones field is followed by a lower field that is not all ones (R12). -/
def hidMalformed (h : Nat) : Bool :=
  (decide (hidDie h = 7) && decide (hidRegion h ≠ 15)) ||
  (decide (hidRegion h = 15) && decide (hidCluster h ≠ 63)) ||
  (decide (hidCluster h = 63) && decide (hidUnit h ≠ 255))

/-- Whether a HID names this package (R39). -/
def hidOwn (s : State) (h : Nat) : Bool := decide (hidPackage h = hidPackage (packageHid s))

/-- Whether a row's units are fitted on a part (R5): twin, paired-transmission, MACsec and Varlan units. -/
def rowFitted (p : Part) (r : UnitRow) : Bool :=
  if r.die = 0 ∧ r.region = 11 ∧ r.cluster = 8 then twinFitted p
  else if r.die = 0 ∧ r.region = 9 ∧ (r.cluster = 4 ∨ r.cluster = 5) then twinFitted p
  else if r.die = 0 ∧ r.region = 9 ∧ r.cluster = 6 then macsecFitted p
  else if r.die = 0 ∧ r.region = 2 ∧ r.cluster = 4 then pairedFitted p
  else true

/-- Units of a per-radio cluster of the hub die are fitted only for fitted radios (R113). -/
def perRadioCluster (r : UnitRow) : Bool :=
  decide (r.die = 0 ∧ ((r.region = 1 ∧ (r.cluster = 0 ∨ r.cluster = 2)) ∨ (r.region = 2 ∧ r.cluster = 1)))

/-- The units of one row that a part fits, as low 21 bits of their HIDs. -/
def rowUnits (p : Part) (r : UnitRow) : List Nat :=
  if rowFitted p r then
    ((List.range r.units).filter (fun u => !perRadioCluster r || radioFitted p u)).map
      (fun u => r.die * 262144 + r.region * 16384 + r.cluster * 256 + u)
  else []

/-- Every fitted unit of a part, as the low 21 bits of its HID (R5). -/
def fittedUnits (p : Part) : List Nat :=
  (hubUnitsLow ++ hubUnitsHigh ++ radioUnits 1 (chainsOf p 0) ++ (if radioFitted p 1 then radioUnits 2 (chainsOf p 1) else []) ++
    radioUnits 3 (chainsOf p 2)).flatMap (fun r => if r.die = 1 ∧ !radioFitted p 0 then [] else rowUnits p r)

/-- Whether unit `u` (low 21 bits) lies in the level that HID `h` names (R12). -/
def inLevel (h u : Nat) : Bool :=
  decide (hidDie h = 7) ||
  (decide (hidDie h = hidDie u) && (decide (hidRegion h = 15) ||
    (decide (hidRegion h = hidRegion u) && (decide (hidCluster h = 63) ||
      (decide (hidCluster h = hidCluster u) && (decide (hidUnit h = 255) || decide (hidUnit h = hidUnit u)))))))

/-- Whether a HID names one unit and not a whole level. -/
def hidIsUnit (h : Nat) : Bool :=
  decide (hidUnit h ≠ 255) && decide (hidCluster h ≠ 63) && decide (hidRegion h ≠ 15) && decide (hidDie h ≠ 7)

/-- Whether the unit, or any unit of the level, is fitted (`fit_of_query`, R46). -/
def hidFitted (s : State) (h : Nat) : Bool := (fittedUnits s.fuse.part).any (inLevel h)

/-- The place of a region's target in the store: its die and region. -/
def regionInst (die region : Nat) : Nat := die * 16 + region

/-- The target mode in force of a region: a radio die's target covers its regions (R446). -/
def regionTarget (s : State) (die region : Nat) : Nat :=
  if 1 ≤ die ∧ die ≤ 3 then rd s (winKey (regionInst die 15) O.rm_target)
  else rd s (winKey (regionInst die region) O.rm_target)

/-- The serving modes (R26): SOLO, LEAD, FOLLOW, TAKEOVER and SERVICE. -/
def servingMode (m : Nat) : Bool := decide (m = 7 ∨ m = 8 ∨ m = 9 ∨ m = 10 ∨ m = 11)

/-- A region's mode under package mode `m` (R446): the lower of target and package mode in the order OFF, DORMANT, IDLE;
SERVICE only while the package serves. -/
def regionModeIn (s : State) (m die region : Nat) : Nat :=
  let t := regionTarget s die region
  if m < 4 ∨ t = 0 then m
  else if t = 11 then (if servingMode m then 11 else m)
  else min t m

/-- The package mode. -/
def packageMode (s : State) : Nat := rd s O.package_mode

/-- A region's mode now. -/
def regionMode (s : State) (die region : Nat) : Nat := regionModeIn s (packageMode s) die region

/-- The common value of a list of modes, or 0 MIXED (R27). -/
def commonMode : List Nat → Nat
  | [] => 0
  | m :: t => if t.all (fun x => x = m) then m else 0

/-- The mode of a unit or level (R27); the package reads its own mode. -/
def modeOf (s : State) (h : Nat) : Nat :=
  if hidDie h = 7 then packageMode s
  else commonMode (((fittedUnits s.fuse.part).filter (inLevel h)).map (fun u => regionMode s (hidDie u) (hidRegion u)))

end Sys2Proof.Machine
end

