-- ==== Sys2Proof/Machine/Operands.lean ====
section
/-! DEFINITION. The operand forms of a Ledger access (R39, R534): the length and the encoding of each object type, and the values an
object lists for itself. -/

namespace Sys2Proof.Machine

/-- The row of a register key. -/
def rowOf (k : Nat) : Option ObjRow := findRow (k % 16777216 / 256) (k % 256)

/-- The octets of a value of each type but OCTETS (R39). -/
def ObjType.size : ObjType → Nat
  | .u8 => 1 | .u16 => 2 | .u32 => 4 | .u64 => 8 | .i32 => 4 | .bool => 1 | .enum => 1 | .time80 => 10 | .hid => 3 | .oct _ _ => 0

/-- An OCTETS type. -/
def ObjType.isOct : ObjType → Bool
  | .oct _ _ => true
  | _ => false

/-- A number as an object's octets, little-endian (R8, R39). -/
def valueOctets (k v : Nat) : Octets :=
  match rowOf k with
  | some r => leBytes r.ty.size v
  | none => leBytes 1 v

/-- The length fits the type (R39): an OCTETS value has its exact length where one length is given, and else at most its greatest. -/
def lengthOk (t : ObjType) (v : Octets) : Bool :=
  match t with
  | .oct lo hi => decide (lo ≤ v.length) && decide (v.length ≤ hi)
  | t => decide (v.length = t.size)

/-- A value lies in what the object lists for itself. -/
def limitOk (l : Limit) (v : Nat) : Bool :=
  match l with
  | .any => true
  | .le lo hi => decide (lo ≤ v) && decide (v ≤ hi)
  | .si lo hi => decide (lo ≤ toSigned 32 v) && decide (toSigned 32 v ≤ hi)
  | .mem l => decide (v ∈ l)

/-- A value meets its type's encoding (R39): a BOOL is 0 or 1, a TIME80 has less than 10^9 nanoseconds, and a HID is well formed and
names a unit or level of this package. -/
def encodingOk (s : State) (t : ObjType) (v : Nat) : Bool :=
  match t with
  | .bool => decide (v ≤ 1)
  | .time80 => decide (v / 281474976710656 < 1000000000)
  | .hid => !(hidMalformed v) && hidOwn s v
  | _ => true

/-- `n`-octet words of an octet string, little-endian: VIDs, next-hop indices, quanta. -/
def leWords (n : Nat) (l : Octets) : List Nat :=
  (List.range (l.length / n)).map (fun i => leNat (slice l (n * i) n))

end Sys2Proof.Machine
end

