-- ==== Sys2Proof/Machine/Ops.lean ====
section
/-! DEFINITION. The named operations every family uses: what an effect is as an outcome, statuses, what is sent outward,
fault messages, claims, the time base, free values, and the checks a Ledger command meets. -/

namespace Sys2Proof.Machine

/-- The outcome of every command: the effect's state with the queue, the fuses (R41), the `system` field (R10) and real time as they
were, so that no effect can touch any of them. -/
def done (s t : State) : Host.Outcome State Fault Refusal :=
  .next { t with pending := s.pending, fuse := s.fuse, system := s.system, now := s.now }

/-- Whether the hub die works (R445, R459): it is out of reset, and CORE is powered, which it is in IDLE and above. -/
def hubOn (s : State) : Bool := !s.boot.inReset && decide (4 ≤ rd s O.package_mode)

/-- An effect of the hub die, which a module in reset or without CORE power does not have. -/
def act (s : State) (op : State → State) : Host.Outcome State Fault Refusal := done s (if hubOn s then op s else s)

/-- A step of the machine, as the effects of other steps call for it. -/
def send (s : State) (o : Out) : State := { s with out := s.out ++ [o] }

/-- The status an access returned. -/
def ret (s : State) (st : Status) : State := { s with status := st }

/-- A free value below `n`, and the state with the counter advanced (log 1). -/
def freeBelow (s : State) (n : Nat) : Nat := (Config.freeValue s.free).toNat % n
def freeNext (s : State) : State := { s with free := s.free + 1 }

/-! ### The time base -/

/-- TB96 in whole ns, its fraction dropped (R391). -/
def tbNs (s : State) : Nat := s.tb / 65536

/-- TB96 as the value of a TIME80 (R39): seconds in bytes 0 to 5, nanoseconds in bytes 6 to 9. -/
def time80Of (ns : Nat) : Nat := ns / 1000000000 % 281474976710656 + ns % 1000000000 * 281474976710656

/-- A TIME80 value in ns. -/
def nsOf80 (v : Nat) : Nat := v % 281474976710656 * 1000000000 + v / 281474976710656

/-- `tb_now`. -/
def now80 (s : State) : Nat := time80Of (tbNs s)

/-- TB96 as the 12 bytes of R391. -/
def tbBytes (tb : Nat) : Octets :=
  leBytes 6 (tb / 65536 / 1000000000) ++ leBytes 4 (tb / 65536 % 1000000000) ++ leBytes 2 (tb % 65536)

/-! ### Fault messages -/

/-- The effective reaction of a message (R468, R470): the stronger of the kind's and HANDOVER for a package fault; a dry
forced message is capped at NOTIFY. -/
def effectiveReaction (s : State) (m : FaultMsg) : Nat :=
  let r := max (rd s (winKey m.kind O.kind_reaction)) (if m.severity = 3 then 3 else 0)
  if m.forced && m.dry then min r 1 else r

/-- The place of a message among those waiting: after the older, and by `SOURCE` among those of its cycle (R466). -/
def insertMsg (m : FaultMsg) : List FaultMsg → List FaultMsg
  | [] => [m]
  | x :: t => if x.since = m.since ∧ m.source < x.source then m :: x :: t else x :: insertMsg m t

/-- A message put before the collector (R466): a reaction of QUARANTINE or HANDOVER takes the priority path; any other
enters the queue of 256 or is dropped and counted. -/
def collect (s : State) (m : FaultMsg) : State :=
  let p := fun x => decide (2 ≤ effectiveReaction s x)
  let urgent := s.tinker.queue.filter p
  let plain := s.tinker.queue.filter (fun x => !(p x))
  let x := { m with since := s.now }
  if p m then { s with tinker := { s.tinker with queue := insertMsg x urgent ++ plain } }
  else if plain.length < 256 then { s with tinker := { s.tinker with queue := urgent ++ insertMsg x plain } }
  else bump { s with tinker := { s.tinker with fullOwed := true } } O.msgs_dropped

/-- The next SEQUENCE of a source, and the state with it taken (R464). -/
def nextSequence (s : State) (source : Nat) : Nat := (s.tinker.seqs.getD source 0 + 1) % 4294967296

/-- A unit raises a message with an explicit severity and detail (R464, R465). -/
def reportWith (s : State) (kind severity detail source address : Nat) : State :=
  let n := nextSequence s source
  collect { s with tinker := { s.tinker with seqs := s.tinker.seqs.put source n } }
    { source := source, kind := kind, severity := severity, forced := false, dry := false, detail := detail,
      sequence := n, address := address % 281474976710656, late := false }

/-- A unit raises a message of a kind, with the kind's severity (R469). -/
def report (s : State) (kind source address : Nat) : State := reportWith s kind (kindSeverity kind) 0 source address

/-- A kind that arises while the hub die is unpowered: held, and logged with LATE at the next BOOT (R439, R466). -/
def reportLate (s : State) (kind source address : Nat) : State :=
  { s with power := { s.power with lateKinds := s.power.lateKinds ++
      [{ source := source, kind := kind, severity := kindSeverity kind, forced := false, dry := false, detail := 0,
         sequence := 0, address := address, late := true }] } }

/-! ### Claims -/

/-- A valid resource number of R68. -/
def resourceValid (v : Nat) : Bool :=
  let c := v / 4096
  let i := v % 4096
  decide (c = 1 ∧ i < 48) || decide (c = 2 ∧ i < 32) || decide (c = 3 ∧ i < 16)

/-- A claim of a resource for an owner (R69): OK when it is free or already the owner's, else CONFLICT. -/
def claimFor (s : State) (owner resource : Nat) : Status × State :=
  match s.claims.look resource with
  | none => (.ok, { s with claims := s.claims.put resource owner })
  | some h => if h = owner then (.ok, s) else (.conflict, bump s O.claim_conflicts)

/-- Several resources for one owner, all or none (R69). -/
def claimAll (s : State) (owner : Nat) (rs : List Nat) : Status × State :=
  if rs.all (fun r => match s.claims.look r with | none => true | some h => h = owner) then
    (.ok, { s with claims := rs.foldl (fun c r => c.put r owner) s.claims })
  else (.conflict, bump s O.claim_conflicts)

/-- The claims of a level's units released (R23). -/
def releaseLevel (s : State) (h : Nat) : State :=
  { s with claims := s.claims.filter (fun e => !(inLevel h (e.2 % 2097152))) }

/-! ### Clock domains -/

/-- The clock domain an object is reached through (R533); `none` for the objects the Ledger store answers (R386). -/
def objDomain (i : Nat) : Option Nat :=
  if i ≤ 0x0002 ∨ (0x1000 ≤ i ∧ i ≤ 0x10FF) ∨ (0x1180 ≤ i ∧ i ≤ 0x1182) ∨ (0x1200 ≤ i ∧ i ≤ 0x12FF) then none
  else if i = 0x1104 ∨ i = 0x1106 then some 13
  else if 0x1100 ≤ i ∧ i ≤ 0x117F then some 17
  else if 0x1300 ≤ i ∧ i ≤ 0x131F then some 12
  else if 0x1320 ≤ i ∧ i ≤ 0x13FF then some 1
  else if 0x1400 ≤ i ∧ i ≤ 0x1FFF then some 13
  else if 0x2000 ≤ i ∧ i ≤ 0x23FF then some 14
  else if 0x2400 ≤ i ∧ i ≤ 0x27FF then some 15
  else if 0x2800 ≤ i ∧ i ≤ 0x2BFF then some 16
  else if 0x3000 ≤ i ∧ i ≤ 0x37FF then some 3
  else if 0x3800 ≤ i ∧ i ≤ 0x3FFF then some 4
  else if 0x4000 ≤ i ∧ i ≤ 0x4003 then some 1
  else if i = 0x4004 then some 4
  else if 0x4800 ≤ i ∧ i ≤ 0x480F then some 5
  else if 0x4810 ≤ i ∧ i ≤ 0x482F then some 11
  else if 0x5000 ≤ i ∧ i ≤ 0x57FF then some 6
  else if 0x5808 ≤ i ∧ i ≤ 0x580F then some 11
  else if 0x5800 ≤ i ∧ i ≤ 0x5FFF then some 7
  else if 0x6000 ≤ i ∧ i ≤ 0x67FF then some 8
  else if 0x6800 ≤ i ∧ i ≤ 0x6FFF then some 9
  else if 0x7000 ≤ i ∧ i ≤ 0x77FF then some 10
  else some 1

/-- A domain's `clk_state`: 0 STOPPED, 1 RUNNING, 2 FENCED, 3 QUIESCING (R388). -/
def clkState (s : State) (d : Nat) : Nat := rd s (O.clk_state d)

/-- A domain's state and rate set together: the rate reads 0 while the clock is stopped (R388). -/
def setClk (s : State) (d v : Nat) : State :=
  wr (wr s (O.clk_state d) v) (O.clk_rate d) (if v = 0 ∨ v = 2 then 0 else domainRate d (rd s O.uplink_mode))

/-- What a Ledger access to an object meets on its way to the object's unit (R382, R387, R524). -/
inductive Crossing where
  | reached
  | answered (st : Status)
  | hangs (domain : Nat)
  deriving DecidableEq, Repr

/-- The crossing of an access (R386, R382, R387); until BOOT ends only the objects of R386 are served (R521, R524). -/
def crossing (s : State) (index : Nat) : Crossing :=
  match objDomain index with
  | none => .reached
  | some d =>
    if s.boot.step < 4 then .answered .busy
    else if clkState s d = 2 then .answered .timeout
    else if clkState s d = 1 then .reached
    else .hangs d

/-! ### The shared set and the checks of a command -/

/-- The shared set of R192, by index and sub-index; selectors are outside it. -/
def inSharedSet (i sub : Nat) : Bool :=
  if (i = 0x3100 ∧ sub = 1) ∨ (i = 0x3111 ∧ sub = 1) ∨ (i = 0x3810 ∧ sub = 1) then false
  else
    decide (i = 0x1180 ∧ 4 ≤ sub ∧ sub ≤ 8) ||
    decide (0x2000 ≤ i ∧ i < 0x2C00 ∧ ((normIndex i = 0x2000 ∧ sub = 1) ∨ normIndex i = 0x2001 ∨ normIndex i = 0x2002)) ||
    decide (0x3000 ≤ i ∧ i ≤ 0x3FFF) || decide (i = 0x4004) || decide (0x4800 ≤ i ∧ i ≤ 0x6FFF)

/-- The role the package serves in: SERVICE keeps the role it was entered with (R486). -/
def roleMode (s : State) : Nat := if packageMode s = 11 then rd s O.service_role else packageMode s

/-- The checks the Ledger store makes before a CMD object's command runs: fit (R5), the crossing of R534, and the shared
set in FOLLOW (R192). `none` when the command runs. -/
def commandCheck (s : State) (index sub : Nat) : Option Status :=
  if objFitted s.fuse.part index = false then some .absent
  else match crossing s index with
    | .answered st => some st
    | .hangs _ => none
    | .reached =>
      if roleMode s = 9 ∧ inSharedSet index sub then some .denied else none

/-- The Ledger runs records from the end of BOOT's step 1 (R524), in IDLE and above, until DORMANT entry begins (R449). -/
def ledgerServes (s : State) : Bool :=
  decide (1 ≤ s.boot.step) && decide (4 ≤ rd s O.package_mode) && decide (s.power.entryStep = 0)

/-! ### The Varlan link -/

/-- The lanes that are up. -/
def lanesUp (s : State) : Nat := popCount 4 (rd s O.varlan_lanes)

/-- A Varlan message sent on the lanes that are up, under the next `vcount` of its class (R186 to R188); nothing is sent with
no lane up, or once `boot_count` has saturated (R189). -/
def varlanSend (s : State) (cls : Nat) (m : VMsg) : State :=
  if lanesUp s = 0 ∨ rd s O.boot_count = 0xFFFF then s
  else
    let n := s.twin.tx.getD cls 0 + 1
    send { s with twin := { s.twin with tx := s.twin.tx.put cls n } } (.varlan cls n m)

/-- A failed tag or a replayed counter of the Varlan link (R188): discarded and counted, kind 0x4D at most once per second. -/
def varlanReject (s : State) : State :=
  let s1 := bump s O.varlan_auth_fail
  let due := match s.twin.lastAuthReport with
    | some t => decide (t + 1000000000 ≤ s.now)
    | none => true
  if due then report { s1 with twin := { s1.twin with lastAuthReport := some s.now } } 0x4D (hidOf s 0 9 5 0) 0 else s1

/-- A received message of classes 0 to 4 (R188, R189): accepted when its tag passes under the stored peer key and its counter
is above the highest accepted of its class and sender boot. A heartbeat copy from another lane is not counted. -/
def varlanAccept (s : State) (cls : Nat) (v : VHead) : Bool × State :=
  let k := v.boot * 8 + cls
  let top := s.twin.rx.counts.getD k 0
  if v.tagOk = false ∨ s.led.peerKey = none then (false, varlanReject s)
  else if v.count ≤ top then (false, if cls = 0 ∧ v.count = top then s else varlanReject s)
  else (true, { s with twin := { s.twin with rx := { s.twin.rx with boot := v.boot, counts := s.twin.rx.counts.put k v.count } } })

/-- The effect of an accepted Varlan message. -/
def onMessage (s : State) (cls : Nat) (v : VHead) (op : State → State) : State :=
  match varlanAccept s cls v with
  | (true, t) => op t
  | (false, t) => t

/-- `twin_state`: 0 SINGLE, 1 SEARCHING, 2 JOINING, 3 SYNCED, 4 UNSYNCED, 5 TAKING_OVER (R183). -/
def twinState (s : State) : Nat := rd s O.twin_state

/-- A write or command forwarded to the follower in class 1 (R192): to the follower of a pair, from its lead. The follower's
acknowledgement is taken as given unless FORWARD_ACK_TIMEOUT says otherwise (log 28). -/
def forwardWrite (s : State) (k value : Nat) (octets : Octets) (staged : Bool) : State :=
  if roleMode s = 8 ∧ (twinState s = 3 ∨ twinState s = 4) then
    varlanSend { s with twin := { s.twin with forwarding := some k } } 1 (.forward k value octets staged)
  else s

/-- A command on a CMD object of the shared set's ranges is forwarded like a write (log 29), but for those whose effect is
mirrored: station, key and TWT commands (R192, R194). -/
def forwardCommand (s : State) (k : Nat) (octets : Octets) : State :=
  if inSharedSet (k / 256) (k % 256) && !(decide (k ∈ [O.sta_cmd, O.key_cmd, O.twt_cmd])) then
    forwardWrite s k (leNat octets) octets false
  else s

/-- A status that accepts a write or command (R14). -/
def accepted (st : Status) : Bool := decide (st = .ok ∨ st = .deferred)

/-- A record that no message carries, waiting at a stopped domain (R382). -/
def hangAlone (s : State) (index sub : Nat) (write : Bool) (value : Octets) (d : Nat) : State :=
  { s with led := { s.led with hung := s.led.hung ++
    [{ transport := none, arrival := none, done := [], doneCount := 0, index := index, sub := sub, write := write,
       value := value, rest := [], domain := d, since := s.now, reported := false }] } }

/-- A value written to an object that has a command's effect of its own (R40): the checks, then the command's own status and effect. A
write whose far clock is stopped hangs (R382): it waits with its value. -/
def commandWith (s : State) (k : Nat) (octets : Octets) (op : State → Status × State) : State :=
  let index := k / 256
  if ledgerServes s = false then s
  else match commandCheck s index (k % 256) with
  | some st => ret s st
  | none =>
    match crossing s index with
    | .hangs d => hangAlone s index (k % 256) true octets d
    | _ => let r := op s; ret (if accepted r.1 then forwardCommand r.2 k octets else r.2) r.1

/-- The same for a value given as a number. -/
def command (s : State) (k value : Nat) (op : State → Status × State) : State := commandWith s k (valueOctets k value) op

/-- A read of an object whose reads have a row of their own (R40): the value it gives, and the state the read leaves. -/
def readWith (s : State) (k : Nat) (op : State → Octets × State) : State :=
  let index := k / 256
  if ledgerServes s = false then s
  else if objFitted s.fuse.part index = false then ret s .absent
  else match crossing s index with
    | .answered st => ret s st
    | .hangs d => hangAlone s index (k % 256) false [] d
    | .reached => ret { (op s).2 with lastRead := (op s).1 } .ok

/-! ### Radios and host queues as state -/

/-- Radio `r`'s own state. -/
def radio (s : State) (r : Nat) : Radio := s.radios.getD r {}

/-- Radio `r`'s own state set. -/
def setRadio (s : State) (r : Nat) (x : Radio) : State := { s with radios := s.radios.put r x }

/-- Host queue `q`. -/
def hq (s : State) (q : Nat) : HostQueue := s.hostq.getD q {}

/-- Host queue `q` set. -/
def setHq (s : State) (q : Nat) (x : HostQueue) : State := { s with hostq := s.hostq.put q x }

end Sys2Proof.Machine
end

