-- ==== Sys2Proof/Machine/HostOps.lean ====
section
/-! DEFINITION. The host rings' operations (R60 to R66, R403): a descriptor's write-back in ring order, the interrupt it
raises, and the room a to-host ring has. -/

namespace Sys2Proof.Machine

/-- The host queue engine and the PCIe endpoint as sources (R532). -/
def queueEngineHid (s : State) : Nat := hidOf s 0 0 0 1
def endpointHid (s : State) : Nat := hidOf s 0 0 0 0

/-- The ring size of queue `q` (R60). -/
def ringSize (s : State) (q : Nat) : Nat := 2 ^ rd s (O.ring_log2 q)

/-- Descriptors posted and not yet completed. -/
def postedOf (s : State) (q : Nat) : Nat := ((hq s q).tail + ringSize s q - (hq s q).head) % ringSize s q

/-- The queue runs: enabled and not stopped. -/
def queueRuns (s : State) (q : Nat) : Bool := flag s (O.enable q) && !(hq s q).stopped

/-- A completion is signalled (R62): the vector is raised after `irq_count` completions; the first unsignalled one starts
`irq_time`. -/
def signalQueue (s : State) (q : Nat) : State :=
  let x := hq s q
  if rd s (O.irq_count q) ≤ x.unsignalled + 1 then
    send (setHq s q { x with unsignalled := 0, irqTimer := false }) (.msix (rd s (O.msix_vector q)))
  else setHq s q { x with unsignalled := x.unsignalled + 1, irqTimer := x.irqTimer || decide (rd s (O.irq_time q) ≠ 0) }

/-- The counter of a descriptor's result (R62, R64). -/
def countResult (s : State) (q : Nat) (w : WriteBack) : State :=
  if w.result = 0 then bumpBy (bump s (O.frames q)) (O.bytes q) w.length
  else if w.result = 1 then bump s (O.len_range q)
  else if w.result = 2 then bump s (O.short_buf q)
  else if w.result = 3 then bump s (O.dma_error q)
  else s

/-- A descriptor is written back at HEAD, visible before HEAD passes it (R60). -/
def writeBackNow (s : State) (q : Nat) (w : WriteBack) : State :=
  let x := hq s q
  let s1 := setHq (send s (.writeBack q x.head w)) q { x with head := (x.head + 1) % ringSize s q }
  signalQueue (countResult s1 q w) q

/-- Held write-backs leave in ring order, up to the first whose stamp is awaited (R403). -/
def flushHeld (s : State) (q : Nat) : List (Nat × WriteBack × Bool) → State
  | [] => setHq s q { hq s q with held := [] }
  | (n, w, wait) :: t =>
    if wait then setHq s q { hq s q with held := (n, w, wait) :: t } else flushHeld (writeBackNow s q w) q t

/-- A from-host descriptor completes (R64, R403): it waits for those before it, and for its own stamp where `wait` says so. -/
def completeFromHost (s : State) (q : Nat) (w : WriteBack) (wait : Bool) : State :=
  let x := hq s q
  flushHeld (setHq s q { x with nextId := x.nextId + 1 }) q (x.held ++ [(x.nextId, w, wait)])

/-- A TIME80 instant in the form of R63's `stamp`. -/
def hostStamp (ns : Nat) : Nat := ns / 1000000000 % 4294967296 * 4294967296 + ns % 1000000000

/-- The first leg of a frame that a descriptor waits for has left at an instant, or every leg was dropped (R403). -/
def stampDescriptor (s : State) (q n : Nat) (left : Option Nat) : State :=
  let x := hq s q
  let put (w : WriteBack) : WriteBack :=
    match left with
    | some t => { w with stamp := hostStamp t, flags := setBit w.flags 5 }
    | none => w
  flushHeld s q (x.held.map (fun e => if e.1 = n then (n, put e.2.1, false) else e))

end Sys2Proof.Machine
end

