-- ==== Sys2Proof/Machine/Dram.lean ====
section
/-! DEFINITION. The Cellarer's address map (R355 to R357) and its ports (R358, R360): requests on their way to a channel, buffer levels
and panic. The requests carry no data: what a client reads or writes takes effect at the client's own command. -/

namespace Sys2Proof.Machine

/-- The Cellarer's state changed. -/
def setDram (s : State) (d : Cellarer) : State := { s with dram := d }

/-! ### The address map -/

/-- The channel, bank and row of block `b` (R356). -/
def blockChannel (b : Nat) : Nat := b % 8
def blockRow (b : Nat) : Nat := b / 8 / 14 / 16
def blockBank (b : Nat) : Nat := (b / 8 / 14 % 16) ^^^ (blockRow b % 16)
/-- The column block of block `b` within its row. -/
def blockColumn (b : Nat) : Nat := b / 8 % 14

/-- Every data address (R355). -/
def dramBytes : Nat := 30064771072

/-- The region of a data address, as `err_region` numbers them (R357, R371): 0 flow table, 1 rings, 2 sequencer store, 3 overflow,
4 pools, 5 unused. -/
def dramRegion (a : Nat) : Nat :=
  if a < 0x4000000 then 0 else if a < 0x8000000 then 1 else if a < 0x10000000 then 2
  else if a < 0x90000000 then 3 else if a < 0x190000000 then 4 else 5

/-! ### Errors (R367, R368) -/

/-- The row of R357 that holds a data address: its region, with the NORMAL ring as 6. -/
def dramRow (a : Nat) : Nat := if 0x6000000 ≤ a ∧ a < 0x8000000 then 6 else dramRegion a

/-- The `region_status` bit of a row of R357, if it has one. -/
def rowBit (row : Nat) : Option Nat :=
  if row = 0 then some 0 else if row = 1 ∨ row = 6 then some 1 else if row = 3 then some 2 else if row = 4 then some 3 else none

/-- A row that reaches `ecc_disable_count` uncorrectable errors within one hour is disabled (R368). -/
def countErrors (s : State) (row : Nat) : State :=
  let l := (s.dram.errors.getD row []).filter (fun t => s.now < t + 3600000000000) ++ [s.now]
  let s1 := setDram s { s.dram with errors := s.dram.errors.put row l }
  match rowBit row with
  | some k =>
    if rd s O.ecc_disable_count ≤ l.length ∧ s.dram.disabled.contains row = false then
      let s2 := setDram s1 { s1.dram with disabled := s1.dram.disabled ++ [row] }
      let s3 := { s2 with steward := { s2.steward with regions := clrBit s2.steward.regions k } }
      report (wr s3 O.region_status (clrBit (rd s O.region_status) k)) 0x61 (hidOf s 0 8 1 0) 0
    else s1
  | none => s1

/-- An uncorrectable error at a data address, found by a source (R367): counted, kept in 0x7018 and reported with A; in the
sequencer's store it is a package fault. -/
def dramError (s : State) (a source : Nat) : State :=
  let ch := blockChannel (a / 256)
  let s1 := bump s (O.ch_ecc_uncorrected ch)
  let s2 := wr (wr (wr (wr s1 O.err_addr a) O.err_channel ch) O.err_region (dramRegion a)) O.err_time (now80 s)
  countErrors (reportWith s2 0x60 (if dramRegion a = 2 then 3 else kindSeverity 0x60) 0 source a) (dramRow a)

/-- The channel controller of a data address as a source. -/
def channelHid (s : State) (ch : Nat) : Nat := hidOf s 0 8 0 ch

/-! ### Ports -/

/-- Requests of a port that wait at the channels. -/
def portRequests (s : State) (k : Nat) : Nat :=
  s.dram.channels.foldl (fun n c => n + ((c.2.reqs ++ c.2.writes).filter (fun q => q.port = k)).length) 0

/-- Entries in use of a port's buffer (R358): the flow port's are the miss slots. -/
def portLevel (s : State) (k : Nat) : Nat := if k = 0 then s.switch.slots.length else portRequests s k

/-- The panic and release levels of the real-time ports. -/
def panicAbove (k : Nat) : Nat := if k = 0 then 768 else if k = 1 then 192 else 96
def panicBelow (k : Nat) : Nat := if k = 0 then 512 else if k = 1 then 128 else 64

/-- One real-time port enters or leaves panic by its level (R358, R371). -/
def panicLevel (s : State) (k : Nat) : State :=
  let n := portLevel s k
  match s.dram.panic.find? (fun e => e.1 = k) with
  | none =>
    if panicAbove k < n then
      bump (wr (setDram s { s.dram with panic := s.dram.panic ++ [(k, s.now)] }) (O.dp_panic k) 1) (O.dp_panic_events k)
    else s
  | some e =>
    if n ≤ panicBelow k then
      bumpBy (wr (setDram s { s.dram with panic := s.dram.panic.filter (fun x => x.1 ≠ k) }) (O.dp_panic k) 0) (O.dp_panic_us k)
        ((s.now - e.2) / 1000)
    else s

/-- The three real-time ports. -/
def panicLevels (s : State) : State := panicLevel (panicLevel (panicLevel s 0) 1) 2

/-- A request takes its place by arrival; of the same instant, the lowest port first (R360). -/
def insertReq (q : DramReq) : List DramReq → List DramReq
  | [] => [q]
  | x :: t => if q.since = x.since ∧ q.port < x.port then q :: x :: t else x :: insertReq q t

/-- A channel's own state. -/
def channel (s : State) (ch : Nat) : Channel := s.dram.channels.getD ch {}
def setChannel (s : State) (ch : Nat) (c : Channel) : State := setDram s { s.dram with channels := s.dram.channels.put ch c }

/-- A 256-byte request of a port at a data address goes to its channel (R359): writes to the write buffer. -/
def dramRequest (s : State) (port a : Nat) (write : Bool) : State :=
  let b := a / 256
  let c := channel s (blockChannel b)
  let q : DramReq := { port := port, bank := blockBank b, row := blockRow b, block := b, write := write, since := s.now }
  panicLevels (setChannel s (blockChannel b)
    (if write then { c with writes := insertReq q c.writes } else { c with reqs := insertReq q c.reqs }))

/-- The requests of some cells of the overflow; which of its cells they are is free (log 1). -/
def cellRequests (write : Bool) : Nat → State → State
  | 0, s => s
  | n + 1, s => cellRequests write n (dramRequest (freeNext s) 1 (0x10000000 + 256 * freeBelow s 8388608) write)

/-- The request of a task of a ring (R349): the n-th task lies 32 bytes times n modulo 1,048,576 into the ring. -/
def ringRequest (s : State) (urgent write : Bool) : State :=
  let k := if urgent then 0 else 1
  let n := if write then s.dram.ringIn.getD k 0 else s.dram.ringOut.getD k 0
  let d := if write then { s.dram with ringIn := s.dram.ringIn.put k (n + 1) } else { s.dram with ringOut := s.dram.ringOut.put k (n + 1) }
  dramRequest (setDram s d) 2 ((if urgent then 0x4000000 else 0x6000000) + 32 * (n % 1048576)) write

/-- Requests of several tasks. -/
def ringRequests (urgent write : Bool) : Nat → State → State
  | 0, s => s
  | n + 1, s => ringRequests urgent write n (ringRequest s urgent write)

end Sys2Proof.Machine
end

