-- ==== Sys2Proof/Machine/Draper.lean ====
section
/-! DEFINITION. The Draper (R313 to R319, R328): cells, their pools, buffers and their legs, spilling and fetching. -/

namespace Sys2Proof.Machine

/-- The cell allocator, the spill engine, the cell memory and the audit engine as sources (R313). -/
def allocatorHid (s : State) : Nat := hidOf s 0 6 0 0
def spillHid (s : State) : Nat := hidOf s 0 6 0 1
def cellMemoryHid (s : State) : Nat := hidOf s 0 6 0 2
def linkMemoryHid (s : State) : Nat := hidOf s 0 6 1 2

/-- The queue region's own state changed. -/
def setMiller (s : State) (m : Miller) : State := { s with miller := m }

/-- The cells of a frame of `n` bytes (R314). -/
def cellsFor (n : Nat) : Nat := ceilDiv n 256

/-- On-die cells taken or given back; `cells_low` keeps the least (R334). -/
def takeCells (s : State) (n : Nat) : State :=
  let f := rd s O.cells_free - n
  wr (wr s O.cells_free f) O.cells_low (min f (rd s O.cells_low))
def giveCells (s : State) (n : Nat) : State := wr s O.cells_free (rd s O.cells_free + n)

/-- The overflow can be used (R316, R318). -/
def overflowUp (s : State) : Bool := flag s O.overflow_enable && bit (rd s O.region_status) 2

/-- Overflow cells free. -/
def overflowFree (s : State) : Nat := rd s O.overflow_cells - rd s O.overflow_used

/-- How rules 2 and 3 of R316 place `n` cells: those on die, the rest in the overflow; `none` where neither does. -/
def placeCells (s : State) (n : Nat) (reserved : Bool) : Option (Nat × Nat) :=
  let free := rd s O.cells_free
  let k := min n (if reserved then free else free - rd s O.cell_reserve)
  if k = n then some (n, 0)
  else if overflowUp s ∧ n - k ≤ overflowFree s then some (k, n - k)
  else none

/-- A buffer. -/
def bufOf (s : State) (b : Nat) : Option Buf := s.miller.bufs.look b

/-- Whether any of a buffer's cells lie in DRAM. -/
def inDram (s : State) (b : Nat) : Bool :=
  match bufOf s b with
  | some x => decide (0 < x.spilled)
  | none => false

/-- A frame's cells taken as it arrives (R316): the buffer's number, or none where the frame must be dropped whole. -/
def takeBuf (s : State) (n : Nat) (reserved held : Bool) (stampFor : Option (Nat × Nat)) : Option Nat × State :=
  match placeCells s (cellsFor n) reserved with
  | none => (none, s)
  | some (k, o) =>
    let b := s.miller.next
    let s1 := if o = 0 then takeCells s k
      else bump (wr (takeCells s k) O.overflow_used (rd s O.overflow_used + o)) O.direct_spills
    let buf : Buf := { onDie := k, spilled := o, reserved := reserved, held := held, legs := 1, stampFor := stampFor }
    (some b, setMiller s1 { s1.miller with next := b + 1, bufs := s1.miller.bufs.put b buf })

/-- A frame is dropped whole for want of cells (R316 rule 4): kind 0x58 at most once per second. -/
def noCellDrop (s : State) : State :=
  let s1 := bump s O.no_cell_drop
  let due := match s.miller.lastExhausted with
    | some t => decide (t + 1000000000 ≤ s.now)
    | none => true
  if due then report (setMiller s1 { s1.miller with lastExhausted := some s.now }) 0x58 (allocatorHid s) 0 else s1

/-- One more leg of a buffer. -/
def addLeg (s : State) (b : Nat) : State :=
  setMiller s { s.miller with bufs := s.miller.bufs.upd b (fun x => { x with legs := x.legs + 1 }) }

/-- The buffer's cells are freed (R319); a descriptor that still waits for its stamp learns that no leg left (R403). -/
def freeBuf (s : State) (b : Nat) (x : Buf) : State :=
  let s1 := giveCells (setMiller s { s.miller with bufs := s.miller.bufs.del b }) x.onDie
  let s2 := if x.spilled = 0 then s1 else wr s1 O.overflow_used (rd s1 O.overflow_used - x.spilled)
  let s3 := if x.held then wr s2 O.reorder_pool_used (rd s2 O.reorder_pool_used - x.onDie) else s2
  match x.stampFor with
  | some q => stampDescriptor s3 q.1 q.2 none
  | none => s3

/-- A leg has left or been dropped (R314, R319): the last frees the cells. -/
def dropLeg (s : State) (b : Nat) : State :=
  match bufOf s b with
  | some x =>
    if x.legs ≤ 1 then freeBuf s b x
    else setMiller s { s.miller with bufs := s.miller.bufs.put b { x with legs := x.legs - 1 } }
  | none => s

/-- A leg leaves at an instant of the time base: the descriptor that waits for the first leg takes it (R403). -/
def legLeft (s : State) (b ns : Nat) : State :=
  match bufOf s b with
  | some x =>
    match x.stampFor with
    | some q =>
      stampDescriptor (setMiller s { s.miller with bufs := s.miller.bufs.put b { x with stampFor := none } }) q.1 q.2 (some ns)
    | none => s
  | none => s

/-- A scoreboard takes a buffer into the reorder share, or lets it out (R315). -/
def holdBuf (s : State) (b : Nat) (h : Bool) : State :=
  match bufOf s b with
  | some x =>
    if x.held = h then s
    else
      let s1 := setMiller s { s.miller with bufs := s.miller.bufs.put b { x with held := h } }
      wr s1 O.reorder_pool_used (if h then rd s O.reorder_pool_used + x.onDie else rd s O.reorder_pool_used - x.onDie)
  | none => s

/-! ### Spilling (R317, R318) -/

/-- Queued frames in order with the bytes before each: those deeper than `depth` bytes behind the head. -/
def deepFrames (depth : Nat) : Nat → List (Nat × Nat) → List Nat
  | _, [] => []
  | before, (b, n) :: t => (if depth < before then [b] else []) ++ deepFrames depth (before + n) t

/-- A station is in power save on every link it has. -/
def asleepEverywhere (s : State) (sta : Nat) : Bool :=
  let links := rd s (winKey sta O.sta_links)
  decide (links ≠ 0) && (List.range 3).all (fun r => !(bit links r) || bit (rd s (winKey sta O.sta_ps)) r)

/-- The frames that may spill, in the order of R317: frames of stations asleep on every link, then frames deep in their
queues, oldest buffer first. -/
def spillOrder (s : State) : List Nat :=
  let d := rd s O.spill_depth
  let asleep := s.miller.air.flatMap (fun e => if asleepEverywhere s (e.1 / 4) then e.2.frames.map (fun f => f.buf) else [])
  let deep := s.miller.air.flatMap (fun e => deepFrames d 0 (e.2.frames.map (fun f => (f.buf, f.bytes.length)))) ++
    s.miller.wired.flatMap (fun e => deepFrames d 0 (e.2.frames.map (fun f => (f.buf, f.bytes.length))))
  (asleep ++ sortBy (fun a b => decide (a ≤ b)) deep).filter (fun b =>
    match bufOf s b with
    | some x => decide (x.spilled = 0) && !x.held
    | none => false)

/-- One frame moves to the overflow. -/
def spillOne (s : State) (b : Nat) : State :=
  match bufOf s b with
  | some x =>
    if overflowFree s < x.onDie then s
    else
      let s1 := setMiller s { s.miller with bufs := s.miller.bufs.put b { x with onDie := 0, spilled := x.spilled + x.onDie } }
      cellRequests true x.onDie (bump (giveCells (wr s1 O.overflow_used (rd s1 O.overflow_used + x.onDie)) x.onDie) O.spills)
  | none => s

/-- SPILL (R317): while on-die free cells are below `spill_on`, whole frames move until `spill_on` plus 8,192 are free; the
event moves the next frame. -/
def execSpill (s : State) : Host.Outcome State Fault Refusal :=
  act s fun s =>
    if overflowUp s ∧ rd s O.cells_free < rd s O.spill_on + 8192 then
      match spillOrder s with
      | b :: _ => spillOne s b
      | [] => s
    else s

/-- Frames within `depth` bytes of their queue's head. -/
def shallowFrames (depth : Nat) : Nat → List (Nat × Nat) → List Nat
  | _, [] => []
  | before, (b, n) :: t => if depth < before then [] else b :: shallowFrames depth (before + n) t

/-- The spilled frames that are due back on die (R317): near their queue's head, in a queue whose station is awake on some
link. -/
def fetchOrder (s : State) : List Nat :=
  let d := rd s O.spill_depth
  (s.miller.air.flatMap (fun e =>
      if asleepEverywhere s (e.1 / 4) then [] else shallowFrames d 0 (e.2.frames.map (fun f => (f.buf, f.bytes.length)))) ++
    s.miller.wired.flatMap (fun e => shallowFrames d 0 (e.2.frames.map (fun f => (f.buf, f.bytes.length))))).filter (inDram s)

/-- A frame whose cells are in error leaves its queues, and its cells are freed (R367). -/
def dropSpilled (s : State) (b : Nat) : State :=
  let n := (s.miller.air.flatMap (fun e => e.2.frames.filter (fun f => f.buf = b))).length +
    (s.miller.wired.flatMap (fun e => e.2.frames.filter (fun f => f.buf = b))).length
  let s1 := setMiller s { s.miller with
    air := s.miller.air.map (fun e => (e.1, { e.2 with frames := e.2.frames.filter (fun f => f.buf ≠ b) })),
    wired := s.miller.wired.map (fun e => (e.1, { e.2 with frames := e.2.frames.filter (fun f => f.buf ≠ b) })) }
  (List.range n).foldl (fun t _ => dropLeg t b) s1

/-- One frame comes back on die, using the reserve if it must. -/
def fetchOne (s : State) (b : Nat) : State :=
  match bufOf s b with
  | some x =>
    if x.bad then dropSpilled s b
    else if rd s O.cells_free < x.spilled then s
    else
      let s1 := setMiller s { s.miller with bufs := s.miller.bufs.put b { x with onDie := x.onDie + x.spilled, spilled := 0 } }
      cellRequests false x.spilled (bump (takeCells (wr s1 O.overflow_used (rd s1 O.overflow_used - x.spilled)) x.spilled) O.fetches)
  | none => s

/-- FETCH (R317): the next spilled frame that is due is fetched. -/
def execFetch (s : State) : Host.Outcome State Fault Refusal :=
  act s fun s =>
    if overflowUp s then
      match fetchOrder s with
      | b :: _ => fetchOne s b
      | [] => s
    else s

/-- OVERFLOW_UNAVAILABLE (R318): kind 0x5A at each loss; spill and fetch stop while the region is away. -/
def execOverflowUnavailable (s : State) : Host.Outcome State Fault Refusal :=
  act s fun s =>
    if bit (rd s O.region_status) 2 ∨ s.miller.noOverflow then s
    else report (setMiller s { s.miller with noOverflow := true }) 0x5A (spillHid s) 0

/-- AUDIT_RECLAIM (R328): the cells that no queue, scoreboard or task owns return to the free list. -/
def execAuditReclaim (s : State) : Host.Outcome State Fault Refusal :=
  act s fun s =>
    let n := s.miller.unowned
    bumpBy (giveCells (setMiller s { s.miller with unowned := 0 }) n) O.audit_reclaimed n

end Sys2Proof.Machine
end

