-- ==== Sys2Proof/Machine/Stations.lean ====
section
/-! DEFINITION. Stations and what the lead mirrors of them (R114, R123, R129, R135, R194, R195): the operations the air MAC, the
Locksmith, the Miller and the Ostler share. -/

namespace Sys2Proof.Machine

/-! ### Mirroring (R194, R195) -/

/-- Records go to the follower: from the lead of a pair, and from the source of a copy (R193, R194; log 15). -/
def mirrors (s : State) : Bool :=
  (decide (roleMode s = 8) && decide (twinState s = 3 ∨ twinState s = 4)) ||
  (decide (twinState s = 2) && decide (s.twin.copy = some .source))

/-- One mirror record sent (R194). -/
def mirror (s : State) (r : MirrorRec) : State :=
  if mirrors s then
    let n := s.twin.recordsSent + 1
    let s1 := bump { s with twin := { s.twin with recordsSent := n, unacked := s.twin.unacked ++ [(n, r)] } } O.mirror_records
    varlanSend s1 3 (.mirror n r)
  else s

/-- The number of a transmit counter among those R195 bounds: a station's sequence counters and a slot's packet numbers. -/
def snCounter (sta tid : Nat) : Nat := sta * 16 + tid
def pnCounter (slot : Nat) : Nat := 1048576 + slot

/-- Whether a new value may be assigned (R195): fewer than 64 values lie between the mirrored value and the next one. -/
def mayAssign (s : State) (counter next modulus : Nat) : Bool :=
  if roleMode s = 8 ∧ twinState s = 3 then
    match s.twin.mirrored.look counter with
    | some m => decide ((next + modulus - m % modulus) % modulus < 64)
    | none => decide ((next + modulus - (if counter < 1048576 then 0 else 1)) % modulus < 64)
  else true

/-- The counters a test picks are as a command has just left them, which the follower applies before it returns (R194). -/
def forgetMirrored (s : State) (pick : Nat → Bool) : State :=
  let of := fun (r : MirrorRec) => match r with
    | .txSn i tid _ => pick (snCounter i tid)
    | .txPn k _ => pick (pnCounter k)
    | _ => false
  { s with twin := { s.twin with mirrored := s.twin.mirrored.filter (fun e => !(pick e.1)),
                                 unacked := s.twin.unacked.filter (fun e => !(of e.2)) } }

/-- A hold of R195. -/
def mirrorStall (s : State) : State := bump s O.mirror_stalls

/-! ### Station entries -/

/-- `sta_state` of a station: 0 EMPTY, 1 ASSOCIATED, 2 AUTHORIZED (R146). -/
def staState (s : State) (i : Nat) : Nat := rd s (winKey i O.sta_state)

/-- A station's own state. -/
def station (s : State) (i : Nat) : Station := s.mac.stations.getD i {}

/-- The air MAC's state changed. -/
def setMac (s : State) (m : Mac) : State := { s with mac := m }

/-- A station's own state set. -/
def setStation (s : State) (i : Nat) (x : Station) : State := setMac s { s.mac with stations := s.mac.stations.put i x }

/-- The stations whose entries are not EMPTY, rising. -/
def stationsInUse (s : State) : List Nat := s.mac.stations.map (fun e => e.1)

/-- The links of a station, its power-save bits, and the links of a TID (R135, R146). -/
def staLinks (s : State) (i : Nat) : Nat := rd s (winKey i O.sta_links)
def staPs (s : State) (i : Nat) : Nat := rd s (winKey i O.sta_ps)
def tidLinks (s : State) (i tid : Nat) : Nat := bits (rd s (winKey i O.sta_tid_map)) (3 * tid + 2) (3 * tid)

/-- A station's address on a radio's link, and its MLD address. -/
def staLinkAddr (s : State) (i r : Nat) : Octets := slice (rdB s (winKey i O.sta_link_addr)) (6 * r) 6
def staMldAddr (s : State) (i : Nat) : Octets := rdB s (winKey i O.sta_mld_addr)

/-- The station of a transmitter's address on a radio (R116 check 5). -/
def stationOf (s : State) (r : Nat) (ta : Octets) : Option Nat :=
  (stationsInUse s).find? (fun i => bit (staLinks s i) r && decide (staLinkAddr s i r = ta))

/-- A group address (its first octet is odd), and the broadcast address. -/
def groupAddr (a : Octets) : Bool := decide (octet a 0 % 2 = 1)
def broadcastAddr (a : Octets) : Bool := decide (a = List.replicate 6 255)

/-- A scoreboard (R123). -/
def board (s : State) (i tid : Nat) : Scoreboard := (station s i).boards.getD tid {}
def setBoard (s : State) (i tid : Nat) (b : Scoreboard) : State :=
  setStation s i { station s i with boards := (station s i).boards.put tid b }

/-- The access category of a priority (R320): 0 BE, 1 BK, 2 VI, 3 VO. -/
def acOf (prio : Nat) : Nat :=
  if prio = 1 ∨ prio = 2 then 1 else if prio = 0 ∨ prio = 3 then 0 else if prio = 4 ∨ prio = 5 then 2 else 3

/-- The TIDs of an access category. -/
def tidsOf (ac : Nat) : List Nat := (List.range 8).filter (fun t => acOf t = ac)

/-- A BSSID that radio `r` serves (R137): enabled and below `bss_count`. -/
def bssServed (s : State) (r i : Nat) : Bool := decide (i < rd s (O.bss_count r)) && flag s (O.bss_enable r i)

/-- The served BSSID of an address on a radio. -/
def bssOf (s : State) (r : Nat) (a : Octets) : Option Nat :=
  (List.range 16).find? (fun i => bssServed s r i && decide (rdB s (O.bssid r i) = a))

/-- The backhaul client's link address and the upstream BSSID on a radio (R148). -/
def bhOwnAddr (s : State) (r : Nat) : Octets := slice (rdB s O.bh_own_addr) (6 * r) 6
def bhBssid (s : State) (r : Nat) : Octets := slice (rdB s O.bh_link_bssid) (6 * r) 6

/-- A backhaul link configured on a radio (R143). -/
def bhLink (s : State) (r : Nat) : Bool := flag s O.bh_enable && bit (rd s O.bh_links) r

/-- An address of this module on a radio (R116 check 3). -/
def ownAddr (s : State) (r : Nat) (a : Octets) : Bool :=
  (bssOf s r a).isSome || (bhLink s r && decide (bhOwnAddr s r = a))

/-- The role held, in QUARANTINE the one it was entered with (R471). -/
def heldRole (s : State) : Nat := if packageMode s = 12 then s.tinker.roleLeft else roleMode s

/-- The module owns a link (R122, R198): in SOLO and LEAD every one, after a takeover every one, and none in FOLLOW or once it
has handed over. -/
def ownsLinks (s : State) : Bool :=
  let m := heldRole s
  decide (m = 7 ∨ m = 8 ∨ packageMode s = 10) && !s.twin.handedOver

/-- The wanted links among those a TID may use, with their radios serving a non-empty plan (R159). -/
def radioPlan (s : State) (r : Nat) : RadioPlan := s.ost.plans.getD r {}
def setPlan (s : State) (r : Nat) (p : RadioPlan) : State := { s with ost := { s.ost with plans := s.ost.plans.put r p } }

/-- A grant of a station's access category is usable on a link (R159). -/
def linkUsable (s : State) (sta ac r : Nat) (eapol : Bool) : Bool :=
  bit (staLinks s sta) r && (tidsOf ac).any (fun t => bit (tidLinks s sta t) r) && radioFitted s.fuse.part r &&
  !(radioPlan s r).empty && (decide (staState s sta = 2) || eapol) && !(bit (staPs s sta) r)

/-- The usable links of an access category of a station. -/
def usableLinks (s : State) (sta ac : Nat) (eapol : Bool) : List Nat :=
  (List.range 3).filter (fun r => linkUsable s sta ac r eapol)

/-- The distance from one sequence number to another, modulo 4,096. -/
def snDist (start sn : Nat) : Nat := (sn + 4096 - start % 4096) % 4096

end Sys2Proof.Machine
end

