-- ==== Sys2Proof/Machine/Miller.lean ====
section
/-! DEFINITION. The Miller and the Weigher (R320 to R333): priorities and classes, the queues and what enters them, the deficit
round robin's lists, and meters. -/

namespace Sys2Proof.Machine

/-! ### Ports, classes and queue numbers (R288, R320, R321) -/

/-- Ports that `uplink_mode` forms. -/
def portCount (s : State) : Nat :=
  let m := rd s O.uplink_mode
  if m = 2 then 4 else if m = 3 then 2 else 8

/-- Whether a port exists and is UP. -/
def portUp (s : State) (p : Nat) : Bool := decide (p < portCount s) && decide (rd s (O.port_state p) = 2)

/-- The traffic class of a priority (R320). -/
def tcOf (s : State) (prio : Nat) : Nat := bits (rd s O.prio_tc_map) (4 * prio + 2) (4 * prio)

/-- Queues of one port, and of one class of a port. -/
def portQueues (s : State) : Nat := 2048 / portCount s
def classQueues (s : State) : Nat := portQueues s / 8

/-- The wired queue of a port, class and flow hash. -/
def wiredIndex (s : State) (p tc h : Nat) : Nat := portQueues s * p + classQueues s * tc + h % classQueues s

/-- The class of a wired queue, from its index (`wq_tc`). -/
def wiredTc (s : State) (w : Nat) : Nat := w % portQueues s / classQueues s

/-! ### The queues -/

def airQ (s : State) (a : Nat) : AirQueue := s.miller.air.getD a {}
def setAirQ (s : State) (a : Nat) (q : AirQueue) : State := setMiller s { s.miller with air := s.miller.air.put a q }
def wiredQ (s : State) (w : Nat) : WiredQueue := s.miller.wired.getD w {}
def setWiredQ (s : State) (w : Nat) (q : WiredQueue) : State := setMiller s { s.miller with wired := s.miller.wired.put w q }
def wiredSched (s : State) (p : Nat) : Scheduler := s.miller.wiredSched.getD p {}
def setWiredSched (s : State) (p : Nat) (x : Scheduler) : State :=
  setMiller s { s.miller with wiredSched := s.miller.wiredSched.put p x }

/-- The cells of frames. -/
def airCells (l : List AirFrame) : Nat := l.foldl (fun n f => n + cellsFor f.bytes.length) 0
def outCells (l : List OutFrame) : Nat := l.foldl (fun n f => n + cellsFor f.bytes.length) 0

/-- Admission (R322): 0 admitted, 1 the limit, 2 the yellow limit. `colour` is 0 green, 1 yellow, 2 red. -/
def admission (held limit pct need colour : Nat) : Nat :=
  if limit < held + need then 1
  else if 1 ≤ colour ∧ pct * limit ≤ held * 100 then 2
  else 0

/-! ### Air queues -/

/-- The wait of a frame in ns. -/
def airAge (s : State) (f : AirFrame) : Nat := s.now - f.since

/-- The lifetime of an access category in ns (R335). -/
def airLifetime (s : State) (ac : Nat) : Nat :=
  rd s (if ac = 0 then O.air_lifetime_be else if ac = 1 then O.air_lifetime_bk else if ac = 2 then O.air_lifetime_vi
    else O.air_lifetime_vo) * 1000000

/-- The quantum of an air queue (R325). -/
def airQuantum (s : State) (a : Nat) : Nat :=
  let ac := a % 4
  rd s (if ac = 0 then O.ac_quantum_be else if ac = 1 then O.ac_quantum_bk else if ac = 2 then O.ac_quantum_vi
    else O.ac_quantum_vo) * rd s (winKey (a / 4 * 4) O.sta_weight)

/-- A frame is aged (R326). -/
def aged (s : State) (a : Nat) (f : AirFrame) : Bool := decide (airLifetime s (a % 4) < airAge s f)

/-- Frames that a grant may cover: on die, not aged, and not yet bound (R325). -/
def grantable (s : State) (a : Nat) : List AirFrame :=
  (airQ s a).frames.filter (fun f => !(inDram s f.buf) && !(aged s a f) && f.radio.isNone)

/-- The links a frame of an air queue may go out on: the usable ones, or of those the one its descriptor names. -/
def frameLinks (s : State) (a : Nat) (f : AirFrame) : List Nat :=
  (usableLinks s (a / 4) (a % 4) f.eapol).filter (fun r => match f.link with
    | some l => decide (l = r)
    | none => true)

/-- An air queue is eligible (R325). -/
def airEligible (s : State) (a : Nat) : Bool := (grantable s a).any (fun f => !(frameLinks s a f).isEmpty)

/-- A queue wakes: it joins the list's tail at the current round with no deficit (R323). -/
def airWake (s : State) (a : Nat) : State :=
  let sch := s.miller.airSched
  let q := airQ s a
  if sch.list.contains a || q.granted || !(airEligible s a) then s
  else
    let s1 := setAirQ s a { q with stamp := sch.round, deficit := 0 }
    wr (setMiller s1 { s1.miller with airSched := { sch with list := sch.list ++ [a] } }) O.aq_active
      ((sch.list.length + 1) % 65536)

/-- A queue leaves the list and keeps no deficit. -/
def airLeave (s : State) (a : Nat) : State :=
  let l := s.miller.airSched.list.filter (fun x => x ≠ a)
  let s1 := setAirQ s a { airQ s a with deficit := 0 }
  wr (setMiller s1 { s1.miller with airSched := { s1.miller.airSched with list := l } }) O.aq_active (l.length % 65536)

/-- A frame enters an air queue (R322), or its leg is dropped. -/
def airEnqueue (s : State) (a : Nat) (f : AirFrame) (colour : Nat) : State :=
  let q := airQ s a
  let adm := admission (airCells q.frames) (rd s O.aq_limit) (rd s O.aq_yellow_limit) (cellsFor f.bytes.length) colour
  if adm = 0 then airWake (setAirQ s a { q with frames := q.frames ++ [f] }) a
  else
    dropLeg (bump (setAirQ s a { q with drops := q.drops + 1 }) (if adm = 1 then O.aq_tail_drop else O.aq_yellow_drop)) f.buf

/-- Every frame of an air queue is dropped (R115, R327). -/
def airFlush (s : State) (a : Nat) : State :=
  let q := airQ s a
  airLeave (q.frames.foldl (fun t f => dropLeg t f.buf) (setAirQ s a { q with frames := [] })) a

/-! ### Wired queues -/

/-- A frame enters a wired queue (R322), or its leg is dropped; a waking queue joins its port's list (R323). -/
def wiredEnqueue (s : State) (p w : Nat) (f : OutFrame) (colour : Nat) : State :=
  let q := wiredQ s w
  let adm := admission (outCells q.frames) (rd s (O.wq_limit p)) (rd s (O.wq_yellow_limit p)) (cellsFor f.bytes.length) colour
  if adm = 0 then
    let sch := wiredSched s p
    let strict := bit (rd s (O.tc_strict p)) (wiredTc s w)
    if strict ∨ sch.list.contains w then setWiredQ s w { q with frames := q.frames ++ [f] }
    else
      setWiredSched (setWiredQ s w { q with frames := q.frames ++ [f], stamp := sch.round, deficit := 0, turn := false }) p
        { sch with list := sch.list ++ [w] }
  else
    dropLeg (bump (setWiredQ s w { q with drops := q.drops + 1 }) (if adm = 1 then O.wq_tail_drop else O.wq_yellow_drop)) f.buf

/-- Every frame of a wired queue is dropped; the queue leaves its port's list. -/
def wiredFlush (s : State) (p w : Nat) (counter : Option Nat) : State :=
  let q := wiredQ s w
  let n := q.frames.length
  let s1 := setWiredQ s w { q with frames := [], deficit := 0, turn := false, drops := q.drops + n }
  let s2 := q.frames.foldl (fun t f => dropLeg t f.buf) s1
  let s3 := setWiredSched s2 p { wiredSched s2 p with list := (wiredSched s2 p).list.filter (fun x => x ≠ w) }
  match counter with
  | some k => bumpBy s3 k n
  | none => s3

/-- The wired queues that hold frames of one port. -/
def portHeld (s : State) (p : Nat) : List Nat :=
  (s.miller.wired.filter (fun e => decide (e.1 / portQueues s = p) && !(e.2.frames.isEmpty))).map (fun e => e.1)

/-- A port's wired queues are dropped (R327). -/
def portFlush (s : State) (p : Nat) : State := (portHeld s p).foldl (fun t w => wiredFlush t p w (some O.down_drops)) s

/-! ### The direct queues -/

/-- The host direct queue of a to-host queue. -/
def hostDirect (s : State) (q : Nat) : List OutFrame := s.miller.host.getD q []
def setHostDirect (s : State) (q : Nat) (l : List OutFrame) : State :=
  setMiller s { s.miller with host := s.miller.host.put q l }

/-- A frame goes to a to-host queue (R66, R321): dropped where the queue is disabled, stopped or full, or where no posted
descriptor is left for it. -/
def hostEnqueue (s : State) (q : Nat) (f : OutFrame) : State :=
  let l := hostDirect s q
  if queueRuns s q && decide (l.length < 256) && decide (l.length < postedOf s q) then
    setHq (setHostDirect s q (l ++ [f])) q { hq s q with full := false }
  else
    let noRoom := queueRuns s q && !(decide (l.length < postedOf s q))
    dropLeg (bump (setHq s q { hq s q with full := noRoom || ((hq s q).full && !(queueRuns s q)) }) (O.drop_full q)) f.buf

/-- Class 5 frames leave in order while a lane is up; the first to leave gives a waiting descriptor its stamp (R403). -/
def drainVarlan (s : State) : List OutFrame → State
  | [] => setMiller s { s.miller with varlan := [] }
  | f :: t =>
    if lanesUp s = 0 then setMiller s { s.miller with varlan := f :: t }
    else drainVarlan (dropLeg (legLeft (varlanSend s 5 (.frame f.bytes)) f.buf (tbNs s)) f.buf) t

/-- A frame enters the Varlan direct queue (R321), which the link serves in order. -/
def varlanEnqueue (s : State) (f : OutFrame) : State :=
  if rd s O.varlan_fifo_limit < outCells s.miller.varlan + cellsFor f.bytes.length then
    dropLeg (bump s O.varlan_fifo_drop) f.buf
  else drainVarlan s (s.miller.varlan ++ [f])

/-! ### Meters (R329 to R333) -/

/-- A meter's buckets; they start full when `m_mode` is written. -/
def meterSize (s : State) (i : Nat) : Nat × Nat :=
  (rd s (winKey i O.m_cbs) * 256, rd s (winKey i O.m_xbs) * 256)
def meter (s : State) (i : Nat) : Meter :=
  match s.miller.meters.look i with
  | some m => m
  | none => { c := (meterSize s i).1, x := (meterSize s i).2, filled := s.now }
def setMeter (s : State) (i : Nat) (m : Meter) : State := setMiller s { s.miller with meters := s.miller.meters.put i m }

/-- Tokens of a rate in kb/s over a time in ns, in 1/256 byte: 1 kb/s is 1/8 byte per ms. -/
def tokensOf (rate ns : Nat) : Nat := rate * ns * 32 / 1000000

/-- The time a meter's fill has used, so that what rounding to 1/256 byte leaves is not lost: the whole time elapsed. -/
def meterFill (s : State) (i : Nat) : Meter :=
  let m := meter s i
  let sz := meterSize s i
  let dt := s.now - m.filled
  let add := tokensOf (rd s (winKey i O.m_cir)) dt
  if rd s (winKey i O.m_mode) = 1 then
    let c := min sz.1 (m.c + add)
    let excess := m.c + add - sz.1
    { c := c, x := min sz.2 (m.x + excess), filled := s.now }
  else
    { c := min sz.1 (m.c + add), x := min sz.2 (m.x + tokensOf (rd s (winKey i O.m_pir)) dt), filled := s.now }

/-- The colour RFC 2697 (SRTCM) and RFC 2698 (TRTCM) give a frame of `b` units of 1/256 byte with a pre-colour, and the buckets
after. -/
def meterMark (mode pre b : Nat) (m : Meter) : Nat × Meter :=
  if mode = 1 then
    if pre = 0 ∧ b ≤ m.c then (0, { m with c := m.c - b })
    else if pre ≤ 1 ∧ b ≤ m.x then (1, { m with x := m.x - b })
    else (2, m)
  else
    if pre = 2 ∨ m.x < b then (2, m)
    else if pre = 1 ∨ m.c < b then (1, { m with x := m.x - b })
    else (0, { m with c := m.c - b, x := m.x - b })

/-- A frame meets a meter (R330 to R332): its colour, whether the meter's action drops it, and the state after. An
uncorrectable error refills the buckets first (R333). -/
def meterFrame (s : State) (i len colour : Nat) (ecc : Bool) : Nat × Bool × State :=
  let mode := rd s (winKey i O.m_mode)
  let s0 := if ecc then report (bump (setMeter s i { c := (meterSize s i).1, x := (meterSize s i).2, filled := s.now }) O.meter_ecc)
    0x5B (hidOf s 0 6 2 1) 0 else s
  if mode = 0 then (colour, false, s0)
  else
    let pre := if flag s0 (winKey i O.m_aware) then colour else 0
    let r := meterMark mode pre (len * 256) (meterFill s0 i)
    let s1 := bump (bump (setMeter s0 i r.2) O.meter_updates) (winKey i O.m_frames)
    let s2 := bumpBy s1 (winKey i (if r.1 = 0 then O.m_green_bytes else if r.1 = 1 then O.m_yellow_bytes else O.m_red_bytes)) len
    let act := rd s2 (winKey i (if r.1 = 0 then O.m_green_act else if r.1 = 1 then O.m_yellow_act else O.m_red_act))
    if act = 1 then (r.1, true, bump (bump s2 O.meter_drops) (winKey i O.m_dropped)) else (r.1, false, s2)

/-- The meter a binding word selects, if it is used (R329). -/
def meterOf (s : State) (word off : Nat) : Option Nat :=
  let w := rd s word
  if bit w 31 then some (w % 65536 + off) else none

/-- A frame meets the meter a binding selects, if any. -/
def meterVia (s : State) (word off len colour : Nat) (ecc : Bool) : Nat × Bool × State :=
  match meterOf s word off with
  | some i => meterFrame s i len colour ecc
  | none => (colour, false, s)

end Sys2Proof.Machine
end

