-- ==== Sys2Proof/Machine/Macsec.lean ====
section
/-! DEFINITION. MACsec on the uplink (R238 to R240, R244): secure associations, what a departing frame gets, and the checks a
received one meets. The arithmetic of GCM-AES-XPN-256 is the standard's and not part of the state: a departing frame shows its
association, PN and plaintext, and a received one arrives deciphered with the engine's verdict (log 20). -/

namespace Sys2Proof.Machine

/-- The EtherType of an Ethernet frame, behind one 802.1Q tag if it has one. -/
def etherType (b : Octets) : Nat :=
  let t := beNat (slice b 12 2)
  if t = 0x8100 then beNat (slice b 16 2) else t

/-- A frame that carries EAPOL. -/
def isEapol (b : Octets) : Bool := decide (etherType b = 0x888E)

/-- The number q of a port of this package among the MACsec ports (R238). -/
def msPort (s : State) (p : Nat) : Nat := 8 * packageBit s + p

/-- The number of a secure association: port q, direction 0 TX or 1 RX, and AN. -/
def saIndex (q dir an : Nat) : Nat := q * 8 + dir * 4 + an

/-- A secure association, if installed. -/
def assoc (s : State) (i : Nat) : Option SecAssoc := s.lock.assocs.look i
def setLock (s : State) (l : Locksmith) : State := { s with lock := l }
def setAssoc (s : State) (i : Nat) (a : SecAssoc) : State := setLock s { s.lock with assocs := s.lock.assocs.put i a }

/-- `ms_validate` and `ms_protect` in force: MACSEC_REQUIRED forces STRICT and 1 (R220). -/
def msValidate (s : State) (q : Nat) : Nat := if bit s.fuse.secConfig 3 then 2 else rd s (O.ms_validate q)
def msProtect (s : State) (q : Nat) : Bool := bit s.fuse.secConfig 3 || flag s (O.ms_protect q)

/-- The SecY of a port is fitted and in use. -/
def msRuns (s : State) (p : Nat) : Bool := macsecFitted s.fuse.part && flag s (O.ms_enable (msPort s p))

/-- The SecY of a port as a source. -/
def msHid (s : State) (p : Nat) : Nat := hidOf s 0 9 6 p

/-- What the transmit SecY does with a frame (R239). -/
inductive Secured where
  | plain
  | under (an pn : Nat) (sci : Bool)
  | dropped
  deriving DecidableEq, Repr

/-- The transmit SecY of port `p` (R239). A frame to be protected with no ACTIVE association is dropped (DEDUCED, log 18). -/
def msTransmit (s : State) (p : Nat) (bytes : Octets) : Secured × State :=
  let q := msPort s p
  if msRuns s p = false ∨ isEapol bytes ∨ msProtect s q = false then (.plain, s)
  else
    let an := rd s (O.ms_tx_an q)
    match assoc s (saIndex q 0 an) with
    | some a =>
      if a.state ≠ 1 then (.dropped, bump s (O.out_sa_drop q))
      else if 2 ^ 64 - 1 < a.pn then
        (.dropped, report (bump (setAssoc s (saIndex q 0 an) { a with state := 2 }) (O.out_sa_drop q)) 0x45 (msHid s p) 0)
      else
        let near := decide (2 ^ 64 - 2 ^ 32 < a.pn + 1) && !a.warned
        let s1 := bump (setAssoc s (saIndex q 0 an) { a with pn := a.pn + 1, warned := a.warned || near }) (O.out_protected q)
        (.under an a.pn (flag s (O.ms_include_sci q)), if near then report s1 0x44 (msHid s p) 0 else s1)
    | none => (.dropped, bump s (O.out_sa_drop q))

/-- What the receive SecY does with a frame (R240). -/
inductive Checked where
  | accepted
  /-- To the port's `mka_queue` (R238). -/
  | mka
  | dropped
  /-- Deciphered; the verdict of its ICV is awaited under the association. -/
  | ciphered (sa pn : Nat)
  deriving DecidableEq, Repr

/-- The checks of R240 in order, with `ms_validate` 0 DISABLED, 1 CHECK, 2 STRICT. -/
def msReceive (s : State) (p : Nat) (f : UplinkFrame) : Checked × State :=
  let q := msPort s p
  let v := msValidate s q
  if msRuns s p = false then (.accepted, s)
  else if isEapol f.bytes then (.mka, s)
  else
    match f.secTag with
    | none => if v = 2 then (.dropped, bump s (O.in_untagged_drop q)) else (.accepted, s)
    | some (sci, an, pn) =>
      if v = 0 then (.accepted, s)
      else
        let i := saIndex q 1 an
        match assoc s i with
        | some a =>
          if sci ≠ rdB s (O.ms_peer_sci q) ∨ a.state ≠ 1 then
            (if v = 2 then .dropped else .accepted, bump s (O.in_no_sa q))
          else if pn < max 1 (a.passed + 1 - rd s (O.ms_replay_window q)) then (.dropped, bump s (O.in_late q))
          else (.ciphered i pn, s)
        | none => (if v = 2 then .dropped else .accepted, bump s (O.in_no_sa q))

/-- The ICV of a received frame passes (R240): C moves up, `in_ok` counts. -/
def msPass (s : State) (i pn : Nat) : State :=
  match assoc s i with
  | some a => bump (setAssoc s i { a with passed := max a.passed pn }) (O.in_ok (i / 8))
  | none => bump s (O.in_ok (i / 8))

/-- The ICV fails (R240): counted by mode; kind 0x42 at most once per second and port. -/
def msFail (s : State) (i : Nat) : State :=
  let q := i / 8
  let s1 := bump s (if msValidate s q = 1 then O.in_invalid q else O.in_not_valid q)
  let due := match s.lock.lastIcv.look q with
    | some t => decide (t + 1000000000 ≤ s.now)
    | none => true
  if due then report (setLock s1 { s1.lock with lastIcv := s1.lock.lastIcv.put q s.now }) 0x42 (msHid s (q % 8)) 0 else s1

/-- `sa_key` and `sa_salt` zeroised (R244). -/
def saZeroise (s : State) : State := setLock s { s.lock with saKey := none, saSalt := none }

/-- The association that the SA window names. -/
def saNamed (s : State) : Nat := saIndex (rd s O.sa_port) (rd s O.sa_dir) (rd s O.sa_an)

/-- SA_INSTALL (R244). -/
def saInstall (s : State) : Status × State :=
  let i := saNamed s
  match assoc s i with
  | some _ => (.busy, saZeroise s)
  | none =>
    match s.lock.saKey, s.lock.saSalt with
    | some k, some t =>
      let pn := rd s O.sa_pn
      (.ok, setAssoc (saZeroise s) i
        { key := k, salt := t, ssci := rd s O.sa_ssci, state := 1, pn := pn, passed := pn - 1, warned := false })
    | _, _ => (.type, saZeroise s)

def execSaInstall (s : State) : Host.Outcome State Fault Refusal :=
  act s fun s => command s O.sa_cmd 1 saInstall

/-- The frames of a port that wait for an association's key are dropped (R244). -/
def saDropQueued (s : State) (p q : Nat) : State :=
  (portHeld s p).foldl (fun t w =>
    let x := wiredQ t w
    let gone := x.frames.filter (fun f => !(isEapol f.bytes))
    let t1 := setWiredQ t w { x with frames := x.frames.filter (fun f => isEapol f.bytes), drops := x.drops + gone.length }
    bumpBy (gone.foldl (fun u f => dropLeg u f.buf) t1) (O.out_sa_drop q) gone.length) s

/-- SA_CLEAR (R244): zeroised; frames queued for it are dropped. -/
def saClear (s : State) : Status × State :=
  let i := saNamed s
  match assoc s i with
  | none => (.ok, s)
  | some _ =>
    let q := rd s O.sa_port
    let s1 := setLock s { s.lock with assocs := s.lock.assocs.del i }
    let used := decide (rd s O.sa_dir = 0) && decide (rd s O.sa_an = rd s (O.ms_tx_an q)) && decide (q / 8 = packageBit s) &&
      msRuns s (q % 8) && msProtect s q
    (.ok, if used then saDropQueued s1 (q % 8) q else s1)

def execSaClear (s : State) : Host.Outcome State Fault Refusal :=
  act s fun s => command s O.sa_cmd 2 saClear

end Sys2Proof.Machine
end

