-- ==== Sys2Proof/Machine/Dequeue.lean ====
section
/-! DEFINITION. The ports' schedulers (R323, R324) and what a frame meets as it leaves a port: the residence time of a
transparent clock (R402, R406), MACsec (R239), errors in cells and links (R328). -/

namespace Sys2Proof.Machine

/-! ### Transparent clock (R406) -/

/-- Where the PTP header of an event frame lies: in an Ethernet frame of type 0x88F7, or behind UDP to port 319. -/
def ptpHeaderAt (b : Octets) : Option Nat :=
  let o := if beNat (slice b 12 2) = 0x8100 then 18 else 14
  let t := beNat (slice b (o - 2) 2)
  if t = 0x88F7 then some o
  else if t = 0x0800 ∧ octet b (o + 9) = 17 then
    let u := o + octet b o % 16 * 4
    if beNat (slice b (u + 2) 2) = 319 then some (u + 8) else none
  else if t = 0x86DD ∧ octet b (o + 6) = 17 ∧ beNat (slice b (o + 42) 2) = 319 then some (o + 48)
  else none

/-- The sum of 16-bit words in ones' complement. -/
def onesSum : Octets → Nat
  | a :: b :: t => let v := onesSum t + a.toNat * 256 + b.toNat; if 65535 < v then v - 65535 else v
  | [a] => a.toNat * 256
  | [] => 0

/-- A checksum updated for octets that change in place (RFC 1624); a zero stays zero where `keepZero` (R402). -/
def checksumUpdate (keepZero : Bool) (c : Nat) (old new : Octets) : Nat :=
  if keepZero ∧ c = 0 then 0
  else
    let v := (65535 - c) + (65535 - onesSum old) + onesSum new
    65535 - (v % 65536 + v / 65536) % 65535

/-- The correctionField of the frame with a residence time in ns added, and the UDP checksum with it (R402, R406). -/
def addResidence (b : Octets) (h ns : Nat) : Octets :=
  let old := slice b (h + 8) 8
  let new := beBytes 8 (beNat old + ns * 65536)
  let b1 := patch b (h + 8) new
  let o := if beNat (slice b 12 2) = 0x8100 then 18 else 14
  let t := beNat (slice b (o - 2) 2)
  if t = 0x88F7 then b1
  else patch b1 (h - 2) (beBytes 2 (checksumUpdate (decide (t = 0x0800)) (beNat (slice b (h - 2) 2)) old new))

/-- A Sync or Delay_Req from one uplink port to another is corrected as it leaves (R406). -/
def tcCorrect (s : State) (f : OutFrame) : Octets × State :=
  match ptpHeaderAt f.bytes with
  | some h =>
    if rd s O.ptp_mode = 2 ∧ f.source < 8 ∧ octet f.bytes h % 16 ≤ 1 ∧ f.session = none then
      (addResidence f.bytes h (tbNs s - f.stamp), bump s O.tc_corrected)
    else (f.bytes, s)
  | none => (f.bytes, s)

/-! ### The schedulers -/

/-- The quantum of a wired queue (R324, R336). -/
def wiredQuantum (s : State) (p w : Nat) : Nat := leNat (slice (rdB s (O.tc_quantum p)) (2 * wiredTc s w) 2)

/-- A queue's turn ends: it takes the next round's stamp and the list's tail (R323). -/
def endTurn (s : State) (p w : Nat) : State :=
  let sch := wiredSched s p
  setWiredSched (setWiredQ s w { wiredQ s w with turn := false, stamp := sch.round + 1 }) p
    { sch with list := sch.list.filter (fun x => x ≠ w) ++ [w] }

/-- An empty queue leaves the list with no deficit (R323). -/
def leaveList (s : State) (p w : Nat) : State :=
  let sch := wiredSched s p
  setWiredSched (setWiredQ s w { wiredQ s w with turn := false, deficit := 0 }) p
    { sch with list := sch.list.filter (fun x => x ≠ w) }

/-- The next queue of the round robin whose head may start (R323, R324). `waited` holds the queues whose head is still in DRAM,
each counted once. -/
def pickRound (p : Nat) : Nat → List Nat → State → Option Nat × State
  | 0, _, s => (none, s)
  | fuel + 1, waited, s =>
    let sch := wiredSched s p
    match sch.list.find? (fun w => (wiredQ s w).stamp ≤ sch.round) with
    | none =>
      if sch.list.isEmpty then (none, s)
      else pickRound p fuel waited (setWiredSched (bump s (O.sched_rounds p)) p { sch with round := sch.round + 1 })
    | some w =>
      let q := wiredQ s w
      match q.frames with
      | [] => pickRound p fuel waited (leaveList s p w)
      | f :: _ =>
        if waited.contains w then (none, s)
        else
          let s1 := if q.turn then s else setWiredQ s w { q with turn := true, deficit := q.deficit + wiredQuantum s p w }
          if inDram s1 f.buf then pickRound p fuel (w :: waited) (endTurn (bump s1 O.fetch_waits) p w)
          else if f.bytes.length ≤ (wiredQ s1 w).deficit then (some w, s1)
          else pickRound p fuel waited (endTurn s1 p w)

/-- The strict queues of a port that hold a frame, highest class first; within a class in index order (DESIGN CHOICE, log 17). -/
def strictHeld (s : State) (p : Nat) : List Nat :=
  [7, 6, 5, 4, 3, 2, 1, 0].flatMap (fun tc =>
    if bit (rd s (O.tc_strict p)) tc then (portHeld s p).filter (fun w => wiredTc s w = tc) else [])

/-- The first strict queue whose head is on die; heads in DRAM wait. -/
def pickStrict (s : State) : List Nat → Option Nat × State
  | [] => (none, s)
  | w :: t =>
    match (wiredQ s w).frames with
    | f :: _ => if inDram s f.buf then pickStrict (bump s O.fetch_waits) t else (some w, s)
    | [] => pickStrict s t

/-- The queue a port serves next (R324). -/
def pickWired (s : State) (p : Nat) : Option Nat × State :=
  match pickStrict s (strictHeld s p) with
  | (some w, t) => (some w, t)
  | (none, t) => pickRound p (((wiredSched t p).list.length + 1) * 64) [] t

/-- The head of a queue taken off, its length off the deficit of a queue that keeps one. -/
def popWired (s : State) (p w : Nat) (f : OutFrame) : State :=
  let q := wiredQ s w
  let d := if bit (rd s (O.tc_strict p)) (wiredTc s w) then q.deficit else q.deficit - f.bytes.length
  setWiredQ s w { q with frames := q.frames.drop 1, deficit := d }

/-- A frame starts on a port: PTP correction, MACsec, the counters, the stamp of its first leg (R324, R402, R403). -/
def wiredStart (s : State) (p w : Nat) (f : OutFrame) : State :=
  let c := tcCorrect s f
  match msTransmit c.2 p c.1 with
  | (.dropped, t) => dropLeg t f.buf
  | (how, t) =>
    let q := wiredQ t w
    let t1 := setWiredQ t w { q with sentFrames := q.sentFrames + 1, sentBytes := q.sentBytes + c.1.length }
    let t2 := bumpBy (bump t1 (O.tx_frames p)) (O.port_tx_bytes p) c.1.length
    let o : Out := match how with
      | .under an pn sci => .uplinkSec p (tbNs s) an pn sci c.1
      | _ => .uplink p (tbNs s) c.1
    dropLeg (legLeft (send t2 o) f.buf (tbNs s)) f.buf

/-- A queue flushed after an error in its link memory: its cells stay unowned until the audit (R328). -/
def linkFlush (s : State) (p w : Nat) : State :=
  let n := outCells (wiredQ s w).frames
  let s1 := wiredFlush s p w none
  let lost := min n (rd s1 O.cells_free - rd s O.cells_free)
  let s2 := wr s1 O.cells_free (rd s1 O.cells_free - lost)
  report (setMiller s2 { s2.miller with unowned := s2.miller.unowned + lost }) 0x59 (linkMemoryHid s) 0

/-- WIRED_DEQUEUE (R324): the port starts its next frame; an uncorrectable error met as it is read drops the frame, or flushes
the queue (R328). -/
def execWiredDequeue (port : Fin 8) (e : QueueError) (s : State) : Host.Outcome State Fault Refusal :=
  act s fun s =>
    if portUp s port then
      match pickWired s port with
      | (some w, t) =>
        match (wiredQ t w).frames with
        | f :: _ =>
          match e with
          | .none => wiredStart (popWired t port w f) port w f
          | .cell => report (bump (dropLeg (popWired t port w f) f.buf) O.cell_ecc_drop) 0x59 (cellMemoryHid s) 0
          | .link => linkFlush t port w
        | [] => t
      | (none, t) => t
    else s

end Sys2Proof.Machine
end

