-- ==== Sys2Proof/Machine/Parse.lean ====
section
/-! DEFINITION. The parse graph (R246 to R267): the default graph, the two banks, the check, the presenter and the walk. -/

namespace Sys2Proof.Machine

/-! ### The default graph (R267) -/

/-- A length specification of R252, a selector of R253 and an extraction of R254, as words. -/
def lenWord (wide off shift width scale add : Nat) : Nat :=
  2147483648 + wide * 1073741824 + off * 16777216 + shift * 1048576 + (width - 1) * 65536 + scale * 16384 + add
def selWord (wide off mask : Nat) : Nat := 2147483648 + wide * 1073741824 + off * 16777216 + mask
def extWord (src n key : Nat) : Nat := 2147483648 + src * 1048576 + (n - 1) * 65536 + key

/-- A node of the default graph. -/
structure NodeRow where
  role : Nat
  hdr : Nat
  adv : Nat
  tot : Nat
  selA : Nat
  selB : Nat
  base : Nat
  count : Nat
  dflt : Nat
  flags : Nat
  exts : List Nat
  deriving DecidableEq, Repr

/-- The nodes of R267. -/
def defaultNodes : List NodeRow := [
  ⟨1, 14, 0, 0, selWord 1 12 0xFFFF, 0, 0, 4, 0x100, 0, [extWord 0 6 16, extWord 6 6 22, extWord 12 2 28]⟩,
  ⟨2, 4, 0, 0, selWord 1 2 0xFFFF, 0, 0, 4, 0x100, 0, [extWord 0 2 30]⟩,
  ⟨3, 20, lenWord 0 0 0 4 1 0, lenWord 1 2 0 16 0 0, selWord 1 6 0x3FFF, selWord 0 9 0xFF, 4, 3, 0x100, 1,
    [extWord 1 1 33, extWord 9 1 32, extWord 12 4 40, extWord 16 4 56]⟩,
  ⟨4, 40, 0, lenWord 1 4 0 16 0 40, selWord 0 6 0xFF, 0, 7, 7, 0x100, 0,
    [extWord 0 4 76, extWord 6 1 32, extWord 8 16 40, extWord 24 16 56]⟩,
  ⟨5, 8, lenWord 0 1 0 8 2 8, 0, selWord 0 0 0xFF, 0, 7, 7, 0x100, 0, [extWord 0 1 32]⟩,
  ⟨7, 20, lenWord 0 12 4 4 1 0, 0, 0, 0, 0, 0, 0x100, 0, [extWord 0 4 34, extWord 13 1 38]⟩,
  ⟨8, 8, 0, lenWord 1 4 0 16 0 0, selWord 1 2 0xFFFF, 0, 16, 1, 0x100, 0, [extWord 0 4 34]⟩,
  ⟨10, 8, 0, 0, 0, 0, 0, 0, 0, 0, [extWord 4 3 72]⟩,
  ⟨10, 4, 0, 0, selWord 1 0 0xB000, selWord 1 2 0xFFFF, 17, 3, 0x100, 0, []⟩,
  ⟨6, 8, 0, 0, selWord 1 2 0xFFF8, selWord 0 0 0xFF, 14, 2, 0x100, 0, [extWord 0 1 32]⟩]

/-- The transitions of R267: value, mask and next. -/
def defaultTransitions : List (Nat × Nat × Nat) := [
  (0x81000000, 0xFFFF0000, 1), (0x88A80000, 0xFFFF0000, 1), (0x08000000, 0xFFFF0000, 2), (0x86DD0000, 0xFFFF0000, 3),
  (0x00000006, 0x3FFF00FF, 5), (0x00000011, 0x3FFF00FF, 6), (0x0000002F, 0x3FFF00FF, 8),
  (0x00060000, 0x00FF0000, 5), (0x00110000, 0x00FF0000, 6), (0x002F0000, 0x00FF0000, 8), (0x00000000, 0x00FF0000, 4),
  (0x002B0000, 0x00FF0000, 4), (0x003C0000, 0x00FF0000, 4), (0x002C0000, 0x00FF0000, 9),
  (0x00000006, 0xFFF800FF, 5), (0x00000011, 0xFFF800FF, 6), (0x12B50000, 0xFFFF0000, 7),
  (0x00006558, 0xB000FFFF, 0), (0x00000800, 0xB000FFFF, 2), (0x000086DD, 0xB000FFFF, 3)]

/-- A node's field in the default graph, by sub-index (R251). -/
def nodeField (n : NodeRow) (sub : Nat) : Nat :=
  if sub = 2 then 1 else if sub = 3 then n.role else if sub = 4 then n.hdr else if sub = 5 then n.adv
  else if sub = 6 then n.tot else if sub = 7 then n.selA else if sub = 8 then n.selB else if sub = 9 then n.base
  else if sub = 10 then n.count else if sub = 11 then n.dflt else if sub = 12 then n.flags
  else n.exts.getD (sub - 13) 0

/-- The default value of a graph object, by windowed key (R267); `node_default` of other nodes is 0. -/
def graphDefault (k : Nat) : Nat :=
  let i := k / 16777216
  let sub := k % 256
  if k % 16777216 / 256 = 0x5010 then
    match defaultNodes[i]? with
    | some n => nodeField n sub
    | none => 0
  else
    match defaultTransitions[i]? with
    | some t => if sub = 2 then t.1 else if sub = 3 then t.2.1 else t.2.2
    | none => 0

/-- A field of a bank. -/
def gv (bank : Tab Nat) (k : Nat) : Nat := bank.getD k (graphDefault k)

/-- A bank with a field set; an entry equal to the default graph's is not listed. -/
def gput (bank : Tab Nat) (k v : Nat) : Tab Nat := if v = graphDefault k then bank.del k else bank.put k v

/-- The graph memory as a source. -/
def graphHid (s : State) : Nat := hidOf s 0 4 1 1
def setGraph (s : State) (g : Graph) : State := { s with graph := g }

/-- `start_node` as staged. -/
def stagedStart (s : State) : Nat := s.staged.getD O.start_node (rd s O.start_node)

/-- `graph_staged`: the staged graph differs from the active one. -/
def graphDiffers (s : State) : Bool := decide (s.graph.shadow ≠ s.graph.active) || decide (stagedStart s ≠ rd s O.start_node)

/-! ### The check (R263) -/

/-- A length word reads within the header, and its shift and width within the field. -/
def lenOk (hdr w : Nat) : Bool :=
  !(bit w 31) || (decide (bits w 29 24 + (if bit w 30 then 2 else 1) ≤ hdr) &&
    decide (bits w 23 20 + (bits w 19 16 + 1) ≤ (if bit w 30 then 16 else 8)))

/-- A selector reads within the header. -/
def selOk (hdr w : Nat) : Bool := !(bit w 31) || decide (bits w 29 24 + (if bit w 30 then 2 else 1) ≤ hdr)

/-- An extraction reads within the header and writes key bytes 16 to 79. -/
def extOk (hdr w : Nat) : Bool :=
  !(bit w 31) || (decide (bits w 25 20 + (bits w 19 16 + 1) ≤ hdr) && decide (16 ≤ bits w 6 0) &&
    decide (bits w 6 0 + (bits w 19 16 + 1) ≤ 80))

/-- A next value names ACCEPT, MISS or a valid node. -/
def nextOk (bank : Tab Nat) (v : Nat) : Bool :=
  decide (v = 0x100 ∨ v = 0x101) || (decide (v < 256) && decide (gv bank (winKey v O.node_valid) = 1))

/-- A valid node passes the conditions of BAD_NODE. -/
def nodeOk (bank : Tab Nat) (n : Nat) : Bool :=
  let f := fun k => gv bank (winKey n k)
  let hdr := f O.node_hdr_min
  lenOk hdr (f O.node_adv) && lenOk hdr (f O.node_tot) && selOk hdr (f O.node_sel_a) && selOk hdr (f O.node_sel_b) &&
  [O.node_ext0, O.node_ext1, O.node_ext2, O.node_ext3].all (fun k => extOk hdr (f k)) &&
  decide (f O.node_tr_base + f O.node_tr_count ≤ 2048) && nextOk bank (f O.node_default) &&
  (!(bit (f O.node_flags) 0) || (decide (f O.node_role = 3) && bit (f O.node_adv) 31))

/-- The valid nodes of a bank, rising. -/
def validNodes (bank : Tab Nat) : List Nat := (List.range 256).filter (fun n => gv bank (winKey n O.node_valid) = 1)

/-- The transitions in the ranges of valid nodes. -/
def usedTransitions (bank : Tab Nat) : List Nat :=
  (validNodes bank).flatMap (fun n =>
    (List.range (gv bank (winKey n O.node_tr_count))).map (fun i => gv bank (winKey n O.node_tr_base) + i))

/-- The check of a graph: status and the index of the first failure, the lowest of its kind (R263). -/
def graphCheck (bank : Tab Nat) (start : Nat) : Nat × Nat :=
  if gv bank (winKey start O.node_valid) ≠ 1 then (1, start)
  else match (validNodes bank).find? (fun n => !(nodeOk bank n)) with
    | some n => (2, n)
    | none =>
      match (usedTransitions bank).filter (fun t => !(nextOk bank (gv bank (winKey t O.tr_next)))) with
      | [] => (0, 0)
      | t :: l => (3, l.foldl min t)

/-- The staged graph checked, `graph_status` and `graph_bad_index` filled. -/
def checkStaged (s : State) : Bool × State :=
  let r := graphCheck s.graph.shadow (stagedStart s)
  (decide (r.1 = 0), wr (wr s O.graph_status r.1) O.graph_bad_index r.2)

/-- GRAPH_CHECK (R263, R264). -/
def graphChecked (s : State) : Status × State :=
  let r := checkStaged s
  (if r.1 then .ok else .range, r.2)

def execGraphCheck (s : State) : Host.Outcome State Fault Refusal := act s fun s => command s O.graph_check_cmd 1 graphChecked

/-- GRAPH_DEFAULT (R264): stages the default graph; BUSY while the shadow bank is being copied (R265). -/
def graphDefaulted (s : State) : Status × State :=
  if s.graph.copying then (.busy, s) else (.ok, setGraph s { s.graph with shadow := [] })

def execGraphDefault (s : State) : Host.Outcome State Fault Refusal := act s fun s => command s O.graph_default_cmd 1 graphDefaulted

/-- The boundary of a commit that changed the graph (R265): the banks swap, and the shadow is being made equal. -/
def graphSwap (s : State) : State :=
  if s.graph.shadow = s.graph.active then setGraph s { s.graph with swapped := false }
  else
    let g := s.graph
    bump (setGraph s { g with active := g.shadow, shadow := g.active, copying := true, bad := [], swapped := true }) O.graph_gen

/-- A rollback swaps the banks back at its own boundary (R265): the staged graph is kept in the shadow bank. -/
def graphUnswap (s : State) (staged : Tab Nat) : State :=
  if s.graph.swapped then
    bump (setGraph s { s.graph with active := staged, shadow := s.graph.active, copying := false, bad := [], swapped := false })
      O.graph_gen
  else s

/-- SHADOW_COPY_DONE (R265). -/
def execShadowCopyDone (s : State) : Host.Outcome State Fault Refusal :=
  act s fun s =>
    if s.graph.copying then setGraph s { s.graph with shadow := s.graph.active, copying := false } else s

/-! ### The presenter (R249, R250) -/

/-- An MSDU as an Ethernet frame (R249). -/
def presentMsdu (da sa msdu : Octets) : Octets :=
  let h := slice msdu 0 6
  if h = [0xAA, 0xAA, 3, 0, 0, 0] ∨ h = [0xAA, 0xAA, 3, 0, 0, 0xF8] then da ++ sa ++ slice msdu 6 2 ++ msdu.drop 8
  else da ++ sa ++ beBytes 2 msdu.length ++ msdu

/-- DA and SA of an MPDU by its DS bits (R249). -/
def mpduDa (m : RxMpdu) : Octets := if m.toDs then m.addr3 else m.ra
def mpduSa (m : RxMpdu) : Octets := if m.toDs ∧ m.fromDs then m.addr4 else if m.fromDs then m.addr3 else m.ta

/-- The subframes of an A-MSDU body from position `a`: the presented frames, and at the end the class that a failing subframe
raises with what is left of the body (R250). -/
def splitAmsdu (body : Octets) : Nat → Nat → List Octets × Option (Nat × Octets)
  | 0, _ => ([], none)
  | fuel + 1, a =>
    if body.length ≤ a then ([], none)
    else if body.length < a + 14 then ([], some (3, body.drop a))
    else
      let l := beNat (slice body (a + 12) 2)
      if l = 0 ∨ 16383 < l then ([], some (4, body.drop a))
      else if body.length < a + 14 + l then ([], some (2, body.drop a))
      else
        let r := splitAmsdu body fuel (alignUp 4 (a + 14 + l))
        (presentMsdu (slice body a 6) (slice body (a + 6) 6) (slice body (a + 14) l) :: r.1, r.2)

/-! ### The walk (R256 to R258) -/

/-- A field of one or two bytes of the header at the cursor (R252, R253). -/
def fieldAt (b : Octets) (c w : Nat) : Nat :=
  let o := c + bits w 29 24
  if bit w 30 then octet b o * 256 + octet b (o + 1) else octet b o

/-- The declared length of a length word (R252). -/
def declared (b : Octets) (c w : Nat) : Nat :=
  fieldAt b c w / 2 ^ bits w 23 20 % 2 ^ (bits w 19 16 + 1) * (if bits w 15 14 = 1 then 4 else if bits w 15 14 = 2 then 8 else 1)
    + bits w 7 0

/-- A bitwise AND of two numbers below 2^32. -/
def and32 (a b : Nat) : Nat := (BitVec.ofNat 32 a &&& BitVec.ofNat 32 b).toNat

/-- What a selector gives (R253). -/
def selected (b : Octets) (c w : Nat) : Nat := if bit w 31 then and32 (fieldAt b c w) (w % 65536) else 0

/-- One extraction into the key's bytes 16 to 79 (R254). -/
def extract (b : Octets) (c : Nat) (ext : Octets) (w : Nat) : Octets :=
  if bit w 31 then
    let n := bits w 19 16 + 1
    let v := slice b (c + bits w 25 20) n
    (patch ext (bits w 6 0 - 16) (v ++ zeros (n - v.length))).take 64
  else ext

/-- The effect of a node's role at a visit (R255). -/
def roleEffect (b : Octets) (role : Nat) (w : Walk) : Walk :=
  let put := fun (w : Walk) i => { w with layers := w.layers.set (if w.tunnel then i + 4 else i) w.c }
  if role = 1 then put w 0
  else if role = 2 then { w with vlans := w.vlans + 1, tci := if w.vlans = 0 then beNat (slice b w.c 2) else w.tci }
  else if role = 3 then { put w 1 with frag := w.frag || decide (beNat (slice b (w.c + 6) 2) % 16384 ≠ 0) }
  else if role = 4 then put w 1
  else if role = 6 then
    let f := beNat (slice b (w.c + 2) 2)
    { w with frag := w.frag || decide (8 ≤ f) || decide (f % 2 = 1) }
  else if 7 ≤ role ∧ role ≤ 9 then put w 2
  else if role = 10 then { w with tunnel := true, layers := w.layers.take 3 ++ [w.c, 0xFFFF, 0xFFFF, 0xFFFF] }
  else w

/-- The next node (R257). -/
def nextNode (bank : Tab Nat) (n v : Nat) : Nat :=
  let base := gv bank (winKey n O.node_tr_base)
  let hit := (List.range (gv bank (winKey n O.node_tr_count))).find? (fun i =>
    let m := gv bank (winKey (base + i) O.tr_mask)
    decide (and32 v m = and32 (gv bank (winKey (base + i) O.tr_value)) m))
  match hit with
  | some i => gv bank (winKey (base + i) O.tr_next)
  | none => gv bank (winKey n O.node_default)

/-- A walk ended with a class. -/
def ended (w : Walk) (cls : Nat) : Walk := { w with cls := cls }

/-- A visit's steps 1 to 9 and the visits after it (R256); `bad` tells which nodes have an uncorrectable error. -/
def walkFrom (bank : Tab Nat) (bad : Nat → Bool) (b : Octets) : Nat → Nat → Walk → Walk
  | 0, _, w => ended w 1
  | fuel + 1, n, w0 =>
    let w := { w0 with node := n, visits := w0.visits + 1 }
    let hdr := gv bank (winKey n O.node_hdr_min)
    let adv := gv bank (winKey n O.node_adv)
    let tot := gv bank (winKey n O.node_tot)
    let r := w.last - w.c
    if bad n then ended w 7
    else if r < hdr then ended w 3
    else if 512 < w.c + hdr then ended w 1
    else
      let a := if bit adv 31 then declared b w.c adv else hdr
      if a < hdr then ended w 3
      else if r < a then ended w 2
      else
        let t := if bit tot 31 then declared b w.c tot else r
        if t < a then ended w 3
        else if r < t then ended w 2
        else
          let w1 := { w with last := w.c + t }
          let csum := bit (gv bank (winKey n O.node_flags)) 0
          if csum ∧ 512 < w.c + a then ended w1 1
          else if csum ∧ onesSum (slice b w.c a) ≠ 65535 then ended w1 6
          else
            let exts := [O.node_ext0, O.node_ext1, O.node_ext2, O.node_ext3].map (fun k => gv bank (winKey n k))
            let w2 := roleEffect b (gv bank (winKey n O.node_role)) { w1 with ext := exts.foldl (extract b w.c) w1.ext }
            let v := selected b w.c (gv bank (winKey n O.node_sel_a)) * 65536 + selected b w.c (gv bank (winKey n O.node_sel_b))
            let nx := nextNode bank n v
            if nx = 0x100 then { w2 with c := w2.c + a }
            else if nx = 0x101 then ended w2 5
            else walkFrom bank bad b fuel nx { w2 with c := w2.c + a }

/-- A frame's walk from the start node (R256): at most 24 visits. -/
def walkGraph (bank : Tab Nat) (start : Nat) (bad : Nat → Bool) (b : Octets) : Walk :=
  walkFrom bank bad b 24 start
    { c := 0, last := b.length, visits := 0, vlans := 0, tci := 0, frag := false, tunnel := false, ext := zeros 64,
      layers := List.replicate 7 0xFFFF, node := 0, cls := 0 }

/-- The 80-byte key (R258). -/
def keyOf (f : Frame) (w : Walk) : Octets :=
  beBytes 2 f.source ++ beBytes 1 f.tid ++ beBytes 1 (w.cls * 16 + f.bss) ++ beBytes 2 w.tci ++
  beBytes 1 ((if f.isProtected then 1 else 0) + (if groupAddr f.bytes then 2 else 0) + (if w.tunnel then 4 else 0) +
    (if w.frag then 8 else 0) + (if f.subframe then 16 else 0)) ++
  beBytes 1 w.vlans ++ beBytes 1 w.node ++ beBytes 1 w.visits ++ beBytes 2 f.bytes.length ++ zeros 4 ++ w.ext

/-! ### Checksums of R343 and R299 -/

/-- CRC-32C of octets (reflected polynomial 0x82F63B78, initial and final all ones). -/
def crcStep (c : BitVec 32) : Nat → BitVec 32
  | 0 => c
  | n + 1 => crcStep (if c.getLsbD 0 then (c >>> 1) ^^^ 0x82F63B78#32 else c >>> 1) n
def crc32c (l : Octets) : Nat :=
  ((l.foldl (fun c b => crcStep (c ^^^ b.setWidth 32) 8) 0xFFFFFFFF#32) ^^^ 0xFFFFFFFF#32).toNat

end Sys2Proof.Machine
end

