-- ==== Sys2Proof/Machine/Rules.lean ====
section
/-! DEFINITION. The rule memory (R268 to R286): matching, staging, versions and commits, errors. -/

namespace Sys2Proof.Machine

/-- The rule memory's state changed. -/
def setRules (s : State) (r : Rules) : State := { s with rules := r }

/-- The rule bank, the version unit and the scrubber as sources (R268). -/
def ruleBankHid (s : State) : Nat := hidOf s 0 4 8 0
def versionUnitHid (s : State) : Nat := hidOf s 0 4 9 0

/-- The block of a row, and whether a block is wide under a width word (R269). -/
def wideBlock (width row : Nat) : Bool := bit width (row / 256)

/-- A rule matches a key (R270): every compared byte agrees under its mask. -/
def ruleMatches : Octets → Octets → Octets → Bool
  | v :: vs, m :: ms, k :: ks => decide (k &&& m = v &&& m) && ruleMatches vs ms ks
  | _, _, _ => true

/-- The result of a lookup: the winning row and its action, a miss, or a faulty row under DROP (R283). -/
inductive Looked where
  | hit (row action : Nat)
  | miss
  | faulty (row : Nat)
  deriving DecidableEq, Repr

/-- The lookup of a key in a bank (R270, R283); `skip` is `ecc_action` SKIP. -/
def lookupRows (key : Octets) (faulty : List Nat) (skip : Bool) : Tab RuleRow → Looked
  | [] => .miss
  | (n, r) :: t =>
    if ruleMatches r.value r.mask key then
      if faulty.contains n then (if skip then lookupRows key faulty skip t else .faulty n) else .hit n r.action
    else lookupRows key faulty skip t

def lookupBank (s : State) (b : RuleBank) (key : Octets) : Looked :=
  lookupRows key b.faulty (decide (rd s O.ecc_action = 1)) b.rows

/-- The bank of a version: the current one, or the other while it drains (R278). -/
def bankOf (s : State) (version : Nat) : RuleBank :=
  if rd s O.rule_state = 1 ∧ version = rd s O.rule_old_version ∧ version ≠ rd s O.rule_version then s.rules.other
  else s.rules.current

/-! ### Staging (R276, R277) -/

/-- The width and the miss action as staged. -/
def stagedWidth (s : State) : Nat := s.rules.logWidth.getD s.rules.current.width
def stagedMiss (s : State) : Nat := s.rules.logMiss.getD s.rules.current.miss

/-- The entries a staged row counts (R277). -/
def rowCost (s : State) (row : Nat) : Nat := if wideBlock (stagedWidth s) row then 2 else 1

/-- Log entries in use. -/
def logUsed (s : State) : Nat :=
  (s.rules.logRows.foldl (fun n e => n + rowCost s e.1) 0) + (if s.rules.logWidth.isSome then 1 else 0) +
    (if s.rules.logMiss.isSome then 1 else 0)

/-- The octets a rule of a row compares: 40 in a narrow block, 80 in a wide one. -/
def ruleBytes (s : State) (row : Nat) : Nat := if wideBlock (stagedWidth s) row then 80 else 40

/-- A row as it stands in the log, or in the current version while its block keeps its width (R276). -/
def rowStaged (s : State) (row : Nat) : RowStage :=
  match s.rules.logRows.look row with
  | some r => r
  | none =>
    let n := ruleBytes s row
    match s.rules.current.rows.look row with
    | some r =>
      if r.value.length = n then { valid := true, value := r.value, mask := r.mask, action := r.action }
      else { valid := false, value := zeros n, mask := zeros n, action := 0 }
    | none => { valid := false, value := zeros n, mask := zeros n, action := 0 }

/-- An action word's status (R273). -/
def actionWord (s : State) (w : Nat) : Status :=
  let act := bits w 31 30
  let kind := bits w 29 27
  let idx := bits w 26 15
  let copyq := bits w 14 10
  let sess := bits w 9 6
  if act = 0 then (if w = 0 then .ok else .range)
  else if kind = 3 ∧ twinFitted s.fuse.part = false then .absent
  else if bits w 5 0 ≠ 0 ∨ 4 < kind then .range
  else if (kind = 0 ∨ kind = 3) ∧ idx ≠ 0 then .range
  else if kind = 1 ∧ 7 < idx then .range
  else if kind = 2 ∧ stationCount s.fuse.part ≤ idx then .range
  else if kind = 4 ∧ 31 < idx then .range
  else if act ≠ 2 ∧ copyq ≠ 0 then .range
  else if act ≠ 3 ∧ sess ≠ 0 then .range
  else .ok

/-- A `rule_miss_action` word's status (R273). -/
def missWord (s : State) (w : Nat) : Status :=
  match actionWord s w with
  | .ok => if 2 ≤ bits w 31 30 ∨ (bits w 31 30 = 1 ∧ bits w 29 27 = 4) then .range else .ok
  | st => st

/-- A change put into the log unless it would need a 1,025th entry (R277). -/
def logChange (s : State) (r : Rules) : Status × State :=
  let t := setRules s r
  if 1024 < logUsed t then (.busy, s) else (.ok, wr t O.rule_log_used (logUsed t))

/-- One row written into the log. -/
def logRow (s : State) (row : Nat) (x : RowStage) : Status × State :=
  logChange s { s.rules with logRows := s.rules.logRows.put row x }

/-- A write to a rule object (R273, R276, R277, R285). -/
def ruleStage (s : State) (w : RuleWrite) : Status × State :=
  let row := rd s O.rule_select
  match w with
  | .width v => logChange s { s.rules with logWidth := some (v % 4294967296) }
  | .miss a => match missWord s a with
    | .ok => logChange s { s.rules with logMiss := some a }
    | st => (st, s)
  | .valid b => if wideBlock (stagedWidth s) row ∧ row % 2 = 1 then (.range, s) else logRow s row { rowStaged s row with valid := b }
  | .value o =>
    if wideBlock (stagedWidth s) row ∧ row % 2 = 1 then (.range, s)
    else if o.length ≠ ruleBytes s row then (.type, s) else logRow s row { rowStaged s row with value := o }
  | .mask o =>
    if wideBlock (stagedWidth s) row ∧ row % 2 = 1 then (.range, s)
    else if o.length ≠ ruleBytes s row then (.type, s) else logRow s row { rowStaged s row with mask := o }
  | .action a =>
    if wideBlock (stagedWidth s) row ∧ row % 2 = 1 then (.range, s)
    else match actionWord s a with
      | .ok => logRow s row { rowStaged s row with action := a }
      | st => (st, s)

/-- The object a rule write goes to, and its value as a number and as octets. -/
def ruleKey : RuleWrite → Nat
  | .valid _ => O.rule_valid | .value _ => O.rule_value | .mask _ => O.rule_mask | .action _ => O.rule_action
  | .width _ => O.block_width | .miss _ => O.rule_miss_action
def ruleValue : RuleWrite → Nat
  | .valid b => if b then 1 else 0
  | .action a => a | .width w => w | .miss a => a | _ => 0
def ruleOctets : RuleWrite → Octets
  | .value o => o
  | .mask o => o
  | w => valueOctets (ruleKey w) (ruleValue w)

/-- RULE_STAGE_WRITE (R277). -/
def execRuleStageWrite (w : RuleWrite) (s : State) : Host.Outcome State Fault Refusal :=
  act s fun s => commandWith s (ruleKey w) (ruleOctets w) fun s => ruleStage s w

/-! ### Commit (R280 to R282) -/

/-- The rows whose block changes width. -/
def rewidened (old new : Nat) (row : Nat) : Bool := wideBlock old row ^^ wideBlock new row

/-- A staged row as it enters a bank: fitted to its block's width, odd rows of a wide block left out (log 27). -/
def applyRow (width : Nat) (rows : Tab RuleRow) (e : Nat × RowStage) : Tab RuleRow :=
  let n := if wideBlock width e.1 then 80 else 40
  let fit := fun (o : Octets) => (o ++ zeros (n - o.length)).take n
  if wideBlock width e.1 ∧ e.1 % 2 = 1 then rows
  else if e.2.valid then rows.put e.1 { value := fit e.2.value, mask := fit e.2.mask, action := e.2.action }
  else rows.del e.1

/-- The new version: width changes first, then the rows in log order (R280). -/
def nextBank (r : Rules) : RuleBank :=
  let w := r.logWidth.getD r.current.width
  let kept := r.current.rows.filter (fun e => !(rewidened r.current.width w e.1))
  { width := w, miss := r.logMiss.getD r.current.miss, rows := r.logRows.foldl (applyRow w) kept,
    faulty := r.current.faulty.filter (fun n => !(rewidened r.current.width w n) && (r.logRows.look n).isNone) }

/-- Whether the commit of a log writes a row (R281). -/
def commitWrites (r : Rules) (row : Nat) : Bool :=
  (r.logRows.look row).isSome || rewidened r.current.width (r.logWidth.getD r.current.width) row

/-- The counters of the rows a commit writes are cleared (R281). -/
def clearRowCounters (s : State) (r : Rules) : State :=
  { s with regs := s.regs.filter (fun e =>
      !((decide (e.1 % 16777216 = O.rule_hits) || decide (e.1 % 16777216 = O.rule_bytes)) && commitWrites r (e.1 / 16777216))) }

/-- Tokens that still hold a version. -/
def holders (s : State) (v : Nat) : Nat := (s.carter.tokens.filter (fun t => t.holds && decide (t.version = v))).length

/-- The drain ends when no frame holds the old version (R280). -/
def drainCheck (s : State) : State :=
  if rd s O.rule_state = 1 ∧ holders s (rd s O.rule_old_version) = 0 then
    wr (wr (wr s O.drain_time (min 0xFFFFFFFF (s.now - s.rules.switched))) O.rule_state 2) O.rule_old_version 0xFF
  else s

/-- The log is empty. -/
def logEmpty (r : Rules) : Bool := r.logRows.isEmpty && r.logWidth.isNone && r.logMiss.isNone

/-- The switch to the new version (R280, R281). -/
def ruleSwitch (s : State) : State :=
  let r := s.rules
  let n := r.commit + 1
  let blocks := (List.range 32).filter (fun b => rewidened r.current.width (r.logWidth.getD r.current.width) (256 * b))
  let rows := r.logRows.map (fun e => e.1) ++ blocks.flatMap (fun b => (List.range 256).map (fun i => 256 * b + i))
  let v := rd s O.rule_version
  let r1 : Rules := {
    current := nextBank r, other := r.current, commit := n, switched := s.now,
    written := rows.foldl (fun w k => w.put k n) r.written,
    missWritten := if r.logMiss.isSome then n else r.missWritten }
  let s1 := setRules (clearRowCounters s r) r1
  let s2 := wr (wr (wr s1 O.rule_version ((v + 1) % 16)) O.rule_old_version v) O.rule_state 1
  drainCheck (bump (wr s2 O.rule_log_used 0) O.commits)

/-- RULE_COMMIT (R280, R282): in LEAD the follower's BUSY makes it BUSY in both modules. -/
def ruleCommit (s : State) (peerBusy : Bool) : Status × State :=
  if logEmpty s.rules then (.ok, s)
  else if rd s O.rule_state ≠ 0 then (.busy, bump s O.commit_busy)
  else if roleMode s = 8 ∧ (twinState s = 3 ∨ twinState s = 4) ∧ peerBusy then (.busy, s)
  else (.ok, ruleSwitch s)

def execRuleCommit (peerBusy : Bool) (s : State) : Host.Outcome State Fault Refusal :=
  act s fun s => command s O.rule_cmd 1 fun s => ruleCommit s peerBusy

/-- The log cleared (R280). -/
def ruleDiscard (s : State) : State :=
  wr (setRules s { s.rules with logRows := [], logWidth := none, logMiss := none }) O.rule_log_used 0

/-- RULE_DISCARD (R280). -/
def execRuleDiscard (s : State) : Host.Outcome State Fault Refusal :=
  act s fun s => command s O.rule_cmd 2 fun s => (.ok, ruleDiscard s)

/-- CATCH_UP_DONE (R280): the other bank is a copy of the current one again. -/
def execCatchUpDone (s : State) : Host.Outcome State Fault Refusal :=
  act s fun s =>
    if rd s O.rule_state = 2 then
      wr (setRules s { s.rules with other := { s.rules.current with faulty := [] } }) O.rule_state 0
    else s

/-- A region reset of the Assayer (R282): both banks from the current version, the version number and the log kept. -/
def ruleReload (s : State) : State :=
  let b := { s.rules.current with faulty := [] }
  wr (wr (setRules s { s.rules with current := b, other := b }) O.rule_state 0) O.rule_old_version 0xFF

/-! ### Errors (R283) -/

/-- One error that the scrubber finds. -/
def ruleError (s : State) (e : RowError) : State :=
  if e.correctable then bump s O.ecc_corrected
  else
    let s1 := report (bump s O.ecc_uncorrected) 0x52 (ruleBankHid s) 0
    if e.current then
      if e.storeBad then
        setRules s1 { s1.rules with current := { s1.rules.current with faulty := e.row :: s1.rules.current.faulty.filter (fun n => n ≠ e.row) } }
      else s1
    else if rd s O.rule_state = 0 ∧ e.storeBad = false then s1
    else setRules s1 { s1.rules with other := { s1.rules.other with faulty := e.row :: s1.rules.other.faulty.filter (fun n => n ≠ e.row) } }

/-- RULE_SCRUB (R283). -/
def execRuleScrub (errors : List RowError) (s : State) : Host.Outcome State Fault Refusal :=
  act s fun s => errors.foldl ruleError s

end Sys2Proof.Machine
end

