-- ==== Sys2Proof/Machine/Forward.lean ====
section
/-! DEFINITION. The decision of the switch region (R290 to R299, R302): VLANs, bridging, flooding, routing, tunnels and what the
Varlan link restricts. A decision only reads; its effects are applied at dispatch (R233). -/

namespace Sys2Proof.Machine

/-! ### Ingress (R291, R320) -/

/-- The kind and index of a source word (R63). -/
def srcKind (f : Frame) : Nat := f.source / 4096
def srcIndex (f : Frame) : Nat := f.source % 4096

/-- The TCI of an outer 802.1Q tag. -/
def outerTci (b : Octets) : Option Nat := if beNat (slice b 12 2) = 0x8100 then some (beNat (slice b 14 2)) else none

/-- An octet string with the four octets of its outer tag taken out, and one with a tag put in. -/
def untag (b : Octets) : Octets := b.take 12 ++ b.drop 16
def pushTag (b : Octets) (vid prio : Nat) : Octets := b.take 12 ++ [0x81, 0x00] ++ beBytes 2 (prio * 8192 + vid) ++ b.drop 12

/-- What R291 finds at ingress: the VID, the priority and the colour, and whether a tag that set the VID is removed. -/
structure Ingress where
  vid : Nat
  prio : Nat
  colour : Nat
  tagged : Bool
  deriving DecidableEq, Repr

/-- The VID of a wired frame with a port's own VID for untagged and priority-tagged frames; VID 4095 is not admitted. -/
def wiredIngress (b : Octets) (pvid : Nat) (host : Bool) : Option Ingress :=
  match outerTci b with
  | some t =>
    let v := t % 4096
    if v = 4095 then none
    else if v = 0 then some { vid := pvid, prio := 0, colour := 0, tagged := false }
    else some { vid := v, prio := if host then 0 else t / 8192, colour := if !host && bit t 12 then 1 else 0, tagged := true }
  | none => some { vid := pvid, prio := 0, colour := 0, tagged := false }

/-- `bss_vid` of BSSID `i` of radio `r` (R310). -/
def bssVid (s : State) (r i : Nat) : Nat := leNat (slice (rdB s O.bss_vid) (2 * (16 * r + i)) 2)

/-- The ingress of a frame before admission (R291). -/
def ingressOf (s : State) (f : Frame) : Option Ingress :=
  let k := srcKind f
  if k = 0 then wiredIngress f.bytes (rd s (O.port_pvid (srcIndex f))) false
  else if k = 1 then
    if (outerTci f.bytes).isSome then none
    else some { vid := bssVid s (f.tid / 16) f.bss, prio := f.tid % 8, colour := 0, tagged := false }
  else if k = 2 then
    match outerTci f.bytes with
    | some t => some { vid := t % 4096, prio := t / 8192, colour := 0, tagged := true }
    | none => none
  else wiredIngress f.bytes (rd s O.host_vid) true

/-- A VLAN's members and its flags (R293, R311). -/
def vidMembers (s : State) (v : Nat) : Nat := rd s (winKey v O.vid_members)
def vidValid (s : State) (v : Nat) : Bool := flag s (winKey v O.vid_valid)

/-- The frame is admitted (R291): a station, Varlan or host source needs no membership (host: DEDUCED, log 23). -/
def admitted (s : State) (f : Frame) (v : Nat) : Bool :=
  vidValid s v && (decide (srcKind f ≠ 0) || bit (vidMembers s v) (srcIndex f))

/-! ### Tunnels (R297) -/

/-- The kinds in use: 1 VXLAN4, 2 VXLAN6, 3 GRE4, 4 GRE6. -/
def tnKind (s : State) (t : Nat) : Nat := rd s (winKey t O.tn_kind)

/-- Source and destination of an IP header at an offset, 16 bytes each as the tunnel table writes them. -/
def ipAddrs (b : Octets) (l3 : Nat) : Octets × Octets :=
  if octet b l3 / 16 = 4 then (slice b (l3 + 12) 4 ++ zeros 12, slice b (l3 + 16) 4 ++ zeros 12)
  else (slice b (l3 + 8) 16, slice b (l3 + 24) 16)

/-- The tunnel entry that a frame with a tunnel offset matches, if any (R297). -/
def decapEntry (s : State) (b : Octets) (layers : List Nat) : Option Nat :=
  let l3 := layers.getD 1 0xFFFF
  let tun := layers.getD 3 0xFFFF
  if tun = 0xFFFF ∨ l3 = 0xFFFF ∨ layers.getD 4 0xFFFF = 0xFFFF ∨ slice b 0 6 ≠ rdB s O.router_mac then none
  else
    let v4 := decide (octet b l3 / 16 = 4)
    let vx := decide (layers.getD 2 0xFFFF ≠ 0xFFFF)
    let kind := (if vx then 1 else 3) + (if v4 then 0 else 1)
    let a := ipAddrs b l3
    if !vx && decide (beNat (slice b (tun + 2) 2) ≠ 0x6558) then none
    else (List.range 4096).find? (fun t =>
      decide (tnKind s t = kind) && flag s (winKey t O.tn_decap) && decide (rdB s (winKey t O.tn_local) = a.2) &&
      (decide (rdB s (winKey t O.tn_remote) = a.1) || decide (rdB s (winKey t O.tn_remote) = zeros 16)) &&
      (!vx || decide (rd s (winKey t O.tn_vni) = beNat (slice b (tun + 4) 3))))

/-- The IPv4 header checksum of a header with a zero in its place. -/
def ipv4Checksum (h : Octets) : Nat := 65535 - onesSum h

/-- A free octet of a header field that the spec does not give (log 1), numbered by the token being decided and the tunnel. -/
def freeOctet (s : State) (t i : Nat) : Byte := Config.freeByte s.carter.next (4 * t + i)

/-- The outer IP header (R297): identification, ECN and flow label are not given (log 1). -/
def outerIp (s : State) (t : Nat) (v4 : Bool) (dscp ttl proto len : Nat) (a b : Octets) : Octets :=
  let tos := dscp * 4 + (freeOctet s t 0).toNat % 4
  if v4 then
    let h1 := beBytes 1 0x45 ++ beBytes 1 tos ++ beBytes 2 (20 + len) ++ [freeOctet s t 1, freeOctet s t 2] ++ [0x40, 0x00] ++
      beBytes 1 ttl ++ beBytes 1 proto
    let h2 := a.take 4 ++ b.take 4
    h1 ++ beBytes 2 (ipv4Checksum (h1 ++ zeros 2 ++ h2)) ++ h2
  else
    beBytes 4 (6 * 268435456 + tos * 1048576 + (freeOctet s t 1).toNat % 16 * 65536 + (freeOctet s t 2).toNat * 256 +
      (freeOctet s t 3).toNat) ++ beBytes 2 len ++ beBytes 1 proto ++ beBytes 1 ttl ++ a ++ b

/-- The DSCP of a frame's IP header at its offset, 0 without one. -/
def dscpOf (b : Octets) (l3 : Nat) : Nat :=
  if l3 = 0xFFFF then 0
  else if octet b l3 / 16 = 4 then octet b (l3 + 1) / 4
  else beNat (slice b l3 2) / 16 % 256 / 4

/-- A frame encapsulated for tunnel `t` (R297). -/
def encapsulate (s : State) (t h l3 : Nat) (b : Octets) : Octets :=
  let kind := tnKind s t
  let nh := rd s (winKey t O.tn_nexthop)
  let v4 := decide (kind = 1 ∨ kind = 3)
  let inner :=
    if kind ≤ 2 then
      beBytes 2 (0xC000 + h % 16384) ++ beBytes 2 4789 ++ beBytes 2 (16 + b.length) ++ zeros 2 ++
        [0x08, 0, 0, 0] ++ beBytes 3 (rd s (winKey t O.tn_vni)) ++ [0] ++ b
    else [0, 0, 0x65, 0x58] ++ b
  rdB s (winKey nh O.nh_dmac) ++ rdB s O.router_mac ++ (if v4 then [0x08, 0x00] else [0x86, 0xDD]) ++
    outerIp s t v4 (dscpOf b l3) (rd s (winKey t O.tn_ttl)) (if kind ≤ 2 then 17 else 47) inner.length
      (rdB s (winKey t O.tn_local)) (rdB s (winKey t O.tn_remote)) ++ inner

/-! ### Legs -/

/-- A leg with nothing special about it. -/
def plainLeg (t : Target) (b : Octets) (vid prio : Nat) : Leg :=
  { target := t, bytes := b, vid := vid, prio := prio, asGiven := false, reason := 0, session := none, flooded := false,
    kept := false }

/-- A leg to a tunnel: the frame encapsulated, to the underlay's port (R297), with the counters that move. -/
def tunnelLeg (s : State) (t h l3 prio : Nat) (b : Octets) : Leg × List Nat :=
  let nh := rd s (winKey t O.tn_nexthop)
  (plainLeg (.uplink (rd s (winKey nh O.nh_port))) (encapsulate s t h l3 b) (rd s (winKey nh O.nh_vid)) prio,
   [O.encap_frames, winKey t O.tn_tx_frames])

/-- What a step of the decision gives: legs, the counters that move at dispatch, and the pin. -/
structure Outcome where
  legs : List Leg
  counts : List Nat
  pin : Nat
  deriving DecidableEq, Repr

/-! ### Bridging (R292, R293) -/

/-- The station of an MLD or link address (R292 step 2). -/
def stationWith (s : State) (a : Octets) : Option Nat :=
  (stationsInUse s).find? (fun i => decide (staMldAddr s i = a) ||
    (List.range 3).any (fun r => bit (staLinks s i) r && decide (staLinkAddr s i r = a)))

/-- A station is a member of a VID: its BSSID on one of its links is (R292 step 2). -/
def staMember (s : State) (i v : Nat) : Bool :=
  (List.range 3).any (fun r => bit (staLinks s i) r && bit (vidMembers s v) (16 + 16 * r + rd s (winKey i O.sta_bss)))

/-- The frame to a station (R292 step 2). -/
def toStation (s : State) (i v prio : Nat) (b : Octets) : Outcome :=
  if staState s i = 2 ∧ staMember s i v then { legs := [plainLeg (.station i) b v prio], counts := [], pin := 0xFFFF }
  else { legs := [], counts := [O.fwd_sta_drop], pin := 0xFFFF }

/-- What a frame carries through steps 4 to 8: its bytes, VID, priority, the offset of its IP header, its hash, and where it
came in: a port, 256 + a tunnel, or 0xFFFF. -/
structure Inside where
  bytes : Octets
  vid : Nat
  prio : Nat
  l3 : Nat
  l4 : Nat
  hash : Nat
  came : Nat
  deriving DecidableEq, Repr

/-- A flood copy counts. -/
def floodLeg (l : Leg) : Leg := { l with flooded := true }

/-- Flooding (R293): the ports but the ingress, the tunnels of the VID unless the frame came from one, and the BSSIDs. -/
def flood (s : State) (x : Inside) : Outcome :=
  let m := vidMembers s x.vid
  let ports := ((List.range 8).filter (fun p => bit m p && decide (p ≠ x.came))).map
    (fun p => plainLeg (.uplink p) x.bytes x.vid x.prio)
  let tuns := if bit m 8 ∧ (x.came < 256 ∨ x.came = 0xFFFF) then
      (List.range 4096).filter (fun t => decide (tnKind s t ≠ 0) && decide (rd s (winKey t O.tn_vid) = x.vid) &&
        flag s (winKey t O.tn_flood))
    else []
  let tl := tuns.map (fun t => tunnelLeg s t x.hash x.l3 x.prio x.bytes)
  let bss := ((List.range 48).filter (fun j => bit m (16 + j))).map (fun j => plainLeg (.bss j) x.bytes x.vid x.prio)
  let legs := (ports ++ tl.map (fun e => e.1) ++ bss).map floodLeg
  { legs := legs, counts := O.fwd_bridged :: tl.flatMap (fun e => e.2), pin := 0xFFFF }

/-- The entry of a VID and address in the forwarding database. -/
def fdbFind (s : State) (v : Nat) (a : Octets) : Option FdbEntry :=
  s.switch.fdb.find? (fun e => decide (e.vid = v) && decide (e.addr = a))

/-- Bridging (R292). -/
def bridge (s : State) (x : Inside) : Outcome :=
  let da := slice x.bytes 0 6
  if groupAddr da then flood s x
  else match stationWith s da with
    | some i =>
      let o := toStation s i x.vid x.prio x.bytes
      { o with counts := if o.legs = [] then o.counts else O.fwd_bridged :: o.counts }
    | none =>
      match fdbFind s x.vid da with
      | some e =>
        if e.where_ = x.came then { legs := [], counts := [], pin := 0xFFFF }
        else if 256 ≤ e.where_ then
          let t := tunnelLeg s (e.where_ - 256) x.hash x.l3 x.prio x.bytes
          { legs := [t.1], counts := O.fwd_bridged :: t.2, pin := 0xFFFF }
        else { legs := [plainLeg (.uplink e.where_) x.bytes x.vid x.prio], counts := [O.fwd_bridged], pin := 0xFFFF }
      | none => flood s x

/-! ### Routing (R295, R296, R298) -/

/-- The first `n` bits of two addresses agree. -/
def prefixAgrees : Nat → Octets → Octets → Bool
  | n, a :: s, b :: t =>
    if n = 0 then true
    else if 8 ≤ n then decide (a = b) && prefixAgrees (n - 8) s t
    else decide (a >>> (8 - n) = b >>> (8 - n))
  | _, _, _ => true

/-- The longest match of an address in a VRF. -/
def longest (l : List Route) (vrf : Nat) (addr : Octets) : Option Route :=
  l.foldl (fun best r =>
    if r.vrf = vrf ∧ prefixAgrees r.len r.prefixBytes addr then
      match best with
      | some b => if b.len < r.len then some r else best
      | none => some r
    else best) none

/-- A to-host leg of the whole frame with a reason (R63). -/
def hostLeg (q reason : Nat) (b : Octets) : Leg :=
  { plainLeg (.host q) b 0 0 with asGiven := true, reason := reason }

/-- The TTL or hop limit of the IP header at an offset. -/
def ttlOf (b : Octets) (l3 : Nat) : Nat := if octet b l3 / 16 = 4 then octet b (l3 + 8) else octet b (l3 + 7)

/-- The rewrite of a routed frame (R298). -/
def rewrite (s : State) (nh l3 : Nat) (b : Octets) : Octets :=
  let b1 := rdB s (winKey nh O.nh_dmac) ++ rdB s O.router_mac ++ b.drop 12
  if octet b l3 / 16 = 4 then
    let old := slice b (l3 + 8) 2
    let new := beBytes 1 (octet b (l3 + 8) - 1) ++ slice b (l3 + 9) 1
    patch (patch b1 (l3 + 8) new) (l3 + 10) (beBytes 2 (checksumUpdate false (beNat (slice b (l3 + 10) 2)) old new))
  else patch b1 (l3 + 7) (beBytes 1 (octet b (l3 + 7) - 1))

/-- The next hop applied (R298): `nh` is of a kind other than GROUP. An INVALID one drops the frame as DROP does (log 31). -/
def routeTo (s : State) (x : Inside) (nh : Nat) : Outcome :=
  let kind := rd s (winKey nh O.nh_kind)
  let port := rd s (winKey nh O.nh_port)
  if kind = 3 then { legs := [hostLeg port 3 x.bytes], counts := [O.fwd_routed], pin := nh }
  else if kind = 1 ∨ kind = 2 then
    if ttlOf x.bytes x.l3 ≤ 1 then
      { legs := if rd s O.ttl_action = 1 then [hostLeg (rd s O.route_host_queue) 3 x.bytes] else [],
        counts := [O.ttl_expired], pin := nh }
    else
      let b := rewrite s nh x.l3 x.bytes
      let vid := rd s (winKey nh O.nh_vid)
      let tn := rd s (winKey nh O.nh_tunnel)
      if kind = 2 then
        let o := toStation s port vid x.prio b
        { o with counts := if o.legs = [] then o.counts else O.fwd_routed :: o.counts, pin := nh }
      else if tn ≠ 0xFFFF then
        let t := tunnelLeg s tn x.hash x.l3 x.prio b
        { legs := [t.1], counts := O.fwd_routed :: t.2, pin := nh }
      else { legs := [plainLeg (.uplink port) b vid x.prio], counts := [O.fwd_routed], pin := nh }
  else { legs := [], counts := [O.route_drop], pin := nh }

/-- A group's members (R296). -/
def groupMembers (s : State) (g : Nat) : Octets := rdB s (winKey g O.grp_members)

/-- A next hop with a group resolved to the member of a hash; `none` for an empty group (R296). -/
def resolveGroup (s : State) (nh h : Nat) : Option Nat :=
  if rd s (winKey nh O.nh_kind) = 5 then
    let m := groupMembers s (rd s (winKey nh O.nh_port))
    if m.length < 2 then none else some (leNat (slice m (2 * (h % (m.length / 2))) 2))
  else some nh

/-- Routing by longest prefix (R295, R296). -/
def route (s : State) (x : Inside) : Outcome :=
  let v4 := decide (octet x.bytes x.l3 / 16 = 4)
  let a := ipAddrs x.bytes x.l3
  match longest (if v4 then s.switch.v4 else s.switch.v6) (rd s (winKey x.vid O.vid_vrf)) (if v4 then a.2.take 4 else a.2) with
  | none =>
    { legs := if rd s O.route_miss_action = 1 then [hostLeg (rd s O.route_host_queue) 3 x.bytes] else [],
      counts := [O.route_miss], pin := 0xFFFF }
  | some r =>
    match resolveGroup s r.nexthop x.hash with
    | some nh => routeTo s x nh
    | none => { legs := [], counts := [O.route_miss], pin := 0xFFFF }

/-! ### The flow key (R299) -/

/-- The last next header of an IPv6 header chain. -/
def lastHeader (b : Octets) : Nat → Nat → Nat → Nat
  | 0, _, nh => nh
  | n + 1, o, nh =>
    if nh = 0 ∨ nh = 43 ∨ nh = 60 then lastHeader b n (o + octet b (o + 1) * 8 + 8) (octet b o)
    else if nh = 44 then lastHeader b n (o + 8) (octet b o)
    else nh

/-- The IP protocol at an offset. -/
def ipProto (b : Octets) (l3 : Nat) : Nat :=
  if octet b l3 / 16 = 4 then octet b (l3 + 9) else lastHeader b 24 (l3 + 40) (octet b (l3 + 6))

/-- The 40-byte flow key of an IP frame. -/
def flowKey (b : Octets) (vid l3 l4 : Nat) (frag : Bool) : Octets :=
  let v4 := decide (octet b l3 / 16 = 4)
  let p := ipProto b l3
  let a := ipAddrs b l3
  let ports := if (p = 6 ∨ p = 17) ∧ frag = false ∧ l4 ≠ 0xFFFF then slice b l4 4 else zeros 4
  beBytes 2 vid ++ beBytes 1 ((if v4 then 0 else 1) + (if frag then 2 else 0)) ++ beBytes 1 p ++ a.1 ++ a.2 ++ ports

/-! ### Records and pins (R302) -/

/-- A record's pin may be used. -/
def pinUsable (s : State) (r : FlowRec) : Bool :=
  decide (r.pin ≠ 0xFFFF) && decide (rd s (winKey r.pin O.nh_kind) ≠ 0) &&
  (!(flag s O.flow_repin) || decide (r.pinGen = rd s O.route_gen))

/-! ### The decision (R290) -/

/-- What the Varlan link restricts (R294): a frame from the peer goes to stations, BSSIDs and host queues alone. -/
def restrict (f : Frame) (o : Outcome) : Outcome :=
  if srcKind f = 2 then
    let ok := fun (l : Leg) => match l.target with
      | .station _ => true | .bss _ => true | .host _ => true | _ => false
    { o with legs := o.legs.filter ok, counts := o.counts ++ (o.legs.filter (fun l => !(ok l))).map (fun _ => O.varlan_hairpin_drop) }
  else o

/-- A leg bound for the air. -/
def airLeg (l : Leg) : Bool := match l.target with | .station _ => true | .bss _ => true | _ => false

/-- In FOLLOW the legs bound for the air cross to the lead in one class 5 frame with its VID tag (R294, log 24). -/
def crossLegs (s : State) (o : Outcome) : Outcome :=
  if roleMode s = 9 then
    match o.legs.find? airLeg with
    | some l =>
      let v := { l with target := .varlan, bytes := pushTag l.bytes l.vid l.prio, asGiven := true }
      { o with legs := o.legs.filter (fun x => !(airLeg x)) ++ [v] }
    | none => o
  else o

/-- A decision that drops the frame. -/
def dropDecision (now : Nat) (counts : List Nat) : Decision :=
  { legs := [], counts := counts, vid := 0, flow := none, lookup := .none, at_ := now, pin := 0xFFFF, pinGen := 0, learn := none,
    tcpFlags := 0, proto := 0, dropped := true, colour := 0, prio := 0, tracked := false, repin := false }

/-- The frame inside the switch region after steps 3 and 4: what it carries, the counters of a decapsulation, and the ingress. -/
def enterSwitch (s : State) (f : Frame) (w : Walk) : Option (Inside × List Nat × Ingress) :=
  match ingressOf s f with
  | none => none
  | some g =>
    if admitted s f g.vid = false then none
    else
      match decapEntry s f.bytes w.layers with
      | some t =>
        let o := w.layers.getD 4 0
        let adj := fun v => if v = 0xFFFF then 0xFFFF else v - o
        some ({ bytes := f.bytes.drop o, vid := rd s (winKey t O.tn_vid), prio := g.prio, l3 := adj (w.layers.getD 5 0xFFFF),
                l4 := adj (w.layers.getD 6 0xFFFF), hash := 0, came := 256 + t },
              [O.decap_frames, winKey t O.tn_rx_frames], g)
      | none =>
        let adj := fun v => if v = 0xFFFF then 0xFFFF else if g.tagged then v - 4 else v
        some ({ bytes := if g.tagged then untag f.bytes else f.bytes, vid := g.vid, prio := g.prio,
                l3 := adj (w.layers.getD 1 0xFFFF), l4 := adj (w.layers.getD 2 0xFFFF), hash := 0,
                came := if srcKind f = 0 then srcIndex f else 0xFFFF }, [], g)

/-- The innermost layers that remain, for the flow key: inner ones when the frame was not decapsulated and has them (R299). -/
def keyLayers (w : Walk) (x : Inside) (g : Ingress) : Nat × Nat :=
  if x.came < 256 ∨ x.came = 0xFFFF then
    let adj := fun v => if v = 0xFFFF then 0xFFFF else if g.tagged then v - 4 else v
    if w.layers.getD 5 0xFFFF ≠ 0xFFFF then (adj (w.layers.getD 5 0), adj (w.layers.getD 6 0xFFFF)) else (x.l3, x.l4)
  else (x.l3, x.l4)

/-- The flow key and hash of a frame, if it is an IP frame in the switch region. -/
def flowOf (s : State) (f : Frame) (w : Walk) : Option (Octets × Nat) :=
  match enterSwitch s f w with
  | some (x, _, g) =>
    let l := keyLayers w x g
    if l.1 = 0xFFFF then none
    else
      let k := flowKey x.bytes x.vid l.1 l.2 w.frag
      some (k, crc32c k)
  | none => none

/-- Steps 5 to 8 for a frame with what its flow lookup found. -/
def decideInside (s : State) (x : Inside) (pinned : Option Nat) : Outcome :=
  match pinned with
  | some nh => routeTo s x nh
  | none =>
    if slice x.bytes 0 6 = rdB s O.router_mac ∧ flag s (winKey x.vid O.vid_route) ∧ x.l3 ≠ 0xFFFF then route s x else bridge s x

/-- The decision of steps 2 to 8 of R290. `rec` is the record the lookup hit, if any. -/
def decideLookup (s : State) (f : Frame) (w : Walk) (found : FlowLookup) : Decision :=
  match enterSwitch s f w with
  | none => dropDecision s.now [O.vlan_drop]
  | some (x0, dec, g) =>
    let l := keyLayers w x0 g
    let fl := flowOf s f w
    let x := { x0 with hash := match fl with | some e => e.2 | none => 0 }
    let hitRec := match found with
      | .hit r => s.switch.flows.look r
      | _ => none
    let pinned := match hitRec with
      | some r => if pinUsable s r then some r.pin else none
      | none => none
    let o := crossLegs s (restrict f (decideInside s x pinned))
    let sa := slice x.bytes 6 6
    let learns := decide (x.came ≠ 0xFFFF) && !(groupAddr sa) && (stationWith s sa).isNone
    { legs := o.legs, counts := dec ++ o.counts ++
        (match found with | .hit _ => [O.flow_hits] | .miss => [O.flow_misses] | .overflow => [O.miss_overflow] | .none => []),
      vid := x.vid, flow := fl, lookup := found, at_ := s.now, pin := o.pin, pinGen := rd s O.route_gen,
      learn := if learns then some (x.vid, sa, x.came) else none,
      tcpFlags := if ipProto x.bytes l.1 = 6 ∧ l.2 ≠ 0xFFFF ∧ w.frag = false then octet x.bytes (l.2 + 13) else 0,
      proto := if l.1 = 0xFFFF then 0 else ipProto x.bytes l.1, dropped := o.legs.isEmpty, colour := g.colour, prio := g.prio,
      tracked := flag s O.flow_enable && fl.isSome && decide (found ≠ .overflow), repin := hitRec.isSome && pinned.isNone }

/-- The direct target of an action word other than LOOKUP (R274, R290 step 1): sent as the frame is (log 22). -/
def decideDirect (s : State) (f : Frame) (action : Nat) : Decision :=
  let kind := bits action 29 27
  let idx := bits action 26 15
  let g := ingressOf s f
  let vid := match g with | some x => x.vid | none => 0
  let prio := match g with | some x => x.prio | none => 0
  let t : Target := if kind = 1 then .uplink idx else if kind = 2 then .station idx else if kind = 3 then .varlan else .host idx
  let bare := match g with | some x => if x.tagged then untag f.bytes else f.bytes | none => f.bytes
  let b := if kind = 3 then pushTag bare vid prio else if kind = 2 then bare else f.bytes
  let leg : Leg := { plainLeg t b vid prio with asGiven := true, reason := 3 }
  let o := crossLegs s (restrict f { legs := [leg], counts := [O.direct_frames], pin := 0xFFFF })
  { dropDecision s.now o.counts with
    legs := o.legs, vid := vid, dropped := o.legs.isEmpty, colour := match g with | some x => x.colour | none => 0, prio := prio }

end Sys2Proof.Machine
end

