-- ==== Sys2Proof/Machine/Egress.lean ====
section
/-! DEFINITION. How one leg of a frame enters its queue, with the checks of R303 and R321: ports, stations, BSSIDs, the Varlan
link, host queues and mirror sessions (R275, R293, R294). -/

namespace Sys2Proof.Machine

/-- What a leg takes along from its frame: the buffer, the source word, the TID byte, the receive stamp, the rule version,
class and row of R63's `info`, and the frame's presented length, which meters count (R331). -/
structure Carried where
  buf : Nat
  source : Nat
  tid : Nat
  stamp : Nat
  info : Nat
  len : Nat
  deriving DecidableEq, Repr

/-- A leg dropped, with the counter that says why. -/
def legDrop (s : State) (x : Carried) (k : Nat) : State := dropLeg (bump s k) x.buf

/-- A leg as the frame of a wired or direct queue. -/
def outFrame (x : Carried) (l : Leg) (b : Octets) : OutFrame :=
  { buf := x.buf, bytes := b, tag := none, source := x.source, tid := x.tid, reason := l.reason, info := x.info,
    stamp := x.stamp, session := l.session }

/-- The bytes of a leg on a port: tagged with its VID unless the port sends the VID untagged (R303). -/
def egressBytes (s : State) (p : Nat) (l : Leg) : Octets :=
  if l.asGiven ∨ bit (rd s (winKey l.vid O.vid_untag)) p then l.bytes else pushTag l.bytes l.vid l.prio

/-- A leg to an uplink port (R303, R306): the port's state, membership of the VID, the length, then its wired queue. -/
def uplinkLeg (s : State) (x : Carried) (l : Leg) (p colour h : Nat) : State :=
  if portUp s p = false then legDrop s x O.target_drops
  else if l.asGiven = false ∧ bit (vidMembers s l.vid) p = false then legDrop s x O.vlan_drop
  else
    let b := egressBytes s p l
    if rd s (O.port_mtu p) < b.length then legDrop s x O.mtu_drop
    else wiredEnqueue s p (wiredIndex s p (tcOf s l.prio) h) (outFrame x l b) colour

/-- A leg as the frame of an air queue. -/
def airFrame (s : State) (x : Carried) (l : Leg) (link : Option Nat) : AirFrame :=
  { buf := x.buf, bytes := l.bytes, tid := l.prio, link := link, since := s.now, eapol := isEapol l.bytes, radio := none,
    sn := none, pn := none, slot := none, sends := 0 }

/-- A leg to a station (R142, R274, R303): its entry, the backhaul's links, the length, then its air queue. -/
def stationLeg (s : State) (x : Carried) (l : Leg) (i colour : Nat) (link : Option Nat) : State :=
  if staState s i = 0 then legDrop s x O.target_drops
  else if i = rd s O.bh_station ∧ rd s O.bh_state = 3 then legDrop s x O.bh_no_link_drop
  else if 2318 < l.bytes.length then legDrop s x O.mtu_drop
  else airEnqueue s (4 * i + acOf l.prio) (airFrame s x l link) colour

/-- A leg to a BSSID joins its group-addressed frames (R130, R293); after a cold takeover it is dropped until the group key is
installed again (R202). -/
def bssLeg (s : State) (x : Carried) (l : Leg) (j : Nat) : State :=
  if 2318 < l.bytes.length then legDrop s x O.mtu_drop
  else if s.mac.coldBss.contains j then legDrop s x O.no_key_drop
  else setMiller s { s.miller with group := s.miller.group.put j (s.miller.group.getD j [] ++ [airFrame s x l none]) }

/-- The copy of a mirror session (R275). -/
def mirrorLeg (s : State) (x : Carried) (l : Leg) (k colour h : Nat) : State :=
  let dest := rd s (O.mir_dest k)
  let kind := dest / 4096
  let idx := dest % 4096
  let vid := rd s (O.mir_vid k)
  let b := if vid = 0 then l.bytes else pushTag l.bytes vid 0
  let sent := bump s (O.mir_copies k)
  let lost := legDrop s x (O.mir_drops k)
  if flag s (O.mir_enable k) = false then lost
  else if kind = 1 then
    if portUp s idx = false then lost
    else if rd s (O.port_mtu idx) < b.length then legDrop sent x O.mtu_drop
    else wiredEnqueue sent idx (wiredIndex s idx (tcOf s l.prio) h) (outFrame x l b) colour
  else if kind = 3 then
    if rd s O.varlan_state < 2 then lost else varlanEnqueue sent (outFrame x l b)
  else if queueRuns s idx && decide ((hostDirect s idx).length < min 256 (postedOf s idx)) then
    hostEnqueue sent idx (outFrame x { l with reason := 2 } b)
  else hostEnqueue (bump s (O.mir_drops k)) idx (outFrame x { l with reason := 2 } b)

/-- A leg enters the queue of its target, or is dropped. `colour` is the frame's after its meters, `h` its flow hash. -/
def enterLeg (s : State) (x : Carried) (l : Leg) (colour h : Nat) : State :=
  let s := if l.flooded then bump s O.fwd_flooded else s
  match l.session with
  | some k => mirrorLeg s x l k colour h
  | none =>
    match l.target with
    | .uplink p => uplinkLeg s x l p colour h
    | .station i => stationLeg s x l i colour none
    | .bss j => bssLeg s x l j
    | .varlan => if rd s O.varlan_state < 2 then legDrop s x O.target_drops else varlanEnqueue s (outFrame x l l.bytes)
    | .host q => hostEnqueue s q (outFrame x l l.bytes)
    | .tunnel _ => dropLeg s x.buf
    | .drop => dropLeg s x.buf

/-- Whether a leg passes the checks before its queue (R274, R303). -/
def legAdmitted (s : State) (l : Leg) : Bool :=
  match l.target with
  | .uplink p => portUp s p && (l.asGiven || bit (vidMembers s l.vid) p) && decide ((egressBytes s p l).length ≤ rd s (O.port_mtu p))
  | .station i => decide (staState s i ≠ 0 ∧ (i ≠ rd s O.bh_station ∨ rd s O.bh_state ≠ 3) ∧ l.bytes.length ≤ 2318)
  | .bss j => decide (l.bytes.length ≤ 2318) && !(s.mac.coldBss.contains j)
  | .varlan => decide (2 ≤ rd s O.varlan_state)
  | .host _ => true
  | .tunnel _ | .drop => false

/-- The egress meter of a leg, if its target has one (R329): the colour after it, and whether it drops the leg. -/
def egressMeter (s : State) (l : Leg) (len colour : Nat) (ecc : Bool) : Nat × Bool × State :=
  if l.session.isSome then (colour, false, s)
  else match l.target with
    | .uplink p => meterVia s O.mb_port_out (8 * p + tcOf s l.prio) len colour ecc
    | .station i => meterVia s O.mb_sta_down i len colour ecc
    | _ => (colour, false, s)

/-- A leg beside the forward leg: metered where it goes to a port or a station, then entered (R329, R347). -/
def copyLeg (s : State) (x : Carried) (l : Leg) (colour h : Nat) : State :=
  if l.kept then enterLeg s x l colour h
  else
    match egressMeter s l x.len colour false with
    | (c, drop, t) => if drop then dropLeg t x.buf else enterLeg t x l c h

end Sys2Proof.Machine
end

