-- ==== Sys2Proof/Machine/Flows.lean ====
section
/-! DEFINITION. The flow table, the forwarding database and the route table at work (R292, R295, R299 to R305, R307): lookups,
what a dispatched frame does to them, ageing, and the commands of their windows. -/

namespace Sys2Proof.Machine

/-- The switch region's state changed. -/
def setSwitch (s : State) (x : Switch) : State := { s with switch := x }

/-- The flow cache, the flow pager, the ager and the uplink MACs as sources (R287). -/
def flowCacheHid (s : State) : Nat := hidOf s 0 5 1 0
def flowPagerHid (s : State) : Nat := hidOf s 0 5 1 1
def portMacHid (s : State) (p : Nat) : Nat := hidOf s 0 9 1 p

/-! ### Records and the cache (R299, R300) -/

/-- The bucket and the cache set of a flow hash. -/
def bucketOf (s : State) (h : Nat) : Nat := h % (flowCount s.fuse.part / 4)
def cacheSet (h : Nat) : Nat := h % 4096
def cachedIn (s : State) (h : Nat) : List Nat := s.switch.cache.getD (cacheSet h) []

/-- Whether record `i` holds a key. -/
def holdsKey (s : State) (key : Octets) (i : Nat) : Bool :=
  match s.switch.flows.look i with
  | some r => decide (r.key = key)
  | none => false

/-- The cached record of a key, and the record of a key in its bucket. -/
def cachedRec (s : State) (key : Octets) (h : Nat) : Option Nat := (cachedIn s h).find? (holdsKey s key)
def tableRec (s : State) (key : Octets) (h : Nat) : Option Nat :=
  ((List.range 4).map (fun w => 4 * bucketOf s h + w)).find? (holdsKey s key)

/-- A record may be evicted: it was not allocated or repinned within the last 1 ms (R300). -/
def evictable (s : State) (i : Nat) : Bool :=
  match s.switch.flows.look i with
  | some r => decide (r.fresh + 1000000 ≤ s.now)
  | none => true

/-- A record enters its cache set, or becomes its most recently used; a full set gives up its least recently used record that
may be evicted, which is written back, and keeps all where none may (R300). -/
def cachePut (s : State) (h i : Nat) : State :=
  let l := cachedIn s h
  let put (l : List Nat) : State := setSwitch s { s.switch with cache := s.switch.cache.put (cacheSet h) l }
  if l.contains i then put (i :: l.filter (fun j => j ≠ i))
  else if l.length < 16 then put (i :: l)
  else match (l.reverse).find? (evictable s) with
    | some v => dramRequest (put (i :: l.filter (fun j => j ≠ v))) 0 (256 * (v / 4)) true
    | none => s

/-- A record freed: its way returns to the occupancy map, and its cached copy goes (R304, R305). -/
def freeRec (s : State) (i : Nat) : State :=
  let f := s.switch.flows.del i
  wr (setSwitch s { s.switch with flows := f, cache := s.switch.cache.map (fun e => (e.1, e.2.filter (fun j => j ≠ i))) })
    O.flows_in_use f.length

/-- A flow's lookup at the end of the walk (R301): a hit in the cache, the bucket it waits for, or no slot. -/
inductive FlowAsk where
  | answered (f : FlowLookup)
  | waits (bucket : Nat)
  deriving DecidableEq, Repr

/-- Kind 0x55, at most once per second (R301). -/
def missOverload (s : State) : State :=
  let due := match s.switch.lastOverload with
    | some t => decide (t + 1000000000 ≤ s.now)
    | none => true
  if due then report (setSwitch s { s.switch with lastOverload := some s.now }) 0x55 (flowPagerHid s) 0 else s

/-- The flow table is in service (R368). -/
def flowTableUp (s : State) : Bool := bit (rd s O.region_status) 0

/-- The lookup of a key (R301); a disabled flow table makes every lookup a miss without a read (R368). -/
def flowAsk (s : State) (key : Octets) (h : Nat) : FlowAsk × State :=
  if flowTableUp s = false then (.answered .miss, s)
  else match cachedRec s key h with
  | some i => (.answered (.hit i), s)
  | none =>
    let b := bucketOf s h
    if s.switch.slots.contains b then (.waits b, s)
    else if s.switch.slots.length < 1024 then
      let s1 := setSwitch s { s.switch with slots := s.switch.slots ++ [b] }
      (.waits b, dramRequest (wr s1 O.miss_slots_peak (max (rd s O.miss_slots_peak) s1.switch.slots.length)) 0 (256 * b) false)
    else (.answered .overflow, missOverload s)

/-- Records found in error as a bucket or a cache entry is read (R305). -/
def badRecords (s : State) (l : List Nat) : State :=
  l.foldl (fun t i => report (bump (freeRec t i) O.ecc_uncorrected_fwd) 0x54 (flowCacheHid s) 0) s

/-- Records found in error in the table's DRAM (R305, R367). -/
def badInDram (s : State) (l : List Nat) : State :=
  badRecords (l.foldl (fun t i => dramError t (64 * i) (channelHid s (blockChannel (i / 4)))) s) l

/-- A bucket has arrived: its slot is free, and records in error are gone. -/
def bucketArrived (s : State) (b : Nat) (bad : List Nat) : State :=
  badInDram (panicLevels (setSwitch s { s.switch with slots := s.switch.slots.filter (fun x => x ≠ b) }))
    ((bad.filter (fun w => w < 4)).map (fun w => 4 * b + w))

/-- What a bucket's arrival answers to a waiting lookup (R301): a record with the key enters the cache. -/
def bucketAnswer (s : State) (key : Octets) (h : Nat) : FlowLookup × State :=
  match tableRec s key h with
  | some i => (.hit i, cachePut s h i)
  | none => (.miss, s)

/-! ### At dispatch (R301, R302) -/

/-- TB96 in ms, modulo 2^32. -/
def tbMs (s : State) : Nat := tbNs s / 1000000 % 4294967296

/-- A dispatched frame updates its record. -/
def flowUpdate (s : State) (i : Nat) (r : FlowRec) (d : Decision) (len : Nat) : State :=
  let fin := bit d.tcpFlags 0
  let rst := bit d.tcpFlags 2
  let r1 := {
    r with
    lastSeen := tbMs s, packets := satAdd 0xFFFFFFFF r.packets 1, bytes := satAdd 0xFFFFFFFFFFFFFFFF r.bytes len,
    fin := r.fin || fin, rst := r.rst || rst, state := if fin || rst then 2 else r.state }
  let r2 := if d.repin then { r1 with pin := d.pin, pinGen := d.pinGen, fresh := s.now } else r1
  let s1 := setSwitch s { s.switch with flows := s.switch.flows.put i r2 }
  if d.repin then bump s1 O.repins else s1

/-- The lowest free way of a bucket. -/
def freeWay (s : State) (b : Nat) : Option Nat := (List.range 4).find? (fun w => !(s.switch.flows.has (4 * b + w)))

/-- A new record (R300, R301). -/
def newRec (s : State) (key : Octets) (d : Decision) (len : Nat) : FlowRec :=
  { key := key, state := 1, fin := false, rst := false, cls := if d.proto = 6 then 0 else if d.proto = 17 then 1 else 2,
    pin := d.pin, pinGen := d.pinGen, lastSeen := tbMs s, packets := 1, bytes := len, fresh := s.now,
    young := s.switch.flushed.isSome }

/-- The cache can hold a new record of a hash. -/
def cacheRoom (s : State) (h : Nat) : Bool := decide ((cachedIn s h).length < 16) || (cachedIn s h).any (evictable s)

/-- The allocator applies a dispatched frame to the table (R301); while the channels retrain, a record that would need a DRAM
write is not allocated (R365), and a disabled table takes none (R368). A record that the bucket holds is updated even where the
cache does not hold it, so that one flow never has two (DEDUCED, log 32). -/
def flowApply (s : State) (d : Decision) (len : Nat) : State :=
  match d.flow with
  | none => s
  | some (key, h) =>
    if d.tracked = false then s
    else match tableRec s key h with
      | some i => match s.switch.flows.look i with
        | some r => cachePut (flowUpdate s i r d len) h i
        | none => s
      | none =>
        if flowTableUp s = false then s
        else if rd s O.dram_state = 5 ∧ cacheRoom s h = false then bump s O.alloc_full
        else match freeWay s (bucketOf s h) with
        | some w =>
          let i := 4 * bucketOf s h + w
          let f := s.switch.flows.put i (newRec s key d len)
          bump (wr (cachePut (setSwitch s { s.switch with flows := f }) h i) O.flows_in_use f.length) O.alloc_ok
        | none => bump s O.alloc_full

/-! ### The forwarding database (R292) -/

/-- The set of a VID and address (log 30). -/
def fdbSetOf (v : Nat) (a : Octets) : Nat := (Config.fdbSet (v * 281474976710656 + beNat a)).toNat

/-- The entries changed, with `fdb_in_use`. -/
def setFdb (s : State) (l : List FdbEntry) : State := wr (setSwitch s { s.switch with fdb := l }) O.fdb_in_use l.length

/-- An address is learned, moved or refreshed (R292). -/
def fdbLearn (s : State) (v : Nat) (a : Octets) (place : Nat) : State :=
  let e : FdbEntry := { vid := v, addr := a, where_ := place, seen := s.now }
  let same := fun (x : FdbEntry) => decide (x.vid = v) && decide (x.addr = a)
  match fdbFind s v a with
  | some x =>
    let s1 := setFdb s (s.switch.fdb.map (fun y => if same y then e else y))
    if x.where_ = place then s1 else bump s1 O.fdb_learned
  | none =>
    if (s.switch.fdb.filter (fun x => fdbSetOf x.vid x.addr = fdbSetOf v a)).length < 4 then
      bump (setFdb s (s.switch.fdb ++ [e])) O.fdb_learned
    else bump s O.fdb_full

/-- What a dispatched frame teaches the database. -/
def fdbApply (s : State) (d : Decision) : State :=
  match d.learn with
  | some (v, a, place) => fdbLearn s v a place
  | none => s

/-- FDB_AGE_EXPIRE (R292): entries not refreshed for `fdb_age` are removed. -/
def execFdbAgeExpire (s : State) : Host.Outcome State Fault Refusal :=
  act s fun s => setFdb s (s.switch.fdb.filter (fun e => s.now < e.seen + rd s O.fdb_age * 1000000000))

/-! ### Ageing and the flow window (R304) -/

/-- The idle timeout of a record in ms. -/
def idleTimeout (s : State) (r : FlowRec) : Nat :=
  1000 * rd s (if r.state = 2 then O.idle_closing else if r.cls = 0 then O.idle_tcp else if r.cls = 1 then O.idle_udp
    else O.idle_other)

/-- A record has been idle longer than its timeout. -/
def idleOut (s : State) (r : FlowRec) : Bool := decide (idleTimeout s r < (tbMs s + 4294967296 - r.lastSeen) % 4294967296)

/-- AGE_SCAN (R304): one visit of every record. -/
def execAgeScan (s : State) : Host.Outcome State Fault Refusal :=
  act s fun s =>
    let gone := (s.switch.flows.filter (fun e => idleOut s e.2)).map (fun e => e.1)
    bumpBy (gone.foldl freeRec s) O.aged_out gone.length

/-- FLOW_DELETE (R304): the selected record is freed at once. -/
def flowDelete (s : State) : Status × State :=
  let i := rd s O.flow_select
  (.ok, if s.switch.flows.has i then freeRec s i else s)

def execFlowDelete (s : State) : Host.Outcome State Fault Refusal := act s fun s => command s O.flow_cmd 1 flowDelete

/-- FLOW_FLUSH (R304): DEFERRED, or BUSY while one runs. -/
def flowFlush (s : State) : Status × State :=
  if s.switch.flushed.isSome then (.busy, s)
  else
    let f := s.switch.flows.map (fun e => (e.1, { e.2 with young := false }))
    (.deferred, wr (setSwitch s { s.switch with flushed := some s.now, flows := f }) O.flow_flush_active 1)

def execFlowFlush (s : State) : Host.Outcome State Fault Refusal := act s fun s => command s O.flow_cmd 2 flowFlush

/-- FLOW_FLUSH_DONE (R304): every record allocated before the FLUSH began is free. -/
def execFlowFlushDone (s : State) : Host.Outcome State Fault Refusal :=
  act s fun s =>
    if s.switch.flushed.isNone then s
    else
      let gone := (s.switch.flows.filter (fun e => !e.2.young)).map (fun e => e.1)
      let t := gone.foldl freeRec s
      wr (setSwitch t { t.switch with flushed := none }) O.flow_flush_active 0

/-! ### The route window (R295, R311) -/

/-- Bits of an address beyond a prefix length are zero. -/
def zeroBeyond : Nat → Octets → Bool
  | _, [] => true
  | n, b :: t => if 8 ≤ n then zeroBeyond (n - 8) t else decide (b.toNat % 2 ^ (8 - n) = 0) && zeroBeyond 0 t

/-- The table a window's family names, and one set with its counter. -/
def routesOf (s : State) (v6 : Bool) : List Route := if v6 then s.switch.v6 else s.switch.v4
def setRoutes (s : State) (v6 : Bool) (l : List Route) : State :=
  wr (setSwitch s (if v6 then { s.switch with v6 := l } else { s.switch with v4 := l }))
    (if v6 then O.rt_count_v6 else O.rt_count_v4) l.length

/-- Each change of a route advances `route_gen` (R295). -/
def routeChanged (s : State) : State := wr s O.route_gen ((rd s O.route_gen + 1) % 65536)

/-- The window's family, and whether its prefix has the family's length. -/
def rtV6 (s : State) : Bool := decide (rd s O.rt_family = 1)
def rtTyped (s : State) : Bool := decide ((rdB s O.rt_prefix).length = if rtV6 s then 16 else 4)

/-- A route is the window's. -/
def isRoute (s : State) (r : Route) : Bool :=
  decide (r.vrf = rd s O.rt_vrf) && decide (r.len = rd s O.rt_len) && decide (r.prefixBytes = rdB s O.rt_prefix)

/-- ADD (R295). -/
def routeAdd (s : State) : Status × State :=
  let v6 := rtV6 s
  let l := routesOf s v6
  let nh := rd s O.rt_nexthop
  if rtTyped s = false then (.type, s)
  else if (if v6 then 128 else 32) < rd s O.rt_len ∨ zeroBeyond (rd s O.rt_len) (rdB s O.rt_prefix) = false ∨
      rd s (winKey nh O.nh_kind) = 0 then (.range, s)
  else if l.any (isRoute s) then
    (.ok, routeChanged (setRoutes s v6 (l.map (fun r => if isRoute s r then { r with nexthop := nh } else r))))
  else if (if v6 then 32768 else 131072) ≤ l.length then (.busy, s)
  else
    (.ok, routeChanged (setRoutes s v6
      (l ++ [{ vrf := rd s O.rt_vrf, prefixBytes := rdB s O.rt_prefix, len := rd s O.rt_len, nexthop := nh }])))

/-- DELETE (R311): OK where the route is absent. -/
def routeDelete (s : State) : Status × State :=
  let v6 := rtV6 s
  let l := routesOf s v6
  if rtTyped s = false then (.type, s)
  else if l.any (isRoute s) then (.ok, routeChanged (setRoutes s v6 (l.filter (fun r => !(isRoute s r)))))
  else (.ok, s)

/-- LOOKUP (R311): the longest match of `rt_prefix` as an address. -/
def routeFind (s : State) : Status × State :=
  if rtTyped s = false then (.type, s)
  else match longest (routesOf s (rtV6 s)) (rd s O.rt_vrf) (rdB s O.rt_prefix) with
    | some r => (.ok, wr (wr (wr s O.rt_found 1) O.rt_len r.len) O.rt_nexthop r.nexthop)
    | none => (.ok, wr s O.rt_found 0)

def execRouteAdd (s : State) : Host.Outcome State Fault Refusal := act s fun s => command s O.rt_cmd 1 routeAdd
def execRouteDelete (s : State) : Host.Outcome State Fault Refusal := act s fun s => command s O.rt_cmd 2 routeDelete
def execRouteLookup (s : State) : Host.Outcome State Fault Refusal := act s fun s => command s O.rt_cmd 3 routeFind

/-! ### Ports (R288, R289) -/

/-- A port leaves UP (R289, R327). -/
def portDown (s : State) (p next : Nat) : State :=
  if rd s (O.port_state p) = 2 then
    report (portFlush (bump (wr s (O.port_state p) next) (O.link_downs p)) p) 0x56 (portMacHid s p) 0
  else wr s (O.port_state p) next

/-- PORT_UP (R289): an enabled port of the present `uplink_mode` reads UP. -/
def execPortUp (port : Fin 8) (s : State) : Host.Outcome State Fault Refusal :=
  act s fun s =>
    if port.val < portCount s ∧ flag s (O.port_enable port) then wr s (O.port_state port) 2 else s

/-- PORT_DOWN (R289). -/
def execPortDown (port : Fin 8) (codewords : Nat) (s : State) : Host.Outcome State Fault Refusal :=
  act s fun s =>
    if port.val < portCount s then portDown (bumpBy s (O.fec_uncorrected port) codewords) port 0 else s

/-- Every port goes DOWN and the new ones start training (R288); the SERDES clock takes the new mode's rate (R373). -/
def portsRestart (s : State) : State :=
  (List.range 8).foldl (fun t p => portDown t p (if p < portCount s ∧ flag t (O.port_enable p) then 1 else 0))
    (setClk s 11 (clkState s 11))

/-! ### Announcements (R307) -/

/-- The announcements of a new lead in their order: VIDs with `vid_route`, then stations. -/
def announceList (s : State) : List (Nat × Octets × Nat) :=
  let vids := (s.regs.filter (fun e => decide (e.1 % 16777216 = O.vid_route) && decide (e.2 = 1))).map (fun e => e.1 / 16777216)
  let stas := (stationsInUse s).map (fun i =>
    let r := (bitList 3 (staLinks s i)).headD 0
    (bssVid s r (rd s (winKey i O.sta_bss)), staMldAddr s i, 255))
  vids.map (fun v => (v, rdB s O.router_mac, 255)) ++ stas

/-- The RARP frame of an announcement (RFC 903). -/
def rarpFrame (sa : Octets) : Octets :=
  List.replicate 6 255 ++ sa ++ [0x80, 0x35, 0, 1, 8, 0, 6, 4, 0, 3] ++ sa ++ zeros 4 ++ sa ++ zeros 4

/-- The next announcement that a port can send: what is dropped before it, and the list with that port done. -/
def nextAnnounce (s : State) : List (Nat × Octets × Nat) → Option (Nat × Octets × Nat) × List (Nat × Octets × Nat)
  | [] => (none, [])
  | (v, sa, ports) :: t =>
    match (List.range 8).find? (fun p => bit ports p && bit (vidMembers s v) p && portUp s p) with
    | some p => (some (v, sa, p), (v, sa, ports / 2 ^ (p + 1) * 2 ^ (p + 1)) :: t)
    | none => nextAnnounce s t

/-- ANNOUNCE_FRAME (R307): the next announcement goes to the next port that is a member of its VID. -/
def execAnnounceFrame (s : State) : Host.Outcome State Fault Refusal :=
  act s fun s =>
    match nextAnnounce s s.switch.announce with
    | (some (v, sa, p), rest) =>
      let b := rarpFrame sa
      match takeBuf s b.length false false none with
      | (some i, t) =>
        let x : Carried := { buf := i, source := 0x3000, tid := 0xF0, stamp := tbNs t, info := 0, len := b.length }
        bump (enterLeg (setSwitch t { t.switch with announce := rest }) x (plainLeg (.uplink p) b v 0) 0 0) O.announce_sent
      | (none, _) => s
    | (none, rest) => setSwitch s { s.switch with announce := rest }

end Sys2Proof.Machine
end

