-- ==== Sys2Proof/Machine/Carter.lean ====
section
/-! DEFINITION. The Carter (R340 to R353) and the walk and lookup that give it its operands (R247, R256 to R260, R266, R271,
R280): tokens, cancellation, release, the ready lists and their rings, and the order of atomic tags. -/

namespace Sys2Proof.Machine

/-- The Carter's state changed. -/
def setCarter (s : State) (c : Carter) : State := { s with carter := c }

/-- The matching store, the tag tracker, the ready lists and the ring engine as sources (R340). -/
def matchHid (s : State) : Nat := hidOf s 0 7 0 0
def trackerHid (s : State) : Nat := hidOf s 0 7 0 1
def readyHid (s : State) : Nat := hidOf s 0 7 1 0
def ringHid (s : State) : Nat := hidOf s 0 7 1 1

/-- Whether a report that comes at most once per second is due. -/
def secondDue (s : State) (last : Option Nat) : Bool :=
  match last with
  | some t => decide (t + 1000000000 ≤ s.now)
  | none => true

/-! ### Cancellation (R346) -/

/-- The tasks of a list that belong to a token, and the list without them. -/
def tasksOf (id : Nat) (l : List Task) : List Task := l.filter (fun k => k.token.id = id)
def withoutToken (id : Nat) (l : List Task) : List Task := l.filter (fun k => k.token.id ≠ id)

/-- What of a token can still be cancelled: its entry, or tasks not yet dispatched. -/
def tokenFound (s : State) (id : Nat) : Bool :=
  let c := s.carter
  c.tokens.any (fun t => t.id = id) || (c.urgent ++ c.normal ++ c.ringUrgent ++ c.ringNormal).any (fun k => k.token.id = id)

/-- A token cancelled (R346): its entry and its undispatched tasks go, it releases its version, and its cells' legs are
dropped. -/
def cancelToken (s : State) (id : Nat) : State :=
  let c := s.carter
  let bufs := (c.tokens.filter (fun t => t.id = id)).map (fun t => t.frame.buf) ++
    (tasksOf id (c.urgent ++ c.normal ++ c.ringUrgent ++ c.ringNormal)).map (fun k => k.token.frame.buf)
  let s1 := setCarter s {
    c with
    tokens := c.tokens.filter (fun t => t.id ≠ id), urgent := withoutToken id c.urgent, normal := withoutToken id c.normal,
    ringUrgent := withoutToken id c.ringUrgent, ringNormal := withoutToken id c.ringNormal }
  drainCheck (bufs.foldl dropLeg s1)

/-- A cancellation with its counter (R345). -/
def cancelWith (s : State) (id k : Nat) : State := if tokenFound s id then bump (cancelToken s id) k else s

/-! ### Allocation (R341, R343, R344) -/

/-- A frame that finds the matching store full is dropped whole (R344). -/
def matchFull (s : State) (f : Frame) : State :=
  let s1 := bump (dropLeg s f.buf) O.match_full_drop
  if secondDue s s.carter.lastFull then
    report (setCarter s1 { s1.carter with lastFull := some s.now }) 0x5D (matchHid s) 0
  else s1

/-- A walk that has not begun. -/
def noWalk (f : Frame) : Walk :=
  { c := 0, last := f.bytes.length, visits := 0, vlans := 0, tci := 0, frag := false, tunnel := false, ext := zeros 64,
    layers := List.replicate 7 0xFFFF, node := 0, cls := f.cls }

/-- A token put into the store; the state counts it. -/
def putToken (s : State) (t : Token) : State :=
  let l := s.carter.tokens ++ [t]
  let s1 := setCarter s { s.carter with tokens := l, next := t.id + 1 }
  bump (wr s1 O.match_peak (max (rd s O.match_peak) l.length)) O.tokens_issued

/-- The tag of a frame that is not an IP frame: the CRC of its source word and its TID byte (R343). -/
def plainTag (f : Frame) : Nat := crc32c (beBytes 2 f.source ++ beBytes 1 f.tid)

/-- The token of a frame, its walk done. -/
def newToken (s : State) (f : Frame) (w : Walk) : Token :=
  { id := s.carter.next, frame := f, walk := w, key := keyOf f w, tag := plainTag f, since := s.now, verdict := f.awaits.isNone,
    fate := none, version := rd s O.rule_version, commit := s.rules.commit, holds := false, toLook := false, bucket := none,
    row := none, action := 0 }

/-! ### Release (R347 to R349) -/

/-- The tasks on die. -/
def readyUsed (s : State) : Nat := s.carter.urgent.length + s.carter.normal.length

/-- The ring region can be used. -/
def ringsUp (s : State) : Bool := flag s O.ring_enable && bit (rd s O.region_status) 1

/-- A release that finds its ring unusable cancels the token (R349). -/
def ringDrop (s : State) (id : Nat) : State :=
  let s1 := cancelWith s id O.ring_drop
  if secondDue s s.carter.lastRing then
    report (setCarter s1 { s1.carter with lastRing := some s.now }) 0x5F (ringHid s) 0
  else s1

/-- A task goes to its list, on die or in its ring (R349). -/
def placeTask (s : State) (k : Task) : Bool × State :=
  let c := s.carter
  let ring := if k.urgent then c.ringUrgent else c.ringNormal
  if ring.isEmpty ∧ readyUsed s < 32768 then
    (true, setCarter s (if k.urgent then { c with urgent := c.urgent ++ [k] } else { c with normal := c.normal ++ [k] }))
  else if ringsUp s ∧ ring.length < 1048576 then
    (true, ringRequest (bump (setCarter s (if k.urgent then { c with ringUrgent := c.ringUrgent ++ [k] }
      else { c with ringNormal := c.ringNormal ++ [k] })) O.ring_spills) k.urgent true)
  else (false, s)

/-- The tasks of a token placed in turn; the copies' legs of the buffer are taken as they are placed. -/
def placeTasks (s : State) (id buf : Nat) : List Task → State
  | [] => s
  | k :: t =>
    match placeTask (if k.leg.isSome then addLeg s buf else s) k with
    | (true, u) => placeTasks u id buf t
    | (false, u) => ringDrop (dropLeg u buf) id

/-- The legs of a fate beside the forward leg: those of the decision, and the copy of a COPY or MIRROR action (R274, R347). -/
def copyLegs (t : Token) : List Leg :=
  match t.fate with
  | some (.ruled _ _ action d) =>
    let whole := plainLeg .drop t.frame.bytes d.vid d.prio
    d.legs.drop 1 ++
      (if bits action 31 30 = 2 then
        [{ whole with target := .host (bits action 14 10), asGiven := true, reason := 1, kept := true }]
      else if bits action 31 30 = 3 then
        [{ whole with session := some (bits action 9 6), asGiven := true, reason := 2, kept := true }]
      else [])
  | _ => []

/-- A reserved frame (R315): a to-host queue as a target, EAPOL, or traffic class 7. -/
def reservedFate (s : State) (t : Token) : Bool :=
  let host := fun (l : Leg) => match l.target with
    | .host _ => true
    | _ => false
  isEapol t.frame.bytes ||
  match t.fate with
  | some (.ruled _ _ _ d) => d.legs.any host || decide (tcOf s d.prio = 7)
  | some (.exception a) => decide (a = 2)
  | some (.fixed _) => true
  | _ => false

/-- The token's entry is freed and its tasks go to the ready lists (R347). -/
def releaseToken (s : State) (t : Token) : State :=
  let s1 := setCarter s { s.carter with tokens := s.carter.tokens.filter (fun x => x.id ≠ t.id) }
  let u := reservedFate s t
  let task := fun (l : Option Leg) =>
    ({ token := t, leg := l, since := s.now, urgent := u, blocked := l.isSome, held := false } : Task)
  placeTasks s1 t.id t.frame.buf (task none :: (copyLegs t).map (fun l => task (some l)))

/-- A token is released once its operands are present (R342, R347); a quiesced tracker holds it (R351). -/
def tryRelease (s : State) (id : Nat) : State :=
  match s.carter.tokens.find? (fun t => t.id = id) with
  | some t => if t.verdict && t.fate.isSome && !s.carter.quiesced then releaseToken s t else s
  | none => s

/-- Several tokens in allocation order (R350 rule 4). -/
def tryAll (s : State) (ids : List Nat) : State := ids.foldl tryRelease s

/-- A token changed in the store. -/
def setToken (s : State) (t : Token) : State :=
  setCarter s { s.carter with tokens := s.carter.tokens.map (fun x => if x.id = t.id then t else x) }

/-- A frame that is not presented takes its token as the air MAC or the SecY gives it up (R341): its fate is a host queue. -/
def allocFixed (s : State) (f : Frame) (q : Nat) : State :=
  if 16384 ≤ s.carter.tokens.length then matchFull s f
  else
    let t := { newToken s f (noWalk f) with fate := some (.fixed q) }
    tryRelease (putToken s t) t.id

/-! ### Verdicts (R234, R235, R240, R342) -/

/-- The tokens and the entering frames that wait for a verdict. -/
def waitingFor (s : State) (m : Nat) : List Nat :=
  (s.carter.tokens.filter (fun t => t.frame.awaits = some m)).map (fun t => t.id)

/-- A passing verdict reaches the Carter. -/
def verdictPass (s : State) (m : Nat) : State :=
  let ids := waitingFor s m
  let s1 := setCarter s { s.carter with tokens := s.carter.tokens.map (fun t =>
    if t.frame.awaits = some m then { t with verdict := true, frame := { t.frame with awaits := none } } else t) }
  tryAll { s1 with entering := s1.entering.map (fun f => if f.awaits = some m then { f with awaits := none } else f) } ids

/-- A failing verdict cancels every token of the frame (R235, R346); frames that have not entered take none. -/
def verdictFail (s : State) (m : Nat) : State :=
  let gone := s.entering.filter (fun f => f.awaits = some m)
  let s1 := gone.foldl (fun t f => dropLeg t f.buf)
    { s with entering := s.entering.filter (fun f => f.awaits ≠ some m) }
  (waitingFor s m).foldl (fun t i => cancelWith t i O.cancel_verdict) s1

/-! ### The walk (R247, R256, R266) -/

/-- The keys of a graph entry: a node, or 256 + a transition. -/
def entryKeys (e : Nat) : List Nat :=
  if e < 256 then
    [O.node_valid, O.node_role, O.node_hdr_min, O.node_adv, O.node_tot, O.node_sel_a, O.node_sel_b, O.node_tr_base,
     O.node_tr_count, O.node_default, O.node_flags, O.node_ext0, O.node_ext1, O.node_ext2, O.node_ext3].map (winKey e)
  else [O.tr_value, O.tr_mask, O.tr_next].map (winKey (e - 256))

/-- An entry has a staged change (R266). -/
def entryStaged (s : State) (e : Nat) : Bool :=
  (entryKeys e).any (fun k => decide (gv s.graph.active k ≠ gv s.graph.shadow k))

/-- Whether a visit to a node meets one of the entries in error: itself or one of its transitions. -/
def badNode (s : State) (l : List Nat) (n : Nat) : Bool :=
  let base := gv s.graph.active (winKey n O.node_tr_base)
  let cnt := gv s.graph.active (winKey n O.node_tr_count)
  l.any (fun e => if e < 256 then decide (e = n) else decide (base ≤ e - 256 ∧ e - 256 < base + cnt))

/-- Kind 0x51, at most once per second while an entry cannot be restored (R266). -/
def graphFaultReport (s : State) : State :=
  if secondDue s s.graph.lastBad then report (setGraph s { s.graph with lastBad := some s.now }) 0x51 (graphHid s) 0 else s

/-- What a walk that met an uncorrectable entry does about it (R266): `e` is the error met now, if any. -/
def graphFaulted (s : State) (e : Option Nat) : State :=
  match e with
  | some i =>
    if entryStaged s i then graphFaultReport (setGraph s { s.graph with bad := i :: s.graph.bad.filter (fun x => x ≠ i) })
    else report (bump s O.graph_repairs) 0x51 (graphHid s) 0
  | none => graphFaultReport s

/-- The walk of a frame. A class that the presenter raised ends it before its first visit (R250). -/
def walkOf (s : State) (f : Frame) (bad : Option Nat) : Walk :=
  if f.cls ≠ 0 then noWalk f
  else walkGraph s.graph.active (rd s O.start_node) (badNode s (s.graph.bad ++ bad.toList)) f.bytes

/-- The token after its walk: an exception whose action needs no lookup is fixed, else the lookup is to be made (R260, R271,
R279); an IP frame's tag is its flow hash (R343). -/
def walkToken (s : State) (f : Frame) (w : Walk) : Token :=
  let t := newToken s f w
  let tag := match flowOf s f w with
    | some e => e.2
    | none => t.tag
  let a := rd s (O.exc_action w.cls)
  if w.cls ≠ 0 ∧ a ≠ 3 then { t with tag := tag, fate := some (.exception a) }
  else { t with tag := tag, holds := true, toLook := true }

/-- PARSE_WALK (R256): the next frame's first visit fixes bank and version; it takes a token and is walked. -/
def execParseWalk (bad : Option Nat) (s : State) : Host.Outcome State Fault Refusal :=
  act s fun s =>
    match s.entering with
    | [] => s
    | f :: rest =>
      let s0 := { s with entering := rest }
      if 16384 ≤ s.carter.tokens.length then matchFull s0 f
      else
        let w := walkOf s0 f bad
        let t := walkToken s0 f w
        let hit := match bad with
          | some e => if badNode s0 [e] w.node then some e else none
          | none => none
        let s1 := if w.cls = 7 then graphFaulted s0 hit else s0
        tryRelease (putToken s1 t) t.id

/-! ### The lookup (R271, R279, R280, R290) -/

/-- A token takes its fate and releases its version. -/
def setFate (s : State) (t : Token) (fate : Fate) : State :=
  tryRelease (setToken s { t with fate := some fate, bucket := none }) t.id

/-- The state a token's decision reads: the free octets of its headers are numbered by the token (log 1). -/
def decidingFor (s : State) (id : Nat) : State := setCarter s { s.carter with next := id }

/-- The decision of a frame whose target is LOOKUP: at once, or when its bucket arrives (R290, R301). -/
def lookupFate (s : State) (t : Token) : State :=
  let give := fun (u : State) (x : FlowLookup) => setFate u t (.ruled t.row t.commit t.action (decideLookup (decidingFor u t.id) t.frame t.walk x))
  match flowOf s t.frame t.walk with
  | some (key, h) =>
    if flag s O.flow_enable then
      match flowAsk s key h with
      | (.answered x, u) => give u x
      | (.waits b, u) => setToken u { t with bucket := some b }
    else give s .none
  | none => give s .none

/-- What an action word makes of a frame (R274, R290). -/
def actionFate (s : State) (t : Token) : State :=
  if bits t.action 31 30 = 0 then setFate s t (.ruled t.row t.commit t.action (dropDecision s.now []))
  else if bits t.action 29 27 = 0 then lookupFate s t
  else setFate s t (.ruled t.row t.commit t.action (decideDirect s t.frame t.action))

/-- RULE_LOOKUP (R271): the oldest frame that waits for its lookup is looked up in the bank of its version. -/
def execRuleLookup (s : State) : Host.Outcome State Fault Refusal :=
  act s fun s =>
    match s.carter.tokens.find? (fun t => t.toLook) with
    | none => s
    | some t =>
      let b := bankOf s t.version
      let t1 := { t with toLook := false, holds := false }
      let s1 := drainCheck (setToken s t1)
      match lookupBank s b t.key with
      | .hit row a => actionFate s1 { t1 with row := some row, action := a }
      | .miss => actionFate s1 { t1 with action := b.miss }
      | .faulty _ => setFate s1 t1 (.forced false)

/-- DRAIN_LIMIT_EXPIRE (R280): frames still on the old version are forced to DROP, and catch-up begins. -/
def execDrainLimitExpire (s : State) : Host.Outcome State Fault Refusal :=
  act s fun s =>
    if rd s O.rule_state ≠ 1 then s
    else
      let v := rd s O.rule_old_version
      let old := s.carter.tokens.filter (fun t => t.holds && decide (t.version = v))
      let s1 := setCarter s { s.carter with tokens := s.carter.tokens.map (fun t =>
        if t.holds && decide (t.version = v) then { t with holds := false, toLook := false, fate := some (.forced true) } else t) }
      tryAll (report (drainCheck s1) 0x53 (versionUnitHid s) 0) (old.map (fun t => t.id))

/-- The decision of a token whose bucket has arrived. -/
def bucketFate (s : State) (id : Nat) : State :=
  match s.carter.tokens.find? (fun t => t.id = id) with
  | some t =>
    match flowOf s t.frame t.walk with
    | some (key, h) =>
      match bucketAnswer s key h with
      | (x, u) => setFate u t (.ruled t.row t.commit t.action (decideLookup (decidingFor u t.id) t.frame t.walk x))
    | none => setFate s t (.ruled t.row t.commit t.action (decideLookup (decidingFor s t.id) t.frame t.walk .miss))
  | none => s

/-- FLOW_BUCKET_ARRIVAL (R301): a bucket read from DRAM arrives, and the joined lookups hit or miss. -/
def execFlowBucketArrival (bucket : Nat) (bad : List Nat) (s : State) : Host.Outcome State Fault Refusal :=
  act s fun s =>
    if s.switch.slots.contains bucket then
      let ids := (s.carter.tokens.filter (fun t => t.bucket = some bucket)).map (fun t => t.id)
      ids.foldl bucketFate (bucketArrived s bucket bad)
    else s

/-! ### Dispatch (R347, R348, R350) -/

/-- What a token's legs take along (R63). -/
def carriedOf (t : Token) : Carried :=
  { buf := t.frame.buf, source := t.frame.source, tid := t.frame.tid, stamp := t.frame.stamp,
    info := t.version * 268435456 + t.walk.cls * 16777216 + t.row.getD 0, len := t.frame.bytes.length }

/-- A primary task may start (R350 rule 1): none of its tag is in service, and no older token of its tag waits. -/
def mayStart (s : State) (k : Task) : Bool :=
  let c := s.carter
  k.leg.isSome ||
  (!(c.service.any (fun x => x.leg.isNone && decide (x.token.tag = k.token.tag))) &&
   !(c.tokens.any (fun t => decide (t.tag = k.token.tag ∧ t.id < k.token.id))) &&
   !((c.urgent ++ c.normal ++ c.ringUrgent ++ c.ringNormal).any (fun x =>
      x.leg.isNone && decide (x.token.tag = k.token.tag ∧ x.token.id < k.token.id))))

/-- A list searched for its next task (R350 rule 2): the task taken, the list without it with the tasks passed over marked
held, and how many were held for the first time. -/
def takeNext (s : State) : List Task → Option Task × List Task × Nat
  | [] => (none, [], 0)
  | k :: t =>
    if k.blocked = false ∧ mayStart s k then (some k, t, 0)
    else
      let r := takeNext s t
      if k.blocked ∨ k.held then (r.1, k :: r.2.1, r.2.2)
      else (r.1, { k with held := true } :: r.2.1, r.2.2 + 1)

/-- A held task that may start goes before the head of its list (R350 rule 3). -/
def takeHeld (s : State) (l : List Task) : Option Task × List Task × Nat :=
  match l.find? (fun k => k.held && !k.blocked && mayStart s k) with
  | some k => (some k, l.filter (fun x => x ≠ k), 0)
  | none => takeNext s l

/-- The next task of one list, taken off it. -/
def takeFrom (s : State) (urgent : Bool) : Option Task × State :=
  let r := takeHeld s (if urgent then s.carter.urgent else s.carter.normal)
  let c := if urgent then { s.carter with urgent := r.2.1 } else { s.carter with normal := r.2.1 }
  (r.1, bumpBy (setCarter s c) O.tag_holds r.2.2)

/-- The next task over both lists (R348): URGENT first, and one NORMAL after `urgent_burst` of them. -/
def takeTask (s : State) : Option Task × State :=
  let turn := decide (rd s O.urgent_burst ≤ s.carter.burst) && !s.carter.normal.isEmpty
  match takeFrom s (!turn) with
  | (some k, t) => (some k, t)
  | (none, t) => takeFrom t turn

/-- The undispatched copies of a token discarded; the copies that R274 keeps stay where `keep` says so. -/
def discardCopies (s : State) (id : Nat) (keep : Bool) : State :=
  let c := s.carter
  let goes := fun (k : Task) => decide (k.token.id = id) && k.leg.isSome && !(keep && k.leg.any (fun l => l.kept))
  let stay := fun (l : List Task) => l.filter (fun k => !(goes k))
  let n := ((c.urgent ++ c.normal ++ c.ringUrgent ++ c.ringNormal).filter goes).map (fun k => k.token.frame.buf)
  n.foldl dropLeg (setCarter s {
    c with
    urgent := stay c.urgent, normal := stay c.normal, ringUrgent := stay c.ringUrgent, ringNormal := stay c.ringNormal })

/-- The rule counters of a frame (R281). -/
def countRule (s : State) (row : Option Nat) (commit len : Nat) : State :=
  match row with
  | some r =>
    if commit < s.rules.written.getD r 0 then bump s O.stale_hits
    else bumpBy (bump s (winKey r O.rule_hits)) (winKey r O.rule_bytes) len
  | none => if commit < s.rules.missWritten then bump s O.stale_hits else bump s O.rule_misses

/-- The ingress meter of a frame (R329). -/
def ingressMeter (s : State) (f : Frame) (d : Decision) (ecc : Bool) : Nat × Bool × State :=
  if srcKind f = 0 then meterVia s O.mb_port_in (8 * srcIndex f + tcOf s d.prio) f.bytes.length d.colour ecc
  else if srcKind f = 1 then meterVia s O.mb_sta_up (srcIndex f) f.bytes.length d.colour ecc
  else (d.colour, false, s)

/-- The colour that the ingress meter gave a frame stays with its copies (R330). -/
def recolour (s : State) (id colour : Nat) : State :=
  let f := fun (k : Task) =>
    if k.token.id = id then
      match k.token.fate with
      | some (.ruled r c a d) => { k with token := { k.token with fate := some (.ruled r c a { d with colour := colour }) } }
      | _ => k
    else k
  let c := s.carter
  setCarter s {
    c with
    urgent := c.urgent.map f, normal := c.normal.map f, ringUrgent := c.ringUrgent.map f, ringNormal := c.ringNormal.map f }

/-- The primary task drops the frame: its own leg, and the copies that R274 does not keep. -/
def primaryDrop (s : State) (t : Token) (keep : Bool) : State := discardCopies (dropLeg s t.frame.buf) t.id keep

/-- A class is counted with the source of its frame; REPORT of classes 1 to 6 raises kind 0x50, at most once per second and
class (R260, R261). -/
def countClass (s : State) (c source action : Nat) : State :=
  let s1 := wr (bump s (O.exc_count c)) (O.exc_last_source c) source
  if action = 1 ∧ c < 7 ∧ secondDue s1 (s1.graph.lastExc.look c) then
    reportWith (setGraph s1 { s1.graph with lastExc := s1.graph.lastExc.put c s1.now }) 0x50 (kindSeverity 0x50) c (hidOf s 0 4 1 2) 0
  else s1

/-- An exception's action (R260, R261): what the class's object now says, unless it says CLASSIFY. -/
def exceptionWork (s : State) (t : Token) (fixed : Nat) : State :=
  let c := t.walk.cls
  let a := if rd s (O.exc_action c) = 3 then fixed else rd s (O.exc_action c)
  let s1 := countClass s c t.frame.source a
  if a = 2 then enterLeg s1 (carriedOf t) (hostLeg (rd s (O.exc_queue c)) 4 t.frame.bytes) 0 0 else dropLeg s1 t.frame.buf

/-- A ruled frame's work in the order of R347: the rule's DROP, the meters, the counters, the flow table, which a frame that no leg
carries past R303 leaves alone (R301), the forwarding database, then the forward leg. -/
def ruledWork (s : State) (t : Token) (row : Option Nat) (commit action : Nat) (d : Decision) (ecc : Bool) : State :=
  let f := t.frame
  let len := f.bytes.length
  if bits action 31 30 = 0 then primaryDrop (countRule s row commit len) t true
  else
    match ingressMeter s f d ecc with
    | (c1, drop1, s0) =>
      let s1 := recolour s0 t.id c1
      if drop1 then primaryDrop (countRule s1 row commit len) t true
      else
        let m := match d.legs with
          | l :: _ => egressMeter s1 l len c1 false
          | [] => (c1, false, s1)
        if m.2.1 then primaryDrop (countRule m.2.2 row commit len) t true
        else
          let s2 := d.counts.foldl bump (countRule m.2.2 row commit len)
          let s3 := fdbApply (if d.legs.any (legAdmitted s2) then flowApply s2 d len else s2) d
          match d.legs with
          | l :: _ => enterLeg s3 (carriedOf t) l m.1 (match d.flow with | some e => e.2 | none => 0)
          | [] => primaryDrop s3 t true

/-- The counters of a walk that is dispatched (R264). A failing subframe and a LEN_RANGE of R65 had no walk. -/
def countWalk (s : State) (t : Token) : State :=
  if t.frame.cls ≠ 0 then s
  else
    let w := t.walk
    let s1 := bumpBy (bump s O.parse_frames) O.node_visits w.visits
    let s2 := wr s1 O.depth_max (max (rd s1 O.depth_max) (min 255 w.visits))
    let s3 := if w.cls = 0 then bump s2 O.parse_accept else s2
    if t.frame.subframe then bump s3 O.amsdu_subframes else s3

/-- CLASSIFY as a class's action counts like the others (R260, R261). -/
def countClassify (s : State) (t : Token) : State := if t.walk.cls = 0 then s else countClass s t.walk.cls t.frame.source 3

/-- The work of a primary task (R347). -/
def primaryWork (s : State) (t : Token) (ecc : Bool) : State :=
  match t.fate with
  | some (.fixed q) => enterLeg s (carriedOf t) (hostLeg q 3 t.frame.bytes) 0 0
  | some fate =>
    let s := countWalk s t
    if roleMode s = 9 ∧ srcKind t.frame = 1 then primaryDrop (bump s O.follow_air_drop) t false
    else match fate with
      | .exception a => exceptionWork s t a
      | .ruled row commit action d => ruledWork (countClassify s t) t row commit action d ecc
      | .forced drained => primaryDrop (if drained then bump (countClassify s t) O.drain_drops else countClassify s t) t true
      | .fixed _ => s
  | none => dropLeg s t.frame.buf

/-- The work of a copy task. -/
def copyWork (s : State) (t : Token) (l : Leg) : State :=
  let c := match t.fate with
    | some (.ruled _ _ _ d) => (d.colour, match d.flow with | some e => e.2 | none => 0)
    | _ => (0, 0)
  copyLeg s (carriedOf t) l c.1 c.2

/-- A task is dispatched: counted, put into service, and its work done (R347, R348). -/
def dispatchTask (s : State) (k : Task) (ecc : Bool) : State :=
  let c := s.carter
  let burst := if k.urgent then (if c.normal.isEmpty then 0 else c.burst + 1) else 0
  let s1 := bump (setCarter s { c with service := c.service ++ [k], burst := burst }) O.tasks_dispatched
  let s2 := if k.urgent then bump s1 O.urgent_dispatched else s1
  match k.leg with
  | some l => copyWork s2 k.token l
  | none => primaryWork s2 k.token ecc

/-- An uncorrectable error in a task's slot, or in the tracker, cancels the token it touches (R351). -/
def taskError (s : State) (k : Task) (tracker : Bool) : State :=
  let s1 := bump (cancelToken (dropLeg s k.token.frame.buf) k.token.id) O.ecc_cancels
  if tracker then report (setCarter s1 { s1.carter with quiesced := true }) 0x5C (trackerHid s) 0
  else report s1 0x5C (readyHid s) 0

/-- TASK_DISPATCH (R348): an executor takes the next dispatchable task; 32 executors, each with one task. -/
def execTaskDispatch (e : TaskError) (s : State) : Host.Outcome State Fault Refusal :=
  act s fun s =>
    if 32 ≤ s.carter.service.length then s
    else match takeTask s with
      | (none, t) => t
      | (some k, t) =>
        match e with
        | .slot => taskError t k false
        | .tracker => taskError t k true
        | .meter => dispatchTask t k true
        | .none => dispatchTask t k false

/-- The copies of a token become dispatchable (R347). -/
def unblock (id : Nat) (l : List Task) : List Task := l.map (fun k => if k.token.id = id then { k with blocked := false } else k)

/-- TASK_LEAVE_SERVICE (R350): the task at place `i` among those in service has completed. -/
def execTaskLeaveService (i : Nat) (s : State) : Host.Outcome State Fault Refusal :=
  act s fun s =>
    match s.carter.service[i]? with
    | none => s
    | some k =>
      let c := { s.carter with service := s.carter.service.eraseIdx i }
      if k.leg.isSome then setCarter s c
      else
        let u := unblock k.token.id
        setCarter s { c with urgent := u c.urgent, normal := u c.normal, ringUrgent := u c.ringUrgent, ringNormal := u c.ringNormal }

/-- TASK_AGE_TIMEOUT (R350 rule 5): a token or a task has waited `task_age_max`. -/
def execTaskAgeTimeout (token : Nat) (s : State) : Host.Outcome State Fault Refusal :=
  act s fun s =>
    if tokenFound s token then report (cancelWith s token O.task_timeouts) 0x5E (trackerHid s) 0 else s

/-- RING_REFILL (R349): tasks of one ring move on die in order while slots are free and the region is up. -/
def execRingRefill (urgent : Bool) (s : State) : Host.Outcome State Fault Refusal :=
  act s fun s =>
    let c := s.carter
    let n := if bit (rd s O.region_status) 1 then 32768 - readyUsed s else 0
    let moved := if urgent then (c.ringUrgent.take n).length else (c.ringNormal.take n).length
    ringRequests urgent false moved
      (setCarter s (if urgent then { c with urgent := c.urgent ++ c.ringUrgent.take n, ringUrgent := c.ringUrgent.drop n }
        else { c with normal := c.normal ++ c.ringNormal.take n, ringNormal := c.ringNormal.drop n }))

/-- TRACKER_REWRITE_DONE (R351): the tracker is rewritten from the surviving tokens, and releases resume in order. -/
def execTrackerRewriteDone (s : State) : Host.Outcome State Fault Refusal :=
  act s fun s =>
    tryAll (setCarter s { s.carter with quiesced := false }) (s.carter.tokens.map (fun t => t.id))

end Sys2Proof.Machine
end

