-- ==== Sys2Proof/Machine/Regulatory.lean ====
section
/-! DEFINITION. Channels and regulatory limits of a radio: the subchannels an operating channel occupies (R537), the fused
channel bitmaps (R98), grants (R101 to R103), effective power limits (R106) and the lowering of a PPDU's power (R99). -/

namespace Sys2Proof.Machine

/-- Whether channel `c` is set in a channel bitmap (R98). -/
def channelSet (m : Octets) (c : Nat) : Bool := decide (c < 256) && bit (octet m (c / 8)) (c % 8)

/-- The channel groups of `n` 20 MHz channels from each starting channel. -/
def channelGroup (start n : Nat) : List Nat := (List.range n).map (fun i => start + 4 * i)

/-- The starting channels of each width in the 5 GHz band's channelisation of IEEE 802.11 (PRESUMED: the standard the rule
names; log 6). -/
def starts5 (width : Nat) : List Nat :=
  if width = 1 then [36, 44, 52, 60, 100, 108, 116, 124, 132, 140, 149, 157, 165, 173]
  else if width = 2 then [36, 52, 100, 116, 132, 149, 165]
  else [36, 100, 149]

/-- The starting channels of each width in the 6 GHz band's channelisation of IEEE 802.11 (PRESUMED, log 6); the 320 MHz
channels stand in rising order of centre frequency, so the first that contains a primary has the lower centre. -/
def starts6 (width : Nat) : List Nat :=
  if width = 1 then (List.range 29).map (fun i => 1 + 8 * i)
  else if width = 2 then (List.range 14).map (fun i => 1 + 16 * i)
  else if width = 3 then (List.range 7).map (fun i => 1 + 32 * i)
  else [1, 33, 65, 97, 129, 161]

/-- The 20 MHz subchannels of an operating channel, lowest first; `none` where R537 gives no channel. -/
def occupied (reg : Octets) (r primary width : Nat) : Option (List Nat) :=
  if width = 0 then some [primary]
  else if r = 0 then
    if width ≠ 1 ∨ primary = 14 then none
    else if 1 ≤ primary + 4 ∧ primary + 4 ≤ 13 ∧ channelSet reg (primary + 4) then some [primary, primary + 4]
    else if 5 ≤ primary ∧ primary - 4 ≤ 13 ∧ channelSet reg (primary - 4) then some [primary - 4, primary]
    else none
  else
    let n := 2 ^ width
    ((if r = 1 then starts5 width else starts6 width).map (fun st => channelGroup st n)).find? (fun g => g.contains primary)

/-- The operating channel of radio `r` after puncturing, from a given channel setting. -/
def unpunctured (reg : Octets) (r primary width punct : Nat) : List Nat :=
  match occupied reg r primary width with
  | some l => (l.zipIdx.filter (fun e => !(bit punct e.2))).map (fun e => e.1)
  | none => []

/-- The unpunctured subchannels of the operating channel in force. -/
def opChannels (s : State) (r : Nat) : List Nat :=
  unpunctured (radioFuse s.fuse r).channels r (rd s (O.primary r)) (rd s (O.width r)) (rd s (O.puncture r))

/-- The puncturing patterns of IEEE 802.11be by width, bits of 20 MHz subchannels from the lowest (PRESUMED, log 6): one 20
MHz of 80 MHz; one 20 MHz or one 40 MHz of 160 MHz; of 320 MHz one 40 MHz, one 80 MHz, or the lowest or highest 80 MHz with
one more 40 MHz. -/
def punctureAllowed (width p : Nat) : Bool :=
  if p = 0 then true
  else if width = 2 then (List.range 4).any (fun i => p = 2 ^ i)
  else if width = 3 then (List.range 8).any (fun i => p = 2 ^ i) || (List.range 4).any (fun i => p = 3 * 4 ^ i)
  else if width = 4 then
    (List.range 8).any (fun i => p = 3 * 4 ^ i) || (List.range 4).any (fun i => p = 15 * 16 ^ i) ||
    (List.range 6).any (fun i => p = 15 + 3 * 4 ^ (i + 2)) || (List.range 6).any (fun i => p = 15 * 4096 + 3 * 4 ^ i)
  else false

/-- A `puncture` value that R108 accepts for a channel: no bit beyond the width, none at 20 or 40 MHz, not the primary's,
and a permitted pattern. -/
def punctureOk (reg : Octets) (r primary width p : Nat) : Bool :=
  decide (p < 2 ^ (2 ^ width)) && punctureAllowed width p &&
  (match occupied reg r primary width with
   | some _ => decide (primary ∈ unpunctured reg r primary width p)
   | none => true)

/-! ### Grants -/

/-- Whether the time base is valid for grants: set since BOOT (R103). -/
def timeValid (s : State) : Bool := decide (rd s O.tb_state ≠ 0)

/-- The active grants of radio `r` (R101, R103): none while the time base is unset. -/
def activeGrants (s : State) (r : Nat) : List Grant :=
  if timeValid s then
    ((radio s r).grants.filter (fun e => decide (rd s (O.grant_state r e.1) = 1))).map (fun e => e.2)
  else []

/-- The highest `grant_power` among active grants that cover subchannel `c`, if any does (R101). -/
def grantOn (s : State) (r c : Nat) : Option Nat :=
  ((activeGrants s r).filter (fun g => decide (g.first ≤ c ∧ c ≤ g.last))).foldl
    (fun a g => some (max (a.getD 0) g.power)) none

/-- The subchannels among `l` that need a grant (R97). -/
def grantNeeded (s : State) (r : Nat) (l : List Nat) : List Nat :=
  l.filter (fun c => channelSet (radioFuse s.fuse r).grantChannels c)

/-- Check 2 of R83 on a list of subchannels. -/
def regBlocked (s : State) (r : Nat) (l : List Nat) : Bool :=
  !((radioFuse s.fuse r).programmed) || l.any (fun c => !(channelSet (radioFuse s.fuse r).channels c))

/-- Check 3 of R83 on a list of subchannels. -/
def noGrant (s : State) (r : Nat) (l : List Nat) : Bool :=
  decide ((radioFuse s.fuse r).nograntMax = 0xFFFF) && (grantNeeded s r l).any (fun c => (grantOn s r c).isNone)

/-- The cap of R106 for subchannels `l`: the lowest over those that need a grant of the grant's power, or of
`reg_nogrant_max` where no active grant covers one; `reg_band_max` when none needs a grant. -/
def bandCap (s : State) (r : Nat) (l : List Nat) : Nat :=
  (grantNeeded s r l).foldl
    (fun a c => min a (match grantOn s r c with | some p => p | none => (radioFuse s.fuse r).nograntMax))
    (radioFuse s.fuse r).bandMax

/-- The two derates together (R106). -/
def derate (s : State) (r : Nat) : Int := (rd s (O.thermal_derate r) : Int) + (rd s (O.life_derate r) : Int)

/-- The effective chain limit of chain `k` (R106), in 0.25 dBm steps. -/
def chainLimitEff (s : State) (r k : Nat) : Int :=
  (min (radioFuse s.fuse r).chainMax (rd s (O.chain_limit r k)) : Nat) - derate s r

/-- The effective band limit for subchannels `l` (R106). -/
def bandLimitEff (s : State) (r : Nat) (l : List Nat) : Int :=
  (min (min (radioFuse s.fuse r).bandMax (rd s (O.tx_limit_band r))) (bandCap s r l) : Nat) - derate s r

/-! ### Lowering a PPDU's power (R99) -/

/-- 10 to the power i/40 for i from 0 to 39, scaled by 2^128 and rounded down. -/
def powerScale : List Nat := [
  340282366920938463463374607431768211456,
  360445364773149127229337289808714240256,
  381803095358844947590808146154431702289,
  404426351043076165135075684239512725242,
  428390118902236357715399458008612005261,
  453773829276335576613621156642628336772,
  480661619048921567303396436182414082852,
  509142610527317086926797626439538827299,
  539311206847550161157777344718058257007,
  571267404883126894522008025024246453955,
  605117126694814710382135881913690764950,
  640972570620059957097090568963337088034,
  678952583165761377671166087135686483388,
  719183052937075773993437025497729230988,
  761797327907972861323655792919874130851,
  806936657416624904700701050998355820474,
  854750660350669702495489405608583046340,
  905397821074194474848051200161246414800,
  959046014740240963431826422565241387114,
  1015873063730033340592556820311988199424,
  1076067327063303206878105757264492625226,
  1139828324733372002628431372965747489186,
  1207367399036412811321915586336624476582,
  1278908415086934493516503906802723973541,
  1354688502841417800098861480622946089979,
  1434958843089616094840601982572691114402,
  1519985500018768601708681050361827469778,
  1610050303110344736377652664603740922238,
  1705451781292455761107146630540959762307,
  1806506152444276713519084718445206318980,
  1913548371532291414054761096044291016566,
  2026933240852514483459307270936169723539,
  2147036586058700863912725458676901527178,
  2274256501874607667865124605113900717650,
  2409014671619348040441761276449306010915,
  2551757764919537704075887227501646888792,
  2702958918241092911455791304754747602672,
  2863119303148052670613150810459371546511,
  3032769787486578228995504414215181648764,
  3212472695000292731877546018972922339613]

/-- The linear value of a power of `p` quarter-dB steps, scaled; negative powers reach down to −1000 steps. Powers of ten
stay exact, so a sum that equals a limit exactly is within it. -/
def linear (p : Int) : Nat :=
  let e := (p + 1000).toNat
  powerScale.getD (e % 40) 0 * 10 ^ (e / 40)

/-- The least number of whole steps that brings the linear sum of the chains' powers within the limit, of at most `fuel`. -/
def lowerSteps (limit : Int) (ps : List Int) : Nat → Nat → Nat
  | 0, n => n
  | fuel + 1, n =>
    if (ps.map (fun p => linear (p - n))).sum ≤ linear limit then n else lowerSteps limit ps fuel (n + 1)

/-- The power of each used chain of a PPDU, and whether anything was lowered (R99 steps 1 and 2). -/
def ppduPower (s : State) (r : Nat) (c : TxCmd) : List (Nat × Int) × Bool :=
  let ks := bitList 16 c.chains
  let step1 := ks.map (fun k => (k, min (c.power : Int) (chainLimitEff s r k)))
  let n := lowerSteps (bandLimitEff s r c.subchannels) (step1.map (fun e => e.2)) 2000 0
  (step1.map (fun e => (e.1, e.2 - n)), (step1.any (fun e => decide (e.2 < (c.power : Int)))) || decide (0 < n))

/-! ### Duty (R100) -/

/-- The transmit time of the last second before `now`, in ns. -/
def dutyNs (now : Nat) (d : List (Nat × Nat)) : Nat :=
  (d.map (fun e => min now (e.1 + e.2) - max e.1 (now - 1000000000))).sum

/-- `duty_now`: in steps of 0.1 %. -/
def dutyNow (s : State) (r : Nat) : Nat := dutyNs s.now (radio s r).duty / 1000000

/-- The lapse of a grant (R102): a grant-requiring subchannel of the operating channel left with no active grant, or a
lower band cap; counted in the entry and reported from the radio sequencer. -/
def grantLapse (before : State) (r g : Nat) (after : State) : State :=
  let l := opChannels before r
  let bare := (grantNeeded before r l).any (fun c => (grantOn before r c).isSome && (grantOn after r c).isNone)
  if bare || decide (bandCap after r l < bandCap before r l) then
    report (bump after (O.grant_lapses r g)) 0x24 (hidOf after (r + 1) 0 2 0) 0
  else after

end Sys2Proof.Machine
end

