-- ==== Sys2Proof/Machine/Radio.lean ====
section
/-! DEFINITION. Transceivers and chains (R76 to R111): the radio state machine, transmit commands, calibration's end, FEM
lines, grants and derating. -/

namespace Sys2Proof.Machine

/-! ### State and target -/

/-- `radio_state` of R78: 0 OFF, 1 SLEEP, 2 STANDBY, 3 SETTLING, 4 RX, 5 TX, 6 CAL, 7 FAULT. -/
def rState (s : State) (r : Nat) : Nat := rd s (O.radio_state r)

/-- The radio's HID units (R75). -/
def synthHid (s : State) (r : Nat) : Nat := hidOf s (r + 1) 0 0 0
def sequencerHid (s : State) (r : Nat) : Nat := hidOf s (r + 1) 0 2 0

/-- `mute_cause` (R87): tx_mute, QUARANTINE, no programmed limits, FAULT. -/
def muteCause (s : State) (r : Nat) : Nat :=
  (if flag s (O.tx_mute r) then 1 else 0) + (if packageMode s = 12 then 2 else 0) +
  (if (radioFuse s.fuse r).programmed then 0 else 4) + (if rState s r = 7 then 8 else 0)

/-- The FEM pad group of radio `r` is latched (R455). -/
def femLatched (s : State) (r : Nat) : Bool := bit (rd s O.pad_latched) (2 + r)

/-- The radio's effective target under package or region mode `m` (R81, R446, R458). A die that is to be unpowered is in
SLEEP until its power goes (R447). -/
def effTargetIn (s : State) (m r : Nat) : Nat :=
  let t := rd s (O.radio_target r)
  if m < 4 then (if 4 ≤ packageMode s ∧ rd s (O.pd_state (6 + r)) = 2 ∧ t ≠ 0 then 1 else 0)
  else if m = 4 ∨ m = 5 then (if t = 0 then 0 else 1)
  else if m = 6 then 2
  else if femLatched s r && !(radio s r).trainFull then 1
  else t

/-- The radio's effective target now. -/
def effTarget (s : State) (r : Nat) : Nat := effTargetIn s (regionMode s (r + 1) 0) r

/-- `radio_state` set; the radio remembers having left OFF and having reached RX (R96). -/
def setRState (s : State) (r v : Nat) : State :=
  let x := radio s r
  wr (setRadio s r { x with leftOff := x.leftOff || decide (v ≠ 0), reachedRx := x.reachedRx || decide (v = 4) })
    (O.radio_state r) v

/-- The synthesiser's lock, as `synth_locked` shows it. -/
def setLocked (s : State) (r : Nat) (b : Bool) : State := setFlag s (O.synth_locked r) b

/-- A PPDU on air is cut: it is lost and the PAs are off (R77, R86). -/
def cutPpdu (s : State) (r : Nat) : State :=
  match (radio s r).onAir with
  | some c => send (setRadio s r { radio s r with onAir := none }) (.airCut r c.tag)
  | none => s

/-- The radio goes where its effective target says, as far as it can at once (R80): a PPDU in progress completes first,
a crystal must become stable and a synthesiser must lock. -/
def follow (s : State) (r : Nat) : State :=
  let t := effTarget s r
  let st := rState s r
  let x := radio s r
  if radioFitted s.fuse.part r = false ∨ st = 7 then s
  else if st = 5 ∧ t < 3 then setRadio s r { x with afterPpdu := some t }
  else if t = 0 then
    if st = 0 then s
    else setLocked (setRState (setRadio s r { x with crystal := false, afterPpdu := none, cmds := [] }) r 0) r false
  else if t = 1 then
    if st = 1 then setRadio s r { x with crystal := false }
    else setLocked (setRState (setRadio s r { x with crystal := false, afterPpdu := none }) r 1) r false
  else if st = 0 ∨ st = 1 then setRState (setRadio s r { x with crystal := true }) r 1
  else if t = 2 then
    if st = 2 ∨ x.trainFull then s else setLocked (setRState (setRadio s r { x with afterPpdu := none }) r 2) r false
  else if st = 2 then setRState s r 3
  else s

/-- A PPDU over (R80): back to RX; a change of channel that waited retunes the radio, a target that waited takes effect. -/
def ppduOver (s : State) (r : Nat) : State :=
  let s1 := setRState (setRadio s r { radio s r with onAir := none, afterPpdu := none, readyAt := s.now + 4000 }) r 4
  follow (if (radio s r).afterPpdu = some 4 then setLocked (setRState s1 r 3) r false else s1) r

/-- A mute cuts the PPDU on air, and the radio keeps receiving (R87). -/
def muteRadio (s : State) (r : Nat) : State := if rState s r = 5 then ppduOver (cutPpdu s r) r else s

/-- Every radio follows its effective target. -/
def followAll (s : State) : State := follow (follow (follow s 0) 1) 2

/-- The radio region loses its power: OFF whatever it was (R80). -/
def radioUnpowered (s : State) (r : Nat) : State :=
  let x : Radio := { radio s r with
    crystal := false, afterPpdu := none, cmds := [], onAir := none, cal := none, trainFull := false }
  setLocked (setRState (setRadio (cutPpdu s r) r x) r 0) r false

/-! ### Chains -/

/-- The enabled chains of radio `r`, rising. -/
def enabledChains (s : State) (r : Nat) : List Nat :=
  (bitList 16 (rd s (O.chain_enable r))).filter (fun k => k < chainsOf s.fuse.part r)

/-- Whether a calibration that has not yielded runs on chain `k` (R109). -/
def calibrating (s : State) (r k : Nat) : Bool :=
  let x := radio s r
  x.trainFull ||
  (match x.cal with
   | some c => !c.yielded && (decide (c.kind ≤ 2) || decide (c.chains.head? = some k))
   | none => false)

/-- `chain_state` of R109: 0 DISABLED, 1 SERVING, 2 CALIBRATING, 3 FAULT. -/
def chainState (s : State) (r k : Nat) : Nat :=
  if !(bit (rd s (O.chain_enable r)) k) then 0
  else if (radio s r).faulty.contains k then 3
  else if calibrating s r k then 2
  else 1

/-- A chain enters FAULT (R93, R511): counted and reported once. -/
def chainFault (s : State) (r k : Nat) : State :=
  if (radio s r).faulty.contains k then s
  else
    let x := radio s r
    report (bump (setRadio s r { x with faulty := k :: x.faulty, resetSince := x.resetSince.filter (fun j => j / 2 ≠ k) })
      (O.chain_faults r k)) 0x22 (hidOf s (r + 1) 1 k 0) 0

/-- A FEM output of chain `k`: whether it is driven, and whether TXEN and RXEN are asserted (R94, R96). A mute forces only
TXEN inactive. -/
def femDriven (s : State) (r k : Nat) : Bool := (radio s r).leftOff && decide (k < chainsOf s.fuse.part r)
def femInactive (s : State) (r k : Nat) : Bool :=
  !(bit (rd s (O.chain_enable r)) k) || (radio s r).faulty.contains k || decide (rState s r = 7) || decide (rState s r ≤ 2) ||
  !((radio s r).reachedRx)
def femTxen (s : State) (r k : Nat) : Bool :=
  femDriven s r k && !(femInactive s r k) && decide (muteCause s r = 0) &&
  (match (radio s r).onAir with | some c => bit c.chains k | none => false)
def femRxen (s : State) (r k : Nat) : Bool :=
  femDriven s r k && !(femInactive s r k) && decide (rState s r = 4) && !(femTxen s r k)

/-- The pin level of a FEM output: asserted or not, turned over where `fem_polarity` says active low (R96). -/
def femLevel (s : State) (r line : Nat) (asserted : Bool) : Bool := asserted ^^ bit (rd s (O.fem_polarity r)) line

/-! ### Transmit commands -/

/-- The latest start L of a command (R82). -/
def latestStart (c : TxCmd) : Nat := c.deadline - c.preamble

/-- The counter of a result in B + 0x03 (R85). -/
def resultCounter (r : Nat) : TxResult → Nat
  | .sent => O.tx_sent r
  | .muted => O.tx_muted r
  | .regBlocked => O.tx_reg_blocked r
  | .noGrant => O.tx_no_grant r
  | .dutyLimit => O.tx_duty_limit r
  | .busy => O.tx_busy r
  | .synthNotReady => O.tx_synth_not_ready r
  | .late => O.tx_late r

/-- A result counted and returned to the unit that issued the command (R85). -/
def txReport (s : State) (r : Nat) (c : TxCmd) (res : TxResult) : State :=
  let s := bump s (resultCounter r res)
  { s with txReports := s.txReports ++ [{ radio := r, cmd := c, result := res }] }

/-- A calibration that no command can interrupt holds the command's chains: FULL or PHASE_ALIGN (R91). -/
def calBlocks (x : Radio) (ks : List Nat) : Bool :=
  match x.cal with
  | some k => decide (k.kind ≤ 2) && !k.yielded && decide (ks ≠ [])
  | none => false

/-- Checks 1 to 6 of R83 in order: the first that fails gives the result. -/
def earlyChecks (s : State) (r : Nat) (c : TxCmd) : Option TxResult :=
  let x := radio s r
  let ks := bitList 16 c.chains
  if muteCause s r ≠ 0 then some .muted
  else if regBlocked s r c.subchannels then some .regBlocked
  else if noGrant s r c.subchannels then some .noGrant
  else if (radioFuse s.fuse r).dutyMax * 1000000 < dutyNs s.now x.duty + c.duration then some .dutyLimit
  else if rState s r = 6 ∨ calBlocks x ks then some .busy
  else if rState s r ≤ 2 then some .synthNotReady
  else none

/-- A transmit command that names a chain that is disabled or in FAULT has no such chain (R93): its usable chains. -/
def usableChains (s : State) (r : Nat) (c : TxCmd) : Nat :=
  ((bitList 16 c.chains).filter (fun k => !((radio s r).faulty.contains k))).foldl (fun a k => a + 2 ^ k) 0

/-- A command placed among those waiting, in start order; held commands keep theirs (R84). -/
def insertCmd (c : TxCmd) : List TxCmd → List TxCmd
  | [] => [c]
  | d :: t => if c.start.getD 0 < d.start.getD 0 then c :: d :: t else d :: insertCmd c t

/-- The earliest start E of a command when the radio is ready at `ready` (R83 check 9). A SIFS response starts SIFS after the
PPDU it answers, which is its L (R120). -/
def earliestStart (c : TxCmd) (ready : Nat) : Nat :=
  match c.start with
  | some t => max t ready
  | none => if c.issuer = .sifs then max (latestStart c) ready else ready

/-- The instant of TB96 from which the radio can send a first sample, at least `ramp` ns ahead (R79). -/
def readyInstant (s : State) (r ramp : Nat) : Nat := tbNs s + max ramp ((radio s r).readyAt - s.now)

/-- A command arrives at the radio (R83): dropped with its result, held while the radio settles, or kept for its start. -/
def offerCommand (s : State) (r : Nat) (c : TxCmd) : State :=
  match earlyChecks s r c with
  | some res => txReport s r c res
  | none =>
    if rState s r = 3 then setRadio s r { radio s r with cmds := insertCmd { c with held := true } (radio s r).cmds }
    else if latestStart c < earliestStart c (readyInstant s r 2000) then txReport s r c .late
    else setRadio s r { radio s r with cmds := insertCmd c (radio s r).cmds }

/-- Whether an interruptible calibration works on a chain that a command uses (R91). -/
def calHolds (k : CalRun) (c : TxCmd) : Bool :=
  decide (3 ≤ k.kind) && !k.yielded && (match k.chains.head? with | some j => bit c.chains j | none => false)

/-- An interruptible calibration yields to a command that needs its chain (R91): the step in progress is discarded. -/
def yieldCal (s : State) (r : Nat) (c : TxCmd) : State :=
  match (radio s r).cal with
  | some k =>
    if calHolds k c then
      bump (setRadio s r { radio s r with cal := some { k with yielded := true } }) (O.cal_yields r)
    else s
  | none => s

/-- A PPDU goes on air at E with its chains' powers lowered to the limits (R83 check 10, R99, R100). -/
def sendPpdu (s : State) (r : Nat) (c : TxCmd) (e : Nat) : State :=
  let c := { c with chains := usableChains s r c }
  let p := ppduPower s r c
  let powers : Tab Nat := p.1.map (fun x => (x.1, x.2.toNat))
  let x := radio s r
  let s1 := setRadio s r { x with
    onAir := some c, airPower := powers, gainCut := [], readyAt := s.now + (e - tbNs s) + c.duration + 4000,
    duty := (x.duty.filter (fun d => s.now < d.1 + d.2 + 1000000000)) ++ [(s.now, c.duration)] }
  let s2 := setRState s1 r 5
  let s3 := if p.2 then bump s2 (O.power_clamps r) else s2
  let s4 := if c.held then bump s3 (O.tx_held r) else s3
  txReport (send s4 (.air r e c powers)) r c .sent

/-- A command's start instant (R83): checked again, then sent at E or dropped with its result. While another PPDU is on air, E has not
come, and a command that is not yet too late goes on waiting. -/
def startCommand (s : State) (r : Nat) : State :=
  match (radio s r).cmds with
  | [] => s
  | c :: rest =>
    let s1 := setRadio s r { radio s r with cmds := rest }
    match earlyChecks s1 r c with
    | some res => txReport s1 r c res
    | none =>
      if rState s1 r = 3 then setRadio s1 r { radio s1 r with cmds := { c with held := true } :: rest }
      else
        let s2 := yieldCal s1 r c
        let e := earliestStart c (readyInstant s2 r 0)
        if latestStart c < e then txReport s2 r c .late
        else if rState s1 r = 5 then s
        else sendPpdu s2 r c e

/-- The commands held that lock comes too late for: those whose L minus 6 µs has passed (R84). -/
def abortLate (s : State) (r : Nat) : State :=
  let x := radio s r
  let late := x.cmds.filter (fun c => c.held && decide (latestStart c < tbNs s + 6000))
  let s1 := setRadio s r { x with cmds := x.cmds.filter (fun c => !(c.held && decide (latestStart c < tbNs s + 6000))) }
  late.foldl (fun t c => txReport t r c .synthNotReady) s1

/-! ### The events of the radio -/

/-- CRYSTAL_STABLE (R79): STANDBY, and on to SETTLING when the target is ON. -/
def execCrystalStable (r : Fin 3) (s : State) : Host.Outcome State Fault Refusal :=
  act s fun s =>
    let x := radio s r
    if rState s r = 1 ∧ x.crystal then
      let s1 := setRState (setRadio s r { x with crystal := false }) r 2
      if effTarget s1 r = 3 then setRState s1 r 3 else s1
    else s

/-- SYNTH_LOCK (R80, R84): the chains go to receive; held commands that lock comes too late for abort. -/
def execSynthLock (r : Fin 3) (s : State) : Host.Outcome State Fault Refusal :=
  act s fun s =>
    if rState s r = 3 then abortLate (setLocked (setRState (setRadio s r { radio s r with readyAt := s.now + 6000 }) r 4) r true) r else s

/-- SETTLE_TIMEOUT (R77): 200 µs without lock: PAs off, FAULT, kind 0x21. -/
def execSettleTimeout (r : Fin 3) (s : State) : Host.Outcome State Fault Refusal :=
  act s fun s =>
    if rState s r = 3 then report (setRState (cutPpdu s r) r 7) 0x21 (synthHid s r) 0 else s

/-- LOCK_LOST (R77): PAs off, a PPDU on air is cut, SETTLING, `lock_losses` and kind 0x20. -/
def execLockLost (r : Fin 3) (s : State) : Host.Outcome State Fault Refusal :=
  act s fun s =>
    if rState s r = 4 ∨ rState s r = 5 ∨ rState s r = 6 then
      report (bump (setRState (setLocked (cutPpdu s r) r false) r 3) (O.lock_losses r)) 0x20 (synthHid s r) 0
    else s

/-- TRANSMIT_COMMAND (R83). -/
def execTransmitCommand (r : Fin 3) (c : TxCmd) (s : State) : Host.Outcome State Fault Refusal :=
  act s fun s => if radioFitted s.fuse.part r then offerCommand s r { c with held := false } else s

/-- COMMAND_START (R83). -/
def execCommandStart (r : Fin 3) (s : State) : Host.Outcome State Fault Refusal :=
  act s fun s => startCommand s r

/-- HELD_COMMAND_ABORT (R84): the first held command reaches L minus 6 µs without lock. -/
def execHeldCommandAbort (r : Fin 3) (s : State) : Host.Outcome State Fault Refusal :=
  act s fun s =>
    match (radio s r).cmds with
    | c :: rest =>
      if c.held ∧ rState s r = 3 then txReport (setRadio s r { radio s r with cmds := rest }) r c .synthNotReady else s
    | [] => s

/-- PPDU_END (R80, R105, R109): back to RX; each used chain reports its PDET power; a target that waited takes effect,
and a change of channel retunes the radio. -/
def execPpduEnd (r : Fin 3) (pdet : List Nat) (s : State) : Host.Outcome State Fault Refusal :=
  act s fun s =>
    match (radio s r).onAir with
    | some c =>
      if rState s r = 5 then
        ppduOver (((bitList 16 c.chains).zip pdet).foldl (fun t e => wr t (O.chain_power r e.1) e.2) s) r
      else s
    | none => s

/-- TX_MUTE (R87): mutes or unmutes at once; a mute cuts the PPDU on air. -/
def execTxMute (r : Fin 3) (on : Bool) (s : State) : Host.Outcome State Fault Refusal :=
  act s fun s =>
    command s (O.tx_mute r) (if on then 1 else 0) fun s =>
      let s1 := setFlag s (O.tx_mute r) on
      (.ok, if on then muteRadio s1 r else s1)

/-- CAL_RESUME (R91): a yielded calibration takes its discarded step up again once no command waits. -/
def execCalResume (r : Fin 3) (s : State) : Host.Outcome State Fault Refusal :=
  act s fun s =>
    match (radio s r).cal with
    | some k =>
      if k.yielded ∧ (radio s r).cmds = [] ∧ (radio s r).onAir = none then
        setRadio s r { radio s r with cal := some { k with yielded := false } }
      else s
    | none => s

/-- CAL_LIMIT_TIMEOUT (R91): the calibration ends with TIMEOUT and the chain keeps its coefficients. -/
def execCalLimitTimeout (r : Fin 3) (s : State) : Host.Outcome State Fault Refusal :=
  act s fun s =>
    match (radio s r).cal with
    | some k =>
      if 3 ≤ k.kind then
        wr (setRadio s r { radio s r with cal := none }) (O.cal_result r) (Status.code .timeout)
      else s
    | none => s

/-- The engine unit of a calibration kind in its chain's cluster (R89). -/
def calEngine (kind : Nat) : Nat :=
  if kind = 3 then 11 else if kind = 4 then 3 else if kind = 5 then 4 else if kind = 6 then 1 else 5

/-- A failed plausibility check (R93): counted, kind 0x23 from the engine. -/
def calFailed (s : State) (r region cluster unit : Nat) : State :=
  report (bump s (O.cal_failures r)) 0x23 (hidOf s (r + 1) region cluster unit) 0

/-- A calibration of one chain finishes (R91, R93): new coefficients on success, and PREDISTORT restarts `pd_age`. -/
def chainCalEnd (s : State) (r : Nat) (k : CalRun) (chain : Nat) (ok : Bool) : State :=
  let x := radio s r
  if ok then
    let s1 := setRadio s r { x with
      coeff := x.coeff.put (chain * 16 + calEngine k.kind) (x.coeff.getD (chain * 16 + calEngine k.kind) 0 + 1),
      pdTemp := if k.kind = 3 then x.pdTemp.put chain (rd s (O.chain_temp r chain)) else x.pdTemp,
      pdAt := if k.kind = 3 then x.pdAt.put chain s.now else x.pdAt }
    wr s1 (O.cal_result r) 0
  else wr (calFailed s r 2 chain (calEngine k.kind)) (O.cal_result r) (Status.code .range)

/-- FULL finishes (R90, R93): chains whose calibration failed enter FAULT; a chain whose paths were reset leaves FAULT when
its FULL succeeds. -/
def fullEnd (s : State) (r : Nat) (failed : List Nat) : State :=
  let ks := (List.range (chainsOf s.fuse.part r))
  let s1 := failed.foldl (fun t k => if k ∈ ks then chainFault (calFailed t r 2 k 0) r k else t) s
  let x := radio s1 r
  let good := ks.filter (fun k => !(failed.contains k))
  let s2 := setRadio s1 r { x with
    faulty := x.faulty.filter (fun k => !(good.contains k && x.resetSince.contains (2 * k) && x.resetSince.contains (2 * k + 1))),
    pdTemp := good.foldl (fun c k => c.put k (rd s1 (O.chain_temp r k))) x.pdTemp,
    pdAt := good.foldl (fun c k => c.put k s.now) x.pdAt,
    coeff := good.foldl (fun c k => (List.range 12).foldl (fun c e => c.put (k * 16 + e) (c.getD (k * 16 + e) 0 + 1)) c) x.coeff }
  wr s2 (O.cal_result r) (if failed = [] then 0 else Status.code .range)

/-- CAL_END (R93): the calibration of the present chain, a radio-wide calibration, or the FULL of TRAIN finishes; `failed`
lists the chains whose plausibility check failed (for PHASE_ALIGN, any entry means its check failed). -/
def execCalEnd (r : Fin 3) (failed : List Nat) (s : State) : Host.Outcome State Fault Refusal :=
  act s fun s =>
    let x := radio s r
    if x.trainFull then
      let s1 := fullEnd (setRadio s r { x with trainFull := false }) r failed
      let s2 := { s1 with boot := { s1.boot with fulls := s1.boot.fulls.filter (fun j => j ≠ r) } }
      if packageMode s2 = 6 then setLocked (setRState s2 r 2) r false else follow (setRState s2 r 4) r
    else match x.cal with
      | none => s
      | some k =>
        if k.kind = 1 then
          follow (setRState (fullEnd (setRadio s r { x with cal := none }) r failed) r 4) r
        else if k.kind = 2 then
          let s1 := setRadio s r { x with cal := none }
          let s2 := if failed = [] then wr s1 (O.cal_result r) 0
            else wr (calFailed s1 r 2 16 1) (O.cal_result r) (Status.code .range)
          follow (setRState s2 r 4) r
        else match k.chains with
          | [] => setRadio s r { x with cal := none }
          | c :: rest =>
            let s1 := chainCalEnd s r k c (!(failed.contains c))
            if rest = [] then setRadio s1 r { radio s1 r with cal := none }
            else setRadio s1 r { radio s1 r with cal := some { k with chains := rest, step := 0 } }

/-- PDET_OVERSHOOT (R99 step 3): a reading more than 0.5 dB above the effective chain limit has its excess cut. -/
def execPdetOvershoot (r : Fin 3) (chain : Fin 16) (reading : Nat) (s : State) : Host.Outcome State Fault Refusal :=
  act s fun s =>
    let lim := chainLimitEff s r chain
    if (radio s r).onAir.isSome ∧ lim + 2 < (reading : Int) then
      let x := radio s r
      report (bump (setRadio s r { x with gainCut := x.gainCut.put chain ((reading : Int) - lim).toNat })
        (O.power_overshoots r)) 0x26 (hidOf s (r + 1) 1 chain 0) 0
    else s

/-! ### Grants -/

/-- The checks of INSTALL (R102, R103) on the staged sub-indices. -/
def grantInstallCheck (s : State) (r g : Nat) : Status :=
  let f := radioFuse s.fuse r
  let a := rd s (O.grant_first r g)
  let b := rd s (O.grant_last r g)
  if b < a ∨ channelSet f.channels a = false ∨ channelSet f.channels b = false ∨ f.bandMax < rd s (O.grant_power r g) ∨
      nsOf80 (rd s (O.grant_expiry r g)) < tbNs s + 1000000000 then .range
  else if timeValid s = false then .busy
  else .ok

/-- GRANT_INSTALL (R102): the entry becomes ACTIVE with the staged parameters. -/
def grantInstall (s : State) (r g : Nat) : Status × State :=
  match grantInstallCheck s r g with
  | .ok =>
    let x := radio s r
    let e : Grant :=
      { first := rd s (O.grant_first r g), last := rd s (O.grant_last r g), power := rd s (O.grant_power r g),
        expiry := nsOf80 (rd s (O.grant_expiry r g)) }
    (.ok, wr (setRadio s r { x with grants := x.grants.put g e }) (O.grant_state r g) 1)
  | st => (st, s)

def execGrantInstall (r : Fin 3) (g : Fin 16) (s : State) : Host.Outcome State Fault Refusal :=
  act s fun s => command s (O.grant_cmd r g) 1 fun s => grantInstall s r g

/-- GRANT_REVOKE (R102): an ACTIVE entry becomes REVOKED; a lapse is counted. -/
def grantRevoke (s : State) (r g : Nat) : Status × State :=
  if rd s (O.grant_state r g) = 1 then (.ok, grantLapse s r g (wr s (O.grant_state r g) 3)) else (.ok, s)

def execGrantRevoke (r : Fin 3) (g : Fin 16) (s : State) : Host.Outcome State Fault Refusal :=
  act s fun s => command s (O.grant_cmd r g) 2 fun s => grantRevoke s r g

/-- GRANT_EXPIRY (R102): the time base has reached the entry's expiry. -/
def execGrantExpiry (r : Fin 3) (g : Fin 16) (s : State) : Host.Outcome State Fault Refusal :=
  act s fun s =>
    match (radio s r).grants.look g with
    | some x =>
      if rd s (O.grant_state r g) = 1 ∧ x.expiry ≤ tbNs s then grantLapse s r g (wr s (O.grant_state r g) 2) else s
    | none => s

/-! ### Temperature and FEM supply -/

/-- The derating that `die_temp` and `derate_start` give (R107): one step for each whole °C above, up to 24; reaching 24 reports
kind 0x25. -/
def derateDie (s : State) (r : Nat) : State :=
  let n := min 24 (rdI s (O.die_temp r) - (rd s (O.derate_start r) : Int)).toNat
  let s1 := wr s (O.thermal_derate r) n
  if n = 24 ∧ rd s (O.thermal_derate r) < 24 then report s1 0x25 (hidOf s (r + 1) 2 16 2) 0 else s1

/-- THERMAL_DERATE_UPDATE (R107). -/
def execThermalDerateUpdate (r : Fin 3) (celsius : Int) (s : State) : Host.Outcome State Fault Refusal :=
  act s fun s =>
    if radioFitted s.fuse.part r then derateDie (wrI s (O.die_temp r) celsius) r else s

/-- VFEM_LOW (R511): while the die is powered every enabled chain enters FAULT. -/
def execVfemLow (r : Fin 3) (s : State) : Host.Outcome State Fault Refusal :=
  act s fun s =>
    if rd s (O.pd_state (6 + r)) = 2 then (enabledChains s r).foldl (fun t k => chainFault t r k) s else s

end Sys2Proof.Machine
end

