-- ==== Sys2Proof/Machine/Steward.lean ====
section
/-! DEFINITION. The Steward (R478 to R487): maintenance activities, their admission and compatibility, their starts and ends,
JOINT_ALIGN across the twin, and the condition of paired transmission that an alignment feeds (R206 to R208). -/

namespace Sys2Proof.Machine

/-- The Ledger store and the Steward arbiter as sources (R532, R478). -/
def ledgerHid (s : State) : Nat := hidOf s 0 0 2 0
def stewardHid (s : State) : Nat := hidOf s 0 11 1 0

/-! ### Paired transmission's condition -/

/-- PAIR_READY as this module shows it: its radio C serves on the lead's channel, unmuted, and passes checks 2 and 3 of R83
(R207). -/
def ownPairReady (s : State) : Bool :=
  (decide (rState s 2 = 4) || decide (rState s 2 = 5)) && decide (muteCause s 2 = 0) &&
  !(regBlocked s 2 (opChannels s 2)) && !(noGrant s 2 (opChannels s 2))

/-- PAIR_READY of the follower, as the lead last heard it or as the follower finds it. -/
def pairReadyBit (s : State) : Bool :=
  if roleMode s = 9 then ownPairReady s
  else match s.twin.hb with
    | some h => h.pairReady
    | none => false

/-- `pair_suspend_cause` (R208). -/
def pairCause (s : State) : Nat :=
  (if flag s O.pair_enable then 0 else 1) + (if twinState s = 3 then 0 else 2) + (if 3 ≤ lanesUp s then 0 else 4) +
  (if s.twin.alignedAt.isSome && !s.twin.alignAged then 0 else 8) +
  (if rd s O.align_residual ≤ rd s O.align_limit then 0 else 16) + (if pairReadyBit s then 0 else 32)

/-- `pair_state` follows its conditions (R207): READY while all hold, else SUSPENDED, with kind 0x4E at each entry. It reads
OFF while the package has no place in a pair (DEDUCED from its default, log 10). -/
def pairRefresh (s : State) : State :=
  if pairedFitted s.fuse.part = false then s
  else
    let c := pairCause s
    let s1 := wr s O.pair_suspend_cause c
    if roleMode s ≠ 8 ∧ roleMode s ≠ 9 then wr s1 O.pair_state 0
    else if c = 0 then wr s1 O.pair_state 1
    else if rd s O.pair_state = 2 then s1
    else report (wr s1 O.pair_state 2) 0x4E (hidOf s 0 2 4 0) 0

/-! ### Activities -/

/-- A radio-wide activity (R479). -/
def radioWide (a : Nat) : Bool := decide (a = 1 ∨ a = 2 ∨ a = 4)

/-- The radio an activity works on (R481): JOINT_ALIGN counts on radio C. -/
def activityRadio (a target : Nat) : Nat := if a = 4 then 2 else hidDie target - 1

/-- Two activities may run at the same time (R481). -/
def compatible (a ta b tb : Nat) : Bool :=
  if a ≤ 4 ∧ b ≤ 4 then !(decide (a = 4) && decide (b = 4)) && decide (activityRadio a ta ≠ activityRadio b tb)
  else if a ≤ 4 ∨ b ≤ 4 then true
  else if a = 7 ∧ b = 7 then decide (hidRegion ta ≠ hidRegion tb)
  else decide (a = 7 ∨ b = 7)

/-- The module is in a mode where the activity is admitted (R479). -/
def admittedIn (s : State) (a target : Nat) : Bool :=
  let m := packageMode s
  if a = 1 then decide (modeOf s target = 11)
  else if a = 2 ∨ a = 3 then decide (m = 7 ∨ m = 8 ∨ m = 9 ∨ m = 11)
  else if a = 4 then decide (roleMode s = 8) && decide (twinState s = 3)
  else if a = 5 ∨ a = 6 then decide (m = 7 ∨ m = 8 ∨ m = 9 ∨ m = 11 ∨ m = 12)
  else decide (a = 7) && decide (m ≠ 10) && decide (modeOf s target = 11)

/-- The target is of the activity's level (R479). -/
def levelOk (s : State) (a t : Nat) : Bool :=
  !(hidMalformed t) && hidOwn s t &&
  (if a = 1 ∨ a = 2 then decide (1 ≤ hidDie t ∧ hidDie t ≤ 3 ∧ hidRegion t = 15)
   else if a = 3 then decide (1 ≤ hidDie t ∧ hidDie t ≤ 3 ∧ hidRegion t = 2 ∧ hidUnit t = 255 ∧ (hidCluster t = 63 ∨ hidCluster t < 16))
   else if a = 4 then decide (t = hidOf s 3 15 63 255)
   else if a = 5 then decide (t = hidOf s 4 15 63 255)
   else if a = 6 then decide (t = packageHid s)
   else decide (hidDie t = 0 ∧ hidCluster t = 63 ∧ hidRegion t ∈ [1, 2, 3, 4, 5, 6, 7, 9, 12]))

/-- Running activities, the JOINT_ALIGN in flight among them (R481). -/
def runningNow (s : State) : List Activity := s.steward.running ++ s.steward.inflight.toList

/-- Compatible with each of a list, and within `radio_wide_max` beside what runs (R481). -/
def fits (s : State) (a t : Nat) (others : List Activity) : Bool :=
  others.all (fun o => compatible a t o.activity o.target) &&
  (!(radioWide a) || decide (((runningNow s).filter (fun o => radioWide o.activity)).length < rd s O.radio_wide_max)) &&
  decide (s.steward.running.length < 16)

/-- `region_status` bits 1 to 3 read 0 while a retrain runs (R365). -/
def retrainStart (s : State) : State :=
  wr (wr { s with steward := { s.steward with regions := rd s O.region_status } } O.region_status (rd s O.region_status % 2))
    O.dram_state 5

/-- `region_status` bits 1 to 3 return (R365). -/
def retrainStop (s : State) : State :=
  if rd s O.dram_state = 5 then wr (wr s O.region_status s.steward.regions) O.dram_state 3 else s

/-- The chains a CAL_CHAIN works on, in turn (R89). -/
def calChains (s : State) (e : Activity) : List Nat :=
  if hidCluster e.target = 63 then enabledChains s (activityRadio e.activity e.target) else [hidCluster e.target]

/-- An activity begins (R483): a radio-wide one takes its radio to CAL, a chain's calibration begins its first step, a retrain
takes the regions. -/
def startActivity (s : State) (e : Activity) : State :=
  let s := bump s (O.act_runs e.activity)
  let r := activityRadio e.activity e.target
  let x := radio s r
  if e.activity = 1 ∨ e.activity = 2 then
    let run : CalRun := { kind := e.activity, chains := [], step := 0, started := s.now, yielded := false }
    let s1 := setRadio s r { x with cal := some run }
    if rState s1 r = 4 then setRState s1 r 6 else s1
  else if e.activity = 3 then
    setRadio s r { x with cal := some { kind := e.kind, chains := calChains s e, step := 0, started := s.now, yielded := false } }
  else if e.activity = 4 then
    let s1 := setRadio s 2 { radio s 2 with duty := (radio s 2).duty ++ [(s.now, 600000)] }
    if rState s1 2 = 4 then setRState s1 2 6 else s1
  else if e.activity = 5 then retrainStart s
  else s

/-- An activity is put among the running ones: a radio-wide one is ADMITTED until its boundary, any other starts at once
(R483). -/
def enterRunning (s : State) (e : Activity) : State :=
  let s := bump s O.maint_admitted
  if radioWide e.activity then
    { s with steward := { s.steward with running := s.steward.running ++ [{ e with state := 2, late := s.planClosed }] } }
  else
    startActivity { s with steward := { s.steward with
      running := s.steward.running ++ [{ e with state := 3, since := tbNs s }] } } e

/-- The Steward admits an activity (R482, R485): a JOINT_ALIGN is in flight until the follower answers. -/
def admitActivity (s : State) (e : Activity) : State :=
  if e.activity = 4 ∧ roleMode s = 8 then
    varlanSend { s with steward := { s.steward with inflight := some e, answeredWait := false } } 1 .alignRequest
  else enterRunning s e

/-- The scan of the queue from the oldest entry (R482): an entry is admitted when it is compatible with what runs and with
every older entry still queued, and its conditions hold; `kept` holds the older entries that stay. -/
def scanFrom (s : State) (kept : List Activity) : List Activity → State
  | [] => { s with steward := { s.steward with queue := kept } }
  | e :: rest =>
    if admittedIn s e.activity e.target && fits s e.activity e.target (runningNow s ++ kept) then
      scanFrom (admitActivity s e) kept rest
    else scanFrom s (kept ++ [e]) rest

/-- A follower's reservation of its radio C for the lead's JOINT_ALIGN, with its answer ADMIT (R485). -/
def reserveAlign (s : State) : State :=
  let e : Activity := { activity := 4, target := hidOf s 3 15 63 255, requester := hidOf s 0 11 8 0, kind := 0, state := 2,
                        since := tbNs s, late := false }
  varlanSend (enterRunning { s with steward := { s.steward with waitingPeer := false } } e) 1 (.alignAnswer true)

/-- Whether the follower's own table admits the lead's JOINT_ALIGN (R485). -/
def alignFits (s : State) : Bool := fits s 4 (hidOf s 3 15 63 255) (runningNow s ++ s.steward.queue)

/-- The scan at an activity's end and at each change of package mode (R482, R485). -/
def scanQueue (s : State) : State :=
  let s1 := scanFrom s [] s.steward.queue
  if s1.steward.waitingPeer && alignFits s1 then reserveAlign s1 else s1

/-- A request to the Steward, judged in the order of R480. -/
def stewardRequest (s : State) (a target requester kind : Nat) : Status × State :=
  if hidFitted s target = false then (.absent, s)
  else if admittedIn s a target = false then (.denied, s)
  else if levelOk s a target = false then (.range, s)
  else if (runningNow s).any (fun o => decide (o.activity = a ∧ o.target = target)) ∨ 32 ≤ s.steward.queue.length then (.busy, s)
  else if s.steward.queue.any (fun o => decide (o.activity = a ∧ o.target = target)) then (.deferred, s)
  else
    let e : Activity := { activity := a, target := target, requester := requester, kind := kind, state := 1, since := tbNs s,
                          late := false }
    if fits s a target (runningNow s ++ s.steward.queue) then (.ok, admitActivity s e)
    else (.deferred, bump { s with steward := { s.steward with queue := s.steward.queue ++ [e] } } O.maint_deferred)

/-- A unit raises an activity itself (R480): a refusal is counted and reported as kind 0x81. -/
def stewardRaise (s : State) (a target requester kind : Nat) : State :=
  match stewardRequest s a target requester kind with
  | (.ok, t) => t
  | (.deferred, t) => t
  | (_, t) => report (bump t O.maint_refused) 0x81 (stewardHid s) (a + target * 256)

/-- The record an end leaves (R483). -/
def recordEnd (s : State) (e : Activity) (st : Status) : State :=
  let s1 := wr (wr s (O.act_last_result e.activity) st.code) (O.act_last_end e.activity) (now80 s)
  if e.activity ≤ 3 then wr s1 (O.cal_result (activityRadio e.activity e.target)) st.code else s1

/-- The activity's engine stops where it is (R483, R484): previous values stay in force. -/
def stopEngine (s : State) (e : Activity) : State :=
  let r := activityRadio e.activity e.target
  if e.activity ≤ 4 ∧ e.state = 3 then
    let s1 := setRadio s r { radio s r with cal := none }
    if rState s1 r = 6 then follow (setRState s1 r 4) r else s1
  else if e.activity = 5 then retrainStop s
  else s

/-- An entry taken out of the running table. -/
def dropRunning (s : State) (a target : Nat) : State :=
  { s with steward := { s.steward with
      running := s.steward.running.filter (fun o => !(decide (o.activity = a) && decide (o.target = target))) } }

/-- The running entry of an activity and target. -/
def findRunning (s : State) (a target : Nat) : Option Activity :=
  s.steward.running.find? (fun o => decide (o.activity = a ∧ o.target = target))

/-- A running activity is aborted with DENIED (R484). -/
def abortActivity (s : State) (e : Activity) : State :=
  recordEnd (stopEngine (bump (dropRunning s e.activity e.target) O.maint_aborted) e) e .denied

/-- R484 at an apply boundary or a fast-path change: running activities outside their modes are aborted, and entry to TAKEOVER
ends any JOINT_ALIGN. A follower's reservation stands while the twin is SYNCED. -/
def abortOutside (s : State) : State :=
  let gone := s.steward.running.filter (fun e =>
    if e.activity = 4 then
      !(decide (roleMode s = 8 ∨ roleMode s = 9) && decide (twinState s = 3)) || decide (packageMode s = 10)
    else !(admittedIn s e.activity e.target))
  let s1 := gone.foldl abortActivity s
  if packageMode s = 10 then { s1 with steward := { s1.steward with inflight := none, waitingPeer := false } } else s1

/-- The twin has left SYNCED: a JOINT_ALIGN in flight goes back to the queue as DEFERRED (R485). -/
def alignBack (s : State) : State :=
  match s.steward.inflight with
  | some e =>
    bump { s with steward := { s.steward with inflight := none, answeredWait := false, queue := s.steward.queue ++ [{ e with state := 1 }] } }
      O.maint_deferred
  | none => s

/-- Admitted radio-wide activities start at a boundary whose plan was open when they were admitted (R483). -/
def startAdmitted (s : State) : State :=
  let now := s.steward.running.filter (fun e => decide (e.state = 2) && !e.late)
  let s1 := { s with steward := { s.steward with running := s.steward.running.map (fun e =>
    if e.state = 2 then (if e.late then { e with late := false } else { e with state := 3, since := tbNs s }) else e) } }
  now.foldl startActivity s1

/-! ### The commands -/

/-- The target and activity of a calibration (R89, R479): a radio-wide kind names the die, a chain kind the engines' cluster
of its chain, or the calibration region for every enabled chain. -/
def calActivity (kind : Nat) : Nat := if kind ≤ 2 then kind else 3
def calTarget (s : State) (r kind chain : Nat) : Nat :=
  if kind ≤ 2 then hidOf s (r + 1) 15 63 255
  else if chain = 0xFF then hidOf s (r + 1) 2 63 255
  else hidOf s (r + 1) 2 chain 255

/-- CAL_CMD (R92): a calibration requested through `cal_cmd` as a maintenance activity. -/
def execCalCmd (r : Fin 3) (s : State) : Host.Outcome State Fault Refusal :=
  act s fun s => command s (O.cal_cmd r) 1 fun s =>
    let k := rd s (O.cal_kind r)
    stewardRequest s (calActivity k) (calTarget s r k (rd s (O.cal_chain r))) (ledgerHid s) k

/-- PREDISTORT_TEMP_RAISE (R92): the chain's temperature has moved `cal_temp_step` or more since its last PREDISTORT. -/
def execPredistortTempRaise (r : Fin 3) (chain : Fin 16) (celsius : Int) (s : State) : Host.Outcome State Fault Refusal :=
  act s fun s =>
    if (chain : Nat) < chainsOf s.fuse.part r then
      let s1 := wrI s (O.chain_temp r chain) celsius
      match (radio s r).pdTemp.look chain with
      | some t =>
        if (rd s (O.cal_temp_step r) : Int) ≤ (celsius - toSigned 32 t).natAbs then
          stewardRaise s1 3 (hidOf s (r + 1) 2 chain 255) (hidOf s (r + 1) 2 chain 11) 3
        else s1
      | none => s1
    else s

/-- MAINT_REQUEST (R480): `mreq_cmd` REQUEST, or a unit's own request. -/
def execMaintRequest (u : Option MaintRaise) (s : State) : Host.Outcome State Fault Refusal :=
  act s fun s =>
    match u with
    | none => command s O.mreq_cmd 1 fun s =>
        stewardRequest s (rd s O.mreq_activity) (rd s O.mreq_target) (ledgerHid s) 0
    | some x => stewardRaise s x.activity x.target x.requester x.kind

/-- MAINT_CANCEL (R492): a queued entry is removed with DENIED; a running one returns BUSY. -/
def maintCancel (s : State) : Status × State :=
  let a := rd s O.mreq_activity
  let t := rd s O.mreq_target
  if (runningNow s).any (fun o => decide (o.activity = a ∧ o.target = t)) then (.busy, s)
  else match s.steward.queue.find? (fun o => decide (o.activity = a ∧ o.target = t)) with
    | some e =>
      (.ok, recordEnd { s with steward := { s.steward with
        queue := s.steward.queue.filter (fun o => !(decide (o.activity = a) && decide (o.target = t))) } } e .denied)
    | none => (.ok, s)

def execMaintCancel (s : State) : Host.Outcome State Fault Refusal :=
  act s fun s => command s O.mreq_cmd 2 maintCancel

/-- ACTIVITY_BOUND (R483): the bound of R479 passes; the engine is reset, and kind 0x80 is reported. A CAL_CHAIN has no bound
here: R91 ends it. -/
def execActivityBound (activity target : Nat) (s : State) : Host.Outcome State Fault Refusal :=
  act s fun s =>
    match findRunning s activity target with
    | some e =>
      if e.state = 3 ∧ activity ≠ 3 then
        let s1 := recordEnd (stopEngine (bump (dropRunning s activity target) O.maint_timeouts) e) e .timeout
        scanQueue (report s1 0x80 (stewardHid s) (activity + target * 256))
      else s
    | none => s

/-- QUEUE_LIMIT_EXPIRE (R482): the entry queued for longer than `queue_limit` is removed with TIMEOUT. -/
def execQueueLimitExpire (i : Fin 32) (s : State) : Host.Outcome State Fault Refusal :=
  act s fun s =>
    match s.steward.queue[(i : Nat)]? with
    | some e =>
      let s1 := recordEnd { s with steward := { s.steward with queue := s.steward.queue.eraseIdx i } } e .timeout
      report (bump s1 O.maint_expired) 0x80 (stewardHid s) (e.activity + e.target * 256)
    | none => s

/-- ALIGN_ANSWER (R485): ADMIT admits the JOINT_ALIGN in flight; WAIT leaves it in flight. -/
def execAlignAnswer (v : VHead) (admitted : Bool) (s : State) : Host.Outcome State Fault Refusal :=
  act s fun s => onMessage s 1 v fun s =>
    match s.steward.inflight with
    | some e =>
      if admitted then
        enterRunning { s with steward := { s.steward with inflight := none, answeredWait := false } } { e with since := tbNs s }
      else { s with steward := { s.steward with answeredWait := true } }
    | none => s

/-- ALIGN_ANSWER_TIMEOUT (R485): no answer within 100 µs. -/
def execAlignAnswerTimeout (s : State) : Host.Outcome State Fault Refusal :=
  act s fun s => if s.steward.answeredWait then s else alignBack s

/-- ALIGN_TIMER (R479): `align_interval` passes; the twin unit requests JOINT_ALIGN. The timer runs where the request could be
admitted, so that a module that is no lead of a SYNCED pair requests nothing (DEDUCED, log 11). -/
def execAlignTimer (s : State) : Host.Outcome State Fault Refusal :=
  act s fun s =>
    if pairedFitted s.fuse.part && admittedIn s 4 0 then
      stewardRaise s 4 (hidOf s 3 15 63 255) (hidOf s 0 11 8 0) 0
    else s

/-- ALIGN_REQUEST_RECEIVED (R485): the follower judges the lead's request against its own table and answers ADMIT or WAIT. -/
def execAlignRequestReceived (v : VHead) (s : State) : Host.Outcome State Fault Refusal :=
  act s fun s => onMessage s 1 v fun s =>
    if roleMode s = 9 then
      if alignFits s then reserveAlign s
      else varlanSend { s with steward := { s.steward with waitingPeer := true } } 1 (.alignAnswer false)
    else s

/-- ALIGN_AGE_EXPIRE (R207): the last successful JOINT_ALIGN is older than `align_max_age`. -/
def execAlignAgeExpire (s : State) : Host.Outcome State Fault Refusal :=
  act s fun s =>
    if s.twin.alignedAt.isSome then pairRefresh { s with twin := { s.twin with alignAged := true } } else s

/-- SURVEY_TIMER (R479): every 600 s the Surveyor requests SURVEY, in the modes it may run in. -/
def execSurveyTimer (s : State) : Host.Outcome State Fault Refusal :=
  act s fun s => stewardRaise s 6 (packageHid s) (hidOf s 0 12 0 0) 0

/-- MEM_SURVEY_TIMER (R479, R493): `mem_survey_interval` passes; MEM_SURVEY is requested of each hub region that is in
SERVICE. -/
def execMemSurveyTimer (s : State) : Host.Outcome State Fault Refusal :=
  act s fun s =>
    ([1, 2, 3, 4, 5, 6, 7, 9, 12].filter (fun g => decide (regionMode s 0 g = 11))).foldl
      (fun t g => stewardRaise t 7 (hidOf s 0 g 63 255) (hidOf s 0 12 0 0) 0) s

end Sys2Proof.Machine
end

