-- ==== Sys2Proof/Machine/Cellarer.lean ====
section
/-! DEFINITION. The Cellarer (R358 to R372): the channels' commands, refresh, training and tracking, the patrol scrubber, and the
regions' return. -/

namespace Sys2Proof.Machine

/-- The training engine and the patrol scrubber as sources (R354). -/
def trainHid (s : State) : Nat := hidOf s 0 8 1 2
def scrubberHid (s : State) : Nat := hidOf s 0 8 1 1

/-! ### Commands of a channel (R359, R360) -/

/-- A request may go: none of an earlier instant to its block waits that it must follow (R360). A read finds buffered writes'
data, so only what arrived before a write holds it back. -/
def mayGo (c : Channel) (q : DramReq) : Bool :=
  !q.write || !(c.reqs.any (fun x => decide (x.block = q.block ∧ (x.since < q.since ∨ (x.since = q.since ∧ x.port ≤ q.port)))))

/-- Whether the write buffer drains: from 48 blocks, or while no read waits, until it is empty. -/
def drains (c : Channel) : Bool :=
  !(c.writes.isEmpty) && (c.draining || decide (48 ≤ c.writes.length) || c.reqs.isEmpty)

/-- The requests among which a channel chooses, oldest first. -/
def eligibleReqs (c : Channel) : List DramReq := (if drains c then c.writes else c.reqs).filter (mayGo c)

/-- Rules 2 to 4 of R359, after the floor of port 4. -/
def urgentReq (s : State) (c : Channel) : Option DramReq :=
  let l := eligibleReqs c
  let floor := if 31 ≤ c.since4 then l.find? (fun q => q.port = 4) else none
  let panic := s.dram.panic.foldl (fun (a : Option DramReq) e => match a with
    | some q => some q
    | none => l.find? (fun q => q.port = e.1)) none
  match floor, panic with
  | some q, _ => some q
  | none, some q => some q
  | none, none =>
    match l.find? (fun q => q.since + 2000 ≤ s.now) with
    | some q => some q
    | none => l.find? (fun q => decide (c.openRow.look q.bank = some q.row))

/-- Banks that owe at least `n` refreshes. -/
def owing (c : Channel) (n : Nat) : List Nat := (List.range 16).filter (fun b => decide (n ≤ c.owed.getD b 0))

/-- A refresh of one of some banks (R359 rules 1 and 5); which of several is free (log 1). -/
def refreshOne (s : State) (ch : Nat) (banks : List Nat) : State :=
  let c := channel s ch
  match banks[freeBelow s banks.length]? with
  | some b =>
    let c1 := { c with owed := c.owed.put b (c.owed.getD b 0 - 1), openRow := c.openRow.del b, since4 := c.since4 + 1 }
    send (setChannel (freeNext s) ch c1) (.dram ch b 0 0)
  | none => s

/-- A request is served: its row is open, and its bytes count (R371). -/
def serveReq (s : State) (ch : Nat) (q : DramReq) : State :=
  let c := channel s ch
  let c1 := { c with
    reqs := if q.write then c.reqs else c.reqs.erase q, writes := if q.write then c.writes.erase q else c.writes,
    draining := drains c, openRow := c.openRow.put q.bank q.row, since4 := if q.port = 4 then 0 else c.since4 + 1 }
  panicLevels (send (bumpBy (setChannel s ch { c1 with draining := c1.draining && !(c1.writes.isEmpty) }) (O.dp_bytes q.port) 256)
    (.dram ch q.bank q.row (if q.write then 2 else 1)))

/-- CHANNEL_COMMAND (R359): the first rule that applies gives the next command. -/
def execChannelCommand (ch : Fin 8) (s : State) : Host.Outcome State Fault Refusal :=
  act s fun s =>
    let c := channel s ch
    if rd s O.dram_state ≠ 3 then s
    else if owing c 8 ≠ [] then refreshOne s ch (owing c 8)
    else match urgentReq s c with
      | some q => serveReq s ch q
      | none =>
        if owing c 1 ≠ [] then refreshOne s ch (owing c 1)
        else match eligibleReqs c with
          | q :: _ => serveReq s ch q
          | [] => s

/-- REFRESH_DUE (R361): while the dies are clocked; the deepest postponement is kept. -/
def execRefreshDue (ch : Fin 8) (bank : Fin 16) (s : State) : Host.Outcome State Fault Refusal :=
  act s fun s =>
    let st := rd s O.dram_state
    if st = 2 ∨ st = 3 ∨ st = 5 then
      let c := channel s ch
      let n := c.owed.getD bank 0 + 1
      wr (setChannel s ch { c with owed := c.owed.put bank n }) (O.ch_postponed_max ch) (max (rd s (O.ch_postponed_max ch)) (min 8 n))
    else s

/-- One die's MR4 (R361): the factor acts from the next refresh; a die that comes to report 4 reports kind 0x64. -/
def mr4One (s : State) (ch factor : Nat) (temp : Int) : State :=
  if factor = 1 ∨ factor = 2 ∨ factor = 4 then
    let s1 := wr (wrI s (O.ch_temp ch) temp) (O.ch_rate_factor ch) factor
    if factor = 4 ∧ rd s (O.ch_rate_factor ch) ≠ 4 then report s1 0x64 (channelHid s ch) 0 else s1
  else s

/-- MR4_READ (R361): while the dies are powered and not in self-refresh. -/
def execMr4Read (factors : List Nat) (temps : List Int) (s : State) : Host.Outcome State Fault Refusal :=
  act s fun s =>
    let st := rd s O.dram_state
    if st = 2 ∨ st = 3 ∨ st = 5 then
      (List.range 8).foldl (fun t ch => mr4One t ch (factors.getD ch 0) (temps.getD ch 0)) s
    else s

/-- WCK_TRACKING (R364): while serving. -/
def execWckTracking (ch : Fin 8) (trim : Int) (s : State) : Host.Outcome State Fault Refusal :=
  act s fun s => if rd s O.dram_state = 3 ∧ 7 ≤ packageMode s then bump (wrI s (O.ch_wck_trim ch) trim) (O.ch_tracks ch) else s

/-! ### Training (R363, R365) -/

/-- A channel's temperature is kept at its training. -/
def trainedNow (s : State) (ch : Nat) : State :=
  setDram s { s.dram with trainedTemp := s.dram.trainedTemp.put ch (rdI s (O.ch_temp ch)), trainedAt := s.now }

/-- The channels whose training runs: every one at first, then those that failed once or twice. -/
def inTraining (s : State) : List Nat :=
  if s.dram.attempts = [] then List.range 8 else (List.range 8).filter (fun ch => decide (s.dram.attempts.getD ch 0 = 1 ∨ s.dram.attempts.getD ch 0 = 2))

/-- One attempt of a channel ends: OK, a further attempt, or TIMEOUT after three. -/
def trainOne (s : State) (ch : Nat) (ok : Bool) : State :=
  if ok then trainedNow (wr (setDram s { s.dram with attempts := s.dram.attempts.put ch 4 }) (O.ch_train_result ch) 0) ch
  else
    let n := s.dram.attempts.getD ch 0 + 1
    let s1 := setDram s { s.dram with attempts := s.dram.attempts.put ch n }
    if n = 3 then wr s1 (O.ch_train_result ch) (Status.code .timeout) else s1

/-- DRAM_TRAIN_DONE (R363): `failed` lists the channels whose attempt failed. With none left to try, the dies are initialised, or
`dram_state` reads FAILED and kind 0x62 is reported. -/
def execDramTrainDone (failed : List Nat) (s : State) : Host.Outcome State Fault Refusal :=
  act s fun s =>
    if rd s O.dram_state ≠ 1 then s
    else
      let s1 := (inTraining s).foldl (fun t ch => trainOne t ch (!(failed.contains ch))) s
      if inTraining s1 ≠ [] then s1
      else if (List.range 8).any (fun ch => decide (s1.dram.attempts.getD ch 0 = 3)) then
        report (wr s1 O.dram_state 6) 0x62 (trainHid s) 0
      else wr s1 O.dram_state 2

/-- DRAM_INIT_DONE (R363). -/
def execDramInitDone (s : State) : Host.Outcome State Fault Refusal :=
  act s fun s =>
    if rd s O.dram_state = 2 then wr (wr (setDram s { s.dram with disabled := [], errors := [], enabling := false }) O.dram_state 3) O.region_status 0x0F
    else s

/-- RETRAIN_END (R365): bits 1 to 3 return; a channel that failed keeps its values. -/
def execRetrainEnd (failed : List Nat) (s : State) : Host.Outcome State Fault Refusal :=
  act s fun s =>
    if rd s O.dram_state ≠ 5 then s
    else
      let bad := (List.range 8).filter (fun ch => failed.contains ch)
      let good := (List.range 8).filter (fun ch => !(failed.contains ch))
      let s1 := good.foldl trainedNow (retrainStop s)
      let s2 := wr (bump (bumpBy s1 O.retrain_fail bad.length) O.retrains) O.last_retrain (now80 s)
      let s3 := if bit (rd s2 O.region_status) 2 then setMiller s2 { s2.miller with noOverflow := false } else s2
      if bad = [] then s3 else report s3 0x62 (trainHid s) 0

/-! ### The patrol scrubber and what errors do (R367) -/

/-- The task of a ring at a data address, if one is there. -/
def ringTask (s : State) (urgent : Bool) (a : Nat) : Option Task :=
  let k := if urgent then 0 else 1
  let slot := (a - (if urgent then 0x4000000 else 0x6000000)) / 32
  let l := if urgent then s.carter.ringUrgent else s.carter.ringNormal
  l[(slot + 1048576 - s.dram.ringOut.getD k 0 % 1048576) % 1048576]?

/-- A spilled frame's cells are in error; which of the spilled frames lies there, if any, is free (log 1). -/
def badOverflow (s : State) : State :=
  let l := (s.miller.bufs.filter (fun e => decide (0 < e.2.spilled))).map (fun e => e.1)
  if rd s O.overflow_used ≤ freeBelow s 8388608 then freeNext s
  else
    let t := freeNext s
    match l[freeBelow t l.length]? with
    | some b => setMiller (freeNext t) { t.miller with bufs := t.miller.bufs.upd b (fun x => { x with bad := true }) }
    | none => t

/-- The effect of an uncorrectable error on its region (R367). -/
def regionError (s : State) (a : Nat) : State :=
  if dramRegion a = 0 then (if s.switch.flows.has (a / 64) then badRecords s [a / 64] else s)
  else if dramRegion a = 1 then
    match ringTask s (decide (a < 0x6000000)) a with
    | some k => cancelWith s k.token.id O.ecc_cancels
    | none => s
  else if dramRegion a = 3 then badOverflow s
  else if dramRegion a = 4 then setDram s { s.dram with badBlocks := s.dram.badBlocks ++ [a / 256] }
  else s

/-- PATROL_SCRUB (R367): the next word of DRAM is read through port 3; the word after the last is the first. -/
def execPatrolScrub (e : ReadResult) (s : State) : Host.Outcome State Fault Refusal :=
  act s fun s =>
    if rd s O.dram_state ≠ 3 then s
    else
      let a := s.dram.patrol
      let s0 := setDram s { s.dram with patrol := if a + 8 < dramBytes then a + 8 else 0 }
      let s1 := if a % 256 = 0 then dramRequest s0 3 a false else s0
      match e with
      | .clean => s1
      | .corrected =>
        let s2 := bump s1 (O.ch_ecc_corrected (blockChannel (a / 256)))
        if flag s O.ecc_writeback then dramRequest s2 3 a true else s2
      | .uncorrectable => regionError (dramError s1 a (scrubberHid s)) a

/-! ### Disabled regions (R368) -/

/-- REGION_ENABLE (R368, R369). -/
def execRegionEnable (s : State) : Host.Outcome State Fault Refusal :=
  act s fun s => command s O.region_cmd 1 fun s =>
    if rd s O.dram_state = 5 then (.busy, s)
    else if s.dram.disabled = [] then (.ok, s)
    else (.deferred, setDram s { s.dram with enabling := true })

/-- A row of R357 is written with zero (R363, R368): its records, tasks and frames are gone. -/
def initRow (s : State) (row : Nat) : State :=
  if row = 0 then wr { s with switch := { s.switch with flows := [], cache := [] } } O.flows_in_use 0
  else if row = 1 then s.carter.ringUrgent.foldl (fun t k => cancelToken t k.token.id) s
  else if row = 6 then s.carter.ringNormal.foldl (fun t k => cancelToken t k.token.id) s
  else if row = 3 then
    ((s.miller.bufs.filter (fun e => decide (0 < e.2.spilled))).map (fun e => e.1)).foldl dropSpilled { s with miller := { s.miller with noOverflow := false } }
  else if row = 4 then setDram s { s.dram with badBlocks := [] }
  else s

/-- REGION_ENABLE_DONE (R368): every disabled region is empty, and its bit is set. -/
def execRegionEnableDone (s : State) : Host.Outcome State Fault Refusal :=
  act s fun s =>
    if s.dram.enabling then
      let l := s.dram.disabled
      let s1 := l.foldl initRow s
      let st := (l.filterMap rowBit).foldl setBit (rd s1 O.region_status)
      wr (setDram s1 { s1.dram with enabling := false, disabled := [], errors := l.foldl (fun (e : Tab (List Nat)) r => e.del r) s1.dram.errors })
        O.region_status st
    else s

end Sys2Proof.Machine
end

