-- ==== Sys2Proof/Machine/Ingress.lean ====
section
/-! DEFINITION. Frames as the uplink ports and the Varlan link receive them (R289, R294, R240): the checks, the cells, and
their place before the Assayer. -/

namespace Sys2Proof.Machine

/-- The priority of a wired frame as its outer tag gives it (R320). -/
def tagPrio (b : Octets) : Nat := match outerTci b with
  | some t => t / 8192
  | none => 0

/-- A frame that must not want for cells as it arrives (R315): EAPOL, or traffic class 7. -/
def reservedBytes (s : State) (b : Octets) (prio : Nat) : Bool := isEapol b || decide (tcOf s prio = 7)

/-- A frame takes cells and waits for the Assayer, or is dropped whole (R247, R316). -/
def enterFrame (s : State) (f : Frame) (prio : Nat) (stampFor : Option (Nat × Nat)) : State :=
  match takeBuf s f.bytes.length (reservedBytes s f.bytes prio) false stampFor with
  | (some b, t) => { t with entering := t.entering ++ [{ f with buf := b }] }
  | (none, _) => noCellDrop s

/-- A frame as a port gives it. -/
def wiredFrame (s : State) (source : Nat) (b : Octets) (awaits : Option Nat) : Frame :=
  { buf := 0, bytes := b, source := source, tid := 0xF0, bss := 0, isProtected := awaits.isSome, subframe := false,
    stamp := tbNs s, colour := 0, awaits := awaits, toHost := none, cls := 0 }

/-- `port_accept` takes a frame (R289): 1 TAGGED_ONLY, 2 UNTAGGED_ONLY; a priority tag counts as untagged (PRESUMED, log 33). -/
def portAccepts (s : State) (p : Nat) (b : Octets) : Bool :=
  let tagged := match outerTci b with
    | some t => decide (t % 4096 ≠ 0)
    | none => false
  match rd s (O.port_accept p) with
  | 1 => tagged
  | 2 => !tagged
  | _ => true

/-- A frame passes R289: it is counted. -/
def countRx (s : State) (p len : Nat) : State := bumpBy (bump s (O.rx_frames p)) (O.port_rx_bytes p) len

/-- A received frame that waits for no verdict meets `port_accept` and goes on. -/
def uplinkAccepted (s : State) (p : Nat) (b : Octets) : State :=
  if portAccepts s p b then enterFrame (countRx s p b.length) (wiredFrame s p b none) (tagPrio b) none
  else bump s (O.rx_accept_drop p)

/-- An EAPOL frame past the SecY goes to `mka_queue` through a task of its own (R238, R341). -/
def mkaFrame (s : State) (p : Nat) (b : Octets) : State :=
  if portAccepts s p b = false then bump s (O.rx_accept_drop p)
  else
    let s1 := countRx s p b.length
    match takeBuf s1 b.length true false none with
    | (some i, t) => allocFixed t { wiredFrame s p b none with buf := i } (rd s (O.mka_queue (msPort s p)))
    | (none, _) => noCellDrop s1

/-- A deciphered frame is in flight until its ICV is known; a frame that `port_accept` refuses is not presented. -/
def uplinkCiphered (s : State) (p : Nat) (b : Octets) (sa pn : Nat) : State :=
  let id := s.mac.next
  let ok := portAccepts s p b
  let fl : InFlight := { id := id, slot := sa, counter := 0, pn := pn, macsec := true, len := b.length, refused := !ok }
  let s1 := setLock (setMac s { s.mac with next := id + 1 }) { s.lock with flight := s.lock.flight ++ [fl] }
  if ok then enterFrame s1 (wiredFrame s p b (some id)) (tagPrio b) none else s1

/-- UPLINK_FRAME_RX (R289): FCS, length, MACsec and `port_accept`; the first check that fails drops the frame. In IDLE every frame
that is no management datagram is dropped at the port (R375). -/
def execUplinkFrameRx (port : Fin 8) (f : UplinkFrame) (s : State) : Host.Outcome State Fault Refusal :=
  act s fun s =>
    let p := port.val
    if portUp s p = false then s
    else if packageMode s = 4 then bump s (O.rx_accept_drop p)
    else if f.fcsOk = false then bump s (O.port_rx_fcs_err p)
    else if rd s (O.port_mtu p) < f.bytes.length then bump s (O.port_rx_oversize p)
    else match msReceive s p f with
      | (.dropped, t) => t
      | (.mka, t) => mkaFrame t p f.bytes
      | (.accepted, t) => uplinkAccepted t p f.bytes
      | (.ciphered sa pn, t) => uplinkCiphered t p f.bytes sa pn

/-- VARLAN_FRAME_RX (R294): a class 5 frame of the peer whose CRC-32 is good enters the Assayer; in IDLE it is
dropped (R375). -/
def execVarlanFrameRx (crcOk : Bool) (bytes : Octets) (s : State) : Host.Outcome State Fault Refusal :=
  act s fun s =>
    if lanesUp s = 0 ∨ crcOk = false ∨ packageMode s = 4 then s
    else enterFrame s (wiredFrame s 0x2000 bytes none) (tagPrio bytes) none

/-- A verdict of a MACsec frame (R240): the frame goes on, or is cancelled. -/
def macsecVerdict (s : State) (x : InFlight) (pass : Bool) : State :=
  let p := x.slot / 8 % 8
  if pass then
    let s1 := msPass s x.slot x.pn
    if x.refused then bump s1 (O.rx_accept_drop p) else verdictPass (countRx s1 p x.len) x.id
  else verdictFail (msFail s x.slot) x.id

end Sys2Proof.Machine
end

