-- ==== Sys2Proof/Machine/Keys.lean ====
section
/-! DEFINITION. The key store (R216, R221 to R228, R241, R242): slots, the commands of the key window, transmit packet numbers,
and bound frames that a slot or a station takes with it. -/

namespace Sys2Proof.Machine

/-! ### Frames in queues and plans -/

/-- The exchanges of a plan with their frames changed. -/
def mapFrames (f : AirFrame → Bool) (l : List Exchange) : List Exchange :=
  l.map (fun e => { e with users := e.users.map (fun u => { u with frames := u.frames.filter f }) })

/-- The frames of a plan's exchanges. -/
def framesIn (l : List Exchange) : List AirFrame := l.flatMap (fun e => e.users.flatMap (fun u => u.frames))

/-- The Ostler's state changed. -/
def setOst (s : State) (o : Ostler) : State := { s with ost := o }

/-- Frames of stations that a test picks leave every queue, plan and list of sent MPDUs, and their cells are given back; how
many they were. -/
def dropFrames (s : State) (sta : Nat → Bool) (goes : AirFrame → Bool) : Nat × State :=
  let pick := fun (i : Nat) (f : AirFrame) => sta i && goes f
  let queued := s.miller.air.flatMap (fun e => e.2.frames.filter (pick (e.1 / 4)))
  let inPlan := fun (l : List Exchange) => l.flatMap (fun e => e.users.flatMap (fun u => u.frames.filter (pick u.station)))
  let planned := s.ost.plans.flatMap (fun e => inPlan (e.2.closed ++ e.2.running))
  let sent := (s.ost.sent.filter (fun u => pick u.station u.frame)).map (fun u => u.frame)
  let strip := fun (l : List Exchange) =>
    l.map (fun e => { e with users := e.users.map (fun u => { u with frames := u.frames.filter (fun f => !(pick u.station f)) }) })
  let air := s.miller.air.map (fun e => (e.1, { e.2 with frames := e.2.frames.filter (fun f => !(pick (e.1 / 4) f)) }))
  let plans := s.ost.plans.map (fun e => (e.1, { e.2 with closed := strip e.2.closed, running := strip e.2.running }))
  let s1 := setOst (setMiller s { s.miller with air := air })
    { s.ost with plans := plans, sent := s.ost.sent.filter (fun u => !(pick u.station u.frame)) }
  let gone := queued ++ planned ++ sent
  (gone.length, gone.foldl (fun t f => dropLeg t f.buf) s1)

/-! ### Slots (R221) -/

/-- The replay and transmit PN store, the key store and the commit gate as sources (R215). -/
def pnStoreHid (s : State) : Nat := hidOf s 0 3 1 1
def keyStoreHid (s : State) : Nat := hidOf s 0 3 1 0
def gateHid (s : State) : Nat := hidOf s 0 3 2 0

/-- The place of the one staging set of the key window (R242). -/
def keyStage : Nat := 0x10000

/-- A slot's state: 0 EMPTY, 1 ACTIVE, 2 ORPHANED, 3 EXHAUSTED; its values by key. -/
def slotState (s : State) (k : Nat) : Nat := rd s (winKey k O.key_state)
def slotVal (s : State) (k key : Nat) : Nat := rd s (winKey k key)

/-- The slots that are not EMPTY, rising; a slot beside its objects. -/
def slotsInUse (s : State) : List Nat := s.lock.slots.map (fun e => e.1)
def keySlot (s : State) (k : Nat) : KeySlot := s.lock.slots.getD k {}
def setSlot (s : State) (k : Nat) (x : KeySlot) : State := setLock s { s.lock with slots := s.lock.slots.put k x }

/-- The kinds of keys (R225): 0 pairwise, 1 group, 2 IGTK, 3 BIGTK. -/
def keyKind (ownerKind id : Nat) : Nat :=
  if 6 ≤ id then 3 else if 4 ≤ id then 2 else if ownerKind = 0 ∧ id < 2 then 0 else 1

/-- A slot belongs to an owner. -/
def ownedBy (s : State) (k ownerKind owner : Nat) : Bool :=
  decide (slotVal s k O.key_owner_kind = ownerKind) && decide (slotVal s k O.key_owner = owner)

/-- The slot of an owner and key ID (R229 check 2): ACTIVE or EXHAUSTED. -/
def rxSlot (s : State) (ownerKind owner id : Nat) : Option Nat :=
  (slotsInUse s).find? (fun k => ownedBy s k ownerKind owner && decide (slotVal s k O.key_id = id) &&
    decide (slotState s k = 1 ∨ slotState s k = 3))

/-- The slot that protects what an owner is sent (R225): RX_TX, of the kind, and ACTIVE. -/
def txSlot (s : State) (ownerKind owner kind : Nat) : Option Nat :=
  (slotsInUse s).find? (fun k => ownedBy s k ownerKind owner &&
    decide (keyKind ownerKind (slotVal s k O.key_id) = kind) && decide (slotVal s k O.key_use = 1) && decide (slotState s k = 1))

/-- The values of a slot that its mirror record carries (R194). -/
def slotKeys : List Nat :=
  [O.key_cipher, O.key_owner_kind, O.key_owner, O.key_id, O.key_rsc, O.key_tx_pn]

/-- A slot's mirror record. -/
def slotRecord (s : State) (k : Nat) : MirrorRec :=
  .slot k (slotState s k) (slotVal s k O.key_use) (slotKeys.map (fun x => (x, slotVal s k x))) (keySlot s k).material

/-- `slots_in_use` follows the slots. -/
def countSlots (s : State) : State :=
  wr (wr s O.slots_in_use s.lock.slots.length) O.exhausted_slots
    (((slotsInUse s).filter (fun k => slotState s k = 3)).length)

/-! ### INSTALL (R223, R224) -/

/-- The key bytes of a cipher, and the key IDs it allows (R216). -/
def cipherBytes (c : Nat) : Nat := if c = 1 ∨ c = 3 then 16 else 32
def cipherIds (c id : Nat) : Bool := if c ≤ 2 then decide (id ≤ 3) else decide (4 ≤ id ∧ id ≤ 7)

/-- The owner that the staged values name can hold keys: a station not EMPTY, or a BSSID that is enabled. -/
def ownerOk (s : State) (kind owner : Nat) : Bool :=
  if kind = 0 then decide (owner < stationCount s.fuse.part) && decide (staState s owner ≠ 0)
  else decide (owner < 48) && flag s (O.bss_enable (owner / 16) (owner % 16))

/-- A staged value of the key window. -/
def keyStaged (s : State) (k : Nat) : Nat := rd s (winKey keyStage k)

/-- The checks of R224 in order. -/
def installCheck (s : State) : Status :=
  let c := keyStaged s O.key_cipher
  let kind := keyStaged s O.key_owner_kind
  let owner := keyStaged s O.key_owner
  let id := keyStaged s O.key_id
  if (c = 1 ∨ c = 3) ∧ bit s.fuse.secConfig 4 = false then .locked
  else if s.lock.keyValue.length ≠ cipherBytes c then .type
  else if cipherIds c id = false then .range
  else if ownerOk s kind owner = false then .range
  else if (slotsInUse s).any (fun k => ownedBy s k kind owner && decide (slotVal s k O.key_id = id)) then .range
  else .ok

/-- `key_value` zeroised (R222). -/
def keyZeroise (s : State) : State := setLock s { s.lock with keyValue := [] }

/-- Slot counters clear at INSTALL (R242). -/
def clearSlotCounters (s : State) (k : Nat) : State :=
  [O.slot_rx_ok, O.slot_mic_fail, O.slot_replays, O.slot_tx].foldl (fun t x => wr t (winKey k x) 0) s

/-- A key loaded into a slot (R223). -/
def slotLoad (s : State) (k : Nat) : State :=
  let rsc := keyStaged s O.key_rsc
  let s1 := [O.key_cipher, O.key_owner_kind, O.key_owner, O.key_id, O.key_rsc].foldl
    (fun t x => wr t (winKey k x) (keyStaged s x)) s
  let s2 := wr (wr (wr s1 (winKey k O.key_state) 1) (winKey k O.key_use) 0) (winKey k O.key_tx_pn) 1
  let x : KeySlot := { material := s.lock.keyValue, replay := (List.range 10).map (fun c => (c, rsc)), warned := false }
  let kind := keyStaged s O.key_owner_kind
  let bss := if kind = 0 then 48 else keyStaged s O.key_owner
  let s3 := forgetMirrored (clearSlotCounters s2 k) (fun c => decide (c = pnCounter k))
  let s4 := if keyKind kind (keyStaged s O.key_id) = 1 then
      { s3 with mac := { s3.mac with coldBss := s3.mac.coldBss.filter (fun j => j ≠ bss) } } else s3
  countSlots (setSlot s4 k x)

/-- INSTALL (R223, R224): a slot that is not EMPTY is BUSY; `key_value` is zeroised whatever the result. -/
def keyInstall (s : State) : Status × State :=
  let k := rd s O.key_select
  if slotState s k ≠ 0 then (.busy, keyZeroise s)
  else match installCheck s with
    | .ok =>
      let t := keyZeroise (slotLoad s k)
      (.ok, mirror t (slotRecord t k))
    | st => (st, keyZeroise s)

/-- KEY_INSTALL (R223). -/
def execKeyInstall (s : State) : Host.Outcome State Fault Refusal := act s fun s => command s O.key_cmd 1 keyInstall

/-! ### CLEAR and SET_TX (R223, R225) -/

/-- A slot zeroised: its objects go, and MPDUs of it not yet acknowledged are dropped (R223). -/
def slotZero (s : State) (k : Nat) : State :=
  let r := dropFrames s (fun _ => true) (fun f => decide (f.slot = some k))
  let s1 := bumpBy r.2 O.no_key_drop r.1
  let s2 := setLock s1 { s1.lock with slots := s1.lock.slots.del k }
  countSlots ((slotKeys ++ [O.key_state, O.key_use]).foldl (fun t x => { t with regs := t.regs.del (winKey k x) }) s2)

/-- CLEAR (R223). -/
def keyClear (s : State) : Status × State :=
  let k := rd s O.key_select
  if slotState s k = 0 then (.ok, s)
  else
    let t := slotZero s k
    (.ok, mirror t (.slot k 0 0 [] []))

/-- KEY_CLEAR (R223). -/
def execKeyClear (s : State) : Host.Outcome State Fault Refusal := act s fun s => command s O.key_cmd 2 keyClear

/-- SET_TX (R225): the selected slot sends for its owner and kind, the others receive only. -/
def setTx (s : State) : Status × State :=
  let k := rd s O.key_select
  if slotState s k ≠ 1 then (.ok, s)
  else
    let kind := slotVal s k O.key_owner_kind
    let owner := slotVal s k O.key_owner
    let kk := keyKind kind (slotVal s k O.key_id)
    let peers := (slotsInUse s).filter (fun j => ownedBy s j kind owner && decide (keyKind kind (slotVal s j O.key_id) = kk))
    let t := peers.foldl (fun t j => wr t (winKey j O.key_use) (if j = k then 1 else 0)) s
    (.ok, peers.foldl (fun t j => mirror t (slotRecord t j)) t)

/-- SET_TX (R225). -/
def execSetTx (s : State) : Host.Outcome State Fault Refusal := act s fun s => command s O.key_cmd 3 setTx

/-- The slots of an owner become ORPHANED (R223). -/
def orphanSlots (s : State) (kind owner : Nat) : State :=
  ((slotsInUse s).filter (fun k => ownedBy s k kind owner && decide (slotState s k = 1))).foldl
    (fun t k => wr t (winKey k O.key_state) 2) s

/-! ### Transmit packet numbers (R226, R227) -/

/-- A slot enters EXHAUSTED (R227): MPDUs bound to it and not yet encrypted are dropped, with kind 0x45. -/
def slotExhaust (s : State) (k : Nat) : State :=
  let r := dropFrames (wr s (winKey k O.key_state) 3) (fun _ => true) (fun f => decide (f.slot = some k) && decide (f.sends = 0))
  report (countSlots (bumpBy r.2 O.no_key_drop r.1)) 0x45 (pnStoreHid s) 0

/-- The next PN of a slot taken (R226, R227), or none where the slot is exhausted. -/
def takePn (s : State) (k : Nat) : Option Nat × State :=
  let n := slotVal s k O.key_tx_pn
  if slotState s k ≠ 1 then (none, s)
  else if 2 ^ 48 - 1 < n then (none, slotExhaust s k)
  else
    let s1 := wr s (winKey k O.key_tx_pn) (n + 1)
    let near := decide (2 ^ 48 - 2 ^ 24 < n + 1) && !(keySlot s k).warned
    (some n, if near then report (setSlot s1 k { keySlot s1 k with warned := true }) 0x44 (pnStoreHid s) 0 else s1)

/-- A takeover's jump of a slot's counter (R200, R227). -/
def jumpPn (s : State) (k : Nat) : State :=
  let n := slotVal s k O.key_tx_pn + 65536
  if slotState s k ≠ 1 then s
  else if 2 ^ 48 - 1 < n then slotExhaust (wr s (winKey k O.key_tx_pn) n) k
  else wr s (winKey k O.key_tx_pn) n

/-! ### Replay counters (R228) -/

/-- The committed value C of a slot's counter, and C moved up. -/
def replayC (s : State) (k c : Nat) : Nat := (keySlot s k).replay.getD c 0
def moveC (s : State) (k c pn : Nat) : State :=
  setSlot s k { keySlot s k with replay := (keySlot s k).replay.put c (max (replayC s k c) pn) }

end Sys2Proof.Machine
end

