-- ==== Sys2Proof/Machine/Stas.lean ====
section
/-! DEFINITION. The station table's commands, scoreboards and their windows, what leaves the air MAC towards the Locksmith and
the host, and TWT agreements (R114, R115, R123 to R128, R131 to R134, R141). -/

namespace Sys2Proof.Machine

/-- The station table, the scoreboard memory and the TWT table as sources (R112). -/
def stationTableHid (s : State) : Nat := hidOf s 0 1 1 0
def scoreboardHid (s : State) : Nat := hidOf s 0 1 1 1
def twtTableHid (s : State) : Nat := hidOf s 0 1 3 0

/-! ### The entry (R146) -/

/-- The place of the one staging set of the station window. -/
def staStage : Nat := 0x10000

/-- The fields of an entry, and its counters. -/
def staFields : List Nat := [O.sta_bss, O.sta_aid, O.sta_links, O.sta_nstr, O.sta_caps, O.sta_tid_map]
def staBlobs : List Nat := [O.sta_mld_addr, O.sta_link_addr]
def staCounters : List Nat :=
  [O.rx_mpdu, O.sta_rx_bytes, O.sta_rx_dup, O.tx_mpdu, O.sta_tx_bytes, O.sta_tx_retries, O.sta_tx_failed, O.last_rx, O.rssi]

/-- Registers of a windowed entry put back to their defaults. -/
def clearKeys (s : State) (i : Nat) (l : List Nat) : State := l.foldl (fun t k => { t with regs := t.regs.del (winKey i k) }) s

/-- A station's mirror record (R194). -/
def stationRecord (s : State) (i : Nat) : MirrorRec :=
  .station i (staState s i) (staFields.map (fun k => (k, rd s (winKey i k)))) (staBlobs.map (fun k => (k, rdB s (winKey i k))))

/-- The links among radios A to C of a set of bits. -/
def linkList (l : Nat) : List Nat := bitList 3 l

/-- A staged link address. -/
def stagedAddr (s : State) (r : Nat) : Octets := slice (rdB s (winKey staStage O.sta_link_addr)) (6 * r) 6

/-- A TID map gives every TID one of the links (R135). -/
def mapCovers (map links : Nat) : Bool :=
  (List.range 8).all (fun t => (linkList links).any (fun r => bit map (3 * t + r)))

/-- The checks of ADD (R114): the first failing one, all of them RANGE. -/
def staAddOk (s : State) : Bool :=
  let v := fun k => rd s (winKey staStage k)
  let links := v O.sta_links
  let bss := v O.sta_bss
  let aid := v O.sta_aid
  !(groupAddr (rdB s (winKey staStage O.sta_mld_addr))) &&
  decide (0 < links ∧ links < 8) &&
  (linkList links).all (fun r => !(groupAddr (stagedAddr s r)) && radioFitted s.fuse.part r && decide (bss < rd s (O.bss_count r))) &&
  (linkList links).all (fun r => (stationsInUse s).all (fun j => !(bit (staLinks s j) r && decide (staLinkAddr s j r = stagedAddr s r)))) &&
  decide (1 ≤ aid ∧ aid ≤ 2007) &&
  (stationsInUse s).all (fun j => !(decide (rd s (winKey j O.sta_aid) = aid) && decide (rd s (winKey j O.sta_bss) = bss))) &&
  mapCovers (v O.sta_tid_map) links

/-- `sta_in_use` follows the table. -/
def countStations (s : State) : State := wr s O.sta_in_use s.mac.stations.length

/-- The four air queues of a station, and their counters cleared (R337). -/
def staQueues (i : Nat) : List Nat := [4 * i, 4 * i + 1, 4 * i + 2, 4 * i + 3]
def clearQueues (s : State) (i : Nat) : State :=
  (staQueues i).foldl (fun t a => setAirQ t a { airQ t a with drops := 0, charged := 0 }) s

/-- An entry built from the staging set (R114): ASSOCIATED, its scoreboards and counters clear. -/
def staBuild (s : State) (i : Nat) : State :=
  let s1 := staFields.foldl (fun t k => wr t (winKey i k) (rd t (winKey staStage k))) s
  let s2 := staBlobs.foldl (fun t k => wrB t (winKey i k) (rdB t (winKey staStage k))) s1
  let s3 := forgetMirrored (clearKeys (wr s2 (winKey i O.sta_state) 1) i (O.sta_ps :: staCounters)) (fun c => decide (c / 16 = i ∧ c < 1048576))
  countStations (setStation (clearQueues s3 i) i {})

/-- ADD (R114); an entry that is not EMPTY is BUSY (DESIGN CHOICE, log 34). -/
def staAdd (s : State) : Status × State :=
  let i := rd s O.sta_select
  if staState s i ≠ 0 then (.busy, s)
  else if staAddOk s = false then (.range, s)
  else
    let t := staBuild s i
    (.ok, mirror t (stationRecord t i))

/-- STA_ADD (R114). -/
def execStaAdd (s : State) : Host.Outcome State Fault Refusal := act s fun s => command s O.sta_cmd 1 staAdd

/-- The air queues of a station wake where they have become eligible. -/
def wakeStation (s : State) (i : Nat) : State := (staQueues i).foldl airWake s

/-- `sta_state` of an entry changed and mirrored. -/
def staSetState (s : State) (i v : Nat) : State :=
  let t := wr s (winKey i O.sta_state) v
  wakeStation (mirror t (stationRecord t i)) i

/-- AUTHORIZE and DEAUTHORIZE (R114): no effect in any other state. -/
def staAuthorize (s : State) : Status × State :=
  let i := rd s O.sta_select
  (.ok, if staState s i = 1 then staSetState s i 2 else s)
def staDeauthorize (s : State) : Status × State :=
  let i := rd s O.sta_select
  (.ok, if staState s i = 2 then staSetState s i 1 else s)

/-- STA_AUTHORIZE (R114). -/
def execStaAuthorize (s : State) : Host.Outcome State Fault Refusal := act s fun s => command s O.sta_cmd 3 staAuthorize

/-- STA_DEAUTHORIZE (R114). -/
def execStaDeauthorize (s : State) : Host.Outcome State Fault Refusal := act s fun s => command s O.sta_cmd 4 staDeauthorize

/-! ### What the air MAC holds of received MPDUs -/

/-- A received MPDU leaves the air MAC's books, and its own leg of the cells with it. -/
def forgetMpdu (s : State) (m : Nat) : State := setMac s { s.mac with arrived := s.mac.arrived.del m }
def dropMpdu (s : State) (m : Nat) : State :=
  match s.mac.arrived.look m with
  | some x => forgetMpdu (dropLeg s x.buf) m
  | none => s

/-- Every scoreboard of a station, its held MPDUs dropped (R115). -/
def dropHolds (s : State) (i : Nat) : State :=
  ((station s i).boards.flatMap (fun e => e.2.held)).foldl (fun t h => dropMpdu t h.mpdu) s

/-! ### TWT agreements (R131 to R134) -/

/-- `twt_in_use` follows the table; an agreement set or removed and mirrored (R194). -/
def setTwt (s : State) (k : Nat) (t : Option Twt) : State :=
  let l := match t with
    | some x => s.mac.twt.put k x
    | none => s.mac.twt.del k
  mirror (wr (setMac s { s.mac with twt := l }) O.twt_in_use l.length) (.twt k t)

/-- The agreements of a station removed (R115), and its places in broadcast schedules. -/
def dropTwt (s : State) (i : Nat) : State :=
  ((s.mac.twt.filter (fun e => e.2.station = i)).map (fun e => e.1)).foldl (fun t k => setTwt t k none) s

/-- The members of a broadcast schedule set (R134). -/
def setMembers (s : State) (r j : Nat) (l : List Nat) : State :=
  wr (setMac s { s.mac with members := s.mac.members.put (8 * r + j) l }) (O.btwt_members r j) l.length
def dropMember (s : State) (i : Nat) : State :=
  s.mac.members.foldl (fun t e => if e.2.contains i then setMembers t (e.1 / 8) (e.1 % 8) (e.2.filter (fun x => x ≠ i)) else t) s

/-- REMOVE (R115): holds, queued frames, scoreboards, agreements and the entry go; its key slots are orphaned (R223). -/
def staRemove (s : State) (i : Nat) : State :=
  if staState s i = 0 then s
  else
    let s1 := (dropFrames (dropHolds (orphanSlots s 0 i) i) (fun x => decide (x = i)) (fun _ => true)).2
    let s2 := clearQueues (dropMember (dropTwt ((staQueues i).foldl airLeave s1) i) i) i
    let s3 := clearKeys s2 i (O.sta_state :: O.sta_ps :: staFields ++ staCounters)
    let s4 := { s3 with blobs := (staBlobs.foldl (fun b k => b.del (winKey i k)) s3.blobs) }
    let t := countStations (setMac s4 { s4.mac with stations := s4.mac.stations.del i })
    mirror t (.station i 0 [] [])

/-- STA_REMOVE (R115). -/
def execStaRemove (s : State) : Host.Outcome State Fault Refusal :=
  act s fun s => command s O.sta_cmd 2 fun s => (.ok, staRemove s (rd s O.sta_select))

/-- TWT_TEARDOWN (R147): a Teardown frame is sent and the entry emptied; an empty entry has no effect. -/
def twtTeardown (s : State) : Status × State :=
  let k := rd s O.twt_select
  match s.mac.twt.look k with
  | some x =>
    let s1 := setMac s { s.mac with outgoing := s.mac.outgoing ++ [(x.radio, .twtTeardown x.station x.flow)] }
    (.ok, setTwt s1 k none)
  | none => (.ok, s)

/-- TWT_TEARDOWN (R147). -/
def execTwtTeardown (s : State) : Host.Outcome State Fault Refusal := act s fun s => command s O.twt_cmd 1 twtTeardown

/-- A sum of fractions, as a numerator and a denominator. -/
def addFraction (a b : Nat × Nat) : Nat × Nat := (a.1 * b.2 + b.1 * a.2, a.2 * b.2)

/-- The load of a radio's agreements, without the one of a station and flow (R131). -/
def twtLoad (s : State) (r sta flow : Nat) : Nat × Nat :=
  (s.mac.twt.filter (fun e => decide (e.2.radio = r) && !(decide (e.2.station = sta) && decide (e.2.flow = flow)))).foldl
    (fun a e => addFraction a (e.2.duration, e.2.interval)) (0, 1)

/-- A load with one more agreement keeps within `twt_load_max`. -/
def loadFits (s : State) (l : Nat × Nat) (duration interval : Nat) : Bool :=
  let x := addFraction l (duration, interval)
  decide (x.1 * 100 ≤ rd s O.twt_load_max * x.2)

/-- TSF in ns (R138). -/
def tsfNs (s : State) : Int := ((s.tb : Int) - s.time.origin) / 65536

/-- A frame for a station goes out in the next plan (R118, R128, R131). -/
def outgoing (s : State) (r : Nat) (c : TxContent) : State :=
  if ownsLinks s then setMac s { s.mac with outgoing := s.mac.outgoing ++ [(r, c)] } else s

/-- A TWT setup rejected (R131). -/
def twtReject (s : State) (r sta flow : Nat) : State := outgoing (bump s O.twt_rejects) r (.twtResponse sta flow 0 0 0 0)

/-- The first Ostler frame boundary after an instant of the time base in ns (R151, R155): the running frame's end, else a whole
millisecond plus `frame_phase`. -/
def nextBoundary (s : State) (t : Int) : Int :=
  if (s.ost.beganTb : Int) ≤ t ∧ t < (s.ost.beganTb + s.ost.frameLength : Int) then s.ost.beganTb + s.ost.frameLength
  else (t - rdI s O.frame_phase) / 1000000 * 1000000 + 1000000 + rdI s O.frame_phase

/-- The agreement's place: the one of the same station and flow, else the first empty entry. -/
def twtPlace (s : State) (sta flow : Nat) : Option Nat :=
  match s.mac.twt.find? (fun e => decide (e.2.station = sta) && decide (e.2.flow = flow)) with
  | some e => some e.1
  | none =>
    let k := s.mac.twt.foldl (fun n e => if e.1 = n then n + 1 else n) 0
    if k < rd s O.twt_capacity then some k else none

/-- An agreement accepted (R131, R132). -/
def twtAccept (s : State) (x : Twt) (k : Nat) : State :=
  outgoing (setTwt s k (some x)) x.radio (.twtResponse x.station x.flow 1 x.interval x.duration x.wake)

/-- An Alternate TWT (R131): the interval raised, the duration lowered, and where the load would still be exceeded a later frame
boundary. The load does not depend on where a period begins, so which boundary it is stays open: a free number of frames on
(log 1). -/
def twtAlternate (s : State) (x : Twt) : State :=
  let i := max x.interval (rd s O.twt_min_interval * 1000)
  let d := min x.duration (rd s O.twt_max_duration)
  if loadFits s (twtLoad s x.radio x.station x.flow) d i then
    outgoing s x.radio (.twtResponse x.station x.flow 2 i d x.wake)
  else
    let w := nextBoundary s x.wake + 1000000 * (freeBelow s (2 ^ 64) : Int)
    outgoing (freeNext s) x.radio (.twtResponse x.station x.flow 2 i d w.toNat)

/-- A TWT setup request (R131): judged by `twt_mode` 0 REJECT, 1 ACCEPT, 2 SUGGEST. -/
def twtRequest (s : State) (x : Twt) : State :=
  let fits := decide (rd s O.twt_min_interval * 1000 ≤ x.interval) && decide (x.duration ≤ rd s O.twt_max_duration) &&
    loadFits s (twtLoad s x.radio x.station x.flow) x.duration x.interval
  match twtPlace s x.station x.flow with
  | none => twtReject s x.radio x.station x.flow
  | some k =>
    if rd s O.twt_mode = 0 ∨ 8 ≤ x.flow then twtReject s x.radio x.station x.flow
    else if fits then twtAccept s x k
    else if rd s O.twt_mode = 2 then twtAlternate s x
    else twtReject s x.radio x.station x.flow

/-- A request that names a broadcast schedule (R134): judged against the schedule's own parameters. -/
def btwtRequest (s : State) (r sta flow j : Nat) : State :=
  let i := rd s (O.btwt_interval r j) * 1000
  let d := rd s (O.btwt_duration r j)
  let fits := decide (rd s O.twt_min_interval * 1000 ≤ i) && decide (d ≤ rd s O.twt_max_duration) &&
    loadFits s (twtLoad s r 65536 0) d i
  if 8 ≤ j ∨ rd s O.twt_mode = 0 ∨ flag s (O.btwt_enable r j) = false ∨ fits = false then twtReject s r sta flow
  else
    let l := s.mac.members.getD (8 * r + j) []
    let t := if l.contains sta then s else setMembers s r j (l ++ [sta])
    outgoing t r (.twtResponse sta flow 1 i d (rd s (O.btwt_offset r j) * 1000000))

/-- A teardown received from a station. -/
def twtTorn (s : State) (sta flow : Nat) : State :=
  match s.mac.twt.find? (fun e => decide (e.2.station = sta) && decide (e.2.flow = flow)) with
  | some e => setTwt s e.1 none
  | none => s

/-- `twt_drift` of an agreement in ppb: r over the interval (R132). -/
def twtDrift (x : Twt) : Int := x.r * 1000000 / (x.interval : Int)

/-- The update of R132 with a measurement m. -/
def twtLearned (s : State) (x : Twt) (m : Int) : Twt :=
  let e := m - (x.d + x.r)
  if e.natAbs ≤ rd s O.twt_resync * 1000 then
    { x with r := x.r + e / (2 : Int) ^ (rd s O.twt_drift_gain), d := m }
  else { x with d := m }

/-- The period of an agreement that a TSF instant falls into (R132): the nearest one, up to its predicted end (DEDUCED, log 35). -/
def twtPeriod (x : Twt) (t : Int) : Option Nat :=
  let i : Int := (x.interval : Int) * 1000
  let p := x.d + x.r
  let n := (t - (x.wake : Int) - p + i / 2) / i
  if n < 0 ∨ i = 0 ∨ (x.duration : Int) * 1000 < t - (x.wake : Int) - p - n * i then none else some n.toNat

/-- One agreement hears its station at TSF instant `t` (R132). -/
def twtHear (s : State) (t : Int) (k : Nat) (x : Twt) : State :=
  match twtPeriod x t with
  | none => s
  | some n =>
    if x.heard = some n then s
    else
      let y := { twtLearned s x (t - (x.wake : Int) - n * ((x.interval : Int) * 1000)) with heard := some n }
      let drifts := decide (rd s O.twt_drift_max * 1000 < (twtDrift y).natAbs) && !x.reported
      let t1 := setTwt s k (some { y with reported := x.reported || drifts })
      if drifts then report t1 0x35 (twtTableHid s) 0 else t1

/-- A frame with End of Service Period ends the TWT periods that run (R129). -/
def twtEnd (s : State) (r sta : Nat) : State :=
  (s.mac.twt.filter (fun e => decide (e.2.station = sta) && decide (e.2.radio = r))).foldl (fun t e =>
    match twtPeriod e.2 (tsfNs s) with
    | some n => setMac t { t.mac with twt := t.mac.twt.put e.1 { e.2 with ended := some n } }
    | none => t) s

/-- A station is heard on a radio (R132). -/
def twtHeard (s : State) (r sta : Nat) : State :=
  (s.mac.twt.filter (fun e => decide (e.2.station = sta) && decide (e.2.radio = r))).foldl (fun t e => twtHear t (tsfNs s) e.1 e.2) s

/-! ### Windows (R123 to R126) -/

/-- A number lies before a window's start. -/
def snBefore (start sn : Nat) : Bool := decide (2048 ≤ snDist start sn)

/-- WinStart moves past the marked numbers that follow it (R125). -/
def slide : Nat → Scoreboard → Scoreboard
  | 0, b => b
  | n + 1, b =>
    if b.marked.contains b.start then
      slide n { b with start := (b.start + 1) % 4096, marked := b.marked.filter (fun x => x ≠ b.start) }
    else b

/-- The runs of unmarked numbers among `n` from `sn`: the gaps that a move skips. `gap` says that a run is being passed. -/
def gapRuns (marked : List Nat) : Nat → Nat → Bool → Nat
  | 0, _, _ => 0
  | n + 1, sn, gap =>
    if marked.contains sn then gapRuns marked n ((sn + 1) % 4096) false
    else (if gap then 0 else 1) + gapRuns marked n ((sn + 1) % 4096) true

/-- The window moved to a start that lies ahead, and the gaps skipped. -/
def moveStart (b : Scoreboard) (start : Nat) : Scoreboard × Nat :=
  if snBefore b.start start then (b, 0)
  else
    ({ b with start := start, marked := b.marked.filter (fun x => !(snBefore start x)) },
     gapRuns b.marked (snDist b.start start) b.start false)

/-- A scoreboard settled (R125): the start slides, and the held MPDUs that it passed are released in SN order. -/
def settle (old : Nat) (b : Scoreboard) : List Held × Scoreboard :=
  let b1 := slide 2048 b
  let out := b1.held.filter (fun h => snBefore b1.start h.sn)
  (sortBy (fun x y => decide (snDist old x.sn ≤ snDist old y.sn)) out,
   { b1 with held := b1.held.filter (fun h => !(snBefore b1.start h.sn)) })

/-- An MPDU's number marked, the window moved first where the number lies beyond it (R125, R127), and the gaps skipped. -/
def markSn (b : Scoreboard) (sn : Nat) : Scoreboard × Nat :=
  let r := if snDist b.start sn < b.window then (b, 0) else moveStart b ((sn + 4096 + 1 - b.window) % 4096)
  ({ r.1 with marked := r.1.marked ++ [sn], unsent := b.unsent + 1 }, r.2)

/-- A scoreboard's mirror record (R194). -/
def mirrorBoard (s : State) (i tid : Nat) : State :=
  let b := board s i tid
  mirror (setBoard s i tid { b with unsent := 0 }) (.scoreboard i tid b.start b.marked)

/-! ### Release (R116, R118, R341) -/

/-- A management frame of the air, robust where it is protected once keys are set (IEEE 802.11). -/
def isManagement : RxKind → Bool
  | .beacon | .probeRequest _ | .authentication | .associationRequest | .addbaRequest _ _ _ | .addbaResponse _ _ | .delba _ _ _
  | .twtSetup _ _ _ _ _ _ | .twtTeardown _ | .csiFeedback _ | .otherManagement _ => true
  | _ => false
def isRobust : RxKind → Bool
  | .addbaRequest _ _ _ | .addbaResponse _ _ | .delba _ _ _ | .twtSetup _ _ _ _ _ _ | .twtTeardown _ => true
  | .otherManagement t => decide (t = 10 ∨ t = 12 ∨ t = 13)
  | _ => false

/-- A frame that the air MAC itself handles (R118, R164). -/
def macHandles : RxKind → Bool
  | .addbaRequest _ _ _ | .addbaResponse _ _ | .delba _ _ _ | .twtSetup _ _ _ _ _ _ | .twtTeardown _ | .csiFeedback _ => true
  | _ => false

/-- The subtype of a management frame. -/
def mgmtSubtype : RxKind → Nat
  | .associationRequest => 0
  | .probeRequest _ => 4
  | .beacon => 8
  | .authentication => 11
  | .csiFeedback _ => 14
  | .otherManagement t => t
  | _ => 13

/-- A management frame as the host gets it: its header, then its body. -/
def mgmtBytes (x : RxMpdu) : Octets :=
  let flags := (if x.toDs then 1 else 0) + (if x.fromDs then 2 else 0) + (if x.retry then 8 else 0) + (if x.powerSave then 16 else 0) +
    (if x.isProtected then 64 else 0)
  [BitVec.ofNat 8 (mgmtSubtype x.kind * 16), BitVec.ofNat 8 flags] ++ leBytes 2 x.duration ++ x.ra ++ x.ta ++ x.addr3 ++
    leBytes 2 (x.sn * 16 + x.frag) ++ x.body

/-- The one frame of an MPDU that is no A-MSDU. -/
def presentMpdu (x : RxMpdu) : Octets := presentMsdu (mpduDa x) (mpduSa x) x.body

/-- An unprotected data MPDU that carries EAPOL (R116 check 7). -/
def carriesEapol (x : RxMpdu) : Bool := !x.amsdu && isEapol (presentMpdu x)

/-- An air frame of a received MPDU, without its bytes. -/
def airRx (s : State) (x : Arrived) (source : Nat) (b : Octets) (awaits : Option Nat) : Frame :=
  { buf := x.buf, bytes := b, source := source, tid := x.radio * 16 + x.mpdu.tid.getD 0,
    bss := rd s (winKey (x.station.getD 0) O.sta_bss), isProtected := x.mpdu.isProtected, subframe := false, stamp := x.stamp,
    colour := 0, awaits := awaits, toHost := none, cls := 0 }

/-- A management frame goes to `mgmt_queue` (R118); it takes its token as the air MAC releases it (R341). -/
def toMgmt (s : State) (x : Arrived) (source : Nat) (awaits : Option Nat) : State :=
  allocFixed s (airRx s x source (mgmtBytes x.mpdu) awaits) (rd s O.mgmt_queue)

/-- The source word of a station. -/
def staSource (x : Arrived) : Nat := 0x1000 + x.station.getD 0

/-- The agreed windows: what a request gets (R128). A request for fewer than 64 gets none, and 0 leaves the choice to the
module (DEDUCED, log 36). -/
def roundWindow (n : Nat) : Nat :=
  if 1024 ≤ n then 1024 else if 512 ≤ n then 512 else if 256 ≤ n then 256 else if 64 ≤ n then 64 else 0
def agreedWindow (s : State) (n : Nat) : Nat :=
  let top := rd s O.ba_max_window
  roundWindow (if n = 0 then top else min n top)

/-- The agreements of a station and TID mirrored (R194). -/
def mirrorAgreement (s : State) (i tid : Nat) : State :=
  mirror s (.agreement i tid (board s i tid).window ((station s i).txWindow.getD tid 0))

/-- A released MPDU counted (R146). -/
def countRelease (s : State) (i len : Nat) : State := bumpBy (bump s (winKey i O.rx_mpdu)) (winKey i O.sta_rx_bytes) len

/-- The actions of R118 that release no MPDU themselves: TWT, CSI feedback, the answer to an ADDBA of this module. -/
def simpleAction (s : State) (x : Arrived) : State :=
  let i := x.station.getD 0
  match x.mpdu.kind with
  | .addbaResponse tid w =>
    let st := station s i
    let l := if w = 0 then st.txWindow.del tid else st.txWindow.put tid (roundWindow (min w (rd s O.ba_max_window)))
    mirrorAgreement (setStation s i { st with txWindow := l }) i tid
  | .twtSetup flow interval duration wake announced b =>
    match b with
    | some j => btwtRequest s x.radio i flow j
    | none =>
      if interval = 0 then twtReject s x.radio i flow
      else twtRequest s { station := i, flow := flow, radio := x.radio, interval := interval, duration := duration, wake := wake,
                          announced := announced, d := 0, r := 0, reported := false, heard := none, ended := none }
  | .twtTeardown flow => twtTorn s i flow
  | .csiFeedback corr =>
    let st := station s i
    setStation s i { st with csiAt := st.csiAt.put x.radio s.now, corr := st.corr.put x.radio corr }
  | _ => s

/-- Held MPDUs in SN order from a start. -/
def inOrder (start : Nat) (l : List Held) : List Nat :=
  (sortBy (fun a b => decide (snDist start a.sn ≤ snDist start b.sn)) l).map (fun h => h.mpdu)

/-- A frame that the air MAC handles acts (R118): the state, and the MPDUs that leave their scoreboard by it, in SN order. An
ADDBA request replaces the agreement of its TID and is answered (R128); a DELBA moves the window and ends the agreement (R126). -/
def actionOf (s : State) (x : Arrived) : State × List Nat :=
  let i := x.station.getD 0
  match x.mpdu.kind with
  | .addbaRequest tid w start =>
    let b := board s i tid
    let win := agreedWindow s w
    let t := mirrorAgreement (setBoard s i tid { window := win, start := start % 4096 }) i tid
    (outgoing t x.radio (.addbaResponse i tid win), inOrder b.start b.held)
  | .delba tid start fromOriginator =>
    if fromOriginator then
      let b := board s i tid
      let r := settle b.start (moveStart b (start % 4096)).1
      (mirrorAgreement (setBoard s i tid {}) i tid, r.1.map (fun h => h.mpdu) ++ inOrder r.2.start r.2.held)
    else
      let st := station s i
      (mirrorAgreement (setStation s i { st with txWindow := st.txWindow.del tid }) i tid, [])
  | _ => (simpleAction s x, [])

/-- An MPDU handed to the Locksmith (R229). -/
def toLocksmith (s : State) (m : Nat) : State := setLock s { s.lock with input := s.lock.input ++ [m] }

/-- An MPDU with a cipher or an MIC is released: a management frame for the host takes its token now (R341). -/
def releaseProtected (s : State) (m : Nat) (x : Arrived) : State :=
  if isManagement x.mpdu.kind && !(macHandles x.mpdu.kind) then
    let t := toMgmt s x (staSource x) (some m)
    if 16384 ≤ s.carter.tokens.length then forgetMpdu t m else toLocksmith t m
  else toLocksmith s m

/-- A group-addressed robust management frame of the backhaul peer, which BIP protects (R237). -/
def underBip (s : State) (x : Arrived) : Bool :=
  isRobust x.mpdu.kind && groupAddr x.mpdu.ra && decide (x.station = some (rd s O.bh_station)) && !x.mpdu.isProtected

/-- A management frame or an action that needs no verdict, or whose verdict is in: the host, or the air MAC itself (R118). -/
def passManagement (s : State) (m : Nat) (x : Arrived) : State × List Nat :=
  if macHandles x.mpdu.kind then actionOf (dropMpdu s m) x
  else (toMgmt (forgetMpdu s m) x (staSource x) none, [])

/-- An MPDU leaves the air MAC (R116): counted, then on to the Locksmith, the host or the air MAC's own handling. The MPDUs that
this frees follow it. -/
def releaseOne (s : State) (m : Nat) : State × List Nat :=
  match s.mac.arrived.look m with
  | none => (s, [])
  | some x =>
    let s1 := countRelease (holdBuf s x.buf false) (x.station.getD 0) x.mpdu.length
    if x.mpdu.isProtected || underBip s x then (releaseProtected s1 m x, [])
    else if isManagement x.mpdu.kind then passManagement s1 m x
    else match x.mpdu.kind with
      | .data => (allocFixed (forgetMpdu s1 m) (airRx s1 x (staSource x) (presentMpdu x.mpdu) none) (rd s1 O.eapol_queue), [])
      | _ => (dropMpdu s1 m, [])

/-- MPDUs released in turn. -/
def releaseList : Nat → List Nat → State → State
  | 0, _, s => s
  | _ + 1, [], s => s
  | n + 1, m :: rest, s =>
    let r := releaseOne s m
    releaseList n (r.2 ++ rest) r.1

/-- MPDUs released (R125): each one held or given is released once. -/
def releaseAll (s : State) (l : List Nat) : State := releaseList (s.mac.arrived.length + l.length) l s

/-! ### Reordering (R125, R126) -/

/-- A scoreboard settled after a change, its passed MPDUs released. -/
def settleBoard (s : State) (i tid old : Nat) : State :=
  let r := settle old (board s i tid)
  releaseAll (setBoard s i tid r.2) (r.1.map (fun h => h.mpdu))

/-- A window moved by a BlockAckReq, a DELBA or a replay (R126); a number behind WinStart changes nothing. -/
def moveWindow (s : State) (i tid start : Nat) : State :=
  let b := board s i tid
  if b.window = 0 ∨ snDist b.start start = 0 ∨ snBefore b.start start then s
  else settleBoard (setBoard s i tid (moveStart b start).1) i tid b.start

/-- The scoreboard with the oldest held MPDU: station, TID and when it was held. -/
def oldestBoard (s : State) : Option (Nat × Nat × Nat) :=
  (s.mac.stations.flatMap (fun e => e.2.boards.flatMap (fun b => b.2.held.map (fun h => (e.1, b.1, h.since))))).foldl
    (fun a x => match a with
      | some y => if x.2.2 < y.2.2 then some x else some y
      | none => some x) none

/-- A scoreboard flushed (R125): every MPDU it holds is released in SN order, with kind 0x31. -/
def flushBoard (s : State) (r i tid : Nat) : State :=
  let b := board s i tid
  let last := b.held.foldl (fun n h => max n (snDist b.start h.sn)) 0
  let s1 := setBoard s i tid (moveStart b ((b.start + last + 1) % 4096)).1
  report (bump (settleBoard s1 i tid b.start) (O.reorder_flushes r)) 0x31 (scoreboardHid s) 0

/-- Room made in the reorder pool for `n` cells (R125, R316 rule 1). -/
def poolRoom (r : Nat) : Nat → Nat → State → State
  | 0, _, s => s
  | k + 1, n, s =>
    if rd s O.reorder_pool < rd s O.reorder_pool_used + n then
      match oldestBoard s with
      | some x => poolRoom r k n (flushBoard s r x.1 x.2.1)
      | none => s
    else s

/-- An MPDU with its cells takes its place in a scoreboard (R125): released at once where the start passes it, else held. -/
def placeMpdu (s : State) (r i tid sn m old : Nat) : State :=
  let b := board s i tid
  let s1 := settleBoard (setBoard s i tid { b with held := b.held ++ [{ sn := sn, mpdu := m, since := s.now }] }) i tid old
  if (board s1 i tid).held.any (fun h => h.mpdu = m) then
    match s1.mac.arrived.look m with
    | some x =>
      let n := (match bufOf s1 x.buf with | some y => y.onDie | none => 0)
      let s2 := poolRoom r n n s1
      if (board s2 i tid).held.any (fun h => h.mpdu = m) then holdBuf s2 x.buf true else s2
    | none => s1
  else s1

/-- REORDER_TIMEOUT (R125): the oldest held MPDU has waited `reorder_timeout`; WinStart moves to it. -/
def execReorderTimeout (station tid : Nat) (s : State) : Host.Outcome State Fault Refusal :=
  act s fun s =>
    let b := board s station tid
    match b.held.foldl (fun (a : Option Held) h => match a with
        | some y => if h.since < y.since then some h else some y
        | none => some h) none with
    | some h =>
      let r := match s.mac.arrived.look h.mpdu with
        | some x => x.radio
        | none => 0
      settleBoard (bump (setBoard s station tid (moveStart b h.sn).1) (O.reorder_gap_skips r)) station tid b.start
    | none => s

end Sys2Proof.Machine
end

