-- ==== Sys2Proof/Machine/AirMac.lean ====
section
/-! DEFINITION. The air MAC's receive side (R116 to R122, R129, R140, R142) and what becomes of sent MPDUs (R128, R160, R174,
R326): the filter, the SIFS responder, power save, beacons heard, acknowledgements and age. -/

namespace Sys2Proof.Machine

/-- The receive filter, the beacon builder and the backhaul-client engine as sources (R112). -/
def filterHid (s : State) (r : Nat) : Nat := hidOf s 0 1 0 r
def beaconHid (s : State) (r : Nat) : Nat := hidOf s 0 1 2 r
def backhaulHid (s : State) : Nat := hidOf s 0 1 4 0

/-- SIFS in ns (R158). -/
def sifs (r : Nat) : Nat := if r = 0 then 10000 else 16000

/-- A non-HT frame's time in ns: 20 µs and 4 µs a symbol of `perSymbol` bits (R158). -/
def nonHt (perSymbol len : Nat) : Nat := 20000 + 4000 * ceilDiv (22 + 8 * len) perSymbol

/-- The chains a radio sends on, as a mask: enabled and not in FAULT. -/
def goodChains (s : State) (r : Nat) : Nat :=
  ((enabledChains s r).filter (fun k => !((radio s r).faulty.contains k))).foldl (fun a k => a + 2 ^ k) 0

/-- The power this module asks for on each chain: the fused chain limit, which R99 lowers (DESIGN CHOICE, log 37). -/
def askedPower (s : State) (r : Nat) : Nat := (radioFuse s.fuse r).chainMax

/-- The Ostler's next tag taken. -/
def takeTag (s : State) : Nat × State := (s.ost.nextTag, { s with ost := { s.ost with nextTag := s.ost.nextTag + 1 } })

/-! ### SIFS responses (R119 to R121) -/

/-- What a PPDU has shown so far, and that changed. -/
def ppduOf (s : State) (r : Nat) : RxPpdu := s.mac.ppdu.getD r {}
def setPpdu (s : State) (r : Nat) (x : RxPpdu) : State := setMac s { s.mac with ppdu := s.mac.ppdu.put r x }

/-- A response says that more data waits (R121). -/
def moreData (s : State) (r i : Nat) : Bool :=
  bit (staPs s i) r && bit (rd s (winKey i O.sta_caps)) 6 && (staQueues i).any (fun a => !((airQ s a).frames.isEmpty))

/-- One entry of a BlockAck, from the scoreboard as it stands (R120). -/
def baEntry (s : State) (e : Nat × Nat) : BaEntry :=
  let b := board s e.1 e.2
  { station := e.1, tid := e.2, start := b.start, marks := b.marked.map (fun x => snDist b.start x) }

/-- A response given to the radio: its first sample follows the PPDU by SIFS (R120). -/
def sifsSend (s : State) (r bytes : Nat) (c : TxContent) : State :=
  let t := takeTag s
  offerCommand t.2 r
    { issuer := .sifs, tag := t.1, start := none, deadline := tbNs s + sifs r + 20000, preamble := 20000, duration := nonHt 96 bytes,
      subchannels := [rd s (O.primary r)], chains := goodChains s r, power := askedPower s r, held := false, content := c }

/-- The response of R119 to a PPDU that has ended, if it draws one: its bytes on air and content. -/
def responseOf (s : State) (r : Nat) (x : RxPpdu) : Option (Nat × TxContent) :=
  match x.rts with
  | some ta => if s.mac.nav.getD r 0 ≤ tbNs s ∧ rState s r = 4 then some (14, .cts ta) else none
  | none =>
    match x.psPoll with
    | some ta => some (14, .ack ta (x.stations.any (moreData s r)))
    | none =>
      match x.bar with
      | some e => some (32, .blockAck [baEntry s e] (x.stations.filter (moreData s r)))
      | none =>
        match x.single with
        | some ta => some (14, .ack ta (x.stations.any (moreData s r)))
        | none =>
          let l := x.acks.filter (fun e => decide ((board s e.1 e.2).window ≠ 0))
          if l = [] then none
          else some (if l.length = 1 then 32 else 22 + 20 * l.length,
            .blockAck (l.map (baEntry s)) (x.stations.filter (moreData s r)))

/-- The end of a received PPDU: the responder acts where this module owns the link (R119, R122). -/
def respond (s : State) (r : Nat) : State :=
  let x := ppduOf s r
  let t := setPpdu s r {}
  if ownsLinks s = false then t
  else match responseOf s r x with
    | some (n, c) => sifsSend (if x.psPoll.isSome then bump t (O.ps_polls r) else t) r n c
    | none => t

/-- What check 4 takes from an MPDU for the response (R119). -/
def noteResponse (s : State) (r : Nat) (m : RxMpdu) (sta : Option Nat) : State :=
  let x := ppduOf s r
  let x1 := match sta with
    | some i => if x.stations.contains i then x else { x with stations := x.stations ++ [i] }
    | none => x
  if groupAddr m.ra then s
  else match m.kind with
    | .rts => setPpdu s r { x1 with rts := some m.ta }
    | .psPoll => setPpdu s r { x1 with psPoll := some m.ta }
    | .blockAckReq tid _ => setPpdu s r { x1 with bar := sta.map (fun i => (i, tid)) }
    | .acks _ | .cts | .otherControl => setPpdu s r x1
    | _ =>
      if m.noAck then setPpdu s r x1
      else if m.form = .single then setPpdu s r { x1 with single := some m.ta }
      else match sta, m.tid with
        | some i, some t => setPpdu s r { x1 with acks := if x1.acks.contains (i, t) then x1.acks else x1.acks ++ [(i, t)] }
        | _, _ => setPpdu s r x1

/-! ### Sent MPDUs (R128, R160, R174, R326) -/

/-- The highest MCS that a station's capabilities allow (IEEE 802.11, PRESUMED, log 38). -/
def topMcs (s : State) (i : Nat) : Nat :=
  let c := rd s (winKey i O.sta_caps)
  if bit c 3 then 13 else if bit c 2 then 11 else if bit c 1 then 9 else if bit c 0 then 7 else 0

/-- A station's rate on a radio: MCS and NSS (R160, R179). -/
def rateOf (s : State) (i r : Nat) : Nat × Nat :=
  let v := (station s i).rate.getD r 4
  (min (v % 16) (topMcs s i), v / 16 + 1)

/-- The rate after an exchange of `n` MPDUs of which `lost` were not acknowledged (R160). -/
def rateMove (s : State) (i r n lost : Nat) : State :=
  let st := station s i
  let p := rd s (O.per_target r)
  let x := rateOf s i r
  let code := fun (mcs nss : Nat) => (nss - 1) * 16 + mcs
  if staState s i = 0 ∨ n = 0 then s
  else if p * n < lost * 100 then
    let v := if 0 < x.1 then code (x.1 - 1) x.2 else code 0 (max 1 (x.2 - 1))
    setStation s i { st with rate := st.rate.put r v, good := st.good.put r 0 }
  else if lost * 400 ≤ p * n then
    let g := st.good.getD r 0 + 1
    if g < rd s O.la_up_count then setStation s i { st with good := st.good.put r g }
    else
      let v := if x.1 < topMcs s i then code (x.1 + 1) x.2 else code x.1 (min (min 16 (popCount 16 (goodChains s r))) (x.2 + 1))
      setStation s i { st with rate := st.rate.put r (if x.1 < topMcs s i ∨ x.2 < popCount 16 (goodChains s r) then v else code x.1 x.2),
                               good := st.good.put r 0 }
  else setStation s i { st with good := st.good.put r 0 }

/-- One MPDU of an exchange is answered or found lost; the last one of a station moves its rate. -/
def tallyOne (s : State) (u : Unacked) (lost : Bool) : State :=
  let k := u.tag * 65536 + u.station
  let c := s.ost.tally.getD k (0, 0)
  let n := (c.1 + 1, c.2 + (if lost then 1 else 0))
  if s.ost.sent.any (fun v => decide (v.tag = u.tag ∧ v.station = u.station)) then
    { s with ost := { s.ost with tally := s.ost.tally.put k n } }
  else rateMove { s with ost := { s.ost with tally := s.ost.tally.del k } } u.station u.radio n.1 n.2

/-- An MPDU sent by its station, TID and sequence number, taken off the list of those awaited. -/
def takeSent (s : State) (i tid sn : Nat) : Option Unacked × State :=
  let here := fun (u : Unacked) => decide (u.station = i ∧ u.frame.tid = tid ∧ u.frame.sn = some sn)
  match s.ost.sent.find? here with
  | some u => (some u, { s with ost := { s.ost with sent := s.ost.sent.filter (fun v => !(here v)) } })
  | none => (none, s)

/-- An MPDU acknowledged (R145, R146): counted, and its cells given back. -/
def ackMpdu (s : State) (i tid sn : Nat) : State :=
  match takeSent s i tid sn with
  | (some u, t) =>
    let t1 := bumpBy (bump (bump t (O.tx_acked u.radio)) (winKey i O.tx_mpdu)) (winKey i O.sta_tx_bytes) u.frame.bytes.length
    tallyOne (dropLeg t1 u.frame.buf) u false
  | (none, t) => t

/-- A frame goes back to the head of its air queue (R128, R171, R173), in the order of its sequence number. -/
def returnFrame (s : State) (i : Nat) (f : AirFrame) : State :=
  let a := 4 * i + acOf f.tid
  let q := airQ s a
  let before := fun (g : AirFrame) => match g.sn, f.sn with
    | some x, some y => g.tid != f.tid || decide (snDist x y < 2048)
    | some _, none => true
    | none, _ => false
  setAirQ s a { q with frames := q.frames.takeWhile before ++ [f] ++ q.frames.dropWhile before }

/-- A transmit agreement of a station and TID (R128). -/
def txAgreed (s : State) (i tid : Nat) : Bool := (station s i).txWindow.has tid

/-- An MPDU that is given up (R128): counted on its radio and station; inside an agreement a BlockAckReq is owed. -/
def failMpdu (s : State) (i : Nat) (f : AirFrame) : State :=
  let s1 := bump (bump s (O.air_tx_failed (f.radio.getD 0))) (winKey i O.sta_tx_failed)
  let s2 := dropLeg s1 f.buf
  match f.sn with
  | some n =>
    if txAgreed s i f.tid then
      let st := station s2 i
      setStation s2 i { st with bars := st.bars.filter (fun b => b.1 ≠ f.tid) ++ [(f.tid, (n + 1) % 4096)] }
    else s2
  | none => s2

/-- MPDU_UNACKED (R128, R174): a retry counts; the MPDU returns to its queue head, or is dropped at `retry_limit`. -/
def execMpduUnacked (station tid sn : Nat) (s : State) : Host.Outcome State Fault Refusal :=
  act s fun s =>
    match takeSent s station tid sn with
    | (some u, t) =>
      let t1 := bump (bump t (O.air_tx_retries u.radio)) (winKey station O.sta_tx_retries)
      let t2 := if rd s O.retry_limit ≤ u.frame.sends then failMpdu t1 station u.frame else returnFrame t1 station u.frame
      tallyOne t2 u true
    | (none, t) => t

/-- The aged frames of one air queue dropped (R326); one that holds a sequence number goes as the retry limit drops one. A queue that
this empties leaves the list (R323). -/
def ageQueue (s : State) (a : Nat) : State :=
  let q := airQ s a
  let old := q.frames.filter (aged s a)
  let t := setAirQ s a { q with frames := q.frames.filter (fun f => !(aged s a f)), drops := q.drops + old.length }
  let u := old.foldl (fun t f =>
    let t1 := bump t O.aged_drops
    if f.sn.isSome then failMpdu t1 (a / 4) f else dropLeg t1 f.buf) t
  if (airQ u a).frames.isEmpty ∧ u.miller.airSched.list.contains a then airLeave u a else u

/-- AIR_AGE_SWEEP (R326). -/
def execAirAgeSweep (s : State) : Host.Outcome State Fault Refusal :=
  act s fun s => (s.miller.air.map (fun e => e.1)).foldl ageQueue s

/-! ### The backhaul and beacons heard (R140 to R142) -/

/-- `bh_state` follows the links (R142): 0 DISABLED, 1 UP, 2 DEGRADED, 3 DOWN. -/
def bhRefresh (s : State) : State :=
  let want := (linkList (rd s O.bh_links)).filter (fun r => radioFitted s.fuse.part r)
  let up := want.filter (fun r => bit (rd s O.bh_link_state) r)
  wr s O.bh_state (if flag s O.bh_enable = false then 0 else if up = [] then 3 else if up.length < want.length then 2 else 1)

/-- A beacon of the upstream AP (R140, R142): the count of misses starts again, and a lost link returns after `bh_regain` of them. -/
def upstreamBeacon (s : State) (r : Nat) : State :=
  let m := { s.mac with missed := s.mac.missed.put (3 + r) 0 }
  if bit (rd s O.bh_link_state) r then setMac s m
  else
    let n := s.mac.regained.getD r 0 + 1
    if n < rd s O.bh_regain then setMac s { m with regained := m.regained.put r n }
    else bhRefresh (wr (setMac s { m with regained := m.regained.put r 0 }) O.bh_link_state (setBit (rd s O.bh_link_state) r))

/-- A beacon that passed check 1 (R140): the lead's in FOLLOW, and the upstream AP's. -/
def beaconHeard (s : State) (r : Nat) (ta : Octets) : State :=
  let s1 := if roleMode s = 9 ∧ ta = rdB s (O.bssid r 0) then setMac s { s.mac with missed := s.mac.missed.put r 0 } else s
  if bhLink s1 r && decide (ta = bhBssid s1 r) then upstreamBeacon s1 r else s1

/-! ### Receive (R116) -/

/-- The NAV follows the Duration field (R116). -/
def navUpdate (s : State) (r : Nat) (m : RxMpdu) : State :=
  if ownAddr s r m.ra ∨ m.kind = .psPoll then s
  else setMac s { s.mac with nav := s.mac.nav.put r (max (s.mac.nav.getD r 0) (tbNs s + m.duration * 1000)) }

/-- The group addresses of a radio's join list (R117). -/
def joinList (b : Octets) : List Octets := (List.range (b.length / 6)).map (fun i => slice b (6 * i) 6)

/-- Check 3 (R116, R117): 0 not mine, 1 mine, 2 by the join list. -/
def addressCheck (s : State) (r : Nat) (ra : Octets) : Nat :=
  if ownAddr s r ra ∨ broadcastAddr ra then 1
  else if groupAddr ra ∧ ra ∈ joinList (rdB s (O.rx_group_list r)) then 2 else 0

/-- The station of a transmitter (R116 check 5): an entry's link address, or the backhaul peer's. -/
def transmitter (s : State) (r : Nat) (ta : Octets) : Option Nat :=
  match stationOf s r ta with
  | some i => some i
  | none =>
    let b := rd s O.bh_station
    if bhLink s r && decide (bhBssid s r = ta) && decide (staState s b ≠ 0) then some b else none

/-- The buffer of a received MPDU (R314, R315): management and EAPOL go to a to-host queue, and so may use the reserve. -/
def takeMpdu (s : State) (r : Nat) (m : RxMpdu) (sta : Option Nat) : Option Nat × State :=
  let reserved := isManagement m.kind || (!m.isProtected && carriesEapol m) || m.tid.any (fun t => tcOf s t = 7)
  match takeBuf s m.length reserved false none with
  | (some b, t) =>
    let k := t.mac.next
    (some k, setMac t { t.mac with next := k + 1,
                                   arrived := t.mac.arrived.put k { radio := r, mpdu := m, station := sta, stamp := tbNs s, buf := b } })
  | (none, _) => (none, noCellDrop s)

/-- The probe engine answers (R118): an individually addressed request for its BSSID, a wildcard one for every BSSID. -/
def probeAnswer (s : State) (r : Nat) (m : RxMpdu) (wildcard : Bool) : State :=
  let hits := (List.range 16).filter (fun i => bssServed s r i &&
    (if groupAddr m.ra then wildcard else decide (rdB s (O.bssid r i) = m.ra)))
  hits.foldl (fun t i =>
    let b := t.mac.templates.getD (O.probe_template r i) []
    if b = [] then t else outgoing t r (.probeResponse m.ta b)) s

/-- A Deauthentication with reason 7 (R118): one per address and 100 ms, 200 per radio and second. -/
def deauthUnknown (s : State) (r : Nat) (ta : Octets) : State :=
  let l := s.mac.deauths.filter (fun e => s.now < e.2.2 + 1000000000)
  let recent := l.any (fun e => decide (e.2.1 = ta) && decide (s.now < e.2.2 + 100000000))
  if recent ∨ 200 ≤ (l.filter (fun e => e.1 = r)).length ∨ ownsLinks s = false then s
  else outgoing (setMac s { s.mac with deauths := l ++ [(r, ta, s.now)] }) r (.deauth ta 7)

/-- A management frame of an unknown transmitter goes to `mgmt_queue`; no station's number names it, so the index of its source
word is free (log 1). -/
def unknownMgmt (s : State) (r : Nat) (m : RxMpdu) : State :=
  match takeMpdu s r m none with
  | (some k, t) =>
    match t.mac.arrived.look k with
    | some x => toMgmt (freeNext (forgetMpdu t k)) x (0x1000 + freeBelow s 4096) none
    | none => t
  | (none, t) => t

/-- An MPDU of an unknown transmitter (R118). -/
def unknownRx (s : State) (r : Nat) (m : RxMpdu) : State :=
  let s := bump s (O.rx_unknown_ta r)
  match m.kind with
  | .probeRequest w => if rd s O.probe_mode = 1 then probeAnswer s r m w else unknownMgmt s r m
  | .authentication | .associationRequest => unknownMgmt s r m
  | _ => if !(groupAddr m.ra) && flag s O.deauth_unknown then deauthUnknown s r m.ta else s

/-- The power-management state of a station on a link (R129). -/
def powerSave (s : State) (r i : Nat) (on : Bool) : State :=
  let v := putBit (staPs s i) r on
  if v = staPs s i then s else wakeStation (mirror (wr s (winKey i O.sta_ps) v) (.powerSave i v)) i

/-- The mean of the signal strengths kept, in dBm. -/
def meanOf (l : List Int) : Int := if l = [] then 0 else l.foldl (fun a b => a + b) 0 / (l.length : Int)

/-- What a known station's MPDU shows beside its contents (R129, R132, R146, R165). -/
def heardFrom (s : State) (r i : Nat) (m : RxMpdu) (fresh : Bool) : State :=
  let s1 := wr (powerSave s r i m.powerSave) (winKey i O.last_rx) (now80 s)
  let st := station s1 i
  let l := if fresh then (m.rssi :: st.rssi).take 16 else st.rssi
  let st1 := { st with rssi := l, service := if m.endOfService then st.service.filter (fun x => x ≠ r)
    else if m.powerSave && bit (rd s (winKey i O.sta_caps)) 4 && m.tid.isSome && !(st.service.contains r) then st.service ++ [r]
    else st.service }
  let st2 := match m.bsr with
    | some b => { st1 with bsr := b, bsrAt := some s.now, credit := if st.bsr = 0 ∧ b ≠ 0 then 0 else st1.credit }
    | none => st1
  let s2 := wrI (setStation s1 i st2) (winKey i O.rssi) (meanOf l)
  let s3 := twtHeard s2 r i
  if m.endOfService then twtEnd s3 r i else s3

/-- A triggered station has sent its TB PPDU (R165, R174): the bytes it was asked for are charged to its credit. -/
def triggeredHeard (s : State) (r i : Nat) : State :=
  match s.ost.triggered.find? (fun e => decide (e.1 = r) && decide (e.2.1 = i)) with
  | some e =>
    let st := station s i
    let s1 := setStation s i { st with credit := st.credit - (e.2.2 : Int) }
    { s1 with ost := { s1.ost with triggered := s.ost.triggered.filter (fun x => x ≠ e) } }
  | none => s

/-- Check 6 (R123): whether an MPDU is a duplicate. Null data carry no MSDU and are left out (DEDUCED, log 39). -/
def duplicate (s : State) (i : Nat) (m : RxMpdu) : Bool :=
  match m.kind with
  | .nullData => false
  | _ =>
    match m.tid with
    | some t =>
      let b := board s i t
      if b.window ≠ 0 then snBefore b.start m.sn || (decide (snDist b.start m.sn < b.window) && b.marked.contains m.sn)
      else m.retry && decide (b.lastSn = some m.sn)
    | none => m.retry && decide ((station s i).cache = some (m.sn, m.frag))

/-- An MPDU marked as it passes check 6 (R127); the gaps that the window's move skips count. -/
def markMpdu (s : State) (r i : Nat) (m : RxMpdu) : State :=
  match m.kind with
  | .nullData => s
  | _ =>
    match m.tid with
    | some t =>
      let b := board s i t
      if b.window = 0 then setBoard s i t { b with lastSn := some m.sn }
      else
        let x := markSn b m.sn
        let s1 := bumpBy (setBoard s i t x.1) (O.reorder_gap_skips r) x.2
        if 16 ≤ x.1.unsent then mirrorBoard s1 i t else s1
    | none => setStation s i { station s i with cache := some (m.sn, m.frag) }

/-- Check 7 (R116): the classes admitted. -/
def classAdmitted (s : State) (i : Nat) (m : RxMpdu) : Bool :=
  match m.kind with
  | .data => if m.isProtected then decide (staState s i = 2) else carriesEapol m
  | .nullData => m.isProtected && decide (staState s i = 2)
  | _ => true

/-- Checks 6 to 8 of a data or management MPDU (R116, R125). -/
def stationMpdu (s : State) (r i : Nat) (m : RxMpdu) : State :=
  if duplicate s i m then bump (bump s (O.air_rx_dup r)) (winKey i O.sta_rx_dup)
  else
    let old := (m.tid.map (fun t => (board s i t).start)).getD 0
    let s1 := markMpdu s r i m
    let agreed := match m.kind, m.tid with
      | .nullData, _ => none
      | _, some t => if (board s i t).window ≠ 0 then some t else none
      | _, none => none
    let settled := fun (u : State) => match agreed with
      | some t => settleBoard u i t old
      | none => u
    if classAdmitted s i m = false then settled (bump s1 (O.rx_class_drop r))
    else match takeMpdu s1 r m (some i) with
      | (none, u) => settled u
      | (some k, u) =>
        match agreed with
        | some t => placeMpdu u r i t m.sn k old
        | none => releaseAll u [k]

/-- A known station's MPDU past check 5: control frames act at once (R126, R128, R129). -/
def knownRx (s : State) (r i : Nat) (m : RxMpdu) (fresh : Bool) : State :=
  let s0 := heardFrom s r i m fresh
  let s1 := if m.form = .triggerBased then triggeredHeard s0 r i else s0
  match m.kind with
  | .blockAckReq tid start => moveWindow s1 i tid (start % 4096)
  | .acks l => l.foldl (fun t e => ackMpdu t i e.1 e.2) s1
  | .psPoll =>
    let st := station s1 i
    setStation s1 i { st with psPoll := if st.psPoll.contains r then st.psPoll else st.psPoll ++ [r] }
  | .rts | .cts | .otherControl => s1
  | _ => stationMpdu s1 r i m

/-- A frame that names no transmitter, so that check 5 has nothing to look for. -/
def withoutTa : RxKind → Bool
  | .cts | .acks _ => true
  | _ => false

/-- Checks 1 to 8 of one MPDU (R116). -/
def receiveMpdu (s : State) (r : Nat) (m : RxMpdu) : State :=
  if m.fcsOk = false then bump s (O.air_rx_fcs_err r)
  else
    let s0 := navUpdate (bump s (O.rx_fcs_ok r)) r m
    let s1 := if m.kind = .beacon then beaconHeard s0 r m.ta else s0
    if 11454 < m.length then bump s1 (O.air_rx_oversize r)
    else
      let c := addressCheck s1 r m.ra
      if c = 0 then bump s1 (O.rx_not_mine r)
      else
        let s2 := if c = 2 then bump s1 (O.rx_group_hits r) else s1
        let sta := transmitter s2 r m.ta
        let fresh := match sta with
          | some i => !((ppduOf s2 r).stations.contains i)
          | none => false
        let s3 := noteResponse s2 r m sta
        match sta with
        | some i => knownRx s3 r i m fresh
        | none => if withoutTa m.kind then s3 else unknownRx s3 r m

/-- An uncorrectable error met as an MPDU is looked up: its transmitter's entry goes as by REMOVE (R149), or the slot it selects
is zeroised as by CLEAR (R223). The MPDU then finds no entry, or no key. -/
def lookupError (s : State) (r : Nat) (m : RxMpdu) (e : LookupError) : State :=
  match (if m.fcsOk then transmitter s r m.ta else none) with
  | none => s
  | some i =>
    match e with
    | .none => s
    | .station => report (staRemove s i) 0x30 (stationTableHid s) 0
    | .slot =>
      match rxSlot s 0 i m.keyId with
      | some k => report (mirror (slotZero s k) (.slot k 0 0 [] [])) 0x40 (keyStoreHid s) 0
      | none => s

/-- MPDU_RECEIVED (R116): taken while the radio is in RX; the last MPDU of a PPDU draws the response (R119). -/
def execMpduReceived (r : Fin 3) (m : RxMpdu) (e : LookupError) (s : State) : Host.Outcome State Fault Refusal :=
  act s fun s =>
    if rState s r ≠ 4 then s
    else
      let t := receiveMpdu (lookupError s r m e) r m
      if m.last then respond t r else t

end Sys2Proof.Machine
end

