-- ==== Sys2Proof/Machine/Locksmith.lean ====
section
/-! DEFINITION. The Locksmith's receive side (R229 to R237) and the end of a MACsec check (R240): the PN checks, the plaintext's way
to the Assayer, verdicts and the commit gate. The ciphers' arithmetic stands outside (log 20): an MPDU arrives with the plaintext
the engine makes of it, and the engine's verdict is a command of its own. -/

namespace Sys2Proof.Machine

/-- One of the sixteen air engines reports; which of them had the MPDU the spec leaves open (log 1). -/
def engineReport (s : State) (kind : Nat) : State := report (freeNext s) kind (hidOf s 0 3 0 (freeBelow s 16)) 0

/-- The replay counter of an MPDU (R228). -/
def replayCounter (x : RxMpdu) : Nat := if isManagement x.kind then 9 else x.tid.getD 8

/-- An MPDU dropped before any plaintext of it went out (R229): its token, if it has one, and its cells go. -/
def refuseMpdu (s : State) (m : Nat) : State :=
  if waitingFor s m = [] then dropMpdu s m else forgetMpdu ((waitingFor s m).foldl cancelToken s) m

/-- A replay (R231): dropped and counted; inside an agreement the window moves past its number. -/
def replayed (s : State) (m slot : Nat) (x : Arrived) : State :=
  let i := x.station.getD 0
  let s1 := bump (bump (refuseMpdu s m) O.replays) (winKey slot O.slot_replays)
  match x.mpdu.kind, x.mpdu.tid with
  | .data, some t => moveWindow s1 i t ((x.mpdu.sn + 1) % 4096)
  | _, _ => s1

/-! ### The plaintext's way (R232, R248 to R250) -/

/-- The frames an air data MPDU is presented as; a subframe that fails comes last, with its class. -/
def presented (s : State) (m : Nat) (x : Arrived) : List Frame :=
  let f := airRx s x (staSource x) [] (some m)
  if x.mpdu.amsdu then
    let r := splitAmsdu x.mpdu.body x.mpdu.body.length 0
    r.1.map (fun b => { f with bytes := b, subframe := true }) ++
      (match r.2 with
       | some (c, b) => [{ f with bytes := b, subframe := true, cls := c }]
       | none => [])
  else if x.mpdu.body = [] then []
  else [{ f with bytes := presentMpdu x.mpdu }]

/-- Plaintext streams to the parser (R232): the frames wait for their first visit, and the MPDU's cells become theirs. -/
def present (s : State) (m : Nat) (x : Arrived) : State :=
  let l := presented s m x
  let s1 := (l.drop 1).foldl (fun t _ => addLeg t x.buf) s
  { s1 with entering := s1.entering ++ l }

/-- Whether an MPDU's cells belong to presented frames or to a token. -/
def presents (s : State) (m : Nat) (x : Arrived) : Bool :=
  match x.mpdu.kind with
  | .data => !(presented s m x).isEmpty
  | k => isManagement k && !(macHandles k)

/-- Checks 4 to 6 (R229, R230): a replay is dropped, an MPDU whose PN is not above those in flight waits, any other is deciphered. -/
def pnChecks (s : State) (m slot : Nat) (x : Arrived) : State :=
  let c := replayCounter x.mpdu
  if x.mpdu.pn ≤ replayC s slot c then replayed s m slot x
  else if s.lock.flight.any (fun f => decide (f.macsec = false ∧ f.slot = slot ∧ f.counter = c ∧ x.mpdu.pn ≤ f.pn)) then
    bump (setLock s { s.lock with waiting := s.lock.waiting ++ [m] }) O.pn_waits
  else
    let f : InFlight := { id := m, slot := slot, counter := c, pn := x.mpdu.pn, macsec := false, len := x.mpdu.length, refused := false }
    let t := setLock s { s.lock with flight := s.lock.flight ++ [f] }
    match x.mpdu.kind with
    | .data => present t m x
    | _ => t

/-- An MPDU passes the gate (R234): its frames' tokens get the verdict, or the air MAC acts on it (R118). -/
def verdictOut (s : State) (m : Nat) : State :=
  match s.mac.arrived.look m with
  | none => s
  | some x =>
    if presents s m x then verdictPass (forgetMpdu s m) m
    else if macHandles x.mpdu.kind then
      let r := actionOf (dropMpdu s m) x
      releaseAll r.1 r.2
    else dropMpdu s m

/-- A failing verdict (R235): every token of the MPDU is cancelled and its cells are freed. -/
def verdictBad (s : State) (m : Nat) : State :=
  match s.mac.arrived.look m with
  | none => s
  | some x => if presents s m x then verdictFail (forgetMpdu s m) m else dropMpdu s m

/-- BIP (R237): key, IPN, then MIC. -/
def bipCheck (s : State) (m : Nat) (x : Arrived) : State :=
  match x.mpdu.mme with
  | none => bump (refuseMpdu s m) O.rx_no_key
  | some (id, ipn, good) =>
    match rxSlot s 0 (x.station.getD 0) id with
    | none => bump (refuseMpdu s m) O.rx_no_key
    | some k =>
      if ipn ≤ replayC s k 9 then bump (bump (refuseMpdu s m) O.replays) (winKey k O.slot_replays)
      else if good = false then engineReport (bump (refuseMpdu s m) O.bip_fail) 0x47
      else verdictOut (moveC s k 9 ipn) m

/-- The header format of a cipher (R216). -/
def headerOf (cipher : Nat) : Nat := if cipher = 1 then 1 else if cipher = 2 then 2 else 0

/-- One MPDU taken by the Locksmith (R229). -/
def takeProtected (s : State) (m : Nat) : State :=
  match s.mac.arrived.look m with
  | none => s
  | some x =>
    if x.mpdu.isProtected = false then bipCheck s m x
    else if x.mpdu.extIv = false ∨ (x.mpdu.header ≠ 1 ∧ x.mpdu.header ≠ 2) then bump (refuseMpdu s m) O.rx_format
    else match rxSlot s 0 (x.station.getD 0) x.mpdu.keyId with
      | none => bump (refuseMpdu s m) O.rx_no_key
      | some k =>
        if s.mac.coldBss.contains 48 ∧ groupAddr x.mpdu.ra = true then bump (refuseMpdu s m) O.rx_no_key
        else if headerOf (slotVal s k O.key_cipher) ≠ x.mpdu.header then bump (refuseMpdu s m) O.rx_format
        else pnChecks s m k x

/-- MPDU_DECRYPT (R229): the Locksmith takes the MPDU released first. -/
def execMpduDecrypt (s : State) : Host.Outcome State Fault Refusal :=
  act s fun s =>
    match s.lock.input with
    | [] => s
    | m :: rest => takeProtected (setLock s { s.lock with input := rest }) m

/-! ### Verdicts -/

/-- An MPDU that waited is checked again from check 4, once no MPDU of its counter with a PN not below its own is in flight
(R230). -/
def recheck (s : State) (m : Nat) : State :=
  match s.mac.arrived.look m with
  | none => setLock s { s.lock with waiting := s.lock.waiting.filter (fun y => y ≠ m) }
  | some x =>
    let out := setLock s { s.lock with waiting := s.lock.waiting.filter (fun y => y ≠ m) }
    match rxSlot s 0 (x.station.getD 0) x.mpdu.keyId with
    | none => bump (refuseMpdu out m) O.rx_no_key
    | some k =>
      if s.lock.flight.any (fun f => decide (f.macsec = false ∧ f.slot = k ∧ f.counter = replayCounter x.mpdu ∧ x.mpdu.pn ≤ f.pn)) then s
      else pnChecks out m k x

/-- Every MPDU that waits is looked at again, in the order they came. -/
def recheckAll (s : State) : State := s.lock.waiting.foldl recheck s

/-- A verdict of an air MPDU goes out, or in LEAD while SYNCED is held for the follower's acknowledgement (R196). -/
def verdictGate (s : State) (x : InFlight) : State :=
  if roleMode s = 8 ∧ twinState s = 3 then
    let n := s.twin.rxpnNext
    varlanSend { s with twin := { s.twin with rxpnNext := n + 1, rxpnHeld := s.twin.rxpnHeld ++ [(n, x.id)] } } 2
      (.rxpn (.rxPn n x.slot x.counter x.pn))
  else verdictOut s x.id

/-- The tag passes (R234). -/
def airPass (s : State) (x : InFlight) : State :=
  let s1 := if s.lock.slots.has x.slot then moveC s x.slot x.counter x.pn else s
  verdictGate (bump (bump s1 O.rx_ok) (winKey x.slot O.slot_rx_ok)) x

/-- The tag fails (R235), or the gate fails closed (R236). -/
def airFail (s : State) (x : InFlight) : State :=
  engineReport (bump (bump (verdictBad s x.id) O.mic_fail) (winKey x.slot O.slot_mic_fail)) 0x41
def airFault (s : State) (x : InFlight) : State := report (bump (verdictBad s x.id) O.gate_faults) 0x46 (gateHid s) 0

/-- The verdict of a frame in flight, by its number. -/
def giveVerdict (s : State) (m : Nat) (v : TagResult) : State :=
  match s.lock.flight.find? (fun f => f.id = m) with
  | none => s
  | some x =>
    let t := setLock s { s.lock with flight := s.lock.flight.filter (fun f => f.id ≠ m) }
    recheckAll (if x.macsec then macsecVerdict t x (decide (v = .pass))
      else match v with
        | .pass => airPass t x
        | .fail => airFail t x
        | .fault => airFault t x)

/-- TAG_VERDICT (R234, R235, R240). -/
def execTagVerdict (m : Nat) (v : TagResult) (s : State) : Host.Outcome State Fault Refusal :=
  act s fun s => giveVerdict s m v

/-- VERDICT_TIMEOUT (R236): no verdict 2 µs after the last ciphertext byte. -/
def execVerdictTimeout (m : Nat) (s : State) : Host.Outcome State Fault Refusal :=
  act s fun s => giveVerdict s m .fault

end Sys2Proof.Machine
end

