-- ==== Sys2Proof/Machine/Pricing.lean ====
section
/-! DEFINITION. The Ostler's prices (R158) and the sizing of resource units (R162): times in ns. The bits per symbol of each MCS
and the sizes of the resource units are those of IEEE 802.11be (PRESUMED where the rules give no table, log 40). -/

namespace Sys2Proof.Machine

/-- Streams rounded up to the counts of R158. -/
def ltfCount (n : Nat) : Nat :=
  if n ≤ 1 then 1 else if n ≤ 2 then 2 else if n ≤ 4 then 4 else if n ≤ 6 then 6 else if n ≤ 8 then 8 else if n ≤ 12 then 12 else 16

/-- The EHT preamble of a PPDU for `u` users, SU where `u` is 1 (R158). -/
def ehtPreamble (su : Bool) (u streams : Nat) : Nat :=
  36000 + (if su then 4000 else 4000 * (1 + ceilDiv u 4)) + 8000 * ltfCount streams

/-- The preamble of a TB PPDU, and acknowledgements in one (R158). -/
def tbPreamble (streams : Nat) : Nat := 40000 + 8000 * ltfCount streams
def tbAcks : Nat := 61600

/-- Twelve times the bits an MCS puts on one subcarrier. -/
def mcsTwelfths (mcs : Nat) : Nat :=
  [6, 12, 18, 24, 36, 48, 54, 60, 72, 80, 90, 100, 108, 120].getD mcs 120

/-- Twelve times the bits of a symbol on a resource unit of `sc` data subcarriers (R158). -/
def symbolTwelfths (sc mcs nss : Nat) : Nat := sc * mcsTwelfths mcs * nss

/-- Bits of MSDUs and of a reported uplink (R158). -/
def mpduBits (sizes : List Nat) : Nat := 8 * (sizes.foldl (fun a n => a + n + 56) 0) + 16
def uplinkBits (bytes : Nat) : Nat := 8 * bytes + 16

/-- Data subcarriers of `n` unpunctured 20 MHz subchannels as one unit: each MRU has the sum of its parts (R158). -/
def channelSubcarriers (n : Nat) : Nat :=
  n / 16 * 3920 + n / 8 % 2 * 1960 + n / 4 % 2 * 980 + n / 2 % 2 * 468 + n % 2 * 234

/-- Resource units and MRUs, smallest first: data subcarriers, and ninths of a 20 MHz subchannel taken. -/
def resourceUnits : List (Nat × Nat) :=
  [(24, 1), (48, 2), (72, 3), (102, 4), (126, 5), (234, 9), (468, 18), (702, 27), (980, 36), (1448, 54), (1682, 63), (1960, 72)] ++
  [(2428, 90), (2940, 108), (3408, 126), (3920, 144)]

/-- The least data subcarriers that `min_ru` allows (R176). -/
def minRu (s : State) (r : Nat) : Nat :=
  match rd s (O.min_ru r) with
  | 0 => 24 | 1 => 48 | 2 => 102 | _ => 234

/-- What one user asks of a PPDU: its bits, MCS and NSS. -/
structure Ask where
  bits : Nat
  mcs : Nat
  nss : Nat
  deriving DecidableEq, Repr

/-- The smallest unit that carries a user's bits in `t` symbols (R162 step 1). -/
def unitFor (least t : Nat) (a : Ask) : Option (Nat × Nat) :=
  resourceUnits.find? (fun u => decide (least ≤ u.1) && decide (12 * a.bits ≤ t * symbolTwelfths u.1 a.mcs a.nss))

/-- The units of all users at `t` symbols, where every one has a unit. -/
def unitsAt (least t : Nat) : List Ask → Option (List (Nat × Nat))
  | [] => some []
  | a :: l =>
    match unitFor least t a, unitsAt least t l with
    | some u, some v => some (u :: v)
    | _, _ => none

/-- The least symbol count from `t` on, of `n` more, at which the users' units fit together in `sub` subchannels (R162 step 2). -/
def leastSymbols (least sub : Nat) (l : List Ask) : Nat → Nat → Option (Nat × List (Nat × Nat))
  | 0, _ => none
  | n + 1, t =>
    match unitsAt least t l with
    | some u => if (u.foldl (fun a x => a + x.2) 0) ≤ 9 * sub then some (t, u) else leastSymbols least sub l n (t + 1)
    | none => leastSymbols least sub l n (t + 1)

/-- The symbols of a PPDU of at most `top` ns with a preamble. -/
def symbolsIn (top preamble : Nat) : Nat := (top - preamble) / 13600

/-- The sizing of a PPDU for the first users of a list that fit together within `ppdu_max` (R162 step 3): how many of them, the
symbols, and their units. -/
def sizeUsers (least sub top : Nat) (preamble : Nat → Nat) (l : List Ask) : Nat → Option (Nat × Nat × List (Nat × Nat))
  | 0 => none
  | n + 1 =>
    match leastSymbols least sub (l.take (n + 1)) (symbolsIn top (preamble (n + 1))) 1 with
    | some (t, u) => some (n + 1, t, u)
    | none => sizeUsers least sub top preamble l n

/-- How many of some MSDUs a PPDU on `sc` subcarriers carries within `top` ns (R162): cut at an MSDU boundary. -/
def msdusWithin (top preamble sc mcs nss : Nat) (sizes : List Nat) : Nat :=
  let cap := symbolsIn top preamble * symbolTwelfths sc mcs nss
  (List.range (sizes.length + 1)).foldl (fun best n => if 12 * mpduBits (sizes.take n) ≤ cap then n else best) 0

/-- The data time of some bits. -/
def dataTime (bits sc mcs nss : Nat) : Nat := 13600 * ceilDiv (12 * bits) (symbolTwelfths sc mcs nss)

/-- A beacon at `beacon_rate` (R158, R176): 24, 48 or 96 bits a symbol. -/
def beaconTime (s : State) (r len : Nat) : Nat :=
  nonHt (match rd s (O.beacon_rate r) with | 0 => 24 | 1 => 48 | _ => 96) len

/-- A trigger, an MU-RTS or a BFRP trigger for `u` users, an NDPA, and a Multi-STA BlockAck (R158, R164). -/
def triggerTime (u : Nat) : Nat := nonHt 96 (28 + 6 * u)
def ndpaTime (u : Nat) : Nat := nonHt 96 (17 + 4 * u)
def multiStaTime (u : Nat) : Nat := nonHt 96 (22 + 20 * u)

end Sys2Proof.Machine
end

