-- ==== Sys2Proof/Machine/Planner.lean ====
section
/-! DEFINITION. The Ostler's planner (R152, R153, R157 to R169, R325): grants drawn from the Miller, the exchanges they and the fixed
needs give, their layout on the radios' time lines, and what is bound at close. Times of a plan are in ns from its boundary. -/

namespace Sys2Proof.Machine

/-- The planner, the plan memory and the executors as sources (R150). -/
def ostPlannerHid (s : State) : Nat := hidOf s 0 2 0 0
def executorHid (s : State) (r : Nat) : Nat := hidOf s 0 2 1 r

/-! ### What a radio allows (R169) -/

/-- The subchannels a plan may use: the operating channel, or the widest width around the primary that passes checks 2 and 3 of R83. -/
def planChannels (s : State) (r : Nat) : List Nat :=
  let at_ := fun (w : Nat) => unpunctured (radioFuse s.fuse r).channels r (rd s (O.primary r)) w (if w = rd s (O.width r) then rd s (O.puncture r) else 0)
  let ok := fun (l : List Nat) => !(l.isEmpty) && !(regBlocked s r l) && !(noGrant s r l)
  match (List.range (rd s (O.width r) + 1)).reverse.find? (fun w => ok (at_ w)) with
  | some w => at_ w
  | none => []

/-- A radio's plan is empty (R122, R159, R169): the module owns no link, the radio is not on its way to RX, it is muted, its
primary may not be used, or R153 empties it. -/
def planBarred (s : State) (r : Nat) : Bool :=
  !(ownsLinks s) || !(radioFitted s.fuse.part r) || decide (muteCause s r ≠ 0) || (planChannels s r).isEmpty ||
  decide (rState s r = 7) || (decide (rState s r ≤ 2) && decide (effTarget s r ≠ 3))

/-- A radio-wide calibration is admitted on a radio: its bound in ns (R169). -/
def calPending (s : State) (r : Nat) : Nat :=
  match s.steward.running.find? (fun e => radioWide e.activity && decide (activityRadio e.activity e.target = r)) with
  | some e => if e.activity = 1 then 180000000 else if e.activity = 4 then 600000 else rd s (O.act_bound e.activity) * 1000
  | none => 0

/-- The first instant of the coming frame at which access may start (R169): predicted lock plus 6 µs (R79), the end of a calibration,
the end of the NAV. `b` is the boundary in ns of the time base. -/
def planFrom (s : State) (r b : Nat) : Nat :=
  let ready := match rState s r with
    | 3 => tbNs s + 66000 - b
    | 0 => tbNs s + 1251000 - b
    | 1 => tbNs s + 1251000 - b
    | 2 => tbNs s + 51000 - b
    | _ => 0
  max ready (max (calPending s r) (s.mac.nav.getD r 0 - b))

/-- The chains a plan counts on: good ones in no non-interruptible calibration (R161, R169). -/
def planChains (s : State) (r : Nat) : Nat := if calBlocks (radio s r) [0] then 0 else goodChains s r

/-! ### Grants (R325) -/

/-- The next queue of the air scheduler (R323): the first listed for the present round, which advances where none is. -/
def nextListed (s : State) : Option Nat × State :=
  let c := s.miller.airSched
  match c.list.find? (fun a => (airQ s a).stamp ≤ c.round) with
  | some a => (some a, s)
  | none =>
    if c.list.isEmpty then (none, s)
    else
      let s1 := setMiller s { s.miller with airSched := { c with round := c.round + 1 } }
      (c.list.find? (fun a => (airQ s a).stamp ≤ c.round + 1), s1)

/-- A queue granted: its quantum added, up to `deficit_cap` quanta, and the deficit its allowance over on-die frames. -/
def grantQueue (s : State) (a : Nat) : State :=
  let q := airQ s a
  let d := min (q.deficit + airQuantum s a) (rd s O.deficit_cap * airQuantum s a)
  let held := (grantable s a).foldl (fun n f => n + f.bytes.length) 0
  let l := s.miller.airSched.list.filter (fun x => x ≠ a)
  let s1 := setAirQ s a { q with deficit := d, granted := true }
  let s2 := wr (setMiller s1 { s1.miller with airSched := { s1.miller.airSched with list := l } }) O.aq_active (l.length % 65536)
  bump { s2 with ost := { s2.ost with grants := s2.ost.grants ++ [{ queue := a, bytes := min d held }] } } O.grants

/-- GRANT_REQUEST (R325): queues that are not eligible leave the list until one can be granted. -/
def drawGrant : Nat → State → State
  | 0, s => s
  | n + 1, s =>
    match nextListed s with
    | (none, t) => t
    | (some a, t) =>
      let u := ageQueue t a
      if airEligible u a then grantQueue u a else drawGrant n (airLeave u a)

/-- GRANT_REQUEST (R325): drawn while the plan of the next frame is open. -/
def execGrantRequest (s : State) : Host.Outcome State Fault Refusal :=
  act s fun s => if s.planClosed then s else drawGrant (s.miller.airSched.list.length + 1) s

/-! ### Layout (R157, R168) -/

/-- The time before a PPDU that its exchange takes: access, or SIFS inside a TXOP. -/
def leadTime (s : State) (r : Nat) (e : Exchange) : Nat := if e.opens then rd s (O.access_price r) * 1000 else sifs r

/-- The span of an exchange on its time line. -/
def spanOf (s : State) (r : Nat) (e : Exchange) : Nat × Nat := (e.start - leadTime s r e, e.start + e.length)

/-- The first sample of the TXOP that an exchange belongs to. -/
def txopStart (l : List Exchange) (at_ : Nat) : Nat :=
  (l.filter (fun e => e.opens && decide (e.start ≤ at_))).foldl (fun m e => max m e.start) 0

/-- Two spans overlap. -/
def overlaps (a b : Nat × Nat) : Bool := decide (a.1 < b.2 ∧ b.1 < a.2)

/-- A fixed entry ends a TXOP (R168). -/
def endsTxop : ExKind → Bool
  | .beacon | .group => true
  | _ => false

/-- One place tried for an exchange: chained to the one that ends there, else in a TXOP of its own; where it fits, its start and
whether it opens (R157, R168). -/
def tryPlace (s : State) (r : Nat) (l : List Exchange) (e : Exchange) (limit c : Nat) : Option (Nat × Bool) :=
  let free := fun (x : Nat × Nat) => l.all (fun o => !(overlaps x (spanOf s r o))) && decide (x.2 ≤ limit) &&
    (match e.windowEnd with | some w => decide (x.2 ≤ w) | none => true)
  let top := rd s (O.txop_max r) * 1000
  let chained := (l.any (fun o => !(endsTxop o.kind) && decide (o.start + o.length = c))) &&
    decide (c + sifs r + e.length ≤ txopStart l c + top)
  let st := c + sifs r
  let op := c + rd s (O.access_price r) * 1000
  if chained && free (c, st + e.length) then some (st, false)
  else if free (c, op + e.length) then some (op, true)
  else none

/-- The earliest place for an exchange from `from_` on: there, or where another ends. -/
def placeFrom (s : State) (r : Nat) (l : List Exchange) (e : Exchange) (from_ limit : Nat) : Option (Nat × Bool) :=
  let ends := (l.map (fun o => o.start + o.length)).filter (fun x => decide (from_ ≤ x))
  let cands := from_ :: sortBy (fun a b => decide (a ≤ b)) ends
  cands.foldl (fun a c => match a with
    | some x => some x
    | none => tryPlace s r l e limit c) none

/-- The exchanges of a plan in order of time, one more among them. -/
def insertEx (e : Exchange) : List Exchange → List Exchange
  | [] => [e]
  | o :: t => if e.start < o.start then e :: o :: t else o :: insertEx e t

/-- What a radio's plan being built may still use: its exchanges, the first instant for access, the frame's end and the transmit
time left (R169). -/
structure PlanBoard where
  plan : List Exchange
  first : Nat
  limit : Nat
  budget : Nat
  deriving DecidableEq, Repr

/-- An exchange laid out where it fits, before `limit`; none where it does not, or the duty allows it no more. -/
def layOut (s : State) (r : Nat) (b : PlanBoard) (e : Exchange) (from_ limit : Nat) : Option PlanBoard :=
  if b.budget < e.ppdu then none
  else match placeFrom s r b.plan e (max from_ b.first) limit with
    | some (st, op) => some { b with plan := insertEx { e with start := st, opens := op } b.plan, budget := b.budget - e.ppdu }
    | none => none

/-! ### Work (R159) -/

/-- Downlink work of one queue: its frames as they stand in the queue, and the links they may use. -/
structure Work where
  queue : Nat
  links : List Nat
  frames : List AirFrame
  deriving DecidableEq, Repr

def Work.sta (w : Work) : Nat := w.queue / 4
def Work.ac (w : Work) : Nat := w.queue % 4
def Work.sizes (w : Work) : List Nat := w.frames.map (fun f => f.bytes.length)
def Work.bytes (w : Work) : Nat := w.sizes.foldl (fun a n => a + n) 0

/-- Frames of an allowance: whole MSDUs from the queue's front. -/
def withinBytes : Nat → List AirFrame → List AirFrame
  | _, [] => []
  | n, f :: t => if f.bytes.length ≤ n then f :: withinBytes (n - f.bytes.length) t else []

/-- A frame may be bound (R225): protected under the station's transmit key, or EAPOL before it has one. -/
def bindable (s : State) (i : Nat) (f : AirFrame) : Bool :=
  (txSlot s 0 i 0).isSome || f.eapol

/-- What of a grant is planned: the frames at the front that share the head's links. Without an agreement a PPDU carries one
MPDU. -/
def workOf (s : State) (g : Allowance) : Option Work :=
  let i := g.queue / 4
  match withinBytes g.bytes ((grantable s g.queue).filter (bindable s i)) with
  | [] => none
  | f :: t =>
    let links := frameLinks s g.queue f
    let same := t.takeWhile (fun x => decide (frameLinks s g.queue x = links ∧ x.tid = f.tid))
    let n := (station s i).txWindow.getD f.tid 1
    if links = [] then none else some { queue := g.queue, links := links, frames := (f :: same).take n }

/-- A station's rate as a user: its MCS and its NSS up to a cap. -/
def userRate (s : State) (i r cap : Nat) : Nat × Nat :=
  let x := rateOf s i r
  (x.1, max 1 (min x.2 (min cap (popCount 16 (planChains s r)))))

/-- A user of a PPDU with frames cut to what `top` ns carry on `sc` subcarriers. -/
def userOf (s : State) (r : Nat) (w : Work) (cap sc preamble : Nat) : ExUser :=
  let x := userRate s w.sta r cap
  let n := msdusWithin (rd s (O.ppdu_max r) * 1000) preamble sc x.1 x.2 w.sizes
  { station := w.sta, ac := w.ac, mcs := x.1, nss := x.2, ru := sc, bytes := 0, frames := w.frames.take n }

/-- The bits of a user's frames. -/
def ExUser.bits (u : ExUser) : Nat := mpduBits (u.frames.map (fun f => f.bytes.length))

/-- An exchange with nothing in it yet. -/
def blankEx (k : ExKind) (ac : Nat) (sub : List Nat) (chains : Nat) : Exchange :=
  { kind := k, ac := ac, users := [], content := none, start := 0, preamble := 0, ppdu := 0, length := 0, opens := false,
    windowEnd := none, paired := false, subchannels := sub, chains := chains, bss := 0, tag := 0 }

/-- The answer to an SU PPDU (R158): a Compressed BlockAck within an agreement, an Ack without. -/
def suAnswer (s : State) (i : Nat) (l : List AirFrame) : Nat :=
  if l.any (fun f => txAgreed s i f.tid) then nonHt 96 32 else nonHt 96 14

/-- An SU exchange of some work on a radio (R162, R167). -/
def suExchange (s : State) (r : Nat) (k : ExKind) (w : Work) : Exchange :=
  let sub := planChannels s r
  let sc := channelSubcarriers sub.length
  let pre := ehtPreamble true 1 (userRate s w.sta r 16).2
  let u := userOf s r w 16 sc pre
  let ppdu := pre + dataTime u.bits sc u.mcs u.nss
  { blankEx k w.ac sub (planChains s r) with
    users := [u], preamble := pre, ppdu := ppdu, length := ppdu + sifs r + suAnswer s w.sta u.frames }

/-! ### MU-MIMO (R161) -/

/-- A station may be grouped on radio B or C, its CSI's age apart. -/
def muCapable (s : State) (r i : Nat) : Bool :=
  decide (r ≠ 0) && (bit (rd s (winKey i O.sta_caps)) 2 || bit (rd s (winKey i O.sta_caps)) 3) && decide (2 ≤ rd s (O.dl_mu_max r))

/-- CSI of a station on a radio is at most `ms` old. -/
def csiWithin (s : State) (r i ms : Nat) : Bool :=
  match (station s i).csiAt.look r with
  | some t => decide (s.now ≤ t + ms * 1000000)
  | none => false

/-- Joint CSI of a station over the chains of both modules, within `csi_max_age` (R209). -/
def jointFresh (s : State) (i : Nat) : Bool :=
  match s.twin.jointCsi.look i with
  | some t => decide (s.now ≤ t + rd s O.csi_max_age * 1000000)
  | none => false

/-- A station is an MU candidate by its CSI (R161); on radio C while pairing is READY that CSI is the joint one (R209). -/
def muCsi (s : State) (r i : Nat) : Bool :=
  if r = 2 ∧ rd s O.pair_state = 1 then jointFresh s i else csiWithin s r i (rd s O.csi_max_age)

/-- The correlation of two stations' channels, in 1/256; without a measurement they do not go together. -/
def corrOf (s : State) (r i j : Nat) : Nat :=
  match ((station s i).corr.getD r []).find? (fun e => e.1 = j) with
  | some e => e.2
  | none => match ((station s j).corr.getD r []).find? (fun e => e.1 = i) with
    | some e => e.2
    | none => 256

/-- The stream limit of a group: the radio's chains, both modules' on a paired radio C, and never above 16 (R161, R209). -/
def streamLimit (s : State) (r : Nat) : Nat :=
  let n := popCount 16 (planChains s r)
  min 16 (if r = 2 ∧ rd s O.pair_state = 1 then 2 * n else n)

/-- The members a group takes from the candidates in grant order. -/
def growGroup (s : State) (r : Nat) : List Work → List Work → List Work
  | g, [] => g
  | g, w :: t =>
    let streams := (w :: g).foldl (fun n x => n + (userRate s x.sta r (rd s (O.mu_nss_max r))).2) 0
    if g.length < rd s (O.dl_mu_max r) ∧ streams ≤ streamLimit s r ∧ g.all (fun x => decide (x.sta ≠ w.sta)) ∧
        g.all (fun x => decide (corrOf s r x.sta w.sta ≤ rd s O.mu_corr_max)) then growGroup s r (g ++ [w]) t
    else growGroup s r g t

/-- The groups of some candidates: each starts from the largest grant left; a group of one is dissolved. -/
def muGroups (s : State) (r : Nat) : Nat → List Work → List (List Work)
  | 0, _ => []
  | n + 1, l =>
    match l.foldl (fun (a : Option Work) w => match a with
        | some x => if x.bytes < w.bytes then some w else some x
        | none => some w) none with
    | none => []
    | some w =>
      let rest := l.filter (fun x => x.queue ≠ w.queue)
      let g := growGroup s r [w] rest
      if g.length < 2 then muGroups s r n rest
      else g :: muGroups s r n (rest.filter (fun x => !(g.any (fun y => y.queue = x.queue))))

/-- The exchange of a group: the whole unpunctured channel, the longest user's data time (R161). -/
def muExchange (s : State) (r : Nat) (g : List Work) : Exchange :=
  let sub := planChannels s r
  let sc := channelSubcarriers sub.length
  let cap := rd s (O.mu_nss_max r)
  let streams := g.foldl (fun n x => n + (userRate s x.sta r cap).2) 0
  let pre := ehtPreamble false g.length streams
  let us := g.map (fun w => userOf s r w cap sc pre)
  let data := us.foldl (fun m u => max m (dataTime u.bits sc u.mcs u.nss)) 0
  { blankEx .muMimo ((g.map (fun w => w.ac)).foldl max 0) sub (planChains s r) with
    users := us, preamble := pre, ppdu := pre + data, length := pre + data + sifs r + tbAcks, paired := decide (r = 2 ∧ rd s O.pair_state = 1) }

/-! ### OFDMA (R162) -/

/-- The OFDMA exchanges of some work; a lone grant left goes as SU. -/
def ofdmaExchanges (s : State) (r : Nat) : Nat → List Work → List Exchange
  | 0, _ => []
  | n + 1, l =>
    match l with
    | [] => []
    | [w] => [suExchange s r .su w]
    | _ =>
      let sub := planChannels s r
      let top := rd s (O.ppdu_max r) * 1000
      let us := (l.take (rd s (O.dl_ofdma_max r))).map (fun w => userOf s r w 16 (channelSubcarriers sub.length) (ehtPreamble true 1 (userRate s w.sta r 16).2))
      let asks := us.map (fun u => ({ bits := u.bits, mcs := u.mcs, nss := u.nss } : Ask))
      let streams := us.foldl (fun m u => max m u.nss) 1
      let pre := fun (k : Nat) => ehtPreamble false k streams
      match sizeUsers (minRu s r) sub.length top pre asks asks.length with
      | some (k, t, units) =>
        if k < 2 then suExchange s r .su (l.headD { queue := 0, links := [], frames := [] }) :: ofdmaExchanges s r n (l.drop 1)
        else
          let ppdu := pre k + 13600 * t
          { blankEx .ofdma ((us.map (fun u => u.ac)).foldl max 0) sub (planChains s r) with
            users := ((us.take k).zip units).map (fun x => { x.1 with ru := x.2.1 }), preamble := pre k, ppdu := ppdu,
            length := ppdu + sifs r + tbAcks } :: ofdmaExchanges s r n (l.drop k)
      | none => suExchange s r .su (l.headD { queue := 0, links := [], frames := [] }) :: ofdmaExchanges s r n (l.drop 1)

/-- The downlink exchanges of a radio's single-link work, in the order of R168: by access category VO to BK, groups, OFDMA, SU. -/
def downlinkOf (s : State) (r : Nat) (l : List Work) : List Exchange :=
  let cands := l.filter (fun w => muCapable s r w.sta && muCsi s r w.sta)
  let groups := muGroups s r (cands.length + 1) cands
  let left := l.filter (fun w => !(groups.any (fun g => g.any (fun x => x.queue = w.queue))))
  let rest := if flag s (O.ofdma_dl r) then ofdmaExchanges s r (left.length + 1) left else left.map (suExchange s r .su)
  let all := groups.map (muExchange s r) ++ rest
  [3, 2, 0, 1].flatMap (fun ac =>
    [ExKind.muMimo, .ofdma, .su].flatMap (fun k => all.filter (fun e => decide (e.ac = ac ∧ e.kind = k))))

/-! ### Uplink (R165) and soundings (R164) -/

/-- Stations that a radio triggers: HE or EHT, one of their links, awake on it. A station of several links is triggered on the
first of them (DESIGN CHOICE, log 41). -/
def triggerable (s : State) (r : Nat) : List Nat :=
  (stationsInUse s).filter (fun i =>
    (bit (rd s (winKey i O.sta_caps)) 2 || bit (rd s (winKey i O.sta_caps)) 3) &&
    decide ((linkList (staLinks s i)).head? = some r) && !(bit (staPs s i) r) && decide (staState s i = 2))

/-- Stations in round-robin order after the one served last. -/
def roundRobin (last : Nat) (l : List Nat) : List Nat :=
  l.filter (fun i => decide (last < i)) ++ l.filter (fun i => decide (i ≤ last))

/-- One round of uplink credit (R165): each candidate's credit grows by `ul_quantum`. -/
def creditRound (s : State) (l : List Nat) : State :=
  l.foldl (fun t i => setStation t i { station t i with credit := (station t i).credit + (rd s O.ul_quantum : Int) }) s

/-- The uplink exchange of a radio: what each station is asked for, sized by its report (R162, R165). -/
def uplinkExchange (s : State) (r : Nat) (l : List Nat) : Option Exchange :=
  let sub := planChannels s r
  let us : List ExUser := ((l.take (rd s (O.dl_ofdma_max r))).map (fun i =>
    let x := userRate s i r 16
    let n := min (station s i).bsr (station s i).credit.toNat
    ({ station := i, ac := 0, mcs := x.1, nss := x.2, ru := 0, bytes := n, frames := [] } : ExUser))).filter (fun u => decide (0 < u.bytes))
  let asks := us.map (fun u => ({ bits := uplinkBits u.bytes, mcs := u.mcs, nss := u.nss } : Ask))
  let pre := fun (_ : Nat) => tbPreamble (us.foldl (fun m u => max m u.nss) 1)
  match sizeUsers (minRu s r) sub.length (rd s (O.ppdu_max r) * 1000) pre asks asks.length with
  | some (k, t, units) =>
    let ppdu := triggerTime k
    some { blankEx .trigger 0 sub (planChains s r) with
      users := ((us.take k).zip units).map (fun x => { x.1 with ru := x.2.1 }), preamble := 20000, ppdu := ppdu,
      length := ppdu + sifs r + pre k + 13600 * t + sifs r + multiStaTime k }
  | none => none

/-- A station's last buffer status report is older than `bsrp_interval` (R165). -/
def bsrOld (s : State) (i : Nat) : Bool :=
  match (station s i).bsrAt with
  | some t => decide (t + rd s O.bsrp_interval * 1000000 < s.now)
  | none => true

/-- The polling exchange of a radio (R165): up to 16 stations without a fresh report, and while pairing is READY the candidates
for groups whose joint CSI is too old (R209). -/
def bsrpExchange (s : State) (r : Nat) : Option Exchange :=
  let old := (triggerable s r).filter (fun i => bsrOld s i ||
    (decide (r = 2 ∧ rd s O.pair_state = 1) && muCapable s r i && !(jointFresh s i) &&
      (staQueues i).any (fun a => !(airQ s a).frames.isEmpty)))
  match old.take 16 with
  | [] => none
  | l =>
    let ppdu := triggerTime l.length
    some { blankEx .bsrp 0 (planChannels s r) (planChains s r) with
      users := l.map (fun i => { station := i, ac := 0, mcs := 0, nss := 1, ru := 0, bytes := 0, frames := [] }), preamble := 20000,
      ppdu := ppdu, length := ppdu + sifs r + tbAcks }

/-- The sounding exchange of a radio: stations with downlink work whose CSI is older than `sound_interval` (R164). -/
def soundingExchange (s : State) (r : Nat) (l : List Work) : Option Exchange :=
  match ((l.map (fun w => w.sta)).eraseDups.filter (fun i => muCapable s r i && !(csiWithin s r i (rd s O.sound_interval)))).take (rd s O.sound_max) with
  | [] => none
  | us =>
    let n := us.length
    let ndp := 36000 + 8000 * ltfCount (popCount 16 (rd s (O.chain_enable r)))
    let ppdu := ndpaTime n
    some { blankEx .sounding 0 (planChannels s r) (planChains s r) with
      users := us.map (fun i => { station := i, ac := 0, mcs := 0, nss := 1, ru := 0, bytes := 0, frames := [] }), preamble := 20000,
      ppdu := ppdu, length := ppdu + sifs r + ndp + sifs r + triggerTime n + sifs r + rd s O.fb_time * 1000 }

/-! ### Fixed needs (R130, R133, R166) -/

/-- The TSF in ns at an instant of the time base in ns. -/
def tsfAt (s : State) (t : Nat) : Int := (t : Int) - s.time.origin / 65536

/-- The instants of the TSF, in ns, that lie in a frame at multiples of `step` from `off`: the first one's offset from the frame. -/
def firstMultiple (s : State) (b len step off : Nat) : Option Nat :=
  if step = 0 then none
  else
    let d := (((off : Int) - tsfAt s b) % (step : Int)).toNat
    if d < len then some d else none

/-- The first TBTT of a frame (R138). -/
def tbttIn (s : State) (r b len : Nat) : Option Nat :=
  if rd s (O.bss_count r) = 0 then none
  else firstMultiple s b len (rd s (O.beacon_interval r) * 1024000) (rd s (O.tbtt_offset r) * 1024000)

/-- The bytes of a radio's beacon as it is priced: the template with the other BSSIDs' and the TIM (R137, R158). -/
def beaconBytes (s : State) (r : Nat) : Nat :=
  ((List.range 16).filter (bssServed s r)).foldl (fun n i => n + (s.mac.templates.getD (O.beacon_template r i) []).length + 6) 0

/-- The beacon's entry in a plan (R166). -/
def beaconEntry (s : State) (r at_ : Nat) : Exchange :=
  let t := beaconTime s r (beaconBytes s r)
  { blankEx .beacon 3 [rd s (O.primary r)] (planChains s r) with
    start := at_ + rd s (O.access_price r) * 1000, preamble := 20000, ppdu := t, length := t, opens := true }

/-- A beacon of a DTIM (R130): every `dtim_period`-th TBTT of the radio. -/
def isDtim (s : State) (r t : Nat) : Bool :=
  let k := (tsfAt s t - (rd s (O.tbtt_offset r) * 1024000 : Nat)) / ((rd s (O.beacon_interval r) * 1024000 : Nat) : Int)
  decide (k % (rd s (O.dtim_period r) : Int) = 0)

/-- The group-addressed frames of a BSSID that may go: under its group key, where it has one to send with (R225). -/
def groupReady (s : State) (j : Nat) : List AirFrame := if (txSlot s 1 j 1).isSome then s.miller.group.getD j [] else []

/-- The lowest rate of the basic set: 6 Mb/s (DESIGN CHOICE, log 42). -/
def groupEntry (s : State) (r j : Nat) (f : AirFrame) : Exchange :=
  let t := nonHt 24 (f.bytes.length + 56)
  { blankEx .group 3 [rd s (O.primary r)] (planChains s r) with
    users := [{ station := 65536 + j, ac := 0, mcs := 0, nss := 1, ru := 0, bytes := 0, frames := [f] }], preamble := 20000, ppdu := t,
    length := t, bss := j }

/-- The windows of a station's TWT agreements on a radio in a frame that begins at `b` (R133): start and end from the boundary. -/
def twtWindow (s : State) (b len : Nat) (x : Twt) : Option (Nat × Nat) :=
  let i : Int := (x.interval : Int) * 1000
  let p := x.d + x.r
  let n := (tsfAt s b + len - x.wake - p) / i
  let st := (x.wake : Int) + n * i + p - tsfAt s b
  let en := st + (x.duration : Int) * 1000
  if i = 0 ∨ n < 0 ∨ en ≤ 0 ∨ x.ended = some n.toNat ∨ (x.announced ∧ x.heard ≠ some n.toNat) then none
  else some ((if x.announced then st else st + (rd s O.twt_guard * 1000 : Nat)).toNat, en.toNat)

/-- The window of a broadcast schedule in a frame (R133): at its nominal times. -/
def btwtWindow (s : State) (r j b len : Nat) : Option (Nat × Nat) :=
  let i := rd s (O.btwt_interval r j) * 1000000
  if flag s (O.btwt_enable r j) = false then none
  else
    let n := (tsfAt s b + len - (rd s (O.btwt_offset r j) * 1000000 : Nat)) / (i : Int)
    let st := (rd s (O.btwt_offset r j) * 1000000 : Nat) + n * (i : Int) - tsfAt s b
    let en := st + (rd s (O.btwt_duration r j) * 1000 : Nat)
    if n < 0 ∨ en ≤ 0 then none else some (st.toNat, en.toNat)

/-- The stations served in windows of a frame on a radio: agreements, broadcast schedules, and U-APSD service periods (R129). -/
def windowsOf (s : State) (r b len : Nat) : List (Nat × Nat × Nat) :=
  (s.mac.twt.filter (fun e => e.2.radio = r)).filterMap (fun e => (twtWindow s b len e.2).map (fun w => (e.2.station, w))) ++
  (List.range 8).flatMap (fun j => match btwtWindow s r j b len with
    | some w => (s.mac.members.getD (8 * r + j) []).map (fun i => (i, w))
    | none => []) ++
  (stationsInUse s).filterMap (fun i => if (station s i).service.contains r then some (i, (0, len)) else none)

/-- A station's frames that may go out on a link in a service period, queue by queue from VO down (R133, R166). -/
def serviceWork (s : State) (r i : Nat) : List Work :=
  [3, 2, 0, 1].filterMap (fun ac =>
    let a := 4 * i + ac
    let l := (airQ s a).frames.filter (fun f => !(inDram s f.buf) && !(aged s a f) && (f.sn.isSome || bindable s i f) &&
      bit (tidLinks s i f.tid) r && (decide (staState s i = 2) || f.eapol) && (match f.link with | some k => decide (k = r) | none => true))
    match l with
    | [] => none
    | f :: t => some { queue := a, links := [r], frames := (f :: t.takeWhile (fun x => x.tid = f.tid)).take ((station s i).txWindow.getD f.tid 1) })

end Sys2Proof.Machine
end

