-- ==== Sys2Proof/Machine/PlanClose.lean ====
section
/-! DEFINITION. PLAN_CLOSE (R152, R157, R168, R169): the order in which the plan of the coming frame is filled, the binding of MPDUs
with their sequence and packet numbers (R128, R195, R225, R226), and what a grant is charged (R325). -/

namespace Sys2Proof.Machine

/-! ### Binding -/

/-- The window that this module asks for when it originates an agreement: `ba_max_window` capped by the station's capability
(R128; the caps of HT, VHT, HE and EHT are those of IEEE 802.11, PRESUMED, log 38). -/
def askedWindow (s : State) (i : Nat) : Nat :=
  let c := rd s (winKey i O.sta_caps)
  min (rd s O.ba_max_window) (if bit c 3 then 1024 else if bit c 2 then 256 else if bit c 0 ∨ bit c 1 then 64 else 0)

/-- An ADDBA request goes out for a TID that is used and has no agreement yet, once (DESIGN CHOICE, log 43). -/
def askAgreement (s : State) (r i tid : Nat) : State :=
  let st := station s i
  if askedWindow s i = 0 ∨ st.txWindow.has tid ∨ st.asked.contains tid then s
  else outgoing (setStation s i { st with asked := st.asked ++ [tid] }) r (.addbaRequest i tid (askedWindow s i))

/-- A frame bound to a PPDU (R128, R225, R226): its sequence number and PN, where it has none yet; held where R195 says so, or
where its key is exhausted. -/
def bindFrame (s : State) (r i : Nat) (f : AirFrame) : Option AirFrame × State :=
  if f.sn.isSome then (some { f with radio := some r }, s)
  else
    let next := (station s i).txSn.getD f.tid 0
    let slot := txSlot s 0 i 0
    let pnOk := match slot with
      | some k => mayAssign s (pnCounter k) (slotVal s k O.key_tx_pn) (2 ^ 48)
      | none => true
    if !(mayAssign s (snCounter i f.tid) next 4096) || !pnOk then (none, mirrorStall s)
    else
      let bound := fun (pn : Option Nat) (t : State) =>
        let st := station t i
        let t1 := setStation t i { st with txSn := st.txSn.put f.tid ((next + 1) % 4096) }
        (some { f with radio := some r, sn := some next, pn := pn, slot := slot }, t1)
      match slot with
      | none => bound none s
      | some k =>
        match takePn s k with
        | (some n, t) => bound (some n) t
        | (none, t) => (none, t)

/-- Frames bound in order, up to the first that cannot be; each leaves its queue. -/
def bindFrames (s : State) (r i : Nat) : List AirFrame → List AirFrame × State
  | [] => ([], s)
  | f :: t =>
    let a := 4 * i + acOf f.tid
    match bindFrame s r i f with
    | (some g, u) =>
      let q := airQ u a
      let x := bindFrames (setAirQ u a { q with frames := q.frames.erase f }) r i t
      (g :: x.1, x.2)
    | (none, u) => ([], u)

/-- The counters that a user's frames have used go to the mirror (R194). -/
def mirrorBound (s : State) (i : Nat) (l : List AirFrame) : State :=
  let s1 := (l.map (fun f => f.tid)).eraseDups.foldl (fun t tid => mirror t (.txSn i tid ((station t i).txSn.getD tid 0))) s
  (l.filterMap (fun f => f.slot)).eraseDups.foldl (fun t k => mirror t (.txPn k (slotVal t k O.key_tx_pn))) s1

/-- Bytes bound are charged to a queue's deficit, which does not fall below 0 (R325). -/
def charge (s : State) (a n : Nat) : State :=
  let q := airQ s a
  bumpBy (setAirQ s a { q with deficit := q.deficit - n, charged := q.charged + n }) O.bytes_charged n

/-- A user's frames bound. Retries are not charged again (R325). -/
def bindUser (s : State) (r : Nat) (e : Exchange) (u : ExUser) : ExUser × State :=
  if 65536 ≤ u.station then
    let j := u.station - 65536
    let pn := match txSlot s 1 j 1 with
      | some k => (some k, takePn s k)
      | none => (none, (none, s))
    match pn with
    | (slot, (n, t)) =>
      let g := t.miller.group.getD j []
      let fs := if n.isSome then u.frames.map (fun f => { f with radio := some r, pn := n, slot := slot }) else []
      ({ u with frames := fs }, setMiller t { t.miller with group := t.miller.group.put j (if n.isSome then u.frames.foldl (fun l f => l.erase f) g else g) })
  else
    let x := bindFrames s r u.station u.frames
    let n := (x.1.map (fun f => f.bytes.length)).foldl (fun a b => a + b) 0
    let t := mirrorBound x.2 u.station x.1
    let t1 := if e.kind = .retry then t else charge t (4 * u.station + u.ac) n
    let t2 := (x.1.map (fun f => f.tid)).eraseDups.foldl (fun v tid => askAgreement v r u.station tid) t1
    ({ u with frames := x.1 }, t2)

/-- The users of an exchange bound; one that binds nothing leaves it where it was to send frames. -/
def bindUsers (s : State) (r : Nat) (e : Exchange) : List ExUser → List ExUser × State
  | [] => ([], s)
  | u :: t =>
    if u.frames = [] then
      let x := bindUsers s r e t
      (u :: x.1, x.2)
    else
      let y := bindUser s r e u
      let x := bindUsers y.2 r e t
      (if y.1.frames = [] then x.1 else y.1 :: x.1, x.2)

/-! ### One exchange into the plan -/

/-- The plan being built of one radio beside the state. -/
structure Build where
  s : State
  b : PlanBoard

/-- The MU-RTS that goes before a paired PPDU which would open its TXOP (R210). -/
def muRtsOf (s : State) (r : Nat) (e : Exchange) : Exchange :=
  let t := triggerTime e.users.length
  { e with kind := .muRts, users := e.users.map (fun u => { u with frames := [] }), preamble := 20000, ppdu := t, length := t + sifs r + 28000,
           paired := false, tag := s.ost.nextTag }

/-- Where an exchange goes: itself alone, or behind its MU-RTS. -/
def layOutPaired (s : State) (r : Nat) (b : PlanBoard) (e : Exchange) (from_ limit : Nat) : Option PlanBoard :=
  match layOut s r b e from_ limit with
  | none => none
  | some b1 =>
    if e.paired = false ∨ !(b1.plan.any (fun o => decide (o.tag = e.tag) && o.opens)) then some b1
    else
      let m := muRtsOf s r e
      match placeFrom s r b.plan { m with length := m.length + sifs r + e.length } (max from_ b.first) limit with
      | some (st, op) =>
        let e1 := { e with start := st + m.length + sifs r, opens := false }
        some { b with plan := insertEx e1 (insertEx { m with start := st, opens := op } b.plan), budget := b.budget - e.ppdu - m.ppdu }
      | none => none

/-- The exchange of a tag in a plan replaced, or taken out. -/
def replaceEx (l : List Exchange) (tag : Nat) (e : Option Exchange) : List Exchange :=
  match e with
  | some x => l.map (fun o => if o.tag = tag then x else o)
  | none => l.filter (fun o => o.tag ≠ tag)

/-- An exchange is laid out and its MPDUs are bound; nothing happens where it does not fit. -/
def addExchange (x : Build) (r : Nat) (e : Exchange) (from_ limit : Nat) : Bool × Build :=
  if e.users = [] ∧ e.content = none then (false, x)
  else
    let t := takeTag x.s
    let e1 := { e with tag := t.1 }
    let wants := e.users.any (fun u => !(u.frames.isEmpty))
    match layOutPaired t.2 r x.b e1 from_ limit with
    | none => (false, x)
    | some b1 =>
      let t2 := if e1.paired then (takeTag t.2).2 else t.2
      let y := bindUsers t2 r e1 e1.users
      match b1.plan.find? (fun o => o.tag = e1.tag) with
      | none => (false, x)
      | some o =>
        if wants && y.1.isEmpty then (false, { x with s := y.2 })
        else (true, { s := y.2, b := { b1 with plan := replaceEx b1.plan o.tag (some { o with users := y.1 }) } })

/-- Several exchanges in turn. -/
def addAll (x : Build) (r limit : Nat) (l : List Exchange) : Build :=
  l.foldl (fun y e => (addExchange y r e 0 limit).2) x

/-! ### The steps of R157 -/

/-- The beacon's entry, and the group-addressed frames of a DTIM behind it (R130, R166). -/
def addBeacon (x : Build) (r b : Nat) : Build :=
  match tbttIn x.s r b x.b.limit with
  | none => x
  | some at_ =>
    let t := takeTag x.s
    let e := { beaconEntry t.2 r at_ with tag := t.1 }
    let y : Build := { s := t.2, b := { x.b with plan := insertEx e x.b.plan, budget := x.b.budget - e.ppdu } }
    if isDtim x.s r (b + at_) then
      ((List.range 16).flatMap (fun i => (groupReady x.s (16 * r + i)).map (fun f => (16 * r + i, f)))).foldl
        (fun z g => (addExchange z r (groupEntry z.s r g.1 g.2) (e.start + e.length) x.b.limit).2) y
    else y

/-- Service periods and PS-Polls (R133, R129, R166). -/
def addService (x : Build) (r b : Nat) : Build :=
  let y := (windowsOf x.s r b x.b.limit).foldl (fun z w =>
    (serviceWork z.s r w.1).foldl (fun z v =>
      (addExchange z r { suExchange z.s r .twt v with windowEnd := some w.2.2 } w.2.1 x.b.limit).2) z) x
  let polled := (stationsInUse y.s).filter (fun i => (station y.s i).psPoll.contains r)
  polled.foldl (fun z i =>
    let l := serviceWork z.s r i
    let oldest := l.foldl (fun (a : Option Work) w => match a, w.frames with
      | some v, f :: _ => if f.since < (v.frames.headD f).since then some w else some v
      | some v, [] => some v
      | none, _ => some w) none
    match oldest with
    | some w =>
      let res := addExchange z r (suExchange z.s r .psPoll { w with frames := w.frames.take 1 }) 0 x.b.limit
      if res.1 then
        let st := station res.2.s i
        { res.2 with s := setStation res.2.s i { st with psPoll := st.psPoll.filter (fun q => q ≠ r) } }
      else res.2
    | none =>
      let st := station z.s i
      { z with s := setStation z.s i { st with psPoll := st.psPoll.filter (fun q => q ≠ r) } }) y

/-- Bytes of a frame that the air MAC sends of itself, as priced. -/
def ownBytes : TxContent → Nat
  | .probeResponse _ b => b.length + 24
  | .bytes b => b.length
  | _ => 40

/-- The air MAC's own frames (R118, R128, R131), ahead of data (DESIGN CHOICE, log 44). -/
def addOwn (x : Build) (r : Nat) : Build :=
  ((x.s.mac.outgoing.filter (fun e => e.1 = r))).foldl (fun z c =>
    let t := nonHt 96 (ownBytes c.2)
    let e := { blankEx .management 3 [rd z.s (O.primary r)] (planChains z.s r) with
      content := some c.2, preamble := 20000, ppdu := t, length := t + sifs r + nonHt 96 14 }
    match addExchange z r e 0 x.b.limit with
    | (true, w) => { w with s := setMac w.s { w.s.mac with outgoing := w.s.mac.outgoing.erase c } }
    | (false, w) => w) x

/-- MPDUs returned to queue heads (R157 step 2): on the link they were bound to, or another usable one of the station. -/
def returnedWork (s : State) (r : Nat) : List Work :=
  s.miller.air.filterMap (fun e =>
    let l := (e.2.frames.takeWhile (fun f => f.sn.isSome)).filter (fun f => !(inDram s f.buf))
    match l with
    | [] => none
    | f :: t =>
      let links := frameLinks s e.1 f
      let at_ := if links.contains (f.radio.getD 3) then f.radio else links.getLast?
      if at_ = some r then
        some { queue := e.1, links := [r], frames := (f :: t.takeWhile (fun g => g.tid = f.tid)).take ((station s (e.1 / 4)).txWindow.getD f.tid 1) }
      else none)

/-- Uplink (R165): the trigger of a radio, and a poll. The room the trigger takes is kept from the downlink. -/
def uplinkPlan (s : State) (r len : Nat) : List Exchange × State :=
  if flag s (O.ofdma_ul r) = false then ([], s)
  else
    let cands := roundRobin s.ost.lastUplink ((triggerable s r).filter (fun i => decide (0 < (station s i).bsr)))
    let t := creditRound s cands
    let l := (uplinkExchange t r cands).toList.filter (fun e => decide (rd t (O.access_price r) * 1000 + e.length ≤ len * rd t (O.ul_share r) / 100))
    let t1 := match l with
      | e :: _ => { t with ost := { t.ost with lastUplink := (e.users.getLastD { station := t.ost.lastUplink, ac := 0, mcs := 0, nss := 0, ru := 0, bytes := 0, frames := [] }).station } }
      | [] => t
    (l ++ (bsrpExchange t1 r).toList, t1)

/-- The works of the grants drawn in this build. -/
def grantWorks (s : State) : List Work := s.ost.grants.filterMap (workOf s)

/-- The transmit time that the duty limit leaves a frame (R169): of the last 999 ms as known at close. -/
def dutyBudget (s : State) (r : Nat) : Nat :=
  (radioFuse s.fuse r).dutyMax * 1000000 -
    dutyNs s.now ((radio s r).duty.filter (fun d => decide (s.now ≤ d.1 + d.2 + 999000000)))

/-- One radio's plan but for steered grants (R157, R168), from `lo` ns after the boundary `b` on. -/
def planRadio (s : State) (r b len lo : Nat) : Build :=
  let x0 : Build := { s := s, b := { plan := [], first := max lo (planFrom s r b), limit := len, budget := dutyBudget s r } }
  if planBarred s r then x0
  else
    let x1 := addService (addBeacon x0 r b) r b
    if flag s (O.plan_enable r) = false then x1
    else
      let x2 := addOwn x1 r
      let x3 := addAll x2 r len ((returnedWork x2.s r).map (suExchange x2.s r .retry))
      let u := uplinkPlan x3.s r len
      let keep := u.1.foldl (fun n e => n + e.length + sifs r) 0
      let works := (grantWorks u.2).filter (fun w => decide (w.links = [r]))
      let x4 := addAll { x3 with s := u.2 } r (len - keep) (downlinkOf u.2 r works)
      let x5 := addAll x4 r len u.1
      addAll x5 r len (soundingExchange x5.s r works).toList

/-! ### Steering (R167) -/

/-- Boards of the three radios. -/
abbrev Boards := Tab PlanBoard

/-- Where an SU exchange of some work would end on each of its links; the earliest is taken, ties to the higher letter. -/
def steerBest (s : State) (bs : Boards) (w : Work) : Option (Nat × Nat) :=
  w.links.foldl (fun (a : Option (Nat × Nat)) r =>
    match bs.look r with
    | none => a
    | some b =>
      let e := suExchange s r .su w
      if b.budget < e.ppdu ∨ flag s (O.plan_enable r) = false then a
      else match placeFrom s r b.plan e b.first b.limit with
        | some (st, _) =>
          match a with
          | some (q, n) => if st + e.length ≤ n then some (r, st + e.length) else some (q, n)
          | none => some (r, st + e.length)
        | none => a) none

/-- Grants with more than one usable link steered in turn. -/
def steerAll (s : State) (bs : Boards) : List Work → State × Boards
  | [] => (s, bs)
  | w :: t =>
    match steerBest s bs w with
    | some (r, _) =>
      match bs.look r with
      | some b =>
        let x := (addExchange { s := s, b := b } r (suExchange s r .su w) 0 b.limit).2
        steerAll x.s (bs.put r x.b) t
      | none => steerAll s bs t
    | none => steerAll s bs t

/-! ### Closing -/

/-- What was not laid out of the grants counts on its radio (R159): of several, the one R167 prefers. -/
def countUnplanned (s : State) (before : State) : State :=
  s.ost.grants.foldl (fun t g =>
    let charged := (airQ t g.queue).charged - (airQ before g.queue).charged
    match (usableLinks before (g.queue / 4) (g.queue % 4) false).getLast? with
    | some r => bumpBy t (O.grants_unplanned r) (g.bytes - charged)
    | none => t) s

/-- The queues granted in this build are released: a queue that still holds frames takes the next round's stamp and the list's
tail, an empty one leaves with no deficit (R323, R325). -/
def endGrants (s : State) : State :=
  let t := s.ost.grants.foldl (fun t g =>
    let q := airQ t g.queue
    let c := t.miller.airSched
    if q.frames.isEmpty then setAirQ t g.queue { q with granted := false, deficit := 0 }
    else
      let l := c.list ++ [g.queue]
      wr (setMiller (setAirQ t g.queue { q with granted := false, stamp := c.round + 1 }) { (setAirQ t g.queue { q with granted := false, stamp := c.round + 1 }).miller with airSched := { c with list := l } })
        O.aq_active (l.length % 65536)) s
  { t with ost := { t.ost with grants := [] } }

/-- A plan stored and counted (R178). -/
def storePlan (s : State) (r : Nat) (b : PlanBoard) (barred : Bool) : State :=
  let s1 := setPlan s r { radioPlan s r with closed := b.plan, empty := barred }
  if b.plan.isEmpty then s1
  else
    bumpBy (bumpBy (bump s1 (O.frames_planned r)) (O.exchanges_planned r) b.plan.length) (O.airtime_planned r)
      (b.plan.foldl (fun n e => n + e.length + leadTime s r e) 0 / 1000)

/-- The data a PPDU's users carry, as the command names it. -/
def partsOf (e : Exchange) : List PsduPart :=
  e.users.flatMap (fun u => u.frames.map (fun f =>
    { station := u.station, tid := f.tid, sn := f.sn.getD 0, pn := f.pn, slot := f.slot, bytes := f.bytes }))

/-- BlockAckReqs owed to an exchange's users (R128, R200). -/
def barsOf (s : State) (e : Exchange) : List (Nat × Nat × Nat) :=
  e.users.flatMap (fun u => (station s u.station).bars.map (fun b => (u.station, b.1, b.2)))

/-- What an exchange's command carries. -/
def contentOf (s : State) (e : Exchange) : TxContent :=
  match e.content with
  | some c => c
  | none =>
    match e.kind with
    | .group => .group e.bss (e.users.flatMap (fun u => u.frames.map (fun f => f.bytes))) ((e.users.flatMap (fun u => u.frames)).head?.bind (fun f => f.pn))
    | .trigger => .trigger (e.users.map (fun u => (u.station, u.bytes)))
    | .bsrp => .bsrp (e.users.map (fun u => u.station))
    | .sounding => .sounding (e.users.map (fun u => u.station))
    | .muRts => .muRts (e.users.map (fun u => u.station))
    | _ => .data (partsOf e) (barsOf s e) e.paired

/-- The transmit command of an exchange at a start, with the slip so far (R170). -/
def commandOf (s : State) (r : Nat) (e : Exchange) (start slip : Nat) (sub : List Nat) : TxCmd :=
  { issuer := .ostler, tag := e.tag, start := some start, deadline := start + slip + rd s (O.slip_max r) * 1000 + e.preamble,
    preamble := e.preamble, duration := e.ppdu, subchannels := sub, chains := e.chains, power := askedPower s r, held := false,
    content := contentOf s e }

/-- The paired PPDUs of a plan are announced to the follower (R210). -/
def announcePairs (s : State) (b : Nat) (l : List Exchange) : State :=
  (l.filter (fun e => e.paired)).foldl (fun t e => varlanSend t 4 (.pairTx (commandOf t 2 e (b + e.start) 0 e.subchannels))) s

/-- Three radios planned, grants steered, plans stored (R152, R157): for `len` ns from the boundary `b`, nothing before `lo`. -/
def closePlanAt (s : State) (b len lo : Nat) : State :=
  let barred := fun r => planBarred s r
  let x0 := planRadio s 0 b len lo
  let x1 := planRadio x0.s 1 b len lo
  let x2 := planRadio x1.s 2 b len lo
  let bs : Boards := ([(0, x0.b), (1, x1.b), (2, x2.b)] : Boards).filter (fun e => !(barred e.1))
  let y := steerAll x2.s bs ((grantWorks x2.s).filter (fun w => decide (1 < w.links.length)))
  let t := [0, 1, 2].foldl (fun t r => storePlan t r ((y.2.look r).getD { plan := [], first := 0, limit := 0, budget := 0 }) (barred r)) y.1
  let t1 := endGrants (countUnplanned t s)
  announcePairs { t1 with planClosed := true } b ((y.2.look 2).map (fun c => c.plan) |>.getD [])

/-- The plan of the coming frame. -/
def closePlan (s : State) (lo : Nat) : State := closePlanAt s (nextBoundary s (tbNs s)).toNat s.ost.frameLength lo

/-- Uncorrectable errors of the Ostler's memories at a plan close (R180): a plan hit is emptied, and a station whose state was
lost goes on at MCS 4 with no CSI. Each memory hit reports kind 0x38. -/
def planErrors (s : State) (e : PlanErrors) : State :=
  let s1 := e.plans.foldl (fun t r => setPlan t r { radioPlan t r with closed := [] }) s
  let s2 := (e.csi ++ e.rates).foldl (fun t i => setStation t i { station t i with csiAt := [], corr := [], rate := [], good := [] }) s1
  let s3 := if e.plans.isEmpty then s2 else report s2 0x38 (hidOf s 0 2 0 1) 0
  let s4 := if e.csi.isEmpty then s3 else report s3 0x38 (hidOf s 0 2 2 0) 0
  if e.rates.isEmpty then s4 else report s4 0x38 (hidOf s 0 2 2 1) 0

/-- PLAN_CLOSE (R152, R180): 40 µs before the boundary, in a package that serves. -/
def execPlanClose (e : PlanErrors) (s : State) : Host.Outcome State Fault Refusal :=
  act s fun s =>
    if s.planClosed ∨ packageMode s < 7 then s else planErrors (closePlan s 0) e

end Sys2Proof.Machine
end

