-- ==== Sys2Proof/Machine/Surveyor.lean ====
section
/-! DEFINITION. The Surveyor (R488 to R491): margins, steps, the plan store and the life estimate; and the end of every
activity (R483). -/

namespace Sys2Proof.Machine

/-- The margin planner as a source (R478). -/
def plannerHid (s : State) : Nat := hidOf s 0 12 0 1

/-- The Surveyor's item i. -/
def item (s : State) (i : Nat) : MarginItem := s.survey.items.getD i {}
def setItem (s : State) (i : Nat) (m : MarginItem) : State :=
  { s with survey := { s.survey with items := s.survey.items.put i m } }

/-- Items this part has (R493). -/
def itemFitted (p : Part) (i : Nat) : Bool :=
  if 1 ≤ i ∧ i ≤ 3 then radioFitted p (i - 1) else if 20 ≤ i then twinFitted p else true

/-- An item whose source is powered and, for a Varlan lane, up (R488). -/
def itemLive (s : State) (i : Nat) : Bool :=
  itemFitted s.fuse.part i &&
  (if 1 ≤ i ∧ i ≤ 3 then decide (rd s (O.pd_state (5 + i)) = 2)
   else if 20 ≤ i then bit (rd s O.varlan_lanes) (i - 20) else true)

/-- A step of the plan takes its effect (R488) and enters the plan store (R490). -/
def planStep (s : State) (i : Nat) : State :=
  let n := rd s (O.mi_steps i) + 1
  let m := item s i
  let s1 := setItem (wr s (O.mi_steps i) n) i { m with below := 0, hold := 3, stepDays := s.survey.day :: m.stepDays }
  let s2 := { s1 with survey := { s1.survey with flash := s1.survey.flash.put i n } }
  if i = 0 then
    let s3 := wr s2 O.vcore_age_offset (min 50 (rd s2 O.vcore_age_offset + 5))
    { s3 with power := { s3.power with avsPending := true, avsAge := true } }
  else if i ≤ 3 then bump s2 (O.life_derate (i - 1))
  else s2

/-- One sample of an item (R489). An item enters LOW at a sample below `mi_min` (DEDUCED, log 12). -/
def planSample (s : State) (i : Nat) (margin : Int) : State :=
  let m := item s i
  let low := decide (margin < rdI s (O.mi_min i))
  let st := rd s (O.mi_state i)
  let s1 := setItem (wrI s (O.mi_margin i) margin) i
    { m with below := (if low then m.below + 1 else 0), hold := m.hold - 1, sum := m.sum + margin, count := m.count + 1 }
  if st = 2 then s1
  else
    let s2 := if low then (if st = 0 then report (wr s1 (O.mi_state i) 1) 0x84 (plannerHid s) i else s1)
      else wr s1 (O.mi_state i) 0
    if 3 ≤ (item s2 i).below then
      if rd s2 (O.mi_steps_max i) ≤ rd s2 (O.mi_steps i) then report (wr s2 (O.mi_state i) 2) 0x85 (plannerHid s) i
      else if m.hold = 0 then planStep s2 i
      else s2
    else s2

/-- The VCORE margin of a sample (R488): the least slack of a powered region, less 1 ps per weak word of its last MEM_SURVEY. -/
def vcoreMargin (s : State) (slacks : List (Nat × Int)) : Option Int :=
  (slacks.map (fun e => e.2 - (s.survey.weak.getD e.1 0 : Int))).foldl
    (fun a v => match a with | none => some v | some b => some (min b v)) none

/-- A SURVEY's sample (R488, R489); a VCORE step whose request failed is requested again (R443). -/
def surveySample (s : State) (r : ActivityReport) : State :=
  let s0 := if s.survey.vcoreRetry then
      { s with power := { s.power with avsPending := true, avsAge := true }, survey := { s.survey with vcoreRetry := false } } else s
  let s1 := match vcoreMargin s0 r.slacks with
    | some v => planSample s0 0 v
    | none => s0
  (List.range 23).foldl (fun t j =>
    match r.margins[j]? with
    | some (some v) => if itemLive t (j + 1) then planSample t (j + 1) v else t
    | _ => t) s1

/-- A JOINT_ALIGN ends (R206, R207): radio C leaves CAL; a run that passes gives the corrections' residuals. -/
def alignEnd (s : State) (r : ActivityReport) : State :=
  let s1 := if rState s 2 = 6 then follow (setRState s 2 4) 2 else s
  if r.ok then
    let s2 := bump (wr (wr s1 O.align_residual (min 0xFFFF r.residual)) O.phase_residual (min 0xFFFF r.phase)) O.align_runs
    pairRefresh { s2 with twin := { s2.twin with alignedAt := some s.now, alignAged := false } }
  else bump s1 O.align_failures

/-- The engine of an activity has finished: a calibration or a retrain ends by its own event first (R93, R365). -/
def engineDone (s : State) (e : Activity) : Bool :=
  decide (e.state = 3) &&
  (if e.activity ≤ 3 then (radio s (activityRadio e.activity e.target)).cal.isNone
   else if e.activity = 5 then decide (rd s O.dram_state ≠ 5) else true)

/-- The result of an activity that ran to its end (R483). -/
def endResult (s : State) (e : Activity) (r : ActivityReport) : Nat :=
  if e.activity ≤ 3 then rd s (O.cal_result (activityRadio e.activity e.target))
  else if e.activity = 4 ∧ r.ok = false then Status.code .range
  else 0

/-- ACTIVITY_END (R483): the result is recorded, a SURVEY's sample or a JOINT_ALIGN's corrections are taken, and the Steward
scans its queue. -/
def execActivityEnd (activity target : Nat) (result : ActivityReport) (s : State) : Host.Outcome State Fault Refusal :=
  act s fun s =>
    match findRunning s activity target with
    | some e =>
      if engineDone s e then
        let s1 := dropRunning s activity target
        let s2 := wr (wr s1 (O.act_last_result activity) (endResult s e result)) (O.act_last_end activity) (now80 s)
        let s3 :=
          if activity = 4 then alignEnd s2 result
          else if activity = 6 then wr (bump (surveySample s2 result) O.surveys) O.survey_last (now80 s)
          else if activity = 7 then
            { s2 with survey := { s2.survey with weak := s2.survey.weak.put (hidRegion target) result.weak } }
          else s2
        scanQueue s3
      else s
    | none => s

/-! ### Trends (R491) -/

/-- The sums of a least-squares fit over days and means: n, Σx, Σy, Σxy, Σx². -/
def fitSums (l : List (Nat × Int)) : Int × Int × Int × Int × Int :=
  l.foldl (fun a e => (a.1 + 1, a.2.1 + e.1, a.2.2.1 + e.2, a.2.2.2.1 + e.1 * e.2, a.2.2.2.2 + (e.1 : Int) * e.1)) (0, 0, 0, 0, 0)

/-- Days from `today` until the fitted line reaches `least`, rounded down; `none` for fewer than seven means or a line that
does not fall. -/
def daysToReach (l : List (Nat × Int)) (today : Nat) (least : Int) : Option Nat :=
  let f := fitSums l
  let n := f.1
  let num := n * f.2.2.2.1 - f.2.1 * f.2.2.1
  let den := n * f.2.2.2.2 - f.2.1 * f.2.1
  if n < 7 ∨ 0 ≤ num ∨ den ≤ 0 then none
  else some (((f.2.2.1 - n * least) * den + (n * today - f.2.1) * num) / (n * (-num))).toNat

/-- The mean interval between an item's past steps in days, when it has two or more. -/
def stepInterval (d : List Nat) : Option Nat :=
  match d.head?, d.getLast? with
  | some a, some b => if 2 ≤ d.length then some ((a - b) / (d.length - 1)) else none
  | _, _ => none

/-- `mi_next_step` and `mi_life` of an item (R491). -/
def itemLife (s : State) (i : Nat) : Nat × Nat :=
  let m := item s i
  let l := m.means.filter (fun e => s.survey.day < e.1 + rd s O.trend_window)
  match daysToReach l s.survey.day (rdI s (O.mi_min i)) with
  | some d =>
    let left := rd s (O.mi_steps_max i) - rd s (O.mi_steps i)
    let life := d + left * (stepInterval m.stepDays).getD d
    (min 0xFFFFFFFF d, if rd s (O.mi_state i) = 2 then 0 else min 0xFFFFFFFF life)
  | none => (0xFFFFFFFF, if rd s (O.mi_state i) = 2 then 0 else 0xFFFFFFFF)

/-- Every item's trend and the least life (R491): the lowest-numbered item of the least life is named. -/
def lifeEstimate (s : State) : State :=
  let s1 := (List.range 24).foldl (fun t i =>
    if itemFitted s.fuse.part i then
      let l := itemLife t i
      wr (wr t (O.mi_next_step i) l.1) (O.mi_life i) l.2
    else t) s
  let best := (List.range 24).foldl (fun (a : Nat × Nat) i =>
    if itemFitted s.fuse.part i ∧ rd s1 (O.mi_life i) < a.1 then (rd s1 (O.mi_life i), i) else a) (0xFFFFFFFF, 0xFF)
  let s2 := wr (wr s1 O.life_estimate best.1) O.life_item best.2
  if best.1 < rd s O.life_warn ∧ s.survey.warned = false then
    report { s2 with survey := { s2.survey with warned := true } } 0x86 (plannerHid s) 0
  else if rd s O.life_warn < best.1 then { s2 with survey := { s2.survey with warned := false } }
  else s2

/-- One item's daily mean enters the plan store (R490). -/
def closeDay (s : State) (i : Nat) : State :=
  let m := item s i
  if m.count = 0 then s
  else setItem s i { m with sum := 0, count := 0, means := ((s.survey.day, m.sum / m.count) :: m.means).take 365 }

/-- DAILY_MEAN (R490, R491). -/
def execDailyMean (s : State) : Host.Outcome State Fault Refusal :=
  act s fun s =>
    let s1 := (List.range 24).foldl closeDay s
    let s2 := lifeEstimate s1
    { s2 with survey := { s2.survey with day := s2.survey.day + 1 } }

end Sys2Proof.Machine
end

