-- ==== Sys2Proof/Machine/Modes.lean ====
section
/-! DEFINITION. Modes at work (R27, R34, R374, R445, R459): which clock domains run in a mode, what a change of the package
mode does, and fast-path changes. -/

namespace Sys2Proof.Machine

/-- The mode that governs a domain's clock: its die's region mode for a radio domain, else the package mode (R374). -/
def domainMode (s : State) (d : Nat) : Nat :=
  if 14 ≤ d ∧ d ≤ 16 then regionMode s (d - 13) 0 else packageMode s

/-- A domain whose unit is fitted (R388). -/
def domainFitted (p : Part) (d : Nat) : Bool := if 14 ≤ d ∧ d ≤ 16 then radioFitted p (d - 14) else decide (d < 18)

/-- Whether a domain's clock runs in the present modes (R374), or is started for a commit out of IDLE (R375). -/
def domainWanted (s : State) (d : Nat) : Bool :=
  let m := domainMode s d
  domainFitted s.fuse.part d &&
  (if d = 13 then decide (2 ≤ m)
   else if d = 17 then s.power.inputOn
   else decide (5 ≤ m) || (decide (m = 4) && decide (d ≤ 2 ∨ (10 ≤ d ∧ d ≤ 12))) || s.epoch.started.contains d)

/-- A domain follows its mode: it quiesces when it is no longer to run, and a gate that has not closed yet stays open when it
is to run again (R374). A stopped clock starts by its own event. -/
def retimeOne (s : State) (d : Nat) : State :=
  let st := clkState s d
  if domainWanted s d then (if st = 3 then setClk s d 1 else s)
  else if st = 1 then setClk s d 3 else s

/-- Every domain follows its mode. -/
def retime (s : State) : State := (List.range 18).foldl retimeOne s

/-- Every request already accepted completes (R366). -/
def dramComplete (s : State) : State :=
  let l := s.dram.channels.flatMap (fun c => c.2.reqs ++ c.2.writes)
  let s1 := l.foldl (fun t q => bumpBy t (O.dp_bytes q.port) 256) s
  { s1 with dram := { s1.dram with channels := s1.dram.channels.map (fun c => (c.1, { c.2 with reqs := [], writes := [], draining := false })) } }

/-- The DRAM's state under a package mode (R366): self-refresh in IDLE, unpowered below. -/
def dramMode (s : State) (m : Nat) : State :=
  let st := rd s O.dram_state
  if m < 4 then wr (wr s O.dram_state 0) O.region_status 0
  else if m = 4 then (if st = 3 ∨ st = 5 then wr (dramComplete (retrainStop s)) O.dram_state 4 else s)
  else if st = 4 then wr s O.dram_state 3 else s

/-- `service_role` at a change of mode (R486): the role held at entry, SOLO from IDLE. -/
def serviceRole (s : State) (old m : Nat) : State :=
  if m = 11 then
    (if old = 11 then s else wr s O.service_role (if old = 7 ∨ old = 8 ∨ old = 9 then old else 7))
  else wr s O.service_role 0

/-- The package takes mode `m`: clocks, radios, the DRAM, maintenance and pairing follow. -/
def setMode (s : State) (m : Nat) : State :=
  let s1 := wr (serviceRole s (packageMode s) m) O.package_mode m
  let s2 := abortOutside (dramMode s1 m)
  let s3 := if m = 12 then muteRadio (muteRadio (muteRadio s2 0) 1) 2 else s2
  pairRefresh (scanQueue (followAll (retime s3)))

/-- This package's fitted units, as HIDs. -/
def ownUnits (s : State) : List Nat := (fittedUnits s.fuse.part).map (fun u => s.system * 4194304 + packageBit s * 2097152 + u)

/-- A fast-path change (R34): the package takes the mode at once; in an epoch commit its units count as not acknowledging. -/
def fastPath (s : State) (m : Nat) : State :=
  let s1 := setMode s m
  if rd s O.epoch_phase ≠ 0 then { s1 with epoch := { s1.epoch with fast := true, lost := s1.epoch.lost ++ ownUnits s } }
  else if s.epoch.peerPhase ≠ 0 then { s1 with epoch := { s1.epoch with fast := true } }
  else s1

/-! ### Power domains -/

/-- A power domain's state set; a power-up counts (R445, R461). -/
def setPower (s : State) (pd v : Nat) : State :=
  let s1 := wr s (O.pd_state pd) v
  if v = 2 ∧ rd s (O.pd_state pd) ≠ 2 then bump s1 (O.pd_cycles pd) else s1

/-- The bank of a radio die (R453). -/
def radioBank (r : Nat) : Nat := 3 + r

end Sys2Proof.Machine
end

