-- ==== Sys2Proof/Machine/Clocks.lean ====
section
/-! DEFINITION. The reference and the clock domains (R373 to R389): the reference PLL's states, quiescing, stalls and loss of
lock. -/

namespace Sys2Proof.Machine

/-- The reference PLL as a source (R536). -/
def refHid (s : State) : Nat := hidOf s 0 10 0 0

/-- REF_OUT carries the reference (R377). -/
def refOutRuns (s : State) : Bool := flag s O.ref_out_enable && decide (rd s O.ref_state ≠ 0)

/-- REF_LOSS (R376): LOCKED to HOLDOVER. -/
def execRefLoss (s : State) : Host.Outcome State Fault Refusal :=
  act s fun s =>
    if rd s O.ref_state = 2 then
      report (bump (wr { s with refSince := s.now } O.ref_state 3) O.ref_losses) 0x69 (refHid s) 0
    else s

/-- REF_ACQUIRED (R376): ACQUIRING to LOCKED. -/
def execRefAcquired (s : State) : Host.Outcome State Fault Refusal :=
  done s (if rd s O.ref_state = 1 then wr s O.ref_state 2 else s)

/-- REF_RESTORED (R376): HOLDOVER to LOCKED; `holdover_time` keeps the seconds spent. -/
def execRefRestored (s : State) : Host.Outcome State Fault Refusal :=
  act s fun s =>
    if rd s O.ref_state = 3 then
      wr (wr s O.ref_state 2) O.holdover_time (min 0xFFFFFFFF ((s.now - s.refSince) / 1000000000))
    else s

/-- DOMAIN_QUIESCE_DONE (R374): the accepted accesses are complete and the gate closes. -/
def execDomainQuiesceDone (d : Fin 18) (s : State) : Host.Outcome State Fault Refusal :=
  done s (if clkState s d = 3 then setClk s d 0 else s)

/-- CROSSING_STALL (R383): the i-th hung access has hung for 1 ms; kind 0x68 is reported once for it. -/
def execCrossingStall (i : Nat) (s : State) : Host.Outcome State Fault Refusal :=
  act s fun s =>
    match s.led.hung[i]? with
    | some h =>
      if h.reported then s
      else
        let s1 := { s with led := { s.led with hung := s.led.hung.set i { h with reported := true } } }
        let s2 := wr (bump (bump s1 O.stalls) (O.clk_stalls h.domain)) O.last_stall_domain h.domain
        report s2 0x68 (ledgerHid s) (h.domain * 1099511627776 + h.index * 256 + h.sub)
    | none => s

/-- The domains a PLL drives (R373). -/
def pllDomains : Pll → List Nat
  | .system => [1] | .pcie => [2] | .air => [3, 4] | .core => [5, 6, 7, 8, 9] | .memory => [10] | .serdes => [11] | .time => [12]
  | .die r => [14 + r]

/-- The severity of a lock loss (R387, R469): PACKAGE for the system, core and memory PLLs. -/
def pllSeverity : Pll → Nat
  | .system => 3 | .core => 3 | .memory => 3 | _ => 2

/-- The unit that reports a PLL's loss of lock (R536). -/
def pllSource (s : State) : Pll → Nat
  | .die r => sequencerHid s r
  | _ => refHid s

/-- A domain stops and is fenced, and the loss counts (R387). -/
def fenceDomain (s : State) (d : Nat) : State := bump (setClk s d 2) (O.clk_lock_losses d)

/-- PLL_UNLOCK (R387): the domains the PLL drives, where they run, stop and are fenced. -/
def execPllUnlock (pll : Pll) (s : State) : Host.Outcome State Fault Refusal :=
  act s fun s =>
    let ds := (pllDomains pll).filter (fun d => decide (clkState s d = 1 ∨ clkState s d = 3))
    if ds = [] then s
    else reportWith (ds.foldl fenceDomain s) 0x6A (pllSeverity pll) 0 (pllSource s pll) 0

end Sys2Proof.Machine
end

