-- ==== Sys2Proof/Machine/Time.lean ====
section
/-! DEFINITION. The Clocksmith (R390 to R421): the time base and its states, steps and slews, measurements and holdover, PPS,
SyncE, the BAR0 time snapshot and the GFP timers. -/

namespace Sys2Proof.Machine

/-- The servo and PTP sequencer, the PPS unit and the SyncE monitor as sources (R390). -/
def servoHid (s : State) : Nat := hidOf s 0 10 1 0
def ppsHid (s : State) : Nat := hidOf s 0 10 3 0

/-- The Clocksmith's own state changed. -/
def setTime (s : State) (t : TimeBase) : State := { s with time := t }

/-! ### TB96 -/

/-- What one cycle adds beyond 1 ns, in 10^-12 of 2^-16 ns (R394, R397): the servo's adjustment, or while a SLEW is being
spread at most `slew_max` of what is left of it. -/
def cycleAdjust (s : State) : Int :=
  let m : Int := 65536 * 1000000 * rd s O.slew_max
  if s.time.slewLeft = 0 then 65536 * s.time.freq else max (-m) (min m s.time.slewLeft)

/-- The adjustment TB96 runs at, in 10^-12 (R397). -/
def freqAdj (s : State) : Int := cycleAdjust s / 65536

/-- One 1 ns cycle of TIME (R391): TB96 advances by 1 ns plus the adjustment, the fraction carried exactly; a SLEW is used up
by what it adds. -/
def timeCycle (s : State) : State :=
  let a := cycleAdjust s
  let total : Nat := ((65536000000000000 + s.time.acc : Nat) + a : Int).toNat
  { s with tb := s.tb + total / 1000000000000,
           time := { s.time with acc := total % 1000000000000,
                                 slewLeft := if s.time.slewLeft = 0 then 0 else s.time.slewLeft - a } }

/-- 1 ns of the backup crystal at its nominal 32,768 Hz (R427): a tick advances the prescaler and the tick count; the tick that ends the
second is SECOND_BOUNDARY's. -/
def crystalCycle (s : State) : State :=
  let f := s.watch.frac + 32768
  if packageMode s = 1 ∨ s.watch.stopped then s
  else if f < 1000000000 then { s with watch := { s.watch with frac := f } }
  else
    let p := rd s O.bak_prescaler + 1
    let t := { s with watch := { s.watch with frac := f - 1000000000 } }
    if p < s.watch.length then wr (wr t O.bak_prescaler p) O.bak_ticks ((rd s O.bak_ticks + 1) % 281474976710656) else t

/-- One cycle with no command (log 2): 1 ns passes, the crystal runs, and TB96 advances where the TIME domain runs. -/
def idleCycle (s : State) : State :=
  let t := crystalCycle { s with now := s.now + 1 }
  if clkState t 12 = 1 then timeCycle t else t

/-- `tb_uncertainty` (R398). -/
def tbUncertainty (s : State) : Nat :=
  let st := rd s O.tb_state
  if st = 0 then 0xFFFFFFFF
  else if st = 3 then rd s O.lock_threshold
  else min 0xFFFFFFFF (s.time.uncertainty + (s.now - s.time.since) * rd s O.holdover_ppb / 1000000000)

/-- The uncertainty counts from a value taken now (R398). -/
def setUncertainty (s : State) (u : Nat) : State := setTime s { s.time with uncertainty := u, since := s.now }

/-- `tb_state` entered, with the uncertainty it had (R392, R398). -/
def setTbState (s : State) (st : Nat) : State :=
  let u := if rd s O.tb_state = 0 then 0 else tbUncertainty s
  let s1 := setUncertainty s u
  wr (wr (setTime s1 { s1.time with good := 0, bad := 0 }) O.tb_state st) O.tb_valid (if st = 0 then 0 else 1)

/-- The frequency adjustment set, with its past kept for 60 s (R398). -/
def setFreq (s : State) (f : Int) : State :=
  wrI (setTime s { s.time with freq := f, history := ((s.now, f) :: s.time.history).take 64 }) O.tb_freq_adj f

/-- The mean adjustment over the last 60 s, each value weighed by how long it ran (R398). -/
def meanFreq (now : Nat) (h : List (Nat × Int)) (cur : Int) : Int :=
  let go := h.foldl (fun (a : Int × Nat) e =>
    let from_ := max e.1 (now - 60000000000)
    (a.1 + e.2 * (a.2 - from_ : Nat), min a.2 from_)) (0, now)
  let span := now - go.2
  if span = 0 then cur else go.1 / span

/-- A value wrapped into −500,000 to 499,999 (R155). -/
def wrapPhase (v : Int) : Int := (v + 500000) % 1000000 - 500000

/-- `frame_phase` changes while a frame runs, and the frame's end moves with it (R151, R155). -/
def rephase (s : State) (p : Int) : State :=
  let d := wrapPhase (p - rdI s O.frame_phase)
  wrI { s with ost := { s.ost with frameLength := ((s.ost.frameLength : Int) + d).toNat } } O.frame_phase (wrapPhase p)

/-- A move of the frame boundary begins (R155): it applies to the first frame whose build has not begun. -/
def startMove (s : State) (e : Int) (sync : Bool) : State :=
  if e = 0 then { s with move := { s.move with left := 0 } }
  else { s with move := { s.move with left := e, wait := 1, slewing := decide (rd s O.sync_step_max * 1000 < e.natAbs),
                                      fromSync := sync } }

/-! ### GFP timers -/

def gfpTimer (s : State) (t : Nat) : GfpTimer := s.time.timers.getD t {}
def setGfpTimer (s : State) (t : Nat) (x : GfpTimer) : State := setTime s { s.time with timers := s.time.timers.put t x }

/-- A timer's k-th instant in units of TB96 (R413). -/
def gtInstant (s : State) (t k : Nat) : Nat :=
  nsOf80 (rd s (O.gt_start t)) * 65536 + (if rd s (O.gt_mode t) = 2 then k * rd s (O.gt_period t) else 0)

/-- A GFP pin's level as a timer drives it, turned over by INVERT; behind a latch it does not reach the pad (R413, R457). -/
def driveGfp (s : State) (t : Nat) (active : Bool) : State :=
  let lv := active ^^ bit (rd s (O.gt_flags t)) 1
  let s1 := setGfpTimer s t { gfpTimer s t with level := active }
  if bit (rd s O.pad_latched) 0 then s1 else send s1 (.pin (rd s (O.gt_pin t)) lv)

/-- One output edge (R413): the pin toggles, or is driven active for `gt_width`. -/
def gtEdge (s : State) (t : Nat) : State :=
  let s1 := bump s (O.gt_fired t)
  if rd s (O.gt_width t) = 0 then driveGfp s1 t (!(gfpTimer s t).level) else driveGfp (driveGfp s1 t true) t false

/-- `n` instants passed without an edge are counted; kind 0x6F at most once per second (R414). -/
def gtSkip (s : State) (t n : Nat) : State :=
  if n = 0 then s
  else
    let s1 := bumpBy s (O.gt_skipped t) n
    let due := match s.time.lastSkip with
      | some at_ => decide (at_ + 1000000000 ≤ s.now)
      | none => true
    if due then report (setTime s1 { s1.time with lastSkip := some s.now }) 0x6F (hidOf s 0 14 1 t) 0 else s1

/-- The edges a timer may still drive: `gt_repeats` bounds PERIODIC, one edge is all of ONE_SHOT (R413). -/
def gtEdges (s : State) (t : Nat) : Option Nat :=
  if rd s (O.gt_mode t) = 1 then some 1 else if rd s (O.gt_repeats t) = 0 then none else some (rd s (O.gt_repeats t))

/-- The first k whose instant is at or after `lim`. -/
def gtFirst (s : State) (t lim : Nat) : Nat :=
  let a := gtInstant s t 0
  if rd s (O.gt_mode t) = 2 then ceilDiv (lim - a) (rd s (O.gt_period t)) else if a < lim then 1 else 0

/-- A timer's k set, reading FIRED once its edges are over. -/
def gtAt (s : State) (t k : Nat) : State :=
  let s1 := setGfpTimer s t { gfpTimer s t with k := k }
  match gtEdges s t with
  | some n => if n ≤ k then wr s1 (O.gt_state t) 2 else s1
  | none => s1

/-- Pending instants of one timer that lie before the present TB96 after a forward step (R414). -/
def gtPassed (s : State) (t : Nat) : State :=
  if rd s (O.gt_state t) = 1 then
    let k := (gfpTimer s t).k
    let first := gtFirst s t s.tb
    let last := match gtEdges s t with | some n => min first n | none => first
    let n := last - k
    if n = 0 then s
    else
      let s1 := gtAt s t (k + n)
      if bit (rd s (O.gt_flags t)) 0 then gtSkip (gtEdge s1 t) t (n - 1) else gtSkip s1 t n
  else s

/-- Every timer after a forward step. -/
def gtAllPassed (s : State) : State := (List.range 32).foldl gtPassed s

/-! ### Steps -/

/-- An instant of TB96 in ns as a step moves it. -/
def movedBy (ns : Int) (t : Nat) : Nat := ((t : Int) + ns).toNat

/-- A step of TB96 by `d` units of 2^-16 ns (R394 to R396): the TB96 value of every instant that stays where it is moves. -/
def stepTb (s : State) (d : Int) : State :=
  let ns : Int := d.tdiv 65536
  let moved := fun (c : TxCmd) => { c with start := c.start.map (movedBy ns), deadline := movedBy ns c.deadline }
  let s0 := [0, 1, 2].foldl (fun t r => setRadio t r { radio t r with cmds := (radio t r).cmds.map moved }) s
  let s1 := { s0 with tb := ((s.tb : Int) + d).toNat, time := { s.time with origin := s.time.origin + d },
                      epoch := { s.epoch with earliest := s.epoch.earliest.map (movedBy ns) },
                      ost := { s.ost with beganTb := movedBy ns s.ost.beganTb },
                      mac := { s.mac with nav := s.mac.nav.map (fun e => (e.1, movedBy ns e.2)) } }
  let s2 := wrI s1 O.frame_phase (wrapPhase (rdI s O.frame_phase + ns))
  let s3 := if rd s O.sync_mode = 0 then startMove s2 (-(wrapPhase ns)) false else s2
  let s4 := wrI (bump s3 O.tb_steps) O.tb_last_step (max (-2147483648) (min 2147483647 ns))
  let s5 := if 0 < d then gtAllPassed s4 else s4
  report s5 0x6D (servoHid s) 0

/-! ### Measurements (R392, R395) -/

/-- A frequency the servo's loop gives: within `slew_max`, else free (log 1). -/
def servoFreq (s : State) (ppm : Nat) : State :=
  let m := ppm * 1000000
  setFreq (freeNext s) ((freeBelow s (2 * m + 1) : Int) - m)

/-- The configured source qualifies (R392). -/
def sourceQualifies (s : State) (who : Nat) : State :=
  let st := rd s O.tb_state
  if st = 1 ∨ st = 4 then wr (setTbState s 2) O.tb_locked_to who else s

/-- The source is lost (R392, R398). -/
def sourceLost (s : State) : State :=
  let st := rd s O.tb_state
  if st = 2 ∨ st = 3 then
    report (wr (setFreq (setTbState s 4) (meanFreq s.now s.time.history s.time.freq)) O.tb_locked_to 0) 0x6C (servoHid s) 0
  else s

/-- LOCKING and LOCKED after a measurement (R392). -/
def lockCount (s : State) (off : Int) : State :=
  let thr := rd s O.lock_threshold
  if rd s O.tb_state = 2 then
    let n := if off.natAbs < thr then s.time.good + 1 else 0
    if 16 ≤ n then setTbState s 3 else setTime s { s.time with good := n }
  else if rd s O.tb_state = 3 then
    let n := if 4 * thr < off.natAbs then s.time.bad + 1 else 0
    if 16 ≤ n then setTbState s 2 else setTime s { s.time with bad := n }
  else s

/-- One offset measurement in ns from a source (R395). -/
def measure (s : State) (off : Int) (who : Nat) : State :=
  if rd s O.tb_state = 0 then
    setUncertainty (wr (setTbState (stepTb s (off * 65536)) 2) O.tb_locked_to who) (rd s O.lock_threshold)
  else
    let s1 := sourceQualifies s who
    let r := roleMode s
    if r ≠ 8 ∧ r ≠ 9 ∧ packageMode s ≠ 10 ∧ (rd s O.step_threshold : Int) < off.natAbs then
      setUncertainty (lockCount (stepTb s1 (off * 65536)) off) (rd s O.lock_threshold)
    else lockCount (servoFreq s1 (rd s O.slew_max)) off

/-! ### Host commands (R394) -/

/-- The status of SET, ADJUST and SLEW. -/
def tbCmdCheck (s : State) (slew : Bool) : Option Status :=
  let m := packageMode s
  if roleMode s = 9 ∨ (rd s O.tb_source ≠ 0 ∧ rd s O.tb_state ≠ 0) then some .denied
  else if !slew && (decide (roleMode s = 8) || decide (m = 10)) then some .busy
  else none

/-- A host command takes an unset time base to FREERUN (R392). -/
def setByHost (s : State) : State := if rd s O.tb_state = 0 then setUncertainty (setTbState s 1) 0 else s

/-- TB_SET. -/
def tbSet (s : State) : Status × State :=
  match tbCmdCheck s false with
  | some st => (st, s)
  | none => (.ok, setUncertainty (setByHost (stepTb s ((nsOf80 (rd s O.tb_set) * 65536 : Nat) - (s.tb : Int)))) 0)

/-- TB_ADJUST. -/
def tbAdjust (s : State) : Status × State :=
  match tbCmdCheck s false with
  | some st => (st, s)
  | none => (.ok, setByHost (stepTb s (rdI s O.tb_adjust * 65536)))

/-- TB_SLEW: what an earlier SLEW has not spread yet is kept (DESIGN CHOICE, log 13). -/
def tbSlew (s : State) : Status × State :=
  match tbCmdCheck s true with
  | some st => (st, s)
  | none => (.ok, setByHost (setTime s { s.time with slewLeft := s.time.slewLeft + rdI s O.tb_adjust * 65536000000000000 }))

def execTbSet (s : State) : Host.Outcome State Fault Refusal := act s fun s => command s O.tb_cmd 1 tbSet
def execTbAdjust (s : State) : Host.Outcome State Fault Refusal := act s fun s => command s O.tb_cmd 2 tbAdjust
def execTbSlew (s : State) : Host.Outcome State Fault Refusal := act s fun s => command s O.tb_cmd 3 tbSlew

/-- TB_SOURCE_WRITE (R392): the servo stops, the frequency is held, FREERUN. -/
def tbSourceWrite (s : State) (v : Nat) : Status × State :=
  let s1 := wr s O.tb_source v
  (.ok, if rd s O.tb_state = 0 then s1 else wr (setTbState s1 1) O.tb_locked_to 0)

def execTbSourceWrite (v : Fin 3) (s : State) : Host.Outcome State Fault Refusal :=
  act s fun s => command s O.tb_source v fun s => tbSourceWrite s v

/-! ### PPS (R411, R412) -/

/-- A value in ns wrapped into −500,000,000 to 499,999,999. -/
def wrapSecond (v : Int) : Int := (v + 500000000) % 1000000000 - 500000000

/-- The offset that a PPS_IN edge gives (R411): the seconds too when `tod_next` names the second. -/
def ppsOffset (s : State) : Int :=
  let e := wrapSecond (tbNs s % 1000000000)
  if rd s O.tod_next = 0 then -e else (rd s O.tod_next : Int) * 1000000000 - tbNs s

/-- An edge of PPS_IN as a measurement (R411). -/
def ppsMeasure (s : State) : State :=
  let off := ppsOffset s
  let named := decide (rd s O.tod_next ≠ 0)
  let s1 := wr s O.tod_next 0
  if rd s O.tb_state = 0 ∧ named = false then s
  else if rd s O.tb_state = 3 ∧ 1000 < off.natAbs then
    let s2 := report (bump (setTime s1 { s1.time with ppsRun := s1.time.ppsRun + 1 }) O.pps_in_faults) 0x6E (ppsHid s) 0
    if 4 ≤ s2.time.ppsRun then measure s2 off 2 else s2
  else measure (setTime s1 { s1.time with ppsRun := 0 }) off 2

/-- PPS_IN_EDGE (R411). -/
def execPpsInEdge (s : State) : Host.Outcome State Fault Refusal :=
  act s fun s =>
    if flag s O.pps_in_enable ∧ clkState s 12 = 1 then
      let s1 := wrI (wr s O.pps_in_last (now80 s)) O.pps_in_error (wrapSecond (tbNs s % 1000000000))
      if rd s O.tb_source = 2 ∧ roleMode s ≠ 9 then ppsMeasure s1 else s1
    else s

/-- PPS_IN_TIMEOUT (R411): no edge for 2 s loses the source. -/
def execPpsInTimeout (s : State) : Host.Outcome State Fault Refusal :=
  act s fun s => if rd s O.tb_source = 2 ∧ roleMode s ≠ 9 then sourceLost s else s

/-- PPS_OUT_RISE (R412): never within 500 ms of its last rise. -/
def execPpsOutRise (s : State) : Host.Outcome State Fault Refusal :=
  act s fun s =>
    let m := rd s O.pps_out_mode
    let runs := decide (4 ≤ packageMode s) && (decide (m = 2) || (decide (m = 1) && flag s O.tb_valid))
    let gap := match s.time.lastPps with | some a => decide (a + 500000000 < s.now) | none => true
    if runs && gap then
      let s1 := setTime s { s.time with lastPps := some s.now }
      if bit (rd s O.pad_latched) 1 then s1 else send s1 (.ppsOut true)
    else s

/-! ### SyncE (R410) and the Watchman's rate (R399) -/

/-- SYNCE_LOST (R410). -/
def execSynceLost (s : State) : Host.Outcome State Fault Refusal :=
  act s fun s =>
    if rd s O.synce_port ≠ 0xFF ∧ rd s O.synce_state ≠ 2 then
      report (wr s O.synce_state 2) 0x6B (hidOf s 0 10 3 1) 0 else s

/-- SYNCE_LOCKED (R410): with `synce_steer` 1 the monitor's measurement steers the frequency. -/
def execSynceLocked (s : State) : Host.Outcome State Fault Refusal :=
  act s fun s =>
    if rd s O.synce_port ≠ 0xFF then
      let s1 := wr s O.synce_state 1
      if flag s O.synce_steer ∧ (rd s O.tb_state = 2 ∨ rd s O.tb_state = 3) then servoFreq s1 (rd s O.slew_max) else s1
    else s

/-- A value kept within a signed range. -/
def clipI (lo hi v : Int) : Int := max lo (min hi v)

/-- BAK_RATE_WINDOW (R399, R430): a 16 s window gives the crystal's rate. -/
def execBakRateWindow (ppb : Int) (s : State) : Host.Outcome State Fault Refusal :=
  act s fun s =>
    if clkState s 12 = 1 then
      let s1 := wrI s O.bak_rate_ppb (clipI (-2147483648) 2147483647 ppb)
      if flag s O.trim_auto ∧ rd s O.tb_state = 3 then
        setFlag (wrI s1 O.bak_trim (clipI (-30000) 30000 ppb)) O.trim_pending true
      else s1
    else s

/-! ### The BAR0 time snapshot (R416) -/

/-- `TS_STATUS` at the latch: `LOCKED_TO` in bits 7:6, `VALID` in bit 5, `STATE` in bits 2:0. -/
def tsStatus (s : State) : Nat := rd s O.tb_locked_to * 64 + rd s O.tb_valid * 32 + rd s O.tb_state

/-- TS_SNAPSHOT_READ (R416): the read of `TS_NS` latches TB96 and the time status, and gives the nanoseconds; 64 bits give
`TS_SEC_LO` above them. -/
def execTsSnapshotRead (wide : Bool) (s : State) : Host.Outcome State Fault Refusal :=
  act s fun s =>
    if s.boot.perst ∨ packageMode s < 4 then s
    else
      let s1 := setTime s { s.time with snapTb := s.tb, snapStatus := tsStatus s }
      let ns := tbNs s % 1000000000
      let sec := tbNs s / 1000000000 % 4294967296
      { s1 with lastRead := leBytes 4 ns ++ (if wide then leBytes 4 sec else []) }

/-! ### Timer commands (R413, R414) -/

/-- ARM (R414): an instant less than 1 µs ahead counts as past. -/
def gtArm (s : State) (t : Nat) : Status × State :=
  let m := rd s (O.gt_mode t)
  if m = 0 then (.range, s)
  else if m = 3 then (.ok, wr s (O.gt_state t) 3)
  else
    let s0 := setGfpTimer (wr s (O.gt_state t) 1) t { gfpTimer s t with k := 0 }
    let k := gtFirst s0 t (s.tb + 65536000)
    if m = 2 then (.ok, gtAt s0 t k)
    else if k = 0 then (.ok, s0)
    else if bit (rd s (O.gt_flags t)) 0 then (.ok, gtAt (gtEdge s0 t) t 1)
    else (.ok, gtAt (gtSkip s0 t 1) t 1)

def execGtArm (t : Fin 32) (s : State) : Host.Outcome State Fault Refusal :=
  act s fun s => command s (O.gt_cmd t) 1 fun s => gtArm s t

/-- GT_DISARM (R420). -/
def execGtDisarm (t : Fin 32) (s : State) : Host.Outcome State Fault Refusal :=
  act s fun s => command s (O.gt_cmd t) 2 fun s => (.ok, wr s (O.gt_state t) 0)

/-- GT_INSTANT (R413): the timer's next instant is reached. -/
def execGtInstant (t : Fin 32) (s : State) : Host.Outcome State Fault Refusal :=
  act s fun s =>
    if rd s (O.gt_state t) = 1 ∧ 4 ≤ packageMode s then gtAt (gtEdge s t) t ((gfpTimer s t).k + 1) else s

/-- GT_CAPTURE_EDGE (R413): a chosen edge is stamped into the queue of 64, or lost; edges less than 8 ns apart are one. -/
def execGtCaptureEdge (t : Fin 32) (rising : Bool) (s : State) : Host.Outcome State Fault Refusal :=
  act s fun s =>
    let x := gfpTimer s t
    let chosen := bit (rd s (O.gt_flags t)) (if rising then 2 else 3)
    let far : Bool := match x.lastEdge with | some e => decide (e + 8 * 65536 ≤ s.tb ∨ s.tb < e) | none => true
    if rd s (O.gt_state t) = 3 ∧ chosen ∧ far ∧ 4 ≤ packageMode s ∧ bit (rd s O.pad_latched) 0 = false then
      if x.captures.length < 64 then
        wr (setGfpTimer s t { x with captures := x.captures ++ [now80 s], lastEdge := some s.tb }) (O.gt_cap_level t)
          (x.captures.length + 1)
      else bump (setGfpTimer s t { x with lastEdge := some s.tb }) (O.gt_cap_lost t)
    else s

/-- A read of `gt_cap_read` (R413): the oldest entry, removed; 10 zero bytes when the queue is empty. -/
def gtCapRead (s : State) (t : Nat) : Octets × State :=
  let x := gfpTimer s t
  match x.captures with
  | [] => (zeros 10, s)
  | c :: rest => (leBytes 10 c, wr (setGfpTimer s t { x with captures := rest }) (O.gt_cap_level t) rest.length)

def execGtCapRead (t : Fin 32) (s : State) : Host.Outcome State Fault Refusal :=
  act s fun s => readWith s (O.gt_cap_read t) fun s => gtCapRead s t

end Sys2Proof.Machine
end

