-- ==== Sys2Proof/Machine/Executor.lean ====
section
/-! DEFINITION. The Ostler's executors (R136, R138, R139, R170 to R174, R210, R211), the beacon builder (R130, R137), the results of
transmit commands (R85, R120, R138, R173) and SYNC_IN (R154 to R156). -/

namespace Sys2Proof.Machine

/-! ### Frames that go back -/

/-- A frame of a user goes back where it came from (R171, R173): a station's to its queue head, a group's to the BSSID's store. -/
def giveBack (s : State) (sta : Nat) (f : AirFrame) : State :=
  if 65536 ≤ sta then
    setMiller s { s.miller with group := s.miller.group.put (sta - 65536) (f :: s.miller.group.getD (sta - 65536) []) }
  else returnFrame s sta f

/-- The frames of users go back, the last first, so that the heads keep their order. -/
def giveBackUsers (s : State) (us : List ExUser) : State :=
  us.foldl (fun t u => u.frames.reverse.foldl (fun v f => giveBack v u.station f) t) s

/-- An exchange that is skipped (R171): its MPDUs return, and a frame of the air MAC's own waits again. -/
def skipExchange (s : State) (r : Nat) (e : Exchange) : State :=
  let s1 := bump (giveBackUsers s e.users) (O.ost_skipped r)
  match e.content with
  | some c => setMac s1 { s1.mac with outgoing := (r, c) :: s1.mac.outgoing }
  | none => s1

/-- Exchanges skipped in turn. -/
def skipAll (s : State) (r : Nat) (l : List Exchange) : State := l.foldl (fun t e => skipExchange t r e) s

/-- What is left of a TXOP or frame opens a new TXOP. -/
def reopen : List Exchange → List Exchange
  | [] => []
  | e :: t => { e with opens := true } :: t

/-! ### The beacon builder -/

/-- Shadow templates that have waited 100 µs replace those in use (R139). -/
def swapTemplates (s : State) (r : Nat) : State :=
  (List.range 16).foldl (fun t i =>
    let due := [O.beacon_template r i, O.probe_template r i].filter (fun k => match t.mac.shadows.look k with
      | some x => decide (x.written + 100000 ≤ t.now)
      | none => false)
    if due = [] then t
    else
      let m := due.foldl (fun (m : Mac) k => { m with
        templates := m.templates.put k ((m.shadows.getD k { bytes := [], written := 0 }).bytes), shadows := m.shadows.del k }) t.mac
      bump (setMac t m) (O.template_gen r i)) s

/-- The AIDs of a BSSID's TIM (R130): stations in power save on the link whose queues hold a frame mapped to it. -/
def timOf (s : State) (r i : Nat) : List Nat :=
  ((stationsInUse s).filter (fun k => decide (rd s (winKey k O.sta_bss) = i) && bit (staLinks s k) r && bit (staPs s k) r &&
    (staQueues k).any (fun a => (airQ s a).frames.any (fun f => bit (tidLinks s k f.tid) r)))).map (fun k => rd s (winKey k O.sta_aid))

/-- A beacon built (R130, R137, R138, R237): the templates of the served BSSIDs, the TSF, the TIMs, the group bits of a DTIM, and
the next IPN of BSSID 0's BIGTK. -/
def buildBeacon (s : State) (r : Nat) : TxContent × State :=
  let l := (List.range 16).filter (bssServed s r)
  let dtim := isDtim s r (tbNs s)
  let x : List (Nat × Nat) × State := match txSlot s 1 (16 * r) 3 with
    | some k => (match takePn s k with
      | (some n, t) => ([(k, n)], t)
      | (none, t) => ([], t))
    | none => ([], s)
  (.beacon (l.map (fun i => s.mac.templates.getD (O.beacon_template r i) [])) (tsfNs s / 1000).toNat (l.map (timOf s r))
    (l.map (fun i => dtim && !((s.miller.group.getD (16 * r + i) []).isEmpty))) x.1, x.2)

/-- The beacons that wait on other radios. -/
def otherBeacons (s : State) (r : Nat) : List (Nat × TxContent) := s.ost.beacons.filter (fun b => b.1 ≠ r)

/-- A beacon's result (R138): three in a row that are not SENT report kind 0x34. They count at BSSID 0, which is transmitted. -/
def beaconResult (s : State) (r : Nat) (sent : Bool) : State :=
  if sent then setMac (bump s (O.beacon_sent r 0)) { s.mac with beaconFails := s.mac.beaconFails.put r 0 }
  else
    let n := s.mac.beaconFails.getD r 0 + 1
    let t := setMac (bump s (O.beacon_tx_fail r 0)) { s.mac with beaconFails := s.mac.beaconFails.put r (if n = 3 then 0 else n) }
    if n = 3 then report t 0x34 (beaconHid s r) 0 else t

/-- TBTT (R138): templates are taken over, and the beacon of a radio that serves a BSSID is built. A radio barred by R169 sends
none, which counts as a failure; a module that owns no link has none to send (R122). -/
def execTbtt (r : Fin 3) (s : State) : Host.Outcome State Fault Refusal :=
  act s fun s =>
    let s1 := swapTemplates s r
    if ownsLinks s1 = false ∨ radioFitted s.fuse.part r = false ∨ rd s1 (O.bss_count r) = 0 then s1
    else if planBarred s1 r then beaconResult s1 r false
    else
      let x := buildBeacon s1 r
      { x.2 with ost := { x.2.ost with beacons := otherBeacons x.2 r ++ [((r : Nat), x.1)] } }

/-! ### NSTR (R136) -/

/-- A link pair of a station is NSTR. -/
def nstrPair (s : State) (i a b : Nat) : Bool := decide (a ≠ b) && bit (rd s (winKey i O.sta_nstr)) (a + b - 1)

/-- The end of a PPDU. -/
def cmdEnd (c : TxCmd) : Nat := c.start.getD 0 + c.duration

/-- A command carries data to a station. -/
def sendsTo (c : TxCmd) (i : Nat) : Bool :=
  match c.content with
  | .data l _ _ => l.any (fun p => p.station = i)
  | _ => false

/-- PPDUs to a station on other radios of NSTR pairs, on air or about to be. -/
def otherLinks (s : State) (r i : Nat) : List TxCmd :=
  ((List.range 3).filter (nstrPair s i r)).flatMap (fun q => ((radio s q).onAir.toList ++ (radio s q).cmds).filter (fun c => sendsTo c i))

/-- The duration that a PPDU to a station must have so that both end within 8 µs: padded where it is the shorter; `none` where it
breaks a rule. -/
def nstrDuration (s : State) (r i start dur : Nat) : Option Nat :=
  if (List.range 3).any (fun q => nstrPair s i r q && (ppduOf s q).stations.contains i) then none
  else (otherLinks s r i).foldl (fun (a : Option Nat) c => match a with
    | none => none
    | some d =>
      if cmdEnd c ≤ start ∨ start + d ≤ c.start.getD 0 then some d
      else if cmdEnd c + 8000 < start + d then none
      else if start + d + 8000 < cmdEnd c then some (cmdEnd c - start)
      else some d) (some dur)

/-- The users of an exchange that may be sent to at a start, its duration, and the users that may not. -/
def nstrSplit (s : State) (r start : Nat) : List ExUser → Nat → List ExUser → List ExUser → List ExUser × Nat × List ExUser
  | [], d, yes, no => (yes, d, no)
  | u :: t, d, yes, no =>
    if 65536 ≤ u.station then nstrSplit s r start t d (yes ++ [u]) no
    else match nstrDuration s r u.station start d with
      | some n => nstrSplit s r start t (max d n) (yes ++ [u]) no
      | none => nstrSplit s r start t d yes (no ++ [u])

/-! ### Dynamic puncturing (R172) -/

/-- The ninths of a subchannel that a unit of some data subcarriers takes. -/
def unitNinths (sc : Nat) : Nat :=
  match resourceUnits.find? (fun u => u.1 = sc) with
  | some u => u.2
  | none => 9

/-- The places of users' units on the unpunctured subchannels: the widest first, each next to the one before (DESIGN CHOICE,
log 40): user, first and last subchannel by position. -/
def unitPlaces (us : List ExUser) : List (ExUser × Nat × Nat) :=
  ((sortBy (fun a b => decide (b.ru ≤ a.ru)) us).foldl (fun (a : List (ExUser × Nat × Nat) × Nat) u =>
    let w := unitNinths u.ru
    (a.1 ++ [(u, a.2 / 9, (a.2 + w - 1) / 9)], a.2 + w)) ([], 0)).1

/-- The users whose units avoid the busy subchannels. -/
def clearUsers (sub busy : List Nat) (us : List ExUser) : List ExUser :=
  ((unitPlaces us).filter (fun x => !(sub.zipIdx.any (fun c => busy.contains c.1 && decide (x.2.1 ≤ c.2 ∧ c.2 ≤ x.2.2))))).map (fun x => x.1)

/-- An exchange on what is left of its channel: users on busy subchannels leave an OFDMA PPDU or a trigger; any other PPDU takes
the time that the narrower channel needs (DEDUCED, log 40). -/
def punctureEx (busy : List Nat) (e : Exchange) : Exchange × List ExUser :=
  let sub := e.subchannels.filter (fun c => !(busy.contains c))
  if sub = e.subchannels then (e, [])
  else
    match e.kind with
    | .ofdma | .trigger =>
      let yes := clearUsers e.subchannels busy e.users
      ({ e with subchannels := sub, users := yes }, e.users.filter (fun u => !(yes.any (fun v => v.station = u.station))))
    | .su | .retry | .twt | .psPoll | .muMimo =>
      let d := e.users.foldl (fun m u => max m (dataTime u.bits (channelSubcarriers sub.length) u.mcs u.nss)) 0
      ({ e with subchannels := sub, ppdu := e.preamble + d, length := e.length - e.ppdu + e.preamble + d }, [])
    | _ => ({ e with subchannels := sub }, [])

/-- The busy secondary subchannels of a radio's operating channel. -/
def busySecondary (s : State) (r : Nat) (busy : List Nat) : List Nat :=
  (opChannels s r).filter (fun c => busy.contains c && decide (c ≠ rd s (O.primary r)))

/-- The pattern of the whole channel with more subchannels punctured. -/
def patternWith (s : State) (r : Nat) (busy : List Nat) : Nat :=
  match occupied (radioFuse s.fuse r).channels r (rd s (O.primary r)) (rd s (O.width r)) with
  | some l => (l.zipIdx.filter (fun c => busy.contains c.1 || bit (rd s (O.puncture r)) c.2)).foldl (fun n c => n + 2 ^ c.2) 0
  | none => 0

/-! ### A TXOP (R170, R171) -/

/-- Where an exchange may not run into: the fixed entries still to come (R157). -/
def nextFixed (l : List Exchange) (e : Exchange) : Option Nat :=
  ((l.filter (fun o => (match o.kind with | .beacon => true | .twt => o.windowEnd.isSome | _ => false) && decide (e.start < o.start))).map
    (fun o => o.start)).head?

/-- An exchange starting at an offset from its frame's boundary still fits (R171). -/
def fitsAt (s : State) (rest : List Exchange) (e : Exchange) (start : Nat) : Bool :=
  let en := start + e.length
  decide (en ≤ (nextBoundary s (s.ost.beganTb : Int)).toNat - s.ost.beganTb) &&
  (match e.windowEnd with | some w => decide (en ≤ w) | none => true) &&
  (match nextFixed rest e with | some f => decide (en ≤ f) | none => true)

/-- A PPDU given to its radio: its MPDUs wait for their acknowledgements (R170). A paired one goes with the joint precoder only
while pairing is READY and its follower has not refused (R210, R211). -/
def sendExchange (s : State) (r slip start : Nat) (e : Exchange) : State :=
  let fallen := e.paired && (decide (rd s O.pair_state ≠ 1) || s.twin.pairFallen.has e.tag)
  let e1 := if fallen then { e with paired := false } else e
  let s0 := if fallen && !(s.twin.pairFallen.has e.tag) then bump s O.pair_fallback else s
  let c := commandOf s0 r e1 (s.ost.beganTb + start) slip e1.subchannels
  let un := e1.users.flatMap (fun u => u.frames.map (fun f =>
    Unacked.mk u.station u.ac r e.tag { f with sends := f.sends + 1 }))
  let p := radioPlan s0 r
  let s1 := setPlan s0 r { p with sent := p.sent.put e.tag { e1 with users := e1.users.map (fun u => { u with frames := [] }) } }
  let s2 := { s1 with ost := { s1.ost with sent := s1.ost.sent ++ un } }
  let s3 := if e1.paired then varlanSend s2 4 (.pairGo e.tag (s.ost.beganTb + start)) else s2
  offerCommand s3 r { c with issuer := if e.kind = .beacon then .beacon else .ostler }

/-- The exchanges of a TXOP sent in turn at `shift` ns after their places, until one no longer fits: that one is skipped, and what
follows it opens a TXOP of its own. `rest` is what follows the TXOP. -/
def runTxop (r slip : Nat) (busy : List Nat) : List Exchange → List Exchange → Nat → State → State
  | [], rest, _, s => setPlan s r { radioPlan s r with running := rest }
  | e :: t, rest, shift, s =>
    let start := e.start + shift
    let x := punctureEx busy e
    let y := nstrSplit s r (s.ost.beganTb + start) x.1.users x.1.ppdu [] []
    let e1 : Exchange := { x.1 with users := y.1, ppdu := y.2.1, length := x.1.length - x.1.ppdu + y.2.1 }
    let s1 := bumpBy (giveBackUsers (giveBackUsers s x.2) y.2.2) (O.nstr_conflicts r) y.2.2.length
    let later := shift + (e1.length - e.length)
    if e1.users = [] ∧ e1.content = none ∧ e.kind ≠ .beacon then runTxop r slip busy t rest later s1
    else if fitsAt s1 (t ++ rest) e1 start ∨ e.kind = .beacon then runTxop r slip busy t rest later (sendExchange s1 r slip start e1)
    else setPlan (skipExchange s1 r e1) r { radioPlan (skipExchange s1 r e1) r with running := reopen t ++ rest }

/-- The TXOP at the head of what is left of a plan, and the rest. -/
def headTxop : List Exchange → List Exchange × List Exchange
  | [] => ([], [])
  | e :: t => (e :: t.takeWhile (fun o => !o.opens), t.dropWhile (fun o => !o.opens))

/-- The beacon that waits on a radio, as the exchange the plan holds for it, or one that begins now (R138). -/
def beaconNow (s : State) (r : Nat) (c : TxContent) : Exchange × List Exchange :=
  let l := (radioPlan s r).running
  let e := (l.find? (fun o => o.kind = .beacon)).getD { beaconEntry s r 0 with start := tbNs s - s.ost.beganTb, tag := s.ost.nextTag }
  ({ e with content := some c, subchannels := planChannels s r |>.filter (fun k => k = rd s (O.primary r)) },
   l.filter (fun o => !(decide (o.kind = .beacon))))

/-- TXOP_ACCESS_COMPLETE (R170 to R172): the access of a radio's executor completes. A waiting beacon goes first; else the TXOP at
the head of the plan, unless its latest start has passed. A subchannel that was busy is punctured or restarts the access. -/
def execTxopAccessComplete (r : Fin 3) (busy : List Nat) (s : State) : Host.Outcome State Fault Refusal :=
  act s fun s =>
    let p := radioPlan s r
    match s.ost.beacons.find? (fun b => decide (b.1 = (r : Nat))) with
    | some c =>
      let x := beaconNow s r c.2
      let s0 := (takeTag { s with ost := { s.ost with beacons := otherBeacons s r } }).2
      let now := tbNs s - s.ost.beganTb
      runTxop r p.slip [] [x.1] (reopen x.2) (now - x.1.start) s0
    | none =>
      let x := headTxop p.running
      match x.1 with
      | [] => s
      | e :: _ =>
        let now := tbNs s - s.ost.beganTb
        if e.kind = .beacon then s
        else if e.start + p.slip + rd s (O.slip_max r) * 1000 < now then
          setPlan (skipExchange s r e) r { radioPlan (skipExchange s r e) r with running := reopen (p.running.drop 1) }
        else
          let b := if (r : Nat) = 0 then [] else busySecondary s r busy
          let ok := flag s (O.dyn_puncture r) && punctureAllowed (rd s (O.width r)) (patternWith s r b)
          if b ≠ [] ∧ ok = false then s
          else
            let s1 := if b = [] then s else bump s (O.dyn_punctures r)
            let shift := now - e.start
            let s2 := setPlan s1 r { p with slip := max p.slip shift, doubled := 0 }
            runTxop r p.slip b x.1 x.2 shift s2

/-- ACCESS_DEADLINE (R171): the access of the first exchange left has not completed by L; what follows contends again with a
doubled window. A beacon that could not be sent counts as LATE does (R138). -/
def execAccessDeadline (r : Fin 3) (s : State) : Host.Outcome State Fault Refusal :=
  act s fun s =>
    let p := radioPlan s r
    match p.running with
    | [] => s
    | e :: t =>
      if e.kind = .beacon then
        let s1 := { s with ost := { s.ost with beacons := otherBeacons s r } }
        setPlan (beaconResult s1 r false) r { p with running := reopen t, doubled := p.doubled + 1 }
      else setPlan (skipExchange s r e) r { radioPlan (skipExchange s r e) r with running := reopen t, doubled := p.doubled + 1 }

/-- TB_PPDU_MISSING (R174): counted; the station's credit is not charged. -/
def execTbPpduMissing (r : Fin 3) (station : Nat) (s : State) : Host.Outcome State Fault Refusal :=
  act s fun s =>
    let here := fun (e : Nat × Nat × Nat) => decide (e.1 = (r : Nat)) && decide (e.2.1 = station)
    if s.ost.triggered.any here then
      bump { s with ost := { s.ost with triggered := s.ost.triggered.filter (fun e => !(here e)) } } (O.ul_silent r)
    else s

/-! ### Results (R85, R120, R138, R173, R211) -/

/-- The counter of a PPDU by its exchange's kind (R178). -/
def countKind (s : State) (r : Nat) : ExKind → State
  | .muMimo => bump s (O.mu_groups r)
  | .ofdma => bump s (O.ofdma_ppdus r)
  | .su | .retry | .twt | .psPoll => bump s (O.su_ppdus r)
  | .trigger => bump s (O.triggers r)
  | .bsrp => bump s (O.bsrp_sent r)
  | .sounding => bump s (O.soundings r)
  | .beacon | .group | .management | .muRts => s

/-- BlockAckReqs that went out are no longer owed (R128). -/
def barsSent (s : State) (l : List (Nat × Nat × Nat)) : State :=
  l.foldl (fun t b =>
    let st := station t b.1
    if st.bars.contains b.2 then setStation t b.1 { st with bars := st.bars.filter (fun x => x ≠ b.2) } else t) s

/-- What a PPDU's content does once it is sent: counters, and stations whose TB PPDU is awaited. -/
def contentSent (s : State) (r : Nat) : TxContent → State
  | .deauth _ _ => bump s (O.deauth_sent r)
  | .probeResponse _ _ => bump s (O.probe_resp_sent r)
  | .trigger us => { s with ost := { s.ost with triggered := s.ost.triggered ++ us.map (fun u => (r, u.1, u.2)) } }
  | .bsrp us => { s with ost := { s.ost with triggered := s.ost.triggered ++ us.map (fun u => (r, u, 0)) } }
  | .data _ bars paired => (if paired then fun t => bump t O.pair_ppdus else id) (barsSent s bars)
  | _ => s

/-- Frames of a tag that wait for no acknowledgement leave: those to groups. -/
def groupSent (s : State) (tag : Nat) : State :=
  let here := fun (u : Unacked) => decide (u.tag = tag ∧ 65536 ≤ u.station)
  (s.ost.sent.filter here).foldl (fun t u => dropLeg t u.frame.buf) { s with ost := { s.ost with sent := s.ost.sent.filter (fun u => !(here u)) } }

/-- The MPDUs of a PPDU that was not sent go back, with no retry counted (R173); a frame of the air MAC's own waits again. -/
def unsend (s : State) (r tag : Nat) : State :=
  let here := fun (u : Unacked) => decide (u.tag = tag)
  let p := radioPlan s r
  let s1 := { s with ost := { s.ost with sent := s.ost.sent.filter (fun u => !(here u)) } }
  let s2 := (s.ost.sent.filter here).reverse.foldl (fun t u => giveBack t u.station { u.frame with sends := u.frame.sends - 1 }) s1
  let s3 := setPlan s2 r { radioPlan s2 r with sent := p.sent.del tag }
  match (p.sent.look tag).bind (fun e => if e.kind = .beacon then none else e.content) with
  | some c => setMac s3 { s3.mac with outgoing := (r, c) :: s3.mac.outgoing }
  | none => s3

/-- The rest of a TXOP is skipped (R173): commands given and not yet started, and what of the plan belongs to it. -/
def skipTxop (s : State) (r : Nat) : State :=
  let x := radio s r
  let mine := x.cmds.filter (fun c => c.issuer = .ostler)
  let s1 := setRadio s r { x with cmds := x.cmds.filter (fun c => c.issuer ≠ .ostler) }
  let s2 := mine.foldl (fun t c => bump (unsend t r c.tag) (O.ost_skipped r)) s1
  let p := radioPlan s2 r
  let l := p.running.takeWhile (fun e => !e.opens)
  skipAll (setPlan s2 r { p with running := p.running.dropWhile (fun e => !e.opens) }) r l

/-- The rest of a radio's frame is skipped (R173). -/
def skipFrame (s : State) (r : Nat) : State :=
  let t := skipTxop s r
  skipAll (setPlan t r { radioPlan t r with running := [] }) r (radioPlan t r).running

/-- The MPDUs of a PPDU that went out for the first time were encrypted as it streamed to the radio (R226); retries are not counted
(R242). -/
def countEncrypted (s : State) (tag : Nat) : State :=
  (s.ost.sent.filter (fun u => u.tag = tag)).foldl (fun t u =>
    match u.frame.slot with
    | some k => if u.frame.sends = 1 then bump (bump t O.tx_encrypted) (winKey k O.slot_tx) else t
    | none => t) s

/-- The Ostler's reaction to a result (R173). -/
def ostlerResult (s : State) (r : Nat) (c : TxCmd) (res : TxResult) : State :=
  match res with
  | .sent =>
    let s1 := bumpBy (countEncrypted s c.tag) (O.airtime_sent r) (c.duration / 1000)
    let s2 := match (radioPlan s r).sent.look c.tag with
      | some e => countKind s1 r e.kind
      | none => s1
    let s3 := groupSent (contentSent s2 r c.content) c.tag
    setPlan s3 r { radioPlan s3 r with sent := (radioPlan s3 r).sent.del c.tag }
  | .late => bump (unsend s r c.tag) (O.ost_late r)
  | .synthNotReady => bump (skipFrame (unsend s r c.tag) r) (O.ost_not_ready r)
  | .busy => bump (skipTxop (unsend s r c.tag) r) (O.ost_busy r)
  | .muted => bump (skipFrame (unsend s r c.tag) r) (O.ost_muted r)
  | .dutyLimit => bump (skipFrame (unsend s r c.tag) r) (O.ost_duty r)
  | .regBlocked | .noGrant => report (bump (skipFrame (unsend s r c.tag) r) (O.ost_reg r)) 0x3B (executorHid s r) 0

/-- TX_RESULT (R85): the oldest result reaches the unit that issued its command. A SIFS response is not retried (R120); the
follower's half of a paired PPDU answers with PAIR_RESULT where a check failed (R211). -/
def execTxResult (s : State) : Host.Outcome State Fault Refusal :=
  act s fun s =>
    match s.txReports with
    | [] => s
    | x :: t =>
      let s1 := { s with txReports := t }
      match x.cmd.issuer with
      | .sifs => bump s1 (if x.result = .sent then O.resp_sent x.radio else O.resp_failed x.radio)
      | .beacon =>
        let s2 := setPlan s1 x.radio { radioPlan s1 x.radio with sent := (radioPlan s1 x.radio).sent.del x.cmd.tag }
        beaconResult (if x.result = .sent then bumpBy s2 (O.airtime_sent x.radio) (x.cmd.duration / 1000) else s2) x.radio (decide (x.result = .sent))
      | .ostler => ostlerResult s1 x.radio x.cmd x.result
      | .pair => if x.result = .sent then s1 else varlanSend s1 4 (.pairResult x.cmd.tag false)

/-! ### SYNC_IN (R154 to R156) -/

/-- The SYNC_IN unit (R150). -/
def syncHid (s : State) : Nat := hidOf s 0 2 3 0

/-- The error of an edge (R154): the target against the boundary nearest to it, counting moves already committed. -/
def syncError (s : State) : Int :=
  let committed := if s.move.slewing then 0 else s.move.left
  wrapPhase ((tbNs s : Int) + rdI s O.sync_offset - rdI s O.frame_phase - committed)

/-- An accepted edge (R154 to R156): measured; while SLEWING its error replaces the remainder, else a move begins. -/
def syncEdge (s : State) : State :=
  let e := syncError s
  let s1 := wrI (bump { s with move := { s.move with edgeSeen := true } } O.sync_events) O.sync_error e
  if rd s O.sync_state = 3 then
    let s2 := { s1 with move := { s1.move with left := e } }
    if e = 0 then wr { s2 with move := { s2.move with slewing := false } } O.sync_state 2 else s2
  else
    let s2 := startMove s1 ((if s.move.slewing then 0 else s.move.left) + e) true
    if rd s O.sync_step_max * 1000 < e.natAbs then report (bump (wr s2 O.sync_state 3) O.sync_slews) 0x39 (syncHid s) 0
    else wr s2 O.sync_state 2

/-- SYNC_IN_EDGE (R154, R156). -/
def execSyncInEdge (s : State) : Host.Outcome State Fault Refusal :=
  act s fun s =>
    if roleMode s = 9 then bump s O.sync_ignored
    else if rd s O.sync_mode = 0 then s
    else if s.move.edgeSeen then bump s O.sync_ignored
    else syncEdge s

/-- SYNC_TIMEOUT (R156): no edge for `sync_timeout`; boundaries keep the last `frame_phase`. -/
def execSyncTimeout (s : State) : Host.Outcome State Fault Refusal :=
  act s fun s =>
    if rd s O.sync_mode = 1 ∧ rd s O.sync_state ≠ 4 then
      let m := if s.move.fromSync then { s.move with left := 0, slewing := false } else s.move
      report (wr { s with move := m } O.sync_state 4) 0x3A (syncHid s) 0
    else s

end Sys2Proof.Machine
end

