-- ==== Sys2Proof/Machine/Ptp.lean ====
section
/-! DEFINITION. PTP on the uplink ports (R404 to R408): the port state machine with the best master of IEEE 1588-2019, offsets
and path delays. What the standard fixes and the spec only names is PRESUMED from the standard (log 14). -/

namespace Sys2Proof.Machine

/-- A port's own PTP state. -/
def ptpPort (s : State) (p : Nat) : PtpPort := s.time.ports.getD p {}
def setPtpPort (s : State) (p : Nat) (x : PtpPort) : State := setTime s { s.time with ports := s.time.ports.put p x }

/-- A port takes part in PTP (R404): BOUNDARY or GPTP, enabled, and its link UP. -/
def ptpRuns (s : State) (p : Nat) : Bool :=
  (decide (rd s O.ptp_mode = 1) || decide (rd s O.ptp_mode = 3)) && flag s (O.pp_enable p) && decide (rd s (O.port_state p) = 2)

/-- The port state of IEEE 1588-2019 (1 INITIALIZING, 3 DISABLED, 4 LISTENING, 6 MASTER, 7 PASSIVE, 9 SLAVE): a port that takes
part is at least LISTENING. -/
def ptpState (s : State) (p : Nat) : Nat :=
  if flag s (O.pp_enable p) = false then 3
  else let v := rd s (O.pp_state p); if ptpRuns s p ∧ v < 4 then 4 else v

/-- Event messages carry time stamps (R418). -/
def ptpEvent : PtpKind → Bool
  | .sync => true | .delayReq => true | .pdelayReq => true | .pdelayResp => true | _ => false

/-- The key by which data sets are compared: the lesser is the better master. -/
def datasetKey (d : PtpDataset) : List Nat := [d.priority1, d.clockClass, d.accuracy, d.variance, d.priority2, d.identity]

/-- The first of two equally long lists is the lesser. -/
def listLess : List Nat → List Nat → Bool
  | a :: s, b :: t => if a < b then true else if b < a then false else listLess s t
  | _, _ => false

/-- Foreign master `a` is better than `b`: by data set, and for one grandmaster by steps removed and sender. -/
def betterMaster (a b : Foreign) : Bool :=
  if a.dataset.identity = b.dataset.identity then listLess [a.dataset.steps, a.source, a.port] [b.dataset.steps, b.source, b.port]
  else listLess (datasetKey a.dataset) (datasetKey b.dataset)

/-- This clock's own data set (R418); its accuracy and variance are the standard's values for unknown (PRESUMED, log 14). -/
def ownDataset (s : State) : PtpDataset :=
  { priority1 := rd s O.ptp_priority1, clockClass := rd s O.ptp_clock_class, accuracy := 0xFE, variance := 0xFFFF,
    priority2 := rd s O.ptp_priority2, identity := beNat (rdB s O.ptp_clock_id), steps := 0 }

/-- The best qualified foreign master of a list: one whose second Announce has been heard. -/
def bestOf (l : List Foreign) : Option Foreign :=
  (l.filter (fun f => decide (2 ≤ f.heard))).foldl
    (fun a f => match a with | none => some f | some b => if betterMaster f b then some f else a) none

/-- The best master of every port, with its port. -/
def bestMaster (s : State) : Option (Nat × Foreign) :=
  (List.range 8).foldl (fun a p =>
    if ptpRuns s p then
      match bestOf (ptpPort s p).foreign, a with
      | some f, none => some (p, f)
      | some f, some b => if betterMaster f b.2 then some (p, f) else a
      | none, _ => a
    else a) none

/-- The state a port is to take: the state decision of the best master algorithm (R404). -/
def decidePort (s : State) (best : Option (Nat × Foreign)) (p : Nat) : Nat :=
  let own := datasetKey (ownDataset s)
  let rest (v : Nat) : Nat := if flag s O.ptp_slave_only then 4 else v
  match best with
  | none => if ptpState s p = 4 then 4 else rest 6
  | some b =>
    match bestOf (ptpPort s p).foreign with
    | some f =>
      if rd s O.ptp_clock_class ≤ 127 then
        (if listLess own (datasetKey f.dataset) then rest 6 else rest 7)
      else if listLess own (datasetKey b.2.dataset) then rest 6
      else if b.1 = p then 9
      else if f.dataset.identity = b.2.dataset.identity then rest 7 else rest 6
    | none => rest 6

/-- Every port's state decided again; the slave port, its grandmaster, and the source's gain or loss follow (R392, R404). -/
def ptpDecide (s : State) : State :=
  let best := bestMaster s
  let s1 := (List.range 8).foldl (fun t p => if ptpRuns s p then wr t (O.pp_state p) (decidePort s best p) else t) s
  match (List.range 8).find? (fun p => decide (ptpRuns s1 p ∧ rd s1 (O.pp_state p) = 9)), best with
  | some p, some b =>
    let s2 := wr (wrB (wr s1 O.ptp_slave_port p) O.ptp_gm_id (beBytes 8 b.2.dataset.identity)) O.ptp_steps_removed (b.2.dataset.steps + 1)
    if rd s O.tb_source = 1 ∧ roleMode s ≠ 9 then sourceQualifies s2 1 else s2
  | _, _ =>
    let had := decide (rd s O.ptp_slave_port ≠ 0xFF)
    let s2 := wr s1 O.ptp_slave_port 0xFF
    if had ∧ rd s O.tb_source = 1 ∧ roleMode s ≠ 9 then sourceLost s2 else s2

/-- An Announce enters a port's foreign masters. -/
def hearAnnounce (l : List Foreign) (m : PtpMsg) : List Foreign :=
  match l.find? (fun f => decide (f.source = m.source ∧ f.port = m.sourcePort)) with
  | some f => { f with heard := f.heard + 1, dataset := m.dataset } ::
      l.filter (fun f => !(decide (f.source = m.source) && decide (f.port = m.sourcePort)))
  | none => ⟨m.source, m.sourcePort, 1, m.dataset⟩ :: l

/-- An offset measurement of the slave port (R404, R407): arrival less origin, correction, asymmetry and path delay. -/
def ptpOffset (s : State) (p : Nat) (m : PtpMsg) (corr : Int) (origin : Nat) : State :=
  let ms : Int := (m.stamp : Int) - origin - corr - rdI s (O.pp_asym p)
  let delay : Int := if rd s O.ptp_mode = 3 ∨ rd s (O.pp_delay_mech p) = 2 then rd s (O.pp_link_delay p) else rd s O.ptp_path_delay
  let off : Int := ms.tdiv 65536 - delay
  let s1 := wrI (setPtpPort s p { ptpPort s p with masterToSlave := some ms, waitingSync := none }) O.ptp_offset
    (clipI (-2147483648) 2147483647 off)
  if rd s O.tb_source = 1 ∧ roleMode s ≠ 9 then measure s1 off 1 else s1

/-- A message taken off at a port (R404). -/
def ptpTake (s : State) (p : Nat) (m : PtpMsg) : State :=
  let x := ptpPort s p
  let slave := decide (ptpState s p = 9)
  match m.kind with
  | .announce => if (rd s O.ptp_mode = 1 ∨ rd s (O.pp_as_capable p) = 1) then ptpDecide (setPtpPort s p { x with foreign := hearAnnounce x.foreign m }) else s
  | .sync =>
    if slave then (if m.twoStep then setPtpPort s p { x with waitingSync := some m } else ptpOffset s p m m.correction m.origin) else s
  | .followUp =>
    match x.waitingSync with
    | some y => if slave ∧ y.sequence = m.sequence then ptpOffset s p y (y.correction + m.correction) m.origin else s
    | none => s
  | .delayReq => if ptpState s p = 6 then bump (send s (.ptp p .delayResp m.stamp)) (O.pp_tx_event p) else s
  | .delayResp =>
    match x.masterToSlave, x.delayReqAt with
    | some ms, some t3 =>
      let sm : Int := (m.origin : Int) - t3 - m.correction
      if slave then wr (setPtpPort s p { x with delayReqAt := none }) O.ptp_path_delay (min 0xFFFFFFFF ((ms + sm) / 2 / 65536).toNat)
      else s
    | _, _ => s
  | .pdelayReq => bump (send s (.ptp p .pdelayResp m.stamp)) (O.pp_tx_event p)
  | .pdelayResp =>
    match x.pdelayReqAt with
    | some t1 =>
      if m.twoStep then setPtpPort s p { x with pdelayResp := some m }
      else
        let d := ((m.stamp : Int) - t1 - m.correction) / 2 / 65536
        setFlag (wr (setPtpPort s p { x with pdelayReqAt := none }) (O.pp_link_delay p) (min 0xFFFFFFFF d.toNat)) (O.pp_as_capable p)
          (decide (rd s O.ptp_mode = 3))
    | none => s
  | .pdelayRespFollowUp =>
    match x.pdelayReqAt, x.pdelayResp with
    | some t1, some y =>
      let d := ((y.stamp : Int) - t1 - ((m.origin : Int) - y.origin) - y.correction - m.correction) / 2 / 65536
      setFlag (wr (setPtpPort s p { x with pdelayReqAt := none, pdelayResp := none }) (O.pp_link_delay p) (min 0xFFFFFFFF d.toNat))
        (O.pp_as_capable p) (decide (rd s O.ptp_mode = 3))
    | _, _ => s
  | .signaling => s
  | .management => s

/-- PTP_MESSAGE_RX (R404, R408): malformed messages are counted and dropped; those of another domain take the normal path. -/
def execPtpMessageRx (port : Fin 8) (m : PtpMsg) (s : State) : Host.Outcome State Fault Refusal :=
  act s fun s =>
    if m.wellFormed = false then bump s (O.pp_discard port)
    else if ptpRuns s port ∧ m.domain = (if rd s O.ptp_mode = 3 then 0 else rd s O.ptp_domain) then
      ptpTake (bump s (if ptpEvent m.kind then O.pp_rx_event port else O.pp_rx_general port)) port m
    else s

/-- PTP_MESSAGE_TX (R404): a port's message interval expires: Sync and Announce from a master port, a delay request from a
slave port or, with peer delay, from any port that takes part. -/
def execPtpMessageTx (port : Fin 8) (kind : PtpKind) (s : State) : Host.Outcome State Fault Refusal :=
  act s fun s =>
    let st := ptpState s port
    let peer := decide (rd s O.ptp_mode = 3) || decide (rd s (O.pp_delay_mech port) = 2)
    let sent := send s (.ptp port kind s.tb)
    if ptpRuns s port then
      match kind with
      | .sync => if st = 6 then bump sent (O.pp_tx_event port) else s
      | .announce => if st = 6 then sent else s
      | .delayReq =>
        if st = 9 ∧ peer = false then
          bump (setPtpPort sent port { ptpPort s port with delayReqAt := some s.tb }) (O.pp_tx_event port) else s
      | .pdelayReq =>
        if peer then bump (setPtpPort sent port { ptpPort s port with pdelayReqAt := some s.tb }) (O.pp_tx_event port) else s
      | _ => s
    else s

/-- PTP_ANNOUNCE_TIMEOUT (R404): the port's master is silent; the ports are decided again, and with no slave port left the
source is lost. -/
def execPtpAnnounceTimeout (port : Fin 8) (s : State) : Host.Outcome State Fault Refusal :=
  act s fun s =>
    if ptpRuns s port then
      let s1 := setPtpPort s port { ptpPort s port with foreign := [], waitingSync := none, masterToSlave := none }
      ptpDecide (wr s1 (O.pp_state port) (if flag s O.ptp_slave_only then 4 else 6))
    else s

end Sys2Proof.Machine
end

