-- ==== Sys2Proof/Machine/Reset.lean ====
section
/-! DEFINITION. What survives a package reset and a loss of supply (R25, R426, R439, R454, R461, R473, R506): the backup domain,
the flash and the input's own state; everything else starts again. -/

namespace Sys2Proof.Machine

/-- The power counters and causes held in the backup domain (R439, R461). -/
def heldPower (index sub : Nat) : Bool :=
  (decide (index = 0x1100) && decide (sub ∈ [1, 3, 4, 5, 6, 7, 8, 9])) || (decide (index = 0x1101) && decide (sub ∈ [9, 10, 11])) ||
  (decide (index = 0x1104) && decide (3 ≤ sub)) || (decide (index = 0x1105) && decide (sub ≤ 4)) ||
  (decide (index = 0x1106) && decide (sub = 3)) || (decide (0x1110 ≤ index ∧ index ≤ 0x1118) && decide (sub = 3))

/-- A register held in the backup domain (R426, R461, R477). -/
def heldKey (k : Nat) : Bool :=
  let index := k / 256
  let sub := k % 256
  decide (0x1400 ≤ index ∧ index < 0x1800) || heldPower index sub || (decide (index = 0x7800) && decide (sub = 4 ∨ sub = 5))

/-- A register that a package reset leaves as it is beside those: the power domains, the clocks of the converter and the backup domain,
and the reference PLL, which a reset leaves running (R376, R529). -/
def keptKey (k : Nat) : Bool :=
  heldKey k || decide (0x1110 ≤ k / 256 ∧ k / 256 ≤ 0x1118 ∧ k % 256 = 1) ||
  decide (k ∈ [O.ref_state, O.clk_state 13, O.clk_rate 13, O.clk_state 17, O.clk_rate 17])

/-- What of the Ledger's part lies in flash (R44, R189, R518). -/
def flashOf (l : Ledger) : Ledger :=
  { slot0 := l.slot0, slot1 := l.slot1, peerKey := l.peerKey, bootCount0 := l.bootCount0, bootCount1 := l.bootCount1 }

/-- What of the Tinker lies in the backup domain (R473): the recovery history and the latch. -/
def tinkerHeld (t : Tinker) : Tinker := { history := t.history, latched := t.latched }

/-- What of the power machinery outlives a reset: the input, VBAK, what is owed to the next BOOT, and the last times of
DORMANT. Every bank and the DORMANT record are invalid (R454). -/
def powerHeld (p : Power) : Power :=
  { inputOn := p.inputOn, overVoltage := p.overVoltage, hotReported := p.hotReported, vbak := p.vbak, lateKinds := p.lateKinds,
    enteredAt := p.enteredAt, wokeAt := p.wokeAt }

/-- A package reset (R25, R506): the module as reset leaves it, with the backup domain, the flash and the plan store kept. -/
def packageReset (s : State) : State :=
  { State.reset with
    pending := s.pending, fuse := s.fuse, regs := s.regs.filter (fun e => keptKey e.1),
    blobs := s.blobs.filter (fun e => heldKey e.1), out := s.out, free := s.free, now := s.now, system := s.system,
    boot := { inReset := true, perst := s.boot.perst, straps := s.boot.straps }, led := flashOf s.led,
    tinker := tinkerHeld s.tinker, power := powerHeld s.power, watch := s.watch, refSince := s.refSince,
    survey := { flash := s.survey.flash, items := s.survey.items, day := s.survey.day } }

/-- The domains that VCORE and the rails of die 5 feed are off (R445). -/
def powerOff (s : State) : State := [3, 4, 5, 6, 7, 8].foldl (fun t d => wr t (O.pd_state d) 0) s

/-- The rails have fallen (R439, R440): HOLD while the input or VBAK can hold the backup domain, OFF otherwise; the reference
stops, and only the backup domain, the flash and the supply's own state remain. -/
def supplyLost (s : State) (input : Bool) : State :=
  let hold := input || s.power.vbak
  let s1 := powerOff (packageReset { s with power := { s.power with inputOn := input } })
  let s2 := wr (wr s1 O.package_mode (if hold then 2 else 1)) O.ref_state 0
  let s3 := if input then s2 else wr (wr s2 (O.pd_state 1) 0) (O.pd_state 2) 0
  let s4 := setClk { s3 with boot := { s3.boot with inReset := false } } 13 (if hold then 1 else 0)
  if input then s4 else setClk (wr s4 (O.pd_state 0) (if hold then 2 else 0)) 17 0

end Sys2Proof.Machine
end

