-- ==== Sys2Proof/Machine/Watchman.lean ====
section
/-! DEFINITION. The Watchman (R422 to R436): the supply switch, the crystal, the seconds and the trim, the alarms, PWRON_OUT and
the scratch memory. It runs in every mode but OFF, reset included. -/

namespace Sys2Proof.Machine

/-- The supply switch, the counters and the alarms as sources (R422). -/
def supplyHid (s : State) : Nat := hidOf s 0 13 0 0
def counterHid (s : State) : Nat := hidOf s 0 13 0 1
def alarmHid (s : State) : Nat := hidOf s 0 13 0 2

/-- An effect of the backup domain: it happens in every mode but OFF (R445). -/
def backup (s : State) (op : State → State) : Host.Outcome State Fault Refusal := done s (if packageMode s = 1 then s else op s)

/-- A kind of the backup domain or the supply: reported at once while the Tinker runs, else at the next BOOT (R432, R439). -/
def reportHeld (s : State) (kind source : Nat) : State :=
  if 4 ≤ packageMode s ∧ s.boot.inReset = false then report s kind source 0 else reportLate s kind source 0

/-! ### Supply -/

/-- INTERNAL_RAIL_LOW (R423). -/
def execInternalRailLow (s : State) : Host.Outcome State Fault Refusal :=
  backup s fun s => if rd s O.bak_supply = 0 then bump (wr s O.bak_supply 1) O.vbak_switches else s

/-- INTERNAL_RAIL_RESTORED (R423). -/
def execInternalRailRestored (s : State) : Host.Outcome State Fault Refusal :=
  backup s fun s => if rd s O.bak_supply = 1 then wr s O.bak_supply 0 else s

/-- VBAK_MEASURE (R423): `vbak_low` sets below `vbak_warn` and clears 100 mV above it. -/
def execVbakMeasure (mv : Nat) (s : State) : Host.Outcome State Fault Refusal :=
  backup s fun s =>
    let s1 := wr s O.vbak_mv (min 0xFFFF mv)
    if mv < rd s O.vbak_warn then
      (if flag s O.vbak_low then s1 else reportHeld (setFlag s1 O.vbak_low true) 0x70 (supplyHid s))
    else if rd s O.vbak_warn + 100 < mv then setFlag s1 O.vbak_low false
    else s1

/-- PWRON_OUT's level (R433). -/
def setPwron (s : State) (st : Nat) : State :=
  let s1 := wr s O.pwron_state st
  if st = 2 then send s1 (.pwronOut false) else if rd s O.pwron_state = 2 then send s1 (.pwronOut true) else s1

/-- A register that a backup-domain reset clears (R425, R461): what the input stage itself measures stays. -/
def clearedKey (k : Nat) : Bool := heldKey k && !(decide (k / 256 = 0x1100) && decide (k % 256 ≤ 6))

/-- A backup-domain reset (R425): the chapter's objects take their defaults, the DORMANT record is invalid, the power counters
and the Tinker's latch and history clear (R461, R473), PWRON_OUT is high. -/
def backupReset (s : State) (por : Bool) : State :=
  let s1 := setPwron s 0
  let latched := s1.tinker.latched
  let s2 := { s1 with regs := s1.regs.filter (fun e => !(clearedKey e.1)), blobs := s1.blobs.filter (fun e => !(heldKey e.1)),
                      watch := {}, power := { s1.power with record := none },
                      tinker := { s1.tinker with latched := false, history := [] } }
  let s3 := setFlag s2 O.bak_por (por || flag s O.bak_por)
  if latched ∧ rd s3 O.q_state = 2 then wr s3 O.q_state 1 else s3

/-- BACKUP_POR (R423, R425): both the internal rail and VBAK have fallen below 1.60 V; with the input absent the package is
OFF. -/
def execBackupPor (s : State) : Host.Outcome State Fault Refusal :=
  done s (
    let s1 := backupReset s true
    if s.power.inputOn then s1
    else
      let s2 := { s1 with power := { s1.power with vbak := false } }
      if packageMode s = 2 then setClk (wr (wr s2 O.package_mode 1) (O.pd_state 0) 0) 13 0 else s2)

/-- BAK_RESET (R425). -/
def execBakReset (s : State) : Host.Outcome State Fault Refusal :=
  act s fun s => command s O.bak_cmd 1 fun s => (.ok, backupReset s false)

/-- XTAL_STOP (R424). -/
def execXtalStop (s : State) : Host.Outcome State Fault Refusal :=
  backup s fun s =>
    if s.watch.stopped then s
    else
      let s1 := bump (setFlag { s with watch := { s.watch with stopped := true } } O.bak_valid false) O.xtal_stops
      reportHeld s1 0x74 (counterHid s)

/-- XTAL_RESUME (R424). -/
def execXtalResume (s : State) : Host.Outcome State Fault Refusal :=
  backup s fun s => { s with watch := { s.watch with stopped := false } }

/-! ### Alarms -/

/-- PWRON_OUT goes or stays high for a WAKE alarm or CANCEL (R433). -/
def pwronHigh (s : State) : State :=
  let st := rd s O.pwron_state
  if st = 1 then bump (setPwron s 0) O.pwron_cancels else if st = 2 then setPwron s 0 else s

/-- An alarm fires (R432). -/
def alarmFire (s : State) (a : Nat) : State :=
  let s1 := reportHeld (bump (wr s (O.al_state a) 2) (O.al_fired a)) 0x72 (alarmHid s)
  if bit (rd s (O.al_flags a)) 1 then pwronHigh s1 else s1

/-- A forward step across an alarm (R431): it fires with CATCH, else it is MISSED and counted. -/
def alarmStep (s : State) (a : Nat) : State :=
  if bit (rd s (O.al_flags a)) 0 then alarmFire s a
  else reportHeld (bump (wr s (O.al_state a) 3) (O.al_skipped a)) 0x73 (alarmHid s)

/-- An ARMED alarm at a change of the seconds from `old` to the present value (R431). -/
def alarmChange (s : State) (old a : Nat) (increment : Bool) : State :=
  let at_ := rd s (O.al_seconds a)
  let new := rd s O.bak_seconds
  if rd s (O.al_state a) ≠ 1 then s
  else if increment then (if new = at_ then alarmFire s a else s)
  else if old < at_ ∧ at_ ≤ new then alarmStep s a
  else s

/-- Both alarms at a change of the seconds. -/
def alarmsChange (s : State) (old : Nat) (increment : Bool) : State := alarmChange (alarmChange s old 0 increment) old 1 increment

/-- ARM (R431, R435). -/
def alarmArm (s : State) (a : Nat) : Status × State :=
  if flag s O.bak_valid = false then (.busy, s)
  else
    let s1 := wr s (O.al_state a) 1
    (.ok, if rd s (O.al_seconds a) ≤ rd s O.bak_seconds then alarmStep s1 a else s1)

def execAlarmArm (a : Fin 2) (s : State) : Host.Outcome State Fault Refusal :=
  act s fun s => command s (O.al_cmd a) 1 fun s => alarmArm s a

/-- ALARM_DISARM (R431). -/
def execAlarmDisarm (a : Fin 2) (s : State) : Host.Outcome State Fault Refusal :=
  act s fun s => command s (O.al_cmd a) 2 fun s => (.ok, wr s (O.al_state a) 0)

/-! ### Seconds and trim -/

/-- The accumulator and the length of the coming second at a boundary (R430). -/
def trimSecond (w : Watchman) (trim : Int) : Watchman :=
  let acc := w.acc + trim * 32768
  if 1000000000 ≤ acc then { w with trim := trim, acc := acc - 1000000000, length := 32769 }
  else if acc ≤ -1000000000 then { w with trim := trim, acc := acc + 1000000000, length := 32767 }
  else { w with trim := trim, acc := acc, length := 32768 }

/-- SECOND_BOUNDARY (R427, R430): the prescaler reaches the length of the second; a trim written since the last boundary is
used from here. -/
def execSecondBoundary (s : State) : Host.Outcome State Fault Refusal :=
  backup s fun s =>
    if s.watch.stopped then s
    else
      let old := rd s O.bak_seconds
      let ticks := (rd s O.bak_ticks + (s.watch.length - rd s O.bak_prescaler)) % 281474976710656
      let s1 := wr (wr (wr s O.bak_ticks ticks) O.bak_prescaler 0) O.bak_seconds ((old + 1) % 281474976710656)
      let s2 := setFlag { s1 with watch := trimSecond s1.watch (rdI s1 O.bak_trim) } O.trim_pending false
      alarmsChange s2 old true

/-- The seconds are written (R429, R430): the prescaler and the accumulator restart, and `bak_valid` sets. -/
def writeSeconds (s : State) (v : Nat) : State :=
  let old := rd s O.bak_seconds
  let s1 := setFlag (wr (wr s O.bak_seconds v) O.bak_prescaler 0) O.bak_valid true
  alarmsChange { s1 with watch := { s1.watch with acc := 0, length := 32768 } } old false

/-- BAK_SECONDS_WRITE (R429). -/
def bakSecondsWrite (s : State) (v : Nat) : Status × State :=
  if flag s O.bak_sync ∧ rd s O.tb_state = 3 then (.busy, s) else (.ok, writeSeconds s v)

def execBakSecondsWrite (value : Nat) (s : State) : Host.Outcome State Fault Refusal :=
  act s fun s =>
    if 281474976710656 ≤ value then ret s .range else command s O.bak_seconds value fun s => bakSecondsWrite s value

/-- BAK_SYNC_WRITE (R429): the Clocksmith writes the seconds of TB96 while LOCKED. -/
def execBakSyncWrite (s : State) : Host.Outcome State Fault Refusal :=
  act s fun s =>
    if flag s O.bak_sync ∧ rd s O.tb_state = 3 then writeSeconds s (tbNs s / 1000000000 % 281474976710656) else s

/-- BAK_TRIM_WRITE (R430). -/
def bakTrimWrite (s : State) (v : Int) : Status × State := (.ok, setFlag (wrI s O.bak_trim v) O.trim_pending true)

def execBakTrimWrite (value : Int) (s : State) : Host.Outcome State Fault Refusal :=
  act s fun s =>
    if value < -30000 ∨ 30000 < value then ret s .range else command s O.bak_trim (ofSigned 32 value) fun s => bakTrimWrite s value

/-! ### Reading the time (R427 to R429) -/

/-- Nanoseconds of a prescaler count, truncated and capped (R427). -/
def prescalerNs (p : Nat) : Nat := min 999999999 (p * 30517578125 / 1000000)

/-- Days of a year in the proleptic Gregorian calendar. -/
def leap (y : Nat) : Bool := (decide (y % 4 = 0) && decide (y % 100 ≠ 0)) || decide (y % 400 = 0)
def monthDays (y m : Nat) : Nat :=
  if m = 2 then (if leap y then 29 else 28) else if m = 4 ∨ m = 6 ∨ m = 9 ∨ m = 11 then 30 else 31

/-- The month and the day of a day of year, from month `m` on. -/
def monthOf (y : Nat) : Nat → Nat → Nat → Nat × Nat
  | 0, m, d => (m, d)
  | fuel + 1, m, d => if d < monthDays y m then (m, d) else monthOf y fuel (m + 1) (d - monthDays y m)

/-- The year and the day of the year of a day counted from 1970-01-01: the cycles of 400, 100, 4 and 1 years are taken off a
count from 1601-01-01, where each of them begins. -/
def yearOf (days : Nat) : Nat × Nat :=
  let d := days + 134774
  let q400 := d / 146097
  let r400 := d % 146097
  let q100 := min 3 (r400 / 36524)
  let r100 := r400 - q100 * 36524
  let q4 := r100 / 1461
  let r4 := r100 % 1461
  let q1 := min 3 (r4 / 365)
  (1601 + q400 * 400 + q100 * 100 + q4 * 4 + q1, r4 - q1 * 365)

/-- `calendar` of a seconds count (R429): UTC; 8 zero bytes outside 1970 to 9999. -/
def calendarOf (seconds : Nat) (utc : Int) : Octets :=
  let t : Int := seconds - utc
  if t < 0 then zeros 8
  else
    let n := t.toNat
    let days := n / 86400
    let yd := yearOf days
    let md := monthOf yd.1 11 1 yd.2
    if 9999 < yd.1 then zeros 8
    else leBytes 2 yd.1 ++ (List.map (BitVec.ofNat 8) [md.1, md.2 + 1, n % 86400 / 3600, n % 3600 / 60, n % 60, (days + 4) % 7])

/-- The backup domain's seconds, prescaler and ticks, taken together (R428). -/
def backupNow (s : State) : List Nat := [rd s O.bak_seconds, rd s O.bak_prescaler, rd s O.bak_ticks]

/-- The same as latched for the message that runs: its first read takes them (R428). -/
def backupLatch (s : State) : List Nat := s.led.backupLatch.getD (backupNow s)

/-- A backup time object's value from the latch. -/
def backupValue (s : State) (l : List Nat) (sub : Nat) : Octets :=
  let sec := l.getD 0 0
  let pre := l.getD 1 0
  if sub = 1 then leBytes 8 sec
  else if sub = 2 then leBytes 2 pre
  else if sub = 3 then leBytes 8 (l.getD 2 0)
  else if sub = 4 then leBytes 6 sec ++ leBytes 4 (prescalerNs pre)
  else calendarOf sec (rdI s O.cal_utc_offset)

/-- A read of `bak_seconds`, `bak_prescaler`, `bak_ticks`, `bak_time` or `calendar` within a message (R428). -/
def backupTimeRead (s : State) (sub : Nat) : Octets × State :=
  let l := backupLatch s
  (backupValue s l sub, { s with led := { s.led with backupLatch := some l } })

/-- BACKUP_TIME_READ (R428): one such read as a message of its own, which takes its own latch. -/
def execBackupTimeRead (sub : Fin 5) (s : State) : Host.Outcome State Fault Refusal :=
  act s fun s => readWith s (objKey 0x1401 ((sub : Nat) + 1)) fun s => (backupValue s (backupNow s) (sub + 1), s)

/-! ### PWRON_OUT and the scratch memory -/

/-- PWRON_RELEASE (R433). -/
def pwronRelease (s : State) : Status × State :=
  let st := rd s O.pwron_state
  if st = 1 then (.busy, s) else if st = 0 then (.ok, wr s O.pwron_state 1) else (.ok, s)

def execPwronRelease (s : State) : Host.Outcome State Fault Refusal := act s fun s => command s O.pwron_cmd 1 pwronRelease

/-- PWRON_CANCEL (R433). -/
def execPwronCancel (s : State) : Host.Outcome State Fault Refusal :=
  act s fun s => command s O.pwron_cmd 2 fun s => (.ok, pwronHigh s)

/-- PWRON_DELAY_EXPIRE (R433). -/
def execPwronDelayExpire (s : State) : Host.Outcome State Fault Refusal :=
  backup s fun s => if rd s O.pwron_state = 1 then setPwron s 2 else s

/-- SCRATCH_WRITE (R434): exactly 32 bytes, stored at once. -/
def execScratchWrite (bytes : Octets) (s : State) : Host.Outcome State Fault Refusal :=
  act s fun s =>
    if bytes.length ≠ 32 then ret s .type else commandWith s O.scratch bytes fun s => (.ok, wrB s O.scratch bytes)

end Sys2Proof.Machine
end

