-- ==== Sys2Proof/Machine/Power.lean ====
section
/-! DEFINITION. Power (R437 to R446, R455 to R458): the input and the converter, the 12 V output, VCORE over AVSBus, and the
release of latched pads. -/

namespace Sys2Proof.Machine

/-- The converter, the 12 V output, the power sequencer and the AVSBus master as sources (R437). -/
def converterHid (s : State) : Nat := hidOf s 5 0 0 0
def v12Hid (s : State) : Nat := hidOf s 5 0 0 1
def powerSequencerHid (s : State) : Nat := hidOf s 5 0 1 0
def avsHid (s : State) : Nat := hidOf s 5 0 1 1

/-! ### The input -/

/-- The package leaves HOLD or OFF for reset once the input is in range (R440, R459): the reference PLL starts (R376). -/
def enterReset (s : State) : State :=
  if packageMode s = 1 ∨ packageMode s = 2 then
    let s1 := packageReset s
    setClk (wr s1 O.ref_state 1) 13 1
  else s

/-- The converter starts: the auxiliary supply is on, and the 12 V output starts unless the package is in DORMANT (R438, R440). -/
def converterStart (s : State) : State :=
  let s1 := setPower (setPower (setPower s 0 2) 1 2) 2 2
  let s2 := { s1 with power := { s1.power with inputOn := true, overVoltage := false } }
  let s3 := if rd s O.v12_state = 0 ∧ packageMode s ≠ 3 then wr s2 O.v12_state 1 else s2
  setClk (enterReset s3) 17 1

/-- VIN_RISE (R438): the input rises above 34.0 V. -/
def execVinRise (s : State) : Host.Outcome State Fault Refusal :=
  done s (if s.power.inputOn then s else converterStart s)

/-- VIN_WARN (R438): below `vin_warn`, once. -/
def execVinWarn (mv : Nat) (s : State) : Host.Outcome State Fault Refusal :=
  done s (
    let s1 := wr s O.vin_mv mv
    if flag s O.vin_low ∨ s.power.inputOn = false ∨ rd s O.vin_warn ≤ mv then s1 else reportHeld (setFlag s1 O.vin_low true) 0x78 (converterHid s))

/-- VIN_LOW_CLEAR (R438): above `vin_warn` + 1 V. -/
def execVinLowClear (mv : Nat) (s : State) : Host.Outcome State Fault Refusal :=
  done s (if rd s O.vin_warn + 1000 < mv then setFlag (wr s O.vin_mv mv) O.vin_low false else wr s O.vin_mv mv)

/-- POWER_FAIL_WARNING (R439): kind 0x79, a package fault, while the rails hold. -/
def execPowerFailWarning (s : State) : Host.Outcome State Fault Refusal :=
  done s (if s.power.inputOn then reportHeld (bump s O.pwrfail_events) 0x79 (converterHid s) else s)

/-- The converter stops (R438, R440): the 12 V output is off and the package is in HOLD or OFF (R439). -/
def converterStop (s : State) (cause : Nat) : State :=
  wr (wr (supplyLost s false) O.v12_state 0) O.last_loss_cause cause

/-- VIN_COLLAPSE (R438, R440): below 32.0 V; LATCHED_OFF ends too. -/
def execVinCollapse (s : State) : Host.Outcome State Fault Refusal :=
  done s (if s.power.inputOn ∨ s.power.overVoltage then converterStop s 1 else s)

/-- VIN_OVERVOLTAGE (R438): above 78.0 V for 1 ms. -/
def execVinOvervoltage (s : State) : Host.Outcome State Fault Refusal :=
  done s (
    if s.power.inputOn then
      let s1 := converterStop s 2
      { s1 with power := { s1.power with overVoltage := true } }
    else s)

/-- VIN_OV_RECOVER (R438): below 76.0 V the converter restarts. -/
def execVinOvRecover (s : State) : Host.Outcome State Fault Refusal :=
  done s (if s.power.overVoltage then converterStart s else s)

/-- VBAK_APPLIED (R423, R459): VBAK can hold the backup domain; from OFF the package is in HOLD after the backup domain's
power-on reset. -/
def execVbakApplied (s : State) : Host.Outcome State Fault Refusal :=
  done s (
    let s1 := { s with power := { s.power with vbak := true } }
    if packageMode s = 1 ∧ s.power.inputOn = false then
      setClk (setPower (wr (wr (backupReset s1 true) O.package_mode 2) O.bak_supply 1) 0 2) 13 1
    else s1)

/-! ### The 12 V output (R440) -/

/-- V12_STARTED: at or above 11.4 V within 3 ms. -/
def execV12Started (s : State) : Host.Outcome State Fault Refusal :=
  done s (if rd s O.v12_state = 1 then wr s O.v12_state 2 else s)

/-- V12_START_FAIL: below 11.4 V 5 ms after start. -/
def execV12StartFail (s : State) : Host.Outcome State Fault Refusal :=
  done s (
    if rd s O.v12_state = 1 then
      reportLate (wr (bump (wr s O.v12_state 3) O.v12_faults) O.last_loss_cause 6) 0x7C (v12Hid s) 0
    else s)

/-- V12_FAULT: over-current, under-voltage or over-temperature; the output latches off, VCORE is lost and the package enters
HOLD. Kind 0x7C waits for the next BOOT, since the hub die loses its supply with the output. -/
def execV12Fault (cause : V12Cause) (s : State) : Host.Outcome State Fault Refusal :=
  done s (
    if rd s O.v12_state = 2 then
      let c := match cause with | .overCurrent => 3 | .underVoltage => 4 | .overTemperature => 5
      let s1 := reportLate (bump s O.v12_faults) 0x7C (v12Hid s) 0
      wr (wr (supplyLost s1 true) O.v12_state 3) O.last_loss_cause c
    else s)

/-- CONVERTER_HOT (R440): above 125 °C kind 0x7E is reported, and not again until the converter has fallen below 115 °C. -/
def execConverterHot (celsius : Int) (s : State) : Host.Outcome State Fault Refusal :=
  done s (
    let s1 := wrI s O.conv_temp celsius
    if 125 < celsius ∧ s.power.hotReported = false then
      reportHeld { s1 with power := { s1.power with hotReported := true } } 0x7E (converterHid s)
    else if celsius < 115 then { s1 with power := { s1.power with hotReported := false } }
    else s1)

/-! ### VCORE and AVSBus (R441 to R444) -/

/-- The VCORE target under a package mode (R441): rounded down to 5 mV and clipped. -/
def vcoreTargetIn (s : State) (idle : Bool) : Nat :=
  let base := if idle then rd s O.vcore_idle else rd s O.vcore_nominal
  max 650 (min 850 ((base + rd s O.vcore_age_offset) / 5 * 5))

/-- The target in force now; the base is `vcore_idle` in an IDLE entered by epoch commit, unless a prepare raises it. -/
def vcoreTarget (s : State) : Nat := vcoreTargetIn s (s.power.idleByCommit && !s.power.avsRaise)

/-- The AVSBus state changed. -/
def setPowerState (s : State) (p : Power) : State := { s with power := p }

/-- A request fails (R442, R443): FAILED, counted, kind 0x7A; an age step is due again at the Surveyor's next sample. -/
def avsFail (s : State) : State :=
  let s1 := bump (wr s O.avs_state 3) O.avs_timeouts
  let s2 := setPowerState s1 { s1.power with avsTarget := none, avsRaise := false, avsAge := false,
                                             avsFailed := s.power.avsFailed || s.power.avsRaise }
  let s3 := if s.power.avsAge then { s2 with survey := { s2.survey with vcoreRetry := true } } else s2
  report s3 0x7A (avsHid s) 0

/-- The slave's answer to a target write (R442 step 1): 0b00 goes on to the status; the third failed retry fails the
request. -/
def avsAnswer (s : State) (ack : Nat) : State :=
  if ack = 0 then wr s O.avs_state 2
  else
    let s1 := wr (bump s O.avs_nacks) O.avs_state 1
    if 3 ≤ s1.power.avsRetries then avsFail s1 else s1

/-- AVS_REQUEST (R442): the master writes the target in force; `ack` is the slave's answer. -/
def execAvsRequest (ack : Fin 4) (s : State) : Host.Outcome State Fault Refusal :=
  act s fun s =>
    if s.power.avsPending ∧ rd s O.avs_state ≠ 1 ∧ rd s O.avs_state ≠ 2 ∧ 4 ≤ packageMode s then
      let t := vcoreTarget s
      let s1 := setPowerState s { s.power with avsPending := false, avsTarget := some t, avsRetries := 0 }
      avsAnswer (send (wr s1 O.vcore_target t) (.avsWrite t)) ack
    else s

/-- AVS_RETRY (R442): 20 µs after a failed answer. -/
def execAvsRetry (ack : Fin 4) (s : State) : Host.Outcome State Fault Refusal :=
  act s fun s =>
    match s.power.avsTarget with
    | some t =>
      if rd s O.avs_state = 1 then
        avsAnswer (send (setPowerState s { s.power with avsRetries := s.power.avsRetries + 1 }) (.avsWrite t)) ack
      else s
    | none => s

/-- AVS_STATUS_POLL (R442): with VDone the sensed voltage must lie within 15 mV of the target. -/
def execAvsStatusPoll (vdone : Bool) (mv : Nat) (s : State) : Host.Outcome State Fault Refusal :=
  act s fun s =>
    match s.power.avsTarget with
    | some t =>
      if rd s O.avs_state = 2 then
        let s1 := wr (send s .avsRead) O.vcore_mv (min 0xFFFF mv)
        if vdone = false then s1
        else if mv ≤ t + 15 ∧ t ≤ mv + 15 then
          setPowerState (wr s1 O.avs_state 0) { s1.power with avsTarget := none, avsRaised := s.power.avsRaise, avsRaise := false,
                                                              avsAge := false }
        else avsFail s1
      else s
    | none => s

/-- AVS_SETTLE_TIMEOUT (R442). -/
def execAvsSettleTimeout (s : State) : Host.Outcome State Fault Refusal :=
  act s fun s => if rd s O.avs_state = 2 then avsFail s else s

/-- VCORE is out of bounds (R444). -/
def vcoreBad (t mv : Nat) : Bool := decide (mv + 40 < t) || decide (min (t + 60) 900 < mv)

/-- VCORE_FAULT (R444): out of bounds for 10 µs; monitoring is suspended while a request runs. -/
def execVcoreFault (mv : Nat) (s : State) : Host.Outcome State Fault Refusal :=
  act s fun s =>
    let t := rd s O.vcore_target
    if t ≠ 0 ∧ rd s O.avs_state ≠ 1 ∧ rd s O.avs_state ≠ 2 ∧ vcoreBad t mv ∧ 4 ≤ packageMode s then
      report (bump (wr s O.vcore_mv (min 0xFFFF mv)) O.vcore_faults) 0x7B (avsHid s) 0
    else s

/-! ### Pads (R455 to R457) -/

/-- The power domain of a pad group (R455): the hub's pads, or the radio's die. -/
def padDomain (g : Nat) : Nat := if g < 2 then 4 else 4 + g

/-- A pad group of this part. -/
def padFitted (s : State) (g : Nat) : Bool := decide (g < 2) || radioFitted s.fuse.part (g - 2)

/-- Pad groups latched (R455, R457): each counts once. -/
def latchPads (s : State) (groups : List Nat) : State :=
  (groups.filter (fun g => padFitted s g && !(bit (rd s O.pad_latched) g))).foldl
    (fun t g => bump (wr t O.pad_latched (setBit (rd t O.pad_latched) g)) O.pad_latch_events) s

/-- The GFP levels and PPS_OUT as the domain behind the pads drives them (R413): the pins of output timers, and GFP46's alive line. -/
def pinLevels (s : State) : Nat :=
  let alive := if twinRole s ≠ 0 ∧ s.twin.aliveLevel then 2 ^ 46 else 0
  (List.range 32).foldl (fun a t =>
    if rd s (O.gt_mode t) = 1 ∨ rd s (O.gt_mode t) = 2 then
      putBit a (rd s (O.gt_pin t)) ((gfpTimer s t).level ^^ bit (rd s (O.gt_flags t)) 1)
    else a) alive

/-- The GFP pads take the levels behind them: what differs from the latched level is driven (R457). -/
def releasePins (s : State) : State :=
  let now := pinLevels s
  let t := (List.range 48).foldl (fun t p =>
    if bit now p = bit s.power.latchedPins p then t else send t (.pin p (bit now p))) s
  setPowerState t { t.power with latchedPins := 0 }

/-- PAD_RELEASE (R457): the named groups that are latched are released together, if every one's domain is ON. -/
def padRelease (s : State) (v : Nat) : Status × State :=
  if 32 ≤ v then (.range, s)
  else
    let gs := (bitList 5 v).filter (fun g => padFitted s g && bit (rd s O.pad_latched) g)
    if gs.all (fun g => decide (rd s (O.pd_state (padDomain g)) = 2)) then
      let t := wr s O.pad_latched (gs.foldl (fun a g => clrBit a g) (rd s O.pad_latched))
      (.ok, if gs.contains 0 then releasePins t else t)
    else (.busy, s)

def execPadRelease (value : BitVec 8) (s : State) : Host.Outcome State Fault Refusal :=
  act s fun s => command s O.pad_release 0 fun s => padRelease s value.toNat

end Sys2Proof.Machine
end

