-- ==== Sys2Proof/Machine/Rings.lean ====
section
/-! DEFINITION. The host rings (R60 to R67, R306, R403), PERST and the PCIe endpoint (R58, R507, R524). -/

namespace Sys2Proof.Machine

/-- BAR0 can be reached: PERST_N is high and the link has trained. -/
def bar0Up (s : State) : Bool := s.boot.pcieUp && !s.boot.perst

/-- TAIL_WRITE (R61). -/
def execTailWrite (q : Fin 64) (value : Nat) (s : State) : Host.Outcome State Fault Refusal :=
  act s fun s =>
    if bar0Up s = false then s
    else
      let x := hq s q
      let n := ringSize s q
      let v := value % 65536
      if n ≤ v ∨ n - 1 - postedOf s q < (v + n - x.tail) % n then setHq s q { x with badTail := true }
      else setHq s q { x with tail := v }

/-- QUEUE_ENABLE (R62): from 0 to 1 the ring starts at 0; from 1 to 1 nothing happens. -/
def execQueueEnable (q : Fin 64) (s : State) : Host.Outcome State Fault Refusal :=
  act s fun s => command s (O.enable q) 1 fun s =>
    if flag s (O.enable q) then (.ok, s)
    else
      let x := hq s q
      (.ok, wr (setHq s q { nextId := x.nextId, badTail := x.badTail, dmaErr := x.dmaErr }) (O.enable q) 1)

/-- The frames of a host direct queue dropped, counted where R66 counts them. -/
def hostFlush (s : State) (q : Nat) (counted : Bool) : State :=
  let l := hostDirect s q
  let t := l.foldl (fun t f => dropLeg t f.buf) (setHostDirect s q [])
  if counted then bumpBy t (O.drop_full q) l.length else t

/-- QUEUE_DISABLE (R62): the queue stops after the descriptor in hand. -/
def execQueueDisable (q : Fin 64) (s : State) : Host.Outcome State Fault Refusal :=
  act s fun s => command s (O.enable q) 0 fun s =>
    if flag s (O.enable q) then
      let x := hq s q
      (.ok, hostFlush (wr (setHq s q { x with stopping := x.inHand.isSome }) (O.enable q) 0) q true)
    else (.ok, s)

/-- What a completed from-host descriptor is written back with. -/
def fromHostDone (d : Descriptor) (result : Nat) : WriteBack :=
  { result := result, length := d.length, flags := setBit (clrBit d.flags 5) 7, cookie := d.cookie, port := d.port, tid := d.tid,
    reason := 0, info := 0, stamp := 0 }

/-- What a to-host descriptor is written back with for a frame (R63, R403): a stamp where the frame did not arise in the host. -/
def toHostDone (f : OutFrame) (result : Nat) : WriteBack :=
  let stamped := decide (f.source / 4096 < 3)
  { result := result, length := f.bytes.length, flags := if stamped then 0xA0 else 0x80, cookie := 0, port := f.source,
    tid := f.tid, reason := f.reason, info := f.info, stamp := if stamped then hostStamp f.stamp else 0 }

/-- A length no frame has (R65). -/
def badLength (n : Nat) : Bool := decide (n = 0 ∨ 16383 < n)

/-- A to-host descriptor takes the frame at the head of its queue (R64 to R66). -/
def toHostFetch (s : State) (q : Nat) (d : Descriptor) : State :=
  match hostDirect s q with
  | [] => s
  | f :: rest =>
    if badLength d.length then
      writeBackNow s q { toHostDone f 1 with length := d.length, port := 0, tid := 0, reason := 0, info := 0, stamp := 0, flags := 0x80 }
    else if d.length < f.bytes.length then dropLeg (writeBackNow (setHostDirect s q rest) q (toHostDone f 2)) f.buf
    else dropLeg (writeBackNow (send (setHostDirect s q rest) (.hostFrame q d.bufAddr f.bytes)) q (toHostDone f 0)) f.buf

/-- In IDLE no frame moves on the host queues (R375). -/
def ringsMove (s : State) (q : Nat) : Bool := bar0Up s && queueRuns s q && decide (packageMode s ≠ 4)

/-- DESCRIPTOR_FETCH (R60): a to-host descriptor takes the next frame; a from-host descriptor comes into hand, and waits there
while no cells are free. -/
def execDescriptorFetch (q : Fin 64) (d : Descriptor) (s : State) : Host.Outcome State Fault Refusal :=
  act s fun s =>
    if ringsMove s q = false ∨ postedOf s q = 0 then s
    else if q.val < 32 then toHostFetch s q d
    else
      let x := hq s q
      if x.inHand.isSome ∨ postedOf s q ≤ x.held.length then s
      else setHq s q { x with inHand := some d, waitCells := (placeCells s (cellsFor d.length) false).isNone }

/-- Where a from-host frame goes (R306), or BAD_TARGET. -/
inductive HostPath where
  | bad
  | forwarding
  | leg (l : Leg) (link : Option Nat)
  deriving DecidableEq, Repr

/-- The VID of a station's BSSID, on the first of its links (R291). -/
def stationVid (s : State) (i : Nat) : Nat := bssVid s ((bitList 3 (staLinks s i)).headD 0) (rd s (winKey i O.sta_bss))

/-- The path that a descriptor's `port` and `tid` name (R63, R306). In FOLLOW a station's frame crosses to the lead (R294). -/
def hostPath (s : State) (d : Descriptor) (b : Octets) : HostPath :=
  let kind := d.port / 4096
  let i := d.port % 4096
  let tid := d.tid % 16
  let link := d.tid / 16
  if kind = 0 then
    if i < 8 ∧ portUp s i then .leg { plainLeg (.uplink i) b 0 0 with asGiven := true } none else .bad
  else if kind = 1 then
    let linked := decide (link = 15) || (decide (link < 3) && bit (staLinks s i) link)
    if i < stationCount s.fuse.part ∧ staState s i ≠ 0 ∧ (staState s i = 2 ∨ isEapol b) ∧ tid < 8 ∧ linked then
      if roleMode s = 9 then
        .leg { plainLeg .varlan (pushTag b (stationVid s i) tid) (stationVid s i) tid with asGiven := true } none
      else .leg { plainLeg (.station i) b 0 tid with asGiven := true } (if link = 15 then none else some link)
    else .bad
  else if kind = 2 then
    if twinState s = 0 ∨ rd s O.varlan_state < 2 then .bad else .leg { plainLeg .varlan b 0 0 with asGiven := true } none
  else if kind = 3 then .forwarding
  else .bad

/-- A from-host descriptor leaves the hand with a result. -/
def fromHostEnd (s : State) (q : Nat) (d : Descriptor) (result : Nat) (wait : Bool) : State :=
  completeFromHost (setHq s q { hq s q with inHand := none, waitCells := false, stopping := false }) q (fromHostDone d result) wait

/-- The frame of a descriptor enters its path, its cells taken (R306). -/
def fromHostSend (s : State) (q : Nat) (d : Descriptor) (b : Octets) (buf : Nat) : HostPath → State
  | .bad => dropLeg s buf
  | .forwarding => { s with entering := s.entering ++ [{ wiredFrame s (0x3000 + q) b none with buf := buf }] }
  | .leg l link =>
    let x : Carried := { buf := buf, source := 0x3000 + q, tid := d.tid, stamp := tbNs s, info := 0, len := b.length }
    match l.target with
    | .station i => stationLeg s x l i 0 link
    | _ => enterLeg s x l 0 0

/-- FROM_HOST_TAKE_IN (R60, R64, R65, R306): the frame in hand is taken in, waits for cells, or completes with an error. -/
def execFromHostTakeIn (q : Fin 64) (bytes : Octets) (s : State) : Host.Outcome State Fault Refusal :=
  act s fun s =>
    match (hq s q).inHand with
    | none => s
    | some d =>
      if bar0Up s = false ∨ packageMode s = 4 then s
      else if badLength d.length then countClass (fromHostEnd s q d 1 false) 4 (0x3000 + q) (rd s (O.exc_action 4))
      else if bytes.length ≠ d.length then s
      else
        let path := hostPath s d bytes
        let stamped := bit d.flags 6
        if path = .bad then fromHostEnd s q d 4 false
        else
          let reserved := reservedBytes s bytes (match path with | .leg l _ => l.prio | _ => 0)
          let waits := if stamped then some (q.val, (hq s q).nextId) else none
          match takeBuf s bytes.length reserved false waits with
          | (some b, t) => fromHostSend (fromHostEnd t q d 0 stamped) q d bytes b path
          | (none, t) => setHq t q { hq t q with waitCells := true }

/-- Descriptors before a failed one complete with their own results (R67). -/
def flushAll (s : State) (q : Nat) : List (Nat × WriteBack × Bool) → State
  | [] => setHq s q { hq s q with held := [] }
  | (_, w, _) :: t => flushAll (writeBackNow s q w) q t

/-- DMA_ERROR (R67): the queue stops, with kind 0x03. -/
def execDmaError (q : Fin 64) (writable : Bool) (s : State) : Host.Outcome State Fault Refusal :=
  act s fun s =>
    if ringsMove s q = false ∨ postedOf s q = 0 then s
    else
      let d : Descriptor := (hq s q).inHand.getD { bufAddr := 0, length := 0, flags := 0, cookie := 0, port := 0, tid := 0 }
      let s1 := flushAll s q (hq s q).held
      let s2 := if writable then writeBackNow s1 q (fromHostDone d 3) else bump s1 (O.dma_error q)
      let s3 := match hostDirect s2 q with
        | f :: rest => hostFlush (dropLeg (setHostDirect s2 q rest) f.buf) q true
        | [] => s2
      report (setHq s3 q { hq s3 q with inHand := none, waitCells := false, stopping := false, dmaErr := true, stopped := true })
        0x03 (queueEngineHid s) 0

/-- IRQ_TIME_EXPIRE (R62). -/
def execIrqTimeExpire (q : Fin 64) (s : State) : Host.Outcome State Fault Refusal :=
  act s fun s =>
    let x := hq s q
    if x.irqTimer then send (setHq s q { x with irqTimer := false, unsignalled := 0 }) (.msix (rd s (O.msix_vector q))) else s

/-- BAR0_BAD_ACCESS (R58): any access that is not a naturally aligned one of 32 or 64 bits reads all ones, or is ignored. -/
def execBar0BadAccess (offset size : Nat) (write : Bool) (s : State) : Host.Outcome State Fault Refusal :=
  act s fun s =>
    if bar0Up s = false ∨ ((size = 4 ∨ size = 8) ∧ offset % size = 0) then s
    else
      let s1 := report s 0x02 (endpointHid s) 0
      if write then s1 else { s1 with lastRead := List.replicate size 255 }

/-- One queue as PERST_N leaves it (R507). -/
def perstQueue (s : State) (q : Nat) : State :=
  wr (setHq (hostFlush s q false) q { nextId := (hq s q).nextId }) (O.enable q) 0

/-- The mailbox as a reset of the endpoint leaves it (R507): a request held is dropped, and the response of one that runs is discarded. -/
def dropMailbox (l : Ledger) : Ledger :=
  { l with mbStatus := 0, mbRespLen := 0, arrivals := l.arrivals.filter (fun a => a.transport ≠ .mailbox),
           hung := l.hung.map (fun h => if h.transport = some .mailbox then { h with arrival := none } else h) }

/-- PERST (R507): the endpoint, the BAR0 registers and the host queues reset; frames in transfer are dropped. -/
def execPerst (asserted : Bool) (s : State) : Host.Outcome State Fault Refusal :=
  act s fun s =>
    if asserted then
      let s1 := (List.range 64).foldl perstQueue s
      { s1 with
        led := dropMailbox s1.led, boot := { s1.boot with perst := true, pcieUp := false }, time := { s1.time with snapTb := 0, snapStatus := 0 } }
    else { s with boot := { s.boot with perst := false } }

/-- PCIE_LINK_TRAINED (R524): from BOOT on, once PERST_N is high. -/
def execPcieLinkTrained (s : State) : Host.Outcome State Fault Refusal :=
  act s fun s =>
    if s.boot.perst = false ∧ 1 ≤ s.boot.step then { s with boot := { s.boot with pcieUp := true } } else s

end Sys2Proof.Machine
end

