-- ==== Sys2Proof/Machine/Twin.lean ====
section
/-! DEFINITION. The twin (R181 to R214): the mirror and the copy, the pair state, takeover, and the Varlan link's lanes and
heartbeats. -/

namespace Sys2Proof.Machine

/-- The twin unit, the mirror engine, the alive-line driver and a Varlan lane as sources (R181). -/
def twinHid (s : State) : Nat := hidOf s 0 11 8 0
def mirrorHid (s : State) : Nat := hidOf s 0 11 8 1
def aliveHid (s : State) : Nat := hidOf s 0 11 8 2
def laneHid (s : State) (lane : Nat) : Nat := hidOf s 0 9 4 lane

/-- The twin's state changed. -/
def setTwin (s : State) (t : Twin) : State := { s with twin := t }

/-! ### The mirror applied (R193, R194) -/

/-- A station's entry as mirrored. -/
def applyStation (s : State) (i st : Nat) (regs : List (Nat × Nat)) (blobs : List (Nat × Octets)) : State :=
  if st = 0 then staRemove s i
  else
    let s1 := regs.foldl (fun t e => wr t (winKey i e.1) e.2) s
    let s2 := wr (blobs.foldl (fun t e => wrB t (winKey i e.1) e.2) s1) (winKey i O.sta_state) st
    countStations (setStation s2 i (station s i))

/-- A key slot as mirrored; a slot that keeps its key keeps its replay counters. -/
def applySlot (s : State) (k st use : Nat) (regs : List (Nat × Nat)) (material : Octets) : State :=
  if st = 0 then slotZero s k
  else
    let s1 := wr (wr (regs.foldl (fun t e => wr t (winKey k e.1) e.2) s) (winKey k O.key_state) st) (winKey k O.key_use) use
    let old := keySlot s k
    let rsc := slotVal s1 k O.key_rsc
    let x : KeySlot := if s.lock.slots.has k && decide (old.material = material) then old
      else { material := material, replay := (List.range 10).map (fun c => (c, rsc)), warned := false }
    countSlots (setSlot s1 k x)

/-- A mirror record applied (R194). -/
def applyRecord (s : State) : MirrorRec → State
  | .station i st regs blobs => applyStation s i st regs blobs
  | .txSn i tid next =>
    if staState s i = 0 then s else setStation s i { station s i with txSn := (station s i).txSn.put tid next }
  | .txPn k next => if s.lock.slots.has k then wr s (winKey k O.key_tx_pn) next else s
  | .rxPn _ k c pn => if s.lock.slots.has k then moveC s k c pn else s
  | .scoreboard i tid start marks =>
    if staState s i = 0 then s else setBoard s i tid { board s i tid with start := start, marked := marks }
  | .agreement i tid rx tx =>
    if staState s i = 0 then s
    else
      let s1 := setBoard s i tid { board s i tid with window := rx }
      let x := station s1 i
      setStation s1 i { x with txWindow := if tx = 0 then x.txWindow.del tid else x.txWindow.put tid tx }
  | .slot k st use regs material => applySlot s k st use regs material
  | .twt k t => setTwt s k t
  | .powerSave i links => if staState s i = 0 then s else wr s (winKey i O.sta_ps) links
  | .rate i r v => if staState s i = 0 then s else setStation s i { station s i with rate := (station s i).rate.put r v }

/-- The items of a station, and of the slots and agreements, as a copy carries them (R193, R194). -/
def stationItems (s : State) (i : Nat) : List MirrorRec :=
  let x := station s i
  [stationRecord s i] ++ x.txSn.map (fun e => .txSn i e.1 e.2) ++
  x.boards.flatMap (fun e => [.agreement i e.1 e.2.window (x.txWindow.getD e.1 0), .scoreboard i e.1 e.2.start e.2.marked]) ++
  (x.txWindow.filter (fun e => !(x.boards.has e.1))).map (fun e => .agreement i e.1 0 e.2) ++
  [.powerSave i (staPs s i)] ++ x.rate.map (fun e => .rate i e.1 e.2)
def slotItems (s : State) (k : Nat) : List MirrorRec := slotRecord s k :: (keySlot s k).replay.map (fun e => .rxPn 0 k e.1 e.2)
def allItems (s : State) : List MirrorRec :=
  (stationsInUse s).flatMap (stationItems s) ++ (slotsInUse s).flatMap (slotItems s) ++ s.mac.twt.map (fun e => .twt e.1 (some e.2))

/-- A register of the shared set that a copy carries (R192, R193): RW, RWS or WO, the windows over per-station items apart. -/
def sharedKey (k : Nat) : Bool :=
  let index := k % 16777216 / 256
  inSharedSet index (k % 256) && !(decide (index ∈ [0x3100, 0x3101, 0x3111, 0x3810, 0x4801, 0x4802])) &&
  (match findRow index (k % 256) with
   | some r => decide (r.acc = .rw ∨ r.acc = .rws ∨ r.acc = .wo)
   | none => false)

/-- Shared registers whose default is the module's own, so that their values in force are copied even at it. -/
def ownDefaults : List Nat := [O.uplink_mode, O.chain_enable 0, O.chain_enable 1, O.chain_enable 2]

/-- What a copy brings to the joiner (R193). -/
def copyData (s : State) : CopyData :=
  let rowsOf := s.rules.current.rows
  { regs := s.regs.filter (fun e => sharedKey e.1) ++ ownDefaults.map (fun k => (k, rd s k)),
    blobs := s.blobs.filter (fun e => sharedKey e.1), staged := s.staged.filter (fun e => sharedKey e.1),
    stagedBlobs := s.stagedBlobs.filter (fun e => sharedKey e.1), origin := s.time.origin, phase := rdI s O.frame_phase,
    items := allItems s, serial := s.fuse.serial, templates := s.mac.templates, shadows := s.mac.shadows.map (fun e => (e.1, e.2.bytes)),
    graph := s.graph.active, graphStaged := s.graph.shadow, rules := rowsOf.map (fun e => (e.1, e.2.value, e.2.mask, e.2.action)),
    ruleWidth := s.rules.current.width, ruleMiss := s.rules.current.miss,
    ruleLog := s.rules.logRows.map (fun e => (e.1, e.2.valid, e.2.value, e.2.mask, e.2.action)), logWidth := s.rules.logWidth,
    logMiss := s.rules.logMiss, routes := (s.switch.v4 ++ s.switch.v6).map (fun r => (r.vrf, r.prefixBytes, r.len, r.nexthop)) }

/-- Every entry of a list put into a table. -/
def putAll {α : Type} (t : Tab α) (l : List (Nat × α)) : Tab α := l.foldl (fun a e => a.put e.1 e.2) t

/-- Per-station state discarded (R183, R203): stations, key slots and agreements. -/
def discardStations (s : State) : State :=
  let s1 := (stationsInUse s).foldl staRemove s
  let s2 := (slotsInUse s1).foldl slotZero s1
  (s2.mac.twt.map (fun e => e.1)).foldl (fun t k => setTwt t k none) s2

/-- The shared set of a copy in place of this module's own: registers, and the values that are not single registers. -/
def applyShared (s : State) (d : CopyData) : State :=
  let old := rd s O.uplink_mode
  let route := fun (e : Nat × Octets × Nat × Nat) => Route.mk e.1 e.2.1 e.2.2.1 e.2.2.2
  let bank : RuleBank := { width := d.ruleWidth, miss := d.ruleMiss, rows := d.rules.map (fun e => (e.1, RuleRow.mk e.2.1 e.2.2.1 e.2.2.2)) }
  let s1 := { s with
    regs := putAll (s.regs.filter (fun e => !(sharedKey e.1))) d.regs,
    blobs := putAll (s.blobs.filter (fun e => !(sharedKey e.1))) d.blobs,
    staged := putAll (s.staged.filter (fun e => !(sharedKey e.1))) d.staged,
    stagedBlobs := putAll (s.stagedBlobs.filter (fun e => !(sharedKey e.1))) d.stagedBlobs,
    graph := { s.graph with active := d.graph, shadow := d.graphStaged, copying := false, bad := [], swapped := false },
    rules := { s.rules with
      current := bank, other := bank, logWidth := d.logWidth, logMiss := d.logMiss,
      logRows := d.ruleLog.map (fun e => (e.1, RowStage.mk e.2.1 e.2.2.1 e.2.2.2.1 e.2.2.2.2)) },
    switch := { s.switch with
      v4 := (d.routes.filter (fun e => e.2.1.length = 4)).map route, v6 := (d.routes.filter (fun e => e.2.1.length ≠ 4)).map route },
    mac := { s.mac with templates := d.templates, shadows := d.shadows.map (fun e => (e.1, { bytes := e.2, written := s.now })) } }
  let s2 := wr (wr (wr s1 O.rule_log_used (logUsed s1)) O.rt_count_v4 s1.switch.v4.length) O.rt_count_v6 s1.switch.v6.length
  bhRefresh (followAll (if rd s2 O.uplink_mode = old then s2 else portsRestart s2))

/-- A copy taken in by the joiner (R193), in its order; the epoch is the serving module's (R35). -/
def applyCopy (s : State) (d : CopyData) : State :=
  let s1 := applyShared (discardStations s) d
  let s2 := rephase { s1 with time := { s1.time with origin := d.origin } } d.phase
  let s3 := wrB (d.items.foldl applyRecord s2) O.peer_serial d.serial
  match s.twin.hb with
  | some h => wr s3 O.epoch_current h.epoch
  | none => s3

/-! ### The pair state (R183) -/

/-- `twin_state` changed; leaving SYNCED gives a JOINT_ALIGN in flight back (R485), and pairing follows (R207). -/
def twinTo (s : State) (v : Nat) : State :=
  let s1 := wr s O.twin_state v
  pairRefresh (if twinState s = 3 ∧ v ≠ 3 then alignBack s1 else s1)

/-- The peer serves, by its last heartbeat (R183). -/
def peerServes (s : State) : Bool :=
  match s.twin.hb with
  | some h => s.twin.hbFresh && servingMode h.mode && !h.fault
  | none => false

/-- Verdicts that waited for RXPN acknowledgements go out (R196). -/
def releaseHeld (s : State) : State :=
  (s.twin.rxpnHeld.map (fun e => e.2)).foldl verdictOut (setTwin s { s.twin with rxpnHeld := [] })

/-- The transmit counters as a copy carries them into the mirror (R193, R195). -/
def mirroredNow (s : State) : Tab Nat :=
  let sn := (stationsInUse s).flatMap (fun i => (station s i).txSn.map (fun e => (snCounter i e.1, e.2)))
  putAll (putAll [] sn) ((slotsInUse s).map (fun k => (pnCounter k, slotVal s k O.key_tx_pn)))

/-- The pair becomes SYNCED: the join or resync is over, and FAULT clears (R183). -/
def enterSynced (s : State) : State :=
  twinTo (setTwin s { s.twin with copy := none, resync := false, copyDone := false, handedOver := false, faultFlag := false }) 3

/-- The mirror goes UNSYNCED (R197): the bounds are off, and what they held goes on. -/
def unsync (s : State) : State :=
  if twinState s = 3 then report (releaseHeld (twinTo (bump s O.unsync_events) 4)) 0x4B (mirrorHid s) 0 else s

/-- A copy begins (R183, R193): the source's counters stand in the mirror as the copy carries them, and records count from 1. -/
def beginCopy (s : State) (role : CopyRole) (resync : Bool) : State :=
  let t := setTwin s { s.twin with copy := some role, resync := resync, copyDone := false, copyStart := s.now, waitingRecs := [],
                                   recordsApplied := 0, recordsSent := 0, recordsAcked := 0, unacked := [], mirrored := mirroredNow s }
  twinTo t 2

/-- The offset and the delay of the last pair of heartbeats in 2^-16 ns (R205); `varlan_asym` is added to the offset as PTP adds
an asymmetry (PRESUMED, log 14). -/
def hbOffset (s : State) : Option (Int × Int) :=
  match s.twin.hb with
  | some h =>
    if h.hears = false then none
    else
      let up := (h.echoRx : Int) - h.echoTx
      let down := (s.twin.hbAt : Int) - h.txTime
      some ((up - down) / 2 + rdI s O.varlan_asym, (up + down) / 2)
  | none => none

/-- The step of TB96 at the beginning of a copy (R409). -/
def copyStep (s : State) : State :=
  match hbOffset s with
  | some o => if o.1 = 0 then s else stepTb s o.1
  | none => s

/-- JOIN sent: this module becomes the joiner of a copy (R183). -/
def sendJoin (s : State) : State := copyStep (beginCopy (varlanSend s 1 (.join s.fuse.serial)) .joiner false)

/-- A copy ends without a result. -/
def dropCopy (s : State) : State :=
  setTwin s { s.twin with copy := none, resync := false, copyDone := false, waitingRecs := [] }

/-- A module that waits at the end of TRAIN enters SOLO (R183, R525, R526): with kind 0x48, once, where no authenticated heartbeat
has arrived. -/
def waitToSolo (s : State) : State :=
  let t := { s with boot := { s.boot with waiting := false, chosen := some 7 } }
  if s.twin.hbSeen = none ∧ s.twin.kind48Sent = false ∧ twinRole s ≠ 0 then
    report (setTwin t { t.twin with kind48Sent := true }) 0x48 (twinHid s) 0
  else t

/-- A lead loses its follower (R183): an automatic commit takes its package to SOLO. -/
def followerLost (s : State) : State :=
  let own := fun (p : Nat) => if packageBit s = p then 7 else 0
  let t := releaseHeld (twinTo (dropCopy (bump s O.peer_lost)) 1)
  report { t with epoch := { t.epoch with autoWaiting := some (own 0, own 1) } } 0x48 (twinHid s) 0

/-- The plans and the beacons of a module that no longer owns a link (R183, R198): their frames go with the stations. -/
def emptyPlans (s : State) : State :=
  let s1 := [0, 1, 2].foldl (fun t r => skipAll t r ((radioPlan t r).running ++ (radioPlan t r).closed)) s
  { s1 with ost := { s1.ost with
      plans := s1.ost.plans.map (fun e => (e.1, { e.2 with closed := [], running := [] })), beacons := [], grants := [], triggered := [] } }

/-- The lead has sent HANDOVER or answered STAND_DOWN (R183): it owns no link, and its per-station state goes. -/
def handOver (s : State) : State :=
  let t := discardStations (emptyPlans (releaseHeld s))
  twinTo (setTwin t { t.twin with handedOver := true, faultFlag := true, copy := none, resync := false, unacked := [] }) 1

/-- HANDOVER sent on every lane that is up (R198). -/
def sendHandover (s : State) : State := handOver (varlanSend s 1 .handover)

/-! ### Takeover (R198 to R202) -/

/-- The station counters of R200: every sequence number 64 on, and a BlockAckReq owed for every TID with a downlink agreement. -/
def jumpStation (s : State) (i : Nat) : State :=
  let x := station s i
  let sn := (List.range 9).foldl (fun (t : Tab Nat) tid => t.put tid ((x.txSn.getD tid 0 + 64) % 4096)) x.txSn
  let bars := (x.txWindow.filter (fun e => decide (0 < e.2))).map (fun e => (e.1, sn.getD e.1 0))
  setStation s i { x with txSn := sn, bars := x.bars.filter (fun b => !(bars.any (fun c => c.1 = b.1))) ++ bars }

/-- The residual plan (R199): from D + 215 µs to the end of the frame that contains that instant. Where that frame ends within
40 µs of it, the next frame's plan takes its place. -/
def residualPlan (s : State) : State :=
  let b := (nextBoundary s (tbNs s)).toNat
  let at_ := tbNs s + 215000
  if b ≤ at_ then closePlan s (at_ - b)
  else if b - at_ < 40000 then closePlan s 0
  else
    let t := closePlanAt s s.ost.beganTb (b - s.ost.beganTb) (at_ - s.ost.beganTb)
    { t with planClosed := s.planClosed, ost := { t.ost with
        plans := t.ost.plans.map (fun e => (e.1, { e.2 with closed := [], running := e.2.closed })) } }

/-- A takeover from UNSYNCED trusts no mirrored key (R202). -/
def coldKeys (s : State) : State :=
  let auth := (stationsInUse s).filter (fun i => staState s i = 2)
  let t := auth.foldl (fun t i => staSetState t i 1) s
  let group := (slotsInUse s).filter (fun k => keyKind (slotVal s k O.key_owner_kind) (slotVal s k O.key_id) = 1)
  let bss := group.map (fun k => if slotVal s k O.key_owner_kind = 0 then 48 else slotVal s k O.key_owner)
  report (bump (setMac t { t.mac with coldBss := bss.eraseDups }) O.cold_takeovers) 0x4A (twinHid s) 0

/-- Steps 1 to 4 of a takeover (R199, R200, R202), at D: 1 HANDOVER, 2 STALE, 3 BEACON, 4 FORCE. -/
def takeover (s : State) (trigger : Nat) : State :=
  let cold := decide (twinState s ≠ 3)
  let s1 := report (fastPath (sourceLost s) 10) 0x49 (twinHid s) 0
  let s2 := wr (wr (bump s1 O.takeovers) O.last_trigger trigger) O.last_takeover_time (now80 s)
  let s3 := setTwin s2 { s2.twin with takeover := some { trigger := trigger, since := s.now, cold := cold }, waitingRecs := [],
                                      rxpnHeld := [], standDown := false, handedOver := false, faultFlag := false, copy := none,
                                      resync := false, copyDone := false }
  let s4 := (stationsInUse s3).foldl jumpStation (twinTo s3 5)
  let s5 := (slotsInUse s4).foldl jumpPn s4
  residualPlan (if cold then coldKeys s5 else s5)

/-- A follower of a pair: in SYNCED, UNSYNCED, or in a resync, whose failure leaves the pair UNSYNCED (DEDUCED, log 46). -/
def followsPair (s : State) : Bool :=
  decide (roleMode s = 9) && (decide (twinState s = 3 ∨ twinState s = 4) || (decide (twinState s = 2) && s.twin.resync))

/-- A lead of a pair, in the same states. -/
def leadsPair (s : State) : Bool :=
  decide (heldRole s = 8) && (decide (twinState s = 3 ∨ twinState s = 4) || (decide (twinState s = 2) && s.twin.resync))

/-- A trigger of R198 on a follower. -/
def trigger (s : State) (n : Nat) : State := if followsPair s then takeover s n else s

/-- The mode that QUARANTINE is left for without a join (R472 step 3), and the role where that is SERVICE. -/
def modeBack (s : State) : Nat × Nat :=
  let role := if s.tinker.roleLeft = 9 ∨ s.tinker.sentHandover then 7 else s.tinker.roleLeft
  (if s.tinker.modeLeft = 11 then 11 else role, role)

/-- QUARANTINE is over (R472 step 4): `mute_cause` bit 1 goes with the mode; kind 0x09. -/
def quarantineOver (s : State) : State :=
  report (wr { s with tinker := { s.tinker with quiet := false, sentHandover := false } } O.q_state 0) 0x09 (hidOf s 0 11 0 3) 0

/-- The package takes back the mode it left (R472 steps 3 and 4). -/
def exitQuarantine (s : State) : State :=
  let m := modeBack s
  let s1 := fastPath s m.1
  let s2 := if m.1 = 11 then wr s1 O.service_role m.2 else s1
  quarantineOver (setTwin s2 { s2.twin with faultFlag := false, handedOver := false })

/-- The peer of a join is lost (R183): the joiner leaves TRAIN into SOLO, the source stays in its mode. A joiner in QUARANTINE
recovers as without a peer (DEDUCED from R472 step 3, log 46). -/
def joinLost (s : State) : State :=
  let t := twinTo (dropCopy s) 1
  if s.twin.copy = some .joiner ∧ s.boot.waiting then waitToSolo t
  else if s.twin.copy = some .joiner ∧ packageMode s = 12 ∧ s.tinker.quiet = false ∧ s.tinker.latched = false then exitQuarantine t
  else t

/-- The peer counts as lost (R183, R198). -/
def peerLost (s : State) (n : Nat) : State :=
  if followsPair s then takeover s n
  else if leadsPair s then followerLost s
  else if twinState s = 2 then joinLost s
  else s

/-! ### Heartbeats (R190, R205, R409) -/

/-- The heartbeat this module sends (R190). -/
def ownHeartbeat (s : State) : HbMsg :=
  { mode := packageMode s, twinState := twinState s, fault := s.twin.faultFlag, pairReady := pairedFitted s.fuse.part && ownPairReady s,
    epoch := rd s O.epoch_current, frame := rd s O.frame_count, txTime := s.tb,
    echoTx := (s.twin.hb.map (fun h => h.txTime)).getD 0, echoRx := s.twin.hbAt,
    mirrorAck := if roleMode s = 8 then s.twin.recordsSent else s.twin.recordsApplied, lanes := rd s O.varlan_lanes,
    phase := rdI s O.frame_phase, hears := s.twin.hbFresh,
    authorized := ((stationsInUse s).filter (fun i => staState s i = 2)).length }

/-- HEARTBEAT_SEND (R190): every 50 µs, on every lane that is up. -/
def execHeartbeatSend (s : State) : Host.Outcome State Fault Refusal :=
  act s fun s => if twinState s = 0 then s else varlanSend s 0 (.heartbeat (ownHeartbeat s))

/-- A signed value kept to 32 bits. -/
def clip32 (v : Int) : Int := max (-2147483648) (min 2147483647 v)

/-- The follower's servo (R409): the mean of the last 16 offsets. -/
def twinServo (s : State) (off : Int) : State :=
  let l := (off :: s.time.offsets).take 16
  let mean := l.foldl (fun a b => a + b) 0 / (l.length : Int)
  let s1 := setTime s { s.time with offsets := l }
  let s2 := if 6553600000 < mean.natAbs then setTime (stepTb s1 mean) { (stepTb s1 mean).time with offsets := [] } else servoFreq s1 1000
  let st := if mean.natAbs < 655360 then 3 else 2
  wr (if rd s2 O.tb_state = st then s2 else setTbState s2 st) O.tb_locked_to 3

/-- What a follower takes from a heartbeat (R205): offset, delay, and the frame's phase. -/
def followTime (s : State) (h : HbMsg) : State :=
  let s1 := match hbOffset s with
    | some o =>
      let t := wr (wrI s O.twin_offset (clip32 (o.1 * 1000 / 65536))) O.varlan_delay (min 0xFFFFFFFF (o.2 * 1000 / 65536).toNat)
      twinServo t o.1
    | none => s
  rephase s1 h.phase

/-- The counter that a record carries, and its value as the follower has it (R195). -/
def mirrorOf (t : Tab Nat) : MirrorRec → Tab Nat
  | .txSn i tid next => t.put (snCounter i tid) next
  | .txPn k next => t.put (pnCounter k) next
  | _ => t

/-- Mirror records up to a number are acknowledged (R195). -/
def ackRecords (s : State) (n : Nat) : State :=
  let got := s.twin.unacked.filter (fun e => decide (e.1 ≤ n))
  setTwin s { s.twin with recordsAcked := max s.twin.recordsAcked n, unacked := s.twin.unacked.filter (fun e => decide (n < e.1)),
                          mirrored := got.foldl (fun t e => mirrorOf t e.2) s.twin.mirrored }

/-- This module yields the split to its peer (R203). -/
def splitHeal (s : State) : State :=
  let t := discardStations (emptyPlans s)
  sendJoin (report (bump (setTwin t { t.twin with handedOver := true }) O.split_heals) 0x4B (twinHid s) 0)

/-- Whether this module is the one that yields (R203): the one with fewer AUTHORIZED stations, on a tie module B. -/
def yields (s : State) (h : HbMsg) : Bool :=
  let own := (ownHeartbeat s).authorized
  decide (own < h.authorized) || (decide (own = h.authorized) && decide (twinRole s = 2))

/-- SEARCHING with a fresh heartbeat (R183, R203). -/
def searching (s : State) (h : HbMsg) : State :=
  let rejoin := flag s O.auto_rejoin
  if s.boot.waiting then
    if peerServes s then (if rejoin then sendJoin s else waitToSolo s)
    else if twinRole s = 1 then waitToSolo s else s
  else if s.twin.handedOver then
    if packageMode s ≠ 12 ∧ peerServes s then sendJoin s else s
  else if servingMode (packageMode s) ∧ peerServes s ∧ h.hears ∧ h.twinState = 1 ∧ yields s h ∧ rejoin then splitHeal s
  else s

/-- What a fresh heartbeat does to the pair (R183). -/
def pairStep (s : State) (h : HbMsg) : State :=
  let st := twinState s
  if h.fault ∧ followsPair s then takeover s 1
  else if h.fault ∧ leadsPair s then followerLost s
  else if h.fault ∧ st = 2 ∧ s.twin.copy = some .joiner then joinLost s
  else if st = 4 ∧ h.hears ∧ 0 < lanesUp s ∧ (roleMode s = 8 ∨ roleMode s = 9) then
    if roleMode s = 8 then varlanSend (beginCopy s .source true) 1 (.copy (copyData s)) else copyStep (beginCopy s .joiner true)
  else if st = 3 ∧ roleMode s = 9 ∧ h.twinState = 4 then unsync s
  else if st = 1 then searching s h
  else s

/-- HEARTBEAT_RECEIVED (R190, R205): freshness, `peer_mode`, time and phase in FOLLOW, the mirror's acknowledgement, and the pair
state. -/
def execHeartbeatReceived (v : VHead) (h : HbMsg) (s : State) : Host.Outcome State Fault Refusal :=
  act s fun s =>
    onMessage s 0 v fun s =>
      let t := setTwin s { s.twin with hbFresh := true, hb := some h, hbAt := s.tb, hbSeen := some s.now }
      let t1 := wr (wr t O.peer_mode h.mode) O.peer_present 1
      let t2 := if roleMode t1 = 9 then followTime t1 h else t1
      let t3 := if roleMode t2 = 8 then ackRecords t2 h.mirrorAck else t2
      pairStep (pairRefresh t3) h

/-- HEARTBEAT_STALE (R190): with the alive line silent too, or three lead beacons missed, the peer is lost (R198); a follower that
does not take over holds its frequency (R409). -/
def execHeartbeatStale (s : State) : Host.Outcome State Fault Refusal :=
  act s fun s =>
    let s1 := wr (wr (setTwin s { s.twin with hbFresh := false }) O.peer_present 0) O.peer_mode 1
    if s.twin.aliveFresh = false then peerLost s1 2
    else if followsPair s1 ∧ [0, 1, 2].any (fun r => decide (3 ≤ s.mac.missed.getD r 0)) then takeover s1 3
    else if roleMode s1 = 9 then sourceLost s1
    else s1

/-- HEARTBEAT_MISSED (R213): a heartbeat that was due did not arrive in its slot. -/
def execHeartbeatMissed (s : State) : Host.Outcome State Fault Refusal :=
  act s fun s => if twinState s = 0 then s else bump s O.hb_missed

/-! ### The alive line (R191) -/

/-- ALIVE_EDGE_SEND (R191): GFP46 toggles every 25 µs, in a module with a place in a twin. -/
def execAliveEdgeSend (s : State) : Host.Outcome State Fault Refusal :=
  act s fun s =>
    if twinRole s = 0 then s
    else send (setTwin s { s.twin with aliveLevel := !s.twin.aliveLevel }) (.pin 46 (!s.twin.aliveLevel))

/-- ALIVE_EDGE_RECEIVED (R191). -/
def execAliveEdgeReceived (s : State) : Host.Outcome State Fault Refusal :=
  act s fun s => if twinRole s = 0 then s else setTwin s { s.twin with aliveFresh := true, aliveSeen := some s.now }

/-- ALIVE_SILENT (R191, R198): with the heartbeat stale the peer is lost; with it fresh the line alone has failed. -/
def execAliveSilent (s : State) : Host.Outcome State Fault Refusal :=
  act s fun s =>
    if twinRole s = 0 then s
    else
      let t := setTwin s { s.twin with aliveFresh := false }
      if s.twin.hbFresh then report t 0x4F (aliveHid s) 0 else peerLost t 2

/-! ### Lanes (R186) -/

/-- `varlan_state` follows the lanes (R186). -/
def laneRefresh (s : State) : State :=
  let n := lanesUp s
  pairRefresh (wr s O.varlan_state (if n = 4 then 2 else if 0 < n then 3 else if s.twin.training ≠ 0 then 1 else 0))

/-- LANE_DOWN (R186): the lane retrains by itself; with none left the pair is UNSYNCED (R197). -/
def execLaneDown (lane : Fin 4) (s : State) : Host.Outcome State Fault Refusal :=
  act s fun s =>
    if bit (rd s O.varlan_lanes) lane then
      let s1 := wr (setTwin s { s.twin with training := setBit s.twin.training lane }) O.varlan_lanes (clrBit (rd s O.varlan_lanes) lane)
      let s2 := laneRefresh (report (bump s1 O.lane_downs) 0x4C (laneHid s lane) 0)
      if lanesUp s2 = 0 then unsync s2 else s2
    else s

/-- LANE_UP (R186): a lane that trained carries messages, and waiting frames leave. -/
def execLaneUp (lane : Fin 4) (s : State) : Host.Outcome State Fault Refusal :=
  act s fun s =>
    if bit s.twin.training lane then
      let s1 := wr (setTwin s { s.twin with training := clrBit s.twin.training lane }) O.varlan_lanes (setBit (rd s O.varlan_lanes) lane)
      let s2 := laneRefresh s1
      drainVarlan s2 s2.miller.varlan
    else s

/-! ### Joining, handing over, standing down (R183, R193, R198, R204) -/

/-- JOIN_RECEIVED (R183): a serving module in SEARCHING becomes the source of a copy. -/
def execJoinReceived (v : VHead) (serial : Octets) (s : State) : Host.Outcome State Fault Refusal :=
  act s fun s =>
    onMessage s 1 v fun s =>
      if twinState s = 1 ∧ servingMode (packageMode s) ∧ s.twin.handedOver = false then
        let s1 := wrB (beginCopy s .source false) O.peer_serial serial
        varlanSend s1 1 (.copy (copyData s1))
      else s

/-- HANDOVER_RECEIVED (R198). -/
def execHandoverReceived (v : VHead) (s : State) : Host.Outcome State Fault Refusal :=
  act s fun s => onMessage s 1 v fun s => trigger s 1

/-- TAKEOVER_FORCE (R204). -/
def execTakeoverForce (s : State) : Host.Outcome State Fault Refusal :=
  act s fun s => command s O.takeover_cmd 1 fun s =>
    if roleMode s = 8 then (.denied, s)
    else if twinState s ≠ 3 then (.busy, s)
    else (.ok, varlanSend (setTwin s { s.twin with standDown := true }) 1 .standDown)

/-- STAND_DOWN_RECEIVED (R204): the lead stops owning its links and answers. -/
def execStandDownReceived (v : VHead) (s : State) : Host.Outcome State Fault Refusal :=
  act s fun s =>
    onMessage s 1 v fun s =>
      if roleMode s = 8 ∧ (twinState s = 3 ∨ twinState s = 4) then varlanSend (handOver s) 1 .standDownAnswer else s

/-- STAND_DOWN_ANSWER (R204): trigger FORCE. -/
def execStandDownAnswer (v : VHead) (s : State) : Host.Outcome State Fault Refusal :=
  act s fun s =>
    onMessage s 1 v fun s => if s.twin.standDown then trigger (wr s O.takeover_result Status.ok.code) 4 else s

/-- STAND_DOWN_TIMEOUT (R204): no answer within 100 µs. -/
def execStandDownTimeout (s : State) : Host.Outcome State Fault Refusal :=
  act s fun s =>
    if s.twin.standDown then wr (setTwin s { s.twin with standDown := false }) O.takeover_result Status.timeout.code else s

/-- FORWARD_ACK_TIMEOUT (R192): the follower did not acknowledge a forwarded write. -/
def execForwardAckTimeout (s : State) : Host.Outcome State Fault Refusal :=
  act s fun s =>
    if s.twin.forwarding.isSome then unsync (setTwin s { s.twin with forwarding := none }) else s

/-- The source asks for the automatic commit of a join (R183, R184). -/
def askJoinCommit (s : State) : State :=
  let mode := fun (p : Nat) => if packageBit s = p then 8 else 9
  { s with epoch := { s.epoch with autoWaiting := some (mode 0, mode 1) } }

/-- The end of a copy on this module (R183): a resync ends SYNCED; a join's source asks for the automatic commit. -/
def copyEnd (s : State) : State :=
  let s1 := wr (setTwin s { s.twin with copyDone := true, waitingRecs := [] }) O.copy_time ((s.now - s.twin.copyStart) / 1000000)
  let s2 := s.twin.waitingRecs.foldl applyRecord s1
  if s.twin.resync then bump (enterSynced s2) O.resyncs
  else if s.twin.copy = some .source then askJoinCommit s2
  else s2

/-- COPY_COMPLETE (R193): the joiner takes the copy in; the source learns that it has arrived. -/
def execCopyComplete (v : VHead) (data : Option CopyData) (s : State) : Host.Outcome State Fault Refusal :=
  act s fun s =>
    onMessage s 1 v fun s =>
      if twinState s ≠ 2 ∨ s.twin.copyDone then s
      else match s.twin.copy, data with
        | some .joiner, some d => copyEnd (applyCopy s d)
        | some .source, none => copyEnd s
        | _, _ => s

/-- COPY_TIMEOUT (R193): the copy is abandoned as the peer's loss; a resync leaves the pair UNSYNCED on the follower (log 46). -/
def execCopyTimeout (s : State) : Host.Outcome State Fault Refusal :=
  act s fun s =>
    if twinState s = 2 ∧ s.twin.copyDone = false then
      if s.twin.resync then (if roleMode s = 8 then followerLost s else twinTo (dropCopy s) 4) else joinLost s
    else s

/-- JOIN_RETRY (R183): 100 ms after a join's commit ended ROLLED_BACK, the source asks for it again. -/
def execJoinRetry (s : State) : Host.Outcome State Fault Refusal :=
  act s fun s =>
    if twinState s = 2 ∧ s.twin.copyDone ∧ s.twin.copy = some .source ∧ s.twin.retryAuto then
      askJoinCommit (setTwin s { s.twin with retryAuto := false })
    else s

/-- SEARCH_TIMEOUT (R526): a module that waits at the end of TRAIN enters SOLO; before that end the time alone has passed. -/
def execSearchTimeout (s : State) : Host.Outcome State Fault Refusal :=
  act s fun s =>
    let t := { s with boot := { s.boot with searched := true } }
    if s.boot.waiting ∧ twinState s = 1 ∧ (s.twin.hbFresh = false ∨ peerServes s = false) then waitToSolo t else t

/-! ### Mirror traffic (R194 to R196) -/

/-- Records are for a follower, and for the joiner of a copy. -/
def takesRecords (s : State) : Bool :=
  decide (roleMode s = 9) || (decide (twinState s = 2) && decide (s.twin.copy = some .joiner))

/-- The record in its place: held while a copy runs (R193), else applied and counted. -/
def takeRecord (s : State) (n : Nat) (r : MirrorRec) : State :=
  let s1 := bump (setTwin s { s.twin with recordsApplied := n }) O.mirror_records
  if twinState s = 2 then setTwin s1 { s1.twin with waitingRecs := s1.twin.waitingRecs ++ [r] } else applyRecord s1 r

/-- MIRROR_RECORD_RECEIVED (R194, R196): a receive-PN record comes in class 2, any other in class 3; each is acknowledged. -/
def execMirrorRecordReceived (v : VHead) (rec_ : MirrorRec) (s : State) : Host.Outcome State Fault Refusal :=
  act s fun s =>
    match rec_ with
    | .rxPn token k c pn =>
      onMessage s 2 v fun s =>
        if takesRecords s then
          let t := if twinState s = 2 then setTwin s { s.twin with waitingRecs := s.twin.waitingRecs ++ [rec_] }
            else applyRecord s (.rxPn token k c pn)
          varlanSend t 2 (.rxpnAck token)
        else s
    | r =>
      onMessage s 3 v fun s =>
        if takesRecords s then
          let n := s.twin.recordsApplied + 1
          varlanSend (takeRecord s n r) 3 (.mirrorAck n)
        else s

/-- MIRROR_ACK (R195): the follower has applied the records up to `n`. -/
def execMirrorAck (v : VHead) (n : Nat) (s : State) : Host.Outcome State Fault Refusal :=
  act s fun s => onMessage s 3 v fun s => ackRecords s n

/-- MIRROR_ACK_TIMEOUT (R195, R197). -/
def execMirrorAckTimeout (s : State) : Host.Outcome State Fault Refusal :=
  act s fun s => if roleMode s = 8 ∧ s.twin.unacked ≠ [] then unsync s else s

/-- A held verdict goes out. -/
def releaseVerdict (s : State) (token : Nat) : State :=
  match s.twin.rxpnHeld.find? (fun e => e.1 = token) with
  | some e => verdictOut (setTwin s { s.twin with rxpnHeld := s.twin.rxpnHeld.filter (fun x => x.1 ≠ token) }) e.2
  | none => s

/-- RXPN_ACK (R196). -/
def execRxpnAck (v : VHead) (token : Nat) (s : State) : Host.Outcome State Fault Refusal :=
  act s fun s => onMessage s 2 v fun s => releaseVerdict s token

/-- RXPN_WAIT_EXPIRE (R196): the verdict is released and counted, and the pair is UNSYNCED. -/
def execRxpnWaitExpire (token : Nat) (s : State) : Host.Outcome State Fault Refusal :=
  act s fun s =>
    if s.twin.rxpnHeld.any (fun e => e.1 = token) then unsync (bump (releaseVerdict s token) O.rxpn_unacked) else s

/-! ### Paired transmission (R209 to R211) -/

/-- PAIR_TX_RECEIVED (R210): the follower holds the announced PPDU. -/
def execPairTxReceived (v : VHead) (c : TxCmd) (s : State) : Host.Outcome State Fault Refusal :=
  act s fun s =>
    onMessage s 4 v fun s => if roleMode s = 9 then setTwin s { s.twin with pairTx := s.twin.pairTx.put c.tag c } else s

/-- PAIR_GO_RECEIVED (R210): the follower issues its transmit command for the named instant, with L equal to the start. -/
def execPairGoReceived (v : VHead) (tag start : Nat) (s : State) : Host.Outcome State Fault Refusal :=
  act s fun s =>
    onMessage s 4 v fun s =>
      match s.twin.pairTx.look tag with
      | some c =>
        let t := setTwin s { s.twin with pairTx := s.twin.pairTx.del tag }
        if roleMode s = 9 then
          offerCommand t 2 { c with issuer := .pair, start := some start, deadline := start, chains := goodChains t 2 }
        else t
      | none => s

/-- A paired PPDU with the lead-only precoder (R211). -/
def leadOnly (c : TxCmd) : TxCmd :=
  match c.content with
  | .data parts bars _ => { c with content := .data parts bars false }
  | _ => c

/-- The lead-only precoder for a PPDU already given to radio C, where 10 µs are left before its start (R211). -/
def unpair (s : State) (tag : Nat) : State :=
  let x := radio s 2
  let due := fun (c : TxCmd) => decide (c.issuer = .ostler) && decide (c.tag = tag) && decide (tbNs s + 10000 ≤ c.start.getD 0)
  setRadio s 2 { x with cmds := x.cmds.map (fun c => if due c then leadOnly c else c) }

/-- PAIR_RESULT_RECEIVED (R211): the follower's half is not sent: the PPDU goes with the lead-only precoder where 10 µs are left
before its start, else with the lead's half alone. -/
def execPairResultReceived (v : VHead) (tag : Nat) (sent : Bool) (s : State) : Host.Outcome State Fault Refusal :=
  act s fun s =>
    onMessage s 4 v fun s =>
      if sent ∨ s.twin.pairFallen.has tag then s
      else bump (unpair (setTwin s { s.twin with pairFallen := s.twin.pairFallen.put tag true }) tag) O.pair_fallback

/-- PAIR_CANCEL_RECEIVED (R211): the follower drops its command. -/
def execPairCancelReceived (v : VHead) (tag : Nat) (s : State) : Host.Outcome State Fault Refusal :=
  act s fun s =>
    onMessage s 4 v fun s =>
      let x := radio s 2
      setRadio (setTwin s { s.twin with pairTx := s.twin.pairTx.del tag }) 2
        { x with cmds := x.cmds.filter (fun c => !(decide (c.issuer = .pair) && decide (c.tag = tag))) }

/-- FOLLOWER_CSI_RECEIVED (R209): the follower's measurement makes the station's CSI joint. -/
def execFollowerCsiReceived (v : VHead) (station_ : Nat) (corr : List (Nat × Nat)) (s : State) : Host.Outcome State Fault Refusal :=
  act s fun s =>
    onMessage s 4 v fun s =>
      if staState s station_ = 0 ∨ roleMode s ≠ 8 then s
      else
        let x := station s station_
        let t := setStation s station_ { x with corr := x.corr.put 2 corr }
        setTwin t { t.twin with jointCsi := t.twin.jointCsi.put station_ s.now }

/-! ### The peer key (R189) -/

/-- PEER_KEY_WRITE (R189): stored at once in a flash record of its own. -/
def execPeerKeyWrite (key : Octets) (s : State) : Host.Outcome State Fault Refusal :=
  act s fun s => commandWith s O.peer_key key fun s =>
    if key.length ≠ 16 then (.type, s) else (.ok, wr { s with led := { s.led with peerKey := some key } } O.peer_key_set 1)

/-- FORGET (R189). -/
def execForget (s : State) : Host.Outcome State Fault Refusal :=
  act s fun s => command s O.peer_key_cmd 1 fun s => (.ok, wr { s with led := { s.led with peerKey := none } } O.peer_key_set 0)

/-! ### Watched beacons (R140 to R142) -/

/-- A watched lead beacon missed (R141); every third miss in a row has the rule's outcome. -/
def leadBeaconMissed (s : State) (r : Nat) : State :=
  let n := s.mac.missed.getD r 0 + 1
  let s1 := bump (setMac s { s.mac with missed := s.mac.missed.put r n }) (O.lead_beacon_missed r)
  if n % 3 ≠ 0 then s1
  else if s.twin.hbFresh then report (bump s1 (O.lead_loss_events r)) 0x32 (hidOf s 0 1 0 r) 0
  else trigger s1 3

/-- An upstream beacon missed (R142): the third in a row takes the link's bit away. -/
def upstreamMissed (s : State) (r : Nat) : State :=
  let n := s.mac.missed.getD (3 + r) 0 + 1
  let s1 := setMac s { s.mac with missed := s.mac.missed.put (3 + r) n, regained := s.mac.regained.put r 0 }
  if 3 ≤ n ∧ bit (rd s O.bh_link_state) r = true then
    report (bump (bhRefresh (wr s1 O.bh_link_state (clrBit (rd s O.bh_link_state) r))) O.bh_link_lost) 0x33 (hidOf s 0 1 4 0) r
  else s1

/-- BEACON_WAIT_EXPIRE (R140): of the lead's beacons in FOLLOW, and of the upstream AP's on a backhaul link. -/
def execBeaconWaitExpire (r : Fin 3) (upstream : Bool) (s : State) : Host.Outcome State Fault Refusal :=
  act s fun s =>
    if upstream then (if bhLink s r then upstreamMissed s r else s)
    else if roleMode s = 9 ∧ flag s (O.monitor_lead r) then leadBeaconMissed s r
    else s

end Sys2Proof.Machine
end

