-- ==== Sys2Proof/Machine/Tinker.lean ====
section
/-! DEFINITION. The Tinker (R463 to R477): classification, the log, force bits, QUARANTINE and recovery; and the end of a takeover,
which runs what waited for it (R199). -/

namespace Sys2Proof.Machine

/-- The collector and the quarantine sequencer as sources (R463). -/
def collectorHid (s : State) : Nat := hidOf s 0 11 0 0
def quarantineHid (s : State) : Nat := hidOf s 0 11 0 3

/-- The Tinker's state changed. -/
def setTinker (s : State) (t : Tinker) : State := { s with tinker := t }

/-! ### The log (R466, R475) -/

/-- An entry has been announced on every transport enabled in `notify_transports`. -/
def announced (s : State) (e : LogEntry) : Bool :=
  (e.eth || !(bit (rd s O.notify_transports) 0)) && (e.pcie || !(bit (rd s O.notify_transports) 1))

/-- A message equals the newest entry and comes within `coalesce_time` of it (R466). -/
def coalesces (s : State) (m : FaultMsg) : Option (Nat × LogEntry) :=
  match s.tinker.log.getLast? with
  | some e =>
    if e.2.msg.source = m.source ∧ e.2.msg.kind = m.kind ∧ e.2.msg.address = m.address ∧ rd s O.coalesce_time ≠ 0 ∧
        s.now ≤ e.2.written + rd s O.coalesce_time * 1000 then some e else none
  | none => none

/-- A new entry over the one 127 before it (R475). -/
def logEntry (s : State) (m : FaultMsg) : State :=
  let n := rd s O.log_written
  let time := if rd s O.tb_state = 0 then 0 else now80 s
  let lost := match s.tinker.log.look (n - 127) with
    | some e => decide (127 ≤ n) && decide (1 ≤ e.reaction) && !(announced s e)
    | none => false
  let s1 := if lost then bump s O.log_overrun else s
  let old := if 127 ≤ n then s1.tinker.log.del (n - 127) else s1.tinker.log
  let e : LogEntry := { msg := m, time := time, written := s.now, repeats := 0, reaction := effectiveReaction s m, eth := false, pcie := false }
  let s2 := wr (setTinker s1 { s1.tinker with log := old.put n e }) O.log_written ((n + 1) % 4294967296)
  wr (wr s2 (winKey m.kind O.kind_last) time) (winKey m.kind O.kind_last_source) m.source

/-! ### QUARANTINE (R471) -/

/-- Entry to QUARANTINE from a serving mode (R471). A follower, and a party to a copy, leaves the pair (DEDUCED from R472 step 2,
log 46). -/
def quarantineEntry (s : State) (reaction source kind : Nat) : State :=
  let role := roleMode s
  let inPair := decide (2 ≤ twinState s ∧ twinState s ≤ 4)
  let sends := decide (role = 8) && inPair && (decide (reaction = 3) || decide (twinState s = 3))
  let keeps := decide (role = 8) && !sends && !s.twin.handedOver
  let s1 := if sends then sendHandover s
    else if inPair && (decide (role = 9) || (decide (twinState s = 2) && decide (s.twin.resync = false))) then twinTo (dropCopy s) 1
    else s
  let s2 := setTinker s1 { s1.tinker with modeLeft := packageMode s, roleLeft := role, sentHandover := sends, quiet := true }
  let s3 := bump (wr (fastPath s2 12) O.q_state 1) O.q_entries
  let s4 := setTwin s3 { s3.twin with faultFlag := !keeps }
  report s4 0x08 (quarantineHid s) (source + kind * 16777216)

/-- A message whose effective reaction is QUARANTINE or HANDOVER (R471): in TAKEOVER its entry waits, in QUARANTINE it restarts the
quiet timer, below the serving modes it is as NOTIFY. -/
def quarantine (s : State) (reaction source kind : Nat) : State :=
  let m := packageMode s
  if m = 10 then (if s.tinker.deferred.isSome then s else setTinker s { s.tinker with deferred := some (reaction, source, kind) })
  else if m = 12 then (if s.tinker.latched then s else setTinker s { s.tinker with quiet := true })
  else if servingMode m then quarantineEntry s reaction source kind
  else s

/-- A message classified (R466, R468): counted, logged or coalesced, and its reaction runs. -/
def classify (s : State) (m : FaultMsg) : State :=
  let s1 := bump (bump s O.msgs_received) (winKey m.kind O.kind_count)
  let s2 := match coalesces s m with
    | some e => setTinker s1 { s1.tinker with log := s1.tinker.log.put e.1 { e.2 with repeats := satAdd 0xFFFF e.2.repeats 1 } }
    | none => logEntry s1 m
  let s3 := if m.forced then setTinker s2 { s2.tinker with forceBits := s2.tinker.forceBits.filter (fun h => h ≠ m.source) } else s2
  let r := effectiveReaction s m
  if 2 ≤ r then quarantine s3 r m.source m.kind else s3

/-- Kind 0x0B is raised once the queue has room again (R466). -/
def raiseFull (s : State) : State :=
  if s.tinker.fullOwed ∧ s.tinker.queue.length < 256 then
    report (setTinker s { s.tinker with fullOwed := false }) 0x0B (collectorHid s) 0
  else s

/-- FAULT_MESSAGE (R466): the collector takes the message at the front of its queue, or one that a unit raises now. -/
def execFaultMessage (m : Option FaultMsg) (s : State) : Host.Outcome State Fault Refusal :=
  act s fun s =>
    match m with
    | some x => classify (setTinker s { s.tinker with seqs := s.tinker.seqs.put x.source x.sequence }) x
    | none =>
      match s.tinker.queue with
      | [] => s
      | x :: rest => raiseFull (classify (setTinker s { s.tinker with queue := rest }) x)

/-! ### Recovery (R472, R473) -/

/-- The recoveries within the preceding 117,964,800 ticks (R473). -/
def recentRecoveries (s : State) : List Nat := s.tinker.history.filter (fun t => decide (rd s O.bak_ticks < t + 117964800))

/-- QUARANTINE is left by joining a serving peer, muted until the join's commit applies, or for the mode it was entered from
(R472 steps 2 and 3). -/
def leaveQuarantine (s : State) : State :=
  if twinState s = 1 ∧ peerServes s then sendJoin (setTinker s { s.tinker with quiet := false }) else exitQuarantine s

/-- QUIET_EXPIRE (R472, R473): a recovery, or the latch where it would be the eighth. -/
def execQuietExpire (s : State) : Host.Outcome State Fault Refusal :=
  act s fun s =>
    if packageMode s ≠ 12 ∨ s.tinker.quiet = false ∨ s.tinker.latched then s
    else
      let recent := recentRecoveries s
      if 7 ≤ recent.length then
        report (wr (setTinker s { s.tinker with latched := true, quiet := false }) O.q_state 2) 0x0A (quarantineHid s) 0
      else leaveQuarantine (bump (setTinker s { s.tinker with history := recent ++ [rd s O.bak_ticks] }) O.recoveries)

/-! ### `q_cmd` (R474) -/

/-- ENTER. -/
def qEnter (s : State) : Status × State :=
  let m := packageMode s
  if m = 12 then (.ok, quarantine s 2 0 0)
  else if servingMode m then (.ok, bump (quarantine s 2 (ledgerHid s) 0) O.q_host_entries)
  else (.busy, s)

/-- EXIT. -/
def qExit (s : State) : Status × State :=
  let m := packageMode s
  if m = 12 then
    if s.tinker.latched then (.locked, s)
    else (.ok, bump (leaveQuarantine s) O.q_host_exits)
  else if servingMode m then (.ok, s)
  else (.busy, s)

/-- CLEAR_LATCH. -/
def qClear (s : State) : Status × State :=
  let t := setTinker s { s.tinker with latched := false, history := [] }
  (.ok, if packageMode s = 12 ∧ s.tinker.latched then leaveQuarantine t else t)

/-- Q_ENTER (R474). -/
def execQEnter (s : State) : Host.Outcome State Fault Refusal := act s fun s => command s O.q_cmd 1 qEnter

/-- Q_EXIT (R474). -/
def execQExit (s : State) : Host.Outcome State Fault Refusal := act s fun s => command s O.q_cmd 2 qExit

/-- CLEAR_LATCH (R474). -/
def execClearLatch (s : State) : Host.Outcome State Fault Refusal := act s fun s => command s O.q_cmd 3 qClear

/-! ### Force bits (R470) -/

/-- A fixed set of source units: die, region, cluster, lowest and highest unit (R536). -/
structure SourceRow where
  kinds : List Nat
  die : Nat
  region : Nat
  cluster : Nat
  lo : Nat
  hi : Nat
  deriving DecidableEq, Repr

/-- The rows of R536 whose sources are units of the hub die up to region 4. -/
def sourceRowsLow : List SourceRow := [
  ⟨[0x01, 0x04, 0x10, 0x12], 0, 0, 2, 0, 0⟩, ⟨[0x02], 0, 0, 0, 0, 0⟩, ⟨[0x03], 0, 0, 0, 1, 1⟩,
  ⟨[0x08, 0x09, 0x0A], 0, 11, 0, 3, 3⟩, ⟨[0x0B], 0, 11, 0, 0, 0⟩,
  ⟨[0x30], 0, 1, 1, 0, 1⟩, ⟨[0x31], 0, 1, 1, 1, 1⟩, ⟨[0x32], 0, 1, 0, 0, 2⟩, ⟨[0x33], 0, 1, 4, 0, 0⟩, ⟨[0x34], 0, 1, 2, 0, 2⟩,
  ⟨[0x35], 0, 1, 3, 0, 0⟩, ⟨[0x38], 0, 2, 0, 1, 1⟩, ⟨[0x38], 0, 2, 2, 0, 1⟩, ⟨[0x39, 0x3A], 0, 2, 3, 0, 0⟩, ⟨[0x3B], 0, 2, 1, 0, 2⟩,
  ⟨[0x40], 0, 3, 1, 0, 0⟩, ⟨[0x41, 0x47], 0, 3, 0, 0, 15⟩, ⟨[0x42], 0, 9, 6, 0, 7⟩, ⟨[0x44, 0x45], 0, 3, 1, 1, 1⟩,
  ⟨[0x44, 0x45], 0, 9, 6, 0, 7⟩, ⟨[0x46], 0, 3, 2, 0, 0⟩, ⟨[0x48, 0x49, 0x4A, 0x4B], 0, 11, 8, 0, 0⟩, ⟨[0x4B], 0, 11, 8, 1, 1⟩,
  ⟨[0x4C], 0, 9, 4, 0, 3⟩, ⟨[0x4D], 0, 9, 5, 0, 0⟩, ⟨[0x4E], 0, 2, 4, 0, 0⟩, ⟨[0x4F], 0, 11, 8, 2, 2⟩,
  ⟨[0x50], 0, 4, 1, 2, 2⟩, ⟨[0x51], 0, 4, 1, 1, 1⟩, ⟨[0x52], 0, 4, 8, 0, 1⟩, ⟨[0x52], 0, 4, 9, 2, 2⟩, ⟨[0x53], 0, 4, 9, 0, 0⟩]

/-- The rows of R536 for the other regions of the hub die and for dies 4 and 5. -/
def sourceRowsHigh : List SourceRow := [
  ⟨[0x54], 0, 5, 1, 0, 254⟩, ⟨[0x54], 0, 5, 2, 0, 254⟩, ⟨[0x54], 0, 5, 3, 0, 254⟩, ⟨[0x54], 0, 5, 4, 0, 254⟩, ⟨[0x55], 0, 5, 1, 1, 1⟩,
  ⟨[0x56], 0, 9, 1, 0, 7⟩, ⟨[0x57], 0, 9, 1, 0, 0⟩, ⟨[0x58], 0, 6, 0, 0, 0⟩, ⟨[0x59], 0, 6, 0, 2, 2⟩, ⟨[0x59], 0, 6, 1, 2, 2⟩,
  ⟨[0x5A], 0, 6, 0, 1, 1⟩, ⟨[0x5B], 0, 6, 2, 1, 1⟩, ⟨[0x5C], 0, 7, 0, 0, 1⟩, ⟨[0x5C], 0, 7, 1, 0, 0⟩, ⟨[0x5D], 0, 7, 0, 0, 0⟩,
  ⟨[0x5E], 0, 7, 0, 1, 1⟩, ⟨[0x5F], 0, 7, 1, 1, 1⟩, ⟨[0x60, 0x64], 0, 8, 0, 0, 7⟩, ⟨[0x60], 0, 8, 1, 1, 1⟩, ⟨[0x61], 0, 8, 1, 0, 0⟩,
  ⟨[0x62], 0, 8, 1, 2, 2⟩, ⟨[0x69, 0x6A], 0, 10, 0, 0, 0⟩, ⟨[0x6B], 0, 10, 3, 1, 1⟩, ⟨[0x6C, 0x6D], 0, 10, 1, 0, 0⟩,
  ⟨[0x6E], 0, 10, 3, 0, 0⟩, ⟨[0x6F], 0, 14, 1, 0, 31⟩, ⟨[0x70, 0x71], 0, 13, 0, 0, 0⟩, ⟨[0x72, 0x73], 0, 13, 0, 2, 2⟩,
  ⟨[0x74], 0, 13, 0, 1, 1⟩, ⟨[0x78, 0x79, 0x7E], 5, 0, 0, 0, 0⟩, ⟨[0x7A, 0x7B], 5, 0, 1, 1, 1⟩, ⟨[0x7C], 5, 0, 0, 1, 1⟩,
  ⟨[0x7D], 5, 0, 1, 0, 0⟩, ⟨[0x80, 0x81], 0, 11, 1, 0, 0⟩, ⟨[0x84, 0x85, 0x86], 0, 12, 0, 1, 1⟩]

/-- A unit stands in a row. -/
def inSourceRow (h : Nat) (r : SourceRow) : Bool :=
  decide (hidDie h = r.die) && decide (hidRegion h = r.region) && decide (hidCluster h = r.cluster) &&
  decide (r.lo ≤ hidUnit h ∧ hidUnit h ≤ r.hi)

/-- The kinds of errors of guarded memories, which other units raise as 0x06 (R469, R536). -/
def eccKinds : List Nat := [0x30, 0x38, 0x40, 0x51, 0x52, 0x54, 0x59, 0x5B, 0x5C, 0x60]

/-- R536 lists a unit as a source of a kind. Which units have a guarded memory, take part in a commit or issue crossing accesses
the spec does not list: every fitted unit of the dies named counts (DESIGN CHOICE, log 47). -/
def sourceListed (kind h : Nat) : Bool :=
  let rows := sourceRowsLow ++ sourceRowsHigh
  let radio := decide (1 ≤ hidDie h ∧ hidDie h ≤ 3)
  if kind = 0x05 ∨ kind = 0x68 then true
  else if kind = 0x06 then !(rows.any (fun r => r.kinds.any (fun k => eccKinds.contains k) && inSourceRow h r))
  else if kind = 0x11 then decide (hidDie h ≤ 3)
  else if kind = 0x20 ∨ kind = 0x21 then radio && decide (hidRegion h = 0 ∧ hidCluster h = 0 ∧ hidUnit h = 0)
  else if kind = 0x22 ∨ kind = 0x26 then radio && decide (hidRegion h = 1 ∧ hidUnit h = 0)
  else if kind = 0x23 then radio && decide (hidRegion h = 2 ∧ ((hidCluster h < 16 ∧ hidUnit h ≤ 11) ∨ (hidCluster h = 16 ∧ hidUnit h ≤ 2)))
  else if kind = 0x24 then radio && decide (hidRegion h = 0 ∧ hidCluster h = 2 ∧ hidUnit h = 0)
  else if kind = 0x25 then radio && decide (hidRegion h = 2 ∧ hidCluster h = 16 ∧ hidUnit h = 2)
  else if kind = 0x6A ∧ radio = true then decide (hidRegion h = 0 ∧ hidCluster h = 2 ∧ hidUnit h = 0)
  else rows.any (fun r => r.kinds.contains kind && inSourceRow h r)

/-- FORCE (R470): its checks in the order ABSENT, RANGE, BUSY; the message then carries the source's next SEQUENCE. -/
def forceFault (s : State) : Status × State :=
  let h := rd s O.force_source
  let k := rd s O.force_kind
  let well := !(hidMalformed h) && hidIsUnit h && hidOwn s h && decide (h / 4194304 = s.system)
  if well && !(hidFitted s h) then (.absent, s)
  else if !well || !(sourceListed k h) then (.range, s)
  else if s.tinker.forceBits.contains h then (.busy, s)
  else
    let n := nextSequence s h
    let t := setTinker s { s.tinker with seqs := s.tinker.seqs.put h n, forceBits := s.tinker.forceBits ++ [h] }
    let m : FaultMsg := { source := h, kind := k, severity := kindSeverity k, forced := true, dry := flag s O.force_dry, detail := 0,
                          sequence := n, address := rd s O.force_address, late := false }
    let u := collect t m
    (.ok, if u.tinker.queue.any (fun x => x.forced && decide (x.source = h)) then u
      else setTinker u { u.tinker with forceBits := u.tinker.forceBits.filter (fun x => x ≠ h) })

/-- FORCE (R470). -/
def execForce (s : State) : Host.Outcome State Fault Refusal := act s fun s => command s O.force_cmd 1 forceFault

/-! ### The end of a takeover (R199, R307, R471) -/

/-- TAKEOVER_END (R199 step 6): SOLO, the announcements of R307, and an entry to QUARANTINE that waited. -/
def execTakeoverEnd (s : State) : Host.Outcome State Fault Refusal :=
  act s fun s =>
    if packageMode s ≠ 10 then s
    else
      let us := match s.twin.takeover with
        | some t => min 0xFFFF ((s.now - t.since) / 1000)
        | none => 0
      let s1 := twinTo (wr (fastPath s 7) O.last_takeover_us us) 1
      let s2 := { setTwin s1 { s1.twin with takeover := none } with switch := { s1.switch with announce := announceList s1 } }
      match s2.tinker.deferred with
      | some d => quarantineEntry (setTinker s2 { s2.tinker with deferred := none }) d.1 d.2.1 d.2.2
      | none => s2

end Sys2Proof.Machine
end

