-- ==== Sys2Proof/Machine/Epoch.lean ====
section
/-! DEFINITION. The epoch commit (R29 to R36, R153, R184, R185, R265, R375, R443, R447): the coordinator's state machine, what a package
does at prepare, at the boundary and at the end, the peer's part, and the boundary of the Ostler frame. -/

namespace Sys2Proof.Machine

/-- The commit's state changed. -/
def setEpoch (s : State) (e : Epoch) : State := { s with epoch := e }

/-! ### What a commit would make (R29, R184) -/

/-- The target modes of module A and of module B. -/
def epochTargets (s : State) : Nat × Nat :=
  match s.epoch.kind with
  | .host => (rd s O.target_mode_a, rd s O.target_mode_b)
  | .auto a b => (a, b)

/-- The target of this package and of the peer; 0 leaves the mode unchanged. -/
def ownTarget (s : State) : Nat := if packageBit s = 0 then (epochTargets s).1 else (epochTargets s).2
def peerTarget (s : State) : Nat := if packageBit s = 0 then (epochTargets s).2 else (epochTargets s).1

/-- The mode this package would take. -/
def newMode (s : State) : Nat := if ownTarget s = 0 then packageMode s else ownTarget s

/-- Whether any write is staged (R29). -/
def anyStaged (s : State) : Bool := !(s.staged.isEmpty) || !(s.stagedBlobs.isEmpty) || graphDiffers s

/-- `epoch_staged` (R29). -/
def epochStaged (s : State) : Bool := anyStaged s || decide (rd s O.target_mode_a ≠ 0) || decide (rd s O.target_mode_b ≠ 0)

/-- The staged values put in force, with nothing done about them: the state that the new epoch's values are checked in. -/
def newValues (s : State) : State :=
  match s.epoch.kind with
  | .host => { s with regs := putAll s.regs s.staged, blobs := putAll s.blobs s.stagedBlobs }
  | .auto _ _ => s

/-- The same with the package's new mode. -/
def newEpoch (s : State) : State := wr (newValues s) O.package_mode (newMode s)

/-- A HID of the peer package for one of this. -/
def flipPackage (h : Nat) : Nat := if h / 2097152 % 2 = 0 then h + 2097152 else h - 2097152

/-- The units that take part (R31): the fitted units of the packages in scope. The peer's are taken as this package's (DEDUCED,
log 48). -/
def epochUnits (s : State) (peer : Bool) : List Nat := ownUnits s ++ (if peer then (ownUnits s).map flipPackage else [])

/-! ### Retention banks of the dies (R453, R454) -/

/-- A bank whose signature differs: zeroed, counted, kind 0x7D. -/
def bankFailed (s : State) (b : Nat) : State :=
  let s1 := bump (wr s O.retain_status (setBit (rd s O.retain_status) b)) O.retain_failures
  report { s1 with power := { s1.power with banks := s1.power.banks.del b } } 0x7D (powerSequencerHid s) 0

/-- A radio's coefficients, and the ages that go with them, are gone (R454). -/
def loseCoefficients (s : State) (r : Nat) : State :=
  setRadio s r { radio s r with coeff := [], pdTemp := [], pdAt := [] }

/-- A die comes up while it prepares (R447): powered, its radio's configuration loaded; its bank is checked if it was DORMANT. What
the check finds is free (log 1). The list collects radios that are to run FULL. -/
def dieUp (x : State × List Nat) (r : Nat) : State × List Nat :=
  let s := x.1
  let slept := decide (regionMode s (r + 1) 0 = 3) && (s.power.banks.getD (3 + r) {}).sealed
  let s1 := setPower s (6 + r) 2
  let good := slept && decide (freeBelow s1 2 = 1)
  let s2 := if slept then freeNext s1 else s1
  let s3 := if slept && !good then loseCoefficients (bankFailed s2 (3 + r)) r else s2
  (follow s3 r, if good then x.2 else x.2 ++ [r])

/-- A die goes down: bank sealed for DORMANT, FEM pads latched, unpowered (R447). -/
def dieDown (s : State) (r : Nat) : State :=
  let s1 := if regionMode s (r + 1) 0 = 3 then
      wr { s with power := { s.power with banks := s.power.banks.put (3 + r) { sealed := true } } } O.retain_sealed
        (setBit (rd s O.retain_sealed) (3 + r))
    else loseCoefficients s r
  setPower (radioUnpowered (latchPads s1 [2 + r]) r) (6 + r) 0

/-! ### Prepare (R30, R375, R443, R447) -/

/-- A package begins to prepare: stopped domains start, dies are powered, a voltage is raised. -/
def prepareOwn (s : State) : State :=
  let ne := newEpoch s
  let dies := [0, 1, 2].filter (fun r => radioFitted s.fuse.part r && decide (rd s (O.pd_state (6 + r)) ≠ 2) && decide (4 ≤ regionMode ne (r + 1) 0))
  let ds := (List.range 18).filter (fun d => domainWanted ne d && !(domainWanted s d))
  let x := dies.foldl dieUp (s, [])
  let raise_ := s.power.idleByCommit && decide (5 ≤ newMode s) && decide (vcoreTargetIn s true < vcoreTargetIn s false)
  let p := { x.1.power with avsFailed := false, avsRaised := false, avsRaise := raise_, avsPending := x.1.power.avsPending || raise_ }
  retime { x.1 with power := p, epoch := { x.1.epoch with started := ds, poweredUp := dies, fulls := x.2 } }

/-- Nothing of the prepare stays (R33, R375, R447). -/
def abortOwn (s : State) : State :=
  let s1 := s.epoch.poweredUp.foldl (fun t r => setPower (radioUnpowered t r) (6 + r) 0) s
  let low := s.power.idleByCommit && (s.power.avsRaise || s.power.avsRaised)
  retime { s1 with power := { s1.power with avsRaise := false, avsRaised := false, avsPending := s1.power.avsPending || low },
                   epoch := { s1.epoch with started := [], poweredUp := [], fulls := [] } }

/-- The combination of modes that a commit leaves the pair in is one of R185. The role is what counts in SERVICE (R486). -/
def pairModesOk (s : State) : Bool :=
  let t := ownTarget s
  let own := if t = 11 then (if roleMode s = 8 ∨ roleMode s = 9 then roleMode s else 7) else newMode s
  let hb := if s.twin.hbFresh then rd s O.peer_mode else 1
  let pm := if peerTarget s ≠ 0 ∧ s.epoch.peerIn then peerTarget s else hb
  let peer := if pm = 11 then (if own = 8 then 9 else if own = 9 then 8 else 7) else pm
  decide ((own = 8 ∧ peer = 9) ∨ (own = 9 ∧ peer = 8)) ||
  (decide (own = 7) && !(servingMode peer)) || (decide (peer = 7) && !(servingMode own)) ||
  (!(servingMode own) && !(servingMode peer))

/-- What the twin unit checks (R185). -/
def twinAgrees (s : State) : Bool :=
  let t := ownTarget s
  let join := match s.epoch.kind with
    | .auto _ _ => decide (twinState s = 2) && s.twin.copyDone
    | .host => false
  let needs := decide (t = 8 ∨ t = 9)
  let twinScope := s.epoch.peerIn || (decide (s.epoch.kind = .host) && decide (rd s O.epoch_scope = 1))
  let any := decide (t ≠ 0) || (s.epoch.peerIn && decide (peerTarget s ≠ 0))
  (!needs || decide (twinState s = 3) || join) && (!twinScope || !any || join || pairModesOk s)

/-- What the air MAC checks of a radio's BSSIDs, where the epoch changes any (R137). -/
def bssAgrees (s : State) (r : Nat) : Bool :=
  let t := newValues s
  let changes := decide (rd s (O.bss_count r) ≠ rd t (O.bss_count r)) ||
    (List.range 16).any (fun i => decide (rd s (O.bss_enable r i) ≠ rd t (O.bss_enable r i)) || decide (rdB s (O.bssid r i) ≠ rdB t (O.bssid r i)))
  !changes ||
  ((decide (rd t (O.bss_count r) = 0) || flag t (O.bss_enable r 0)) &&
    (List.range 16).all (fun i => !(bssServed t r i) || decide (rdB t (O.bssid r i) ≠ zeros 6)))

/-- What a radio checks of its operating channel (R537). -/
def channelAgrees (s : State) (r : Nat) : Bool :=
  let t := newValues s
  (decide (rd s (O.primary r) = rd t (O.primary r)) && decide (rd s (O.width r) = rd t (O.width r))) || !((opChannels t r).isEmpty)

/-- A unit of this package refuses, whatever else it finds (R30): the twin unit (R185), a radio sequencer (R537), a receive filter
(R137; DEDUCED, log 48), the graph memory (R263), the power sequencer (R443). -/
def unitRefuses (s : State) (h : Nat) : Bool :=
  let u := h % 2097152
  if u = 0 * 262144 + 11 * 16384 + 8 * 256 then !(twinAgrees s)
  else if hidDie u = 0 ∧ hidRegion u = 1 ∧ hidCluster u = 0 then !(bssAgrees s (hidUnit u))
  else if 1 ≤ hidDie u ∧ hidDie u ≤ 3 ∧ hidRegion u = 0 ∧ hidCluster u = 2 then !(channelAgrees s (hidDie u - 1))
  else if u = 4 * 16384 + 1 * 256 + 1 then
    graphDiffers s && decide (s.epoch.kind = .host) && !(checkStaged s).1
  else if u = 5 * 262144 + 1 * 256 then s.power.avsFailed
  else false

/-- The power sequencer is still raising VCORE (R443). -/
def unitWaits (s : State) (h : Nat) : Bool := decide (h % 2097152 = 5 * 262144 + 1 * 256) && s.power.avsRaise && !s.power.avsFailed

/-- A unit's check leaves its mark: the graph's in `graph_status` (R263). -/
def unitChecked (s : State) (h : Nat) : State :=
  if h % 2097152 = 4 * 16384 + 1 * 256 + 1 ∧ graphDiffers s = true ∧ s.epoch.kind = .host then (checkStaged s).2 else s

/-! ### The switch (R30, R32, R153) -/

/-- A radio's plan for the frame that starts is empty (R153): what was bound for it goes back. -/
def emptyClosed (s : State) (r : Nat) : State :=
  let l := (radioPlan s r).closed
  let s1 := l.foldl (fun t e => giveBackUsers t e.users) s
  setPlan s1 r { radioPlan s1 r with closed := [], empty := true }

/-- The radio objects whose change gives an empty plan (R153), and those that retune the radio (R80). -/
def planKeys (r : Nat) : List Nat := [O.primary r, O.width r, O.puncture r, O.chain_enable r, O.radio_target r]
def tuneKeys (r : Nat) : List Nat := [O.primary r, O.width r, O.puncture r]

/-- What a change of a radio's values does at the boundary. -/
def radioSwitch (old s : State) (r : Nat) : State :=
  let differ := fun (l : List Nat) => l.any (fun k => decide (rd old k ≠ rd s k))
  let s1 := if differ (planKeys r) then emptyClosed s r else s
  if differ (tuneKeys r) then
    if rState s1 r = 4 then setLocked (setRState s1 r 3) r false
    else if rState s1 r = 5 then setRadio s1 r { radio s1 r with afterPpdu := some 4 }
    else s1
  else s1

/-- BSSIDs that are no longer enabled: their key slots are orphaned (R223). -/
def bssSwitch (old s : State) : State :=
  (List.range 48).foldl (fun t j =>
    if flag old (O.bss_enable (j / 16) (j % 16)) && !(flag t (O.bss_enable (j / 16) (j % 16))) then orphanSlots t 1 j else t) s

/-- Ports whose mode or enable changes (R288, R289). -/
def portSwitch (old s : State) : State :=
  if rd old O.uplink_mode ≠ rd s O.uplink_mode then portsRestart s
  else (List.range 8).foldl (fun t p =>
    if flag old (O.port_enable p) = flag t (O.port_enable p) then t
    else portDown t p (if p < portCount t ∧ flag t (O.port_enable p) then 1 else 0)) s

/-- Values put in force, or back to their defaults, with all that follows from them. -/
def changeValues (s : State) (regs : Tab (Option Nat)) (blobs : Tab (Option Octets)) : State :=
  let put := fun (t : Tab Nat) (e : Nat × Option Nat) => match e.2 with
    | some v => t.put e.1 v
    | none => t.del e.1
  let putB := fun (t : Tab Octets) (e : Nat × Option Octets) => match e.2 with
    | some v => t.put e.1 v
    | none => t.del e.1
  let t := { s with regs := regs.foldl put s.regs, blobs := blobs.foldl putB s.blobs }
  bhRefresh (portSwitch s (bssSwitch s ([0, 1, 2].foldl (fun u r => radioSwitch s u r) t)))

/-- A planned swap's plans are empty in the frame that starts (R185), and the new lead takes every counter unchanged. -/
def swapRoles (s : State) (old new : Nat) : State :=
  if old = 8 ∧ new = 9 then
    let t := [0, 1, 2].foldl emptyClosed s
    setTwin t { t.twin with recordsApplied := 0, unacked := [] }
  else if old = 9 ∧ new = 8 then setTwin s { s.twin with mirrored := mirroredNow s, recordsSent := 0, recordsAcked := 0, unacked := [] }
  else s

/-- This package takes a mode in a commit: QUARANTINE and TRAIN are left with it (R472, R525). -/
def commitMode (s : State) (m : Nat) : State :=
  let old := packageMode s
  let s1 := setMode { s with power := { s.power with idleByCommit := if m = 4 then (s.power.idleByCommit || decide (old ≠ 4)) else false } } m
  let s2 := { s1 with boot := { s1.boot with waiting := false } }
  if old = 12 ∧ m ≠ 12 then quarantineOver s2 else s2

/-- A die that came up without its coefficients runs FULL from the boundary (R447). -/
def startFull (s : State) (r : Nat) : State := setRState (setRadio s r { radio s r with trainFull := true, crystal := false }) r 6

/-- The apply boundary on this package (R30, R32): the staged values and the mode, with what they replace kept. -/
def applyOwn (s : State) : State :=
  let host := decide (s.epoch.kind = .host)
  let regs := if host then s.staged else []
  let blobs := if host then s.stagedBlobs else []
  let s1 := setEpoch s { s.epoch with
    switched := true, oldRegs := regs.map (fun e => (e.1, s.regs.look e.1)), oldBlobs := blobs.map (fun e => (e.1, s.blobs.look e.1)),
    oldMode := packageMode s, oldGraph := s.graph.active }
  let m := if s.epoch.fast then packageMode s else newMode s
  let s2 := changeValues (if host then graphSwap s1 else s1) (regs.map (fun e => (e.1, some e.2))) (blobs.map (fun e => (e.1, some e.2)))
  let s3 := commitMode (swapRoles s2 (roleMode s) m) m
  let s4 := s.epoch.fulls.foldl startFull s3
  let orphaned := (slotsInUse s).filter (fun k => decide (slotState s k = 1 ∧ slotState s4 k = 2))
  setEpoch s4 { s4.epoch with started := [], fulls := [], orphaned := orphaned }

/-- Key slots that the switch orphaned serve again (R30, R223): the epoch that disabled their BSSID is undone. -/
def unorphan (s : State) : State :=
  s.epoch.orphaned.foldl (fun t k => if slotState t k = 2 then wr t (winKey k O.key_state) 1 else t) s

/-- The rollback boundary on this package: the old epoch again (R33, R35). -/
def restoreOwn (s : State) : State :=
  let s1 := unorphan (changeValues (graphUnswap s s.epoch.oldGraph) s.epoch.oldRegs s.epoch.oldBlobs)
  let s2 := if s.epoch.fast then setMode s1 (packageMode s1) else commitMode s1 s.epoch.oldMode
  let s3 := if s.epoch.fast then s2 else { s2 with power := { s2.power with idleByCommit := s2.power.idleByCommit || decide (s.epoch.oldMode = 4) } }
  abortOwn s3

/-- The end of a commit that has applied (R33): the staged values are spent, dies that go down are unpowered, a lower VCORE is
requested, and a join is over (R183). -/
def finishOwn (s : State) : State :=
  let host := decide (s.epoch.kind = .host)
  let join := !host && decide (twinState s = 2) && s.twin.copyDone
  let s1 := wr s O.epoch_current ((rd s O.epoch_current + 1) % 4294967296)
  let s2 := if host then { s1 with staged := [], stagedBlobs := [], graph := { s1.graph with swapped := false } } else s1
  let s3 := if host then wr s2 (if packageBit s = 0 then O.target_mode_a else O.target_mode_b) 0 else s2
  let s4 := if host ∧ s.epoch.peerIn then wr s3 (if packageBit s = 0 then O.target_mode_b else O.target_mode_a) 0 else s3
  let dies := [0, 1, 2].filter (fun r => radioFitted s.fuse.part r && decide (rd s4 (O.pd_state (6 + r)) = 2) && decide (regionMode s4 (r + 1) 0 < 4))
  let s5 := dies.foldl dieDown s4
  let s6 := setPowerState s5 { s5.power with avsRaise := false, avsRaised := false,
                                             avsPending := s5.power.avsPending || decide (vcoreTarget s5 ≠ rd s5 O.vcore_target ∧ rd s5 O.vcore_target ≠ 0) }
  if join then enterSynced s6 else s6

/-! ### The coordinator (R33) -/

/-- A commit's record is closed; an automatic commit that waits stays (R184). -/
def clearEpoch (s : State) : State := setEpoch s { autoWaiting := s.epoch.autoWaiting }

/-- `first_laggard` and `laggard_count`. -/
def recordLaggards (s : State) (l : List Nat) : State :=
  let u := l.eraseDups
  let low := match u with
    | [] => 0
    | h :: t => t.foldl min h
  wr (wr s O.first_laggard low) O.laggard_count (min 0xFFFF u.length)

/-- A join's commit that ended ROLLED_BACK is tried again 100 ms later (R183). -/
def rolledBack (s : State) : State :=
  let join := decide (s.epoch.kind ≠ .host) && decide (twinState s = 2) && decide (s.twin.copy = some .source)
  let s1 := if join then setTwin s { s.twin with retryAuto := true } else s
  clearEpoch (wr (wr s1 O.epoch_result Status.rolledBack.code) O.epoch_phase 0)

/-- PREPARING ends with ABORT. -/
def abortCommit (s : State) (laggards : List Nat) : State :=
  let s1 := recordLaggards (abortOwn s) laggards
  rolledBack (if s.epoch.peerIn then varlanSend s1 1 (.epoch .abort) else s1)

/-- COMMIT accepted: PREPARE goes to all units in scope. -/
def startCommit (s : State) (kind : CommitKind) (peer : Bool) : State :=
  let s1 := setEpoch s { kind := kind, coordinator := true, waiting := epochUnits s peer, peerIn := peer, autoWaiting := s.epoch.autoWaiting }
  let auto := match kind with
    | .auto a b => some (a, b)
    | .host => none
  let s2 := if peer then varlanSend s1 1 (.epoch (.prepare auto)) else s1
  prepareOwn (wr (wr (wr s2 O.epoch_phase 1) O.first_laggard 0) O.laggard_count 0)

/-- COMMIT (R33), with R31's refusal first; the peer takes part in scope TWIN when a lead hears it (R36; log 48). -/
def epochCommit (s : State) : Status × State :=
  let m := packageMode s
  let twin := decide (rd s O.epoch_scope = 1)
  let peer := twin && decide (roleMode s = 8) && s.twin.hbFresh
  let targets := fun (t : State) => decide (ownTarget t ≠ 0) || (peer && decide (peerTarget t ≠ 0))
  let h := setEpoch s { s.epoch with kind := .host }
  if twin ∧ roleMode s = 9 then (.denied, s)
  else if rd s O.q_state = 2 then (.locked, s)
  else if rd s O.epoch_phase ≠ 0 ∨ s.epoch.peerPhase ≠ 0 ∨ m = 5 ∨ m = 6 ∨ m = 10 ∨ m = 12 then (.busy, s)
  else if anyStaged s = false ∧ targets h = false then (.ok, s)
  else (.deferred, startCommit s .host peer)

/-- EPOCH_COMMIT (R33). -/
def execEpochCommit (s : State) : Host.Outcome State Fault Refusal := act s fun s => command s O.epoch_cmd 1 epochCommit

/-- DISCARD (R33, R265): staged writes and target modes cleared. -/
def epochDiscard (s : State) : Status × State :=
  if rd s O.epoch_phase ≠ 0 ∨ s.epoch.peerPhase ≠ 0 then (.busy, s)
  else
    let t := { s with staged := [], stagedBlobs := [], graph := { s.graph with shadow := if s.graph.copying then s.graph.shadow else s.graph.active } }
    (.ok, wr (wr t O.target_mode_a 0) O.target_mode_b 0)

/-- EPOCH_DISCARD (R33). -/
def execEpochDiscard (s : State) : Host.Outcome State Fault Refusal := act s fun s => command s O.epoch_cmd 2 epochDiscard

/-- The instant `apply_guard` after now: the first boundary at or after it is the one chosen (R32). -/
def guardInstant (s : State) : Nat := tbNs s + rd s O.apply_guard * 1000

/-- All units have prepared: APPLY_AT (R33). -/
def allPrepared (s : State) : State :=
  let t := guardInstant s
  let s1 := setEpoch (wr s O.epoch_phase 2) { s.epoch with earliest := some t, waiting := epochUnits s s.epoch.peerIn }
  if s.epoch.peerIn then varlanSend s1 1 (.epoch (.applyAt t)) else s1

/-- An acknowledgement taken by the coordinator, or passed to it by the peer's Ledger. -/
def dropWaiting (s : State) (h : Nat) : State := setEpoch s { s.epoch with waiting := s.epoch.waiting.filter (fun x => x ≠ h) }

/-- Acknowledgements of a unit that was reset, or whose package left the commit, do not count (R33, R34). -/
def ackCounts (s : State) (h : Nat) : Bool := s.epoch.waiting.contains h && !(s.epoch.lost.contains h)

/-- UNIT_PREPARED on the coordinator. -/
def coordPrepared (s : State) (h : Nat) (agrees : Bool) : State :=
  if ackCounts s h = false then s
  else if hidOwn s h && unitWaits s h && agrees then s
  else
    let t := if hidOwn s h then unitChecked s h else s
    if !agrees || (hidOwn s h && unitRefuses s h) then abortCommit t [h]
    else
      let u := dropWaiting t h
      if u.epoch.waiting = [] then allPrepared u else u

/-- UNIT_PREPARED on the peer (R31): the answer goes to the coordinator. -/
def peerPrepared (s : State) (h : Nat) (agrees : Bool) : State :=
  if ackCounts s h = false ∨ (unitWaits s h && agrees) = true then s
  else varlanSend (dropWaiting (unitChecked s h) h) 1 (.epochAck 1 h (agrees && !(unitRefuses s h)))

/-- UNIT_PREPARED (R30, R33): a unit of a package in scope acknowledges or refuses. -/
def execUnitPrepared (hid : BitVec 24) (agrees : Bool) (s : State) : Host.Outcome State Fault Refusal :=
  act s fun s =>
    let h := hid.toNat
    if rd s O.epoch_phase = 1 then coordPrepared s h agrees
    else if s.epoch.peerPhase = 1 then peerPrepared s h agrees
    else s

/-- PREPARE_TIMEOUT (R33). -/
def execPrepareTimeout (s : State) : Host.Outcome State Fault Refusal :=
  act s fun s => if rd s O.epoch_phase = 1 then abortCommit s (s.epoch.waiting ++ s.epoch.lost) else s

/-- All units have applied (R33): DONE. -/
def allApplied (s : State) : State :=
  let s1 := if s.epoch.peerIn then varlanSend s 1 (.epoch .done) else s
  clearEpoch (wr (wr (finishOwn s1) O.epoch_result Status.ok.code) O.epoch_phase 0)

/-- UNIT_APPLIED (R30, R33). -/
def execUnitApplied (hid : BitVec 24) (s : State) : Host.Outcome State Fault Refusal :=
  act s fun s =>
    let h := hid.toNat
    if s.epoch.switched = false ∨ ackCounts s h = false then s
    else
      let t := dropWaiting s h
      let u := setEpoch t { t.epoch with applied := t.epoch.applied ++ [h] }
      if rd s O.epoch_phase = 2 then (if u.epoch.waiting = [] ∧ u.epoch.lost = [] then allApplied u else u)
      else if s.epoch.peerPhase = 3 then varlanSend u 1 (.epochAck 2 h true)
      else s

/-- APPLY_TIMEOUT (R33): laggards recorded, ROLLBACK_AT sent. -/
def execApplyTimeout (s : State) : Host.Outcome State Fault Refusal :=
  act s fun s =>
    if rd s O.epoch_phase = 2 ∧ s.epoch.switched then
      let t := guardInstant s
      let s1 := recordLaggards s (s.epoch.waiting ++ s.epoch.lost)
      let applied := s.epoch.applied.filter (fun h => !(s.epoch.lost.contains h))
      let s2 := setEpoch (wr s1 O.epoch_phase 3) { s.epoch with earliest := some t, switched := false, waiting := applied, laggards := s.epoch.waiting ++ s.epoch.lost }
      if s.epoch.peerIn then varlanSend s2 1 (.epoch (.rollbackAt t)) else s2
    else s

/-- UNIT_RESTORED (R33). -/
def execUnitRestored (hid : BitVec 24) (s : State) : Host.Outcome State Fault Refusal :=
  act s fun s =>
    let h := hid.toNat
    if s.epoch.switched = false ∨ ackCounts s h = false then s
    else
      let t := dropWaiting s h
      if rd s O.epoch_phase = 3 then (if t.epoch.waiting = [] then rolledBack t else t)
      else if s.epoch.peerPhase = 4 then
        let u := varlanSend t 1 (.epochAck 3 h true)
        if u.epoch.waiting = [] then clearEpoch u else u
      else s

/-- AUTO_COMMIT (R184): the twin unit's own commit starts once `epoch_phase` is IDLE, if what it is for still stands. In QUARANTINE
it waits (DEDUCED, log 46). -/
def execAutoCommit (s : State) : Host.Outcome State Fault Refusal :=
  act s fun s =>
    match s.epoch.autoWaiting with
    | none => s
    | some (a, b) =>
      let m := packageMode s
      if rd s O.epoch_phase ≠ 0 ∨ s.epoch.peerPhase ≠ 0 ∨ servingMode m = false ∨ m = 10 then s
      else
        let t := setEpoch s { s.epoch with autoWaiting := none }
        let join := decide (a = 8 ∨ b = 8)
        if join then
          (if twinState s = 2 ∧ s.twin.copyDone ∧ s.twin.copy = some .source then startCommit t (.auto a b) true else t)
        else if roleMode s = 8 then startCommit t (.auto a b) false
        else t

/-! ### The peer's part (R31, R33, R35) -/

/-- A message of the coordinator (R33). -/
def epochMessage (s : State) : EpochMsg → State
  | .prepare auto =>
    if s.epoch.peerPhase ≠ 0 ∨ rd s O.epoch_phase ≠ 0 then s
    else
      let kind := match auto with
        | some (a, b) => CommitKind.auto a b
        | none => .host
      prepareOwn (setEpoch s { kind := kind, waiting := ownUnits s, peerIn := true, autoWaiting := s.epoch.autoWaiting, peerPhase := 1 })
  | .applyAt t =>
    if s.epoch.peerPhase = 1 then setEpoch s { s.epoch with peerPhase := 2, earliest := some t, waiting := ownUnits s } else s
  | .done => if s.epoch.peerPhase = 3 then clearEpoch (finishOwn s) else s
  | .abort => if s.epoch.peerPhase = 1 then clearEpoch (abortOwn s) else s
  | .rollbackAt t =>
    if s.epoch.peerPhase = 3 then
      setEpoch s { s.epoch with peerPhase := 4, earliest := some t, switched := false, waiting := s.epoch.applied }
    else if s.epoch.peerPhase = 2 then clearEpoch (abortOwn s)
    else s

/-- EPOCH_MESSAGE_RECEIVED (R33). -/
def execEpochMessageReceived (v : VHead) (m : EpochMsg) (s : State) : Host.Outcome State Fault Refusal :=
  act s fun s => onMessage s 1 v fun s => epochMessage s m

/-- PEER_DONE_TIMEOUT (R35): units that have applied restore the old epoch on their own; a package that has only prepared leaves the
commit as by ABORT (DEDUCED, log 48). -/
def execPeerDoneTimeout (s : State) : Host.Outcome State Fault Refusal :=
  act s fun s =>
    if s.epoch.peerPhase = 0 then s
    else
      let t := if 3 ≤ s.epoch.peerPhase then restoreOwn s else abortOwn s
      clearEpoch (wr t O.epoch_result Status.rolledBack.code)

/-! ### The Ostler frame boundary (R32, R151 to R155) -/

/-- What a boundary switches: an apply or a rollback whose instant has come. -/
def boundarySwitch (s : State) : State :=
  let due := match s.epoch.earliest with
    | some t => decide (t ≤ tbNs s) && !s.epoch.switched
    | none => false
  if due = false then s
  else if rd s O.epoch_phase = 2 then applyOwn s
  else if s.epoch.peerPhase = 2 then
    let t := applyOwn s
    setEpoch t { t.epoch with peerPhase := 3 }
  else if rd s O.epoch_phase = 3 then
    let t := restoreOwn (setEpoch s { s.epoch with switched := true })
    if s.epoch.waiting = [] then rolledBack t else t
  else if s.epoch.peerPhase = 4 then
    let t := restoreOwn (setEpoch s { s.epoch with switched := true })
    if s.epoch.waiting = [] then clearEpoch t else t
  else s

/-- The serving mode chosen at the end of TRAIN begins (R525); a latched module takes QUARANTINE in its place (R473). -/
def bootMode (s : State) : State :=
  match s.boot.chosen with
  | none => s
  | some m =>
    let t := { s with boot := { s.boot with chosen := none, waiting := false } }
    if packageMode s ≠ 6 then t
    else if s.tinker.latched then setMode (wr (setTinker t { t.tinker with modeLeft := m, roleLeft := m }) O.q_state 2) 12
    else setMode t m

/-- What of a frame's plan was not reached when its frame ends is skipped (R171). -/
def endFrame (s : State) (r : Nat) : State :=
  let l := (radioPlan s r).running
  skipAll (setPlan s r { radioPlan s r with running := [] }) r l

/-- The frame's plan begins (R151, R170). -/
def beginPlan (s : State) (r : Nat) : State :=
  setPlan s r { radioPlan s r with running := (radioPlan s r).closed, closed := [], slip := 0, doubled := 0 }

/-- The part of a move that the coming frame takes (R155): all of what is left in one step, or `sync_slew` by slewing. -/
def moveStep (s : State) : State :=
  let m := s.move
  if m.left = 0 then s
  else if 0 < m.wait then { s with move := { m with wait := m.wait - 1 } }
  else
    let lim : Int := rd s O.sync_slew * 1000
    let d := if m.slewing then max (-lim) (min lim m.left) else m.left
    let left := m.left - d
    let t := rephase { s with move := { m with left := left, slewing := m.slewing && decide (left ≠ 0) } } (rdI s O.frame_phase + d)
    if left = 0 ∧ m.fromSync then wr t O.sync_state 2 else t

/-- What the mirror carries at each boundary (R194): scoreboards that have moved, and the rate store. -/
def boundaryMirror (s : State) : State :=
  if mirrors s then
    (stationsInUse s).foldl (fun t i =>
      let moved := (station t i).boards.filter (fun e => decide (0 < e.2.unsent))
      let t1 := moved.foldl (fun u e => mirrorBoard u i e.1) t
      (station t1 i).rate.foldl (fun u e => mirror u (.rate i e.1 e.2)) t1) s
  else s

/-- FRAME_BOUNDARY (R32, R151): frame n begins. The frame that ended gives back what it did not send; commits switch; the plan that
closed runs; the frame after it gets its length. It runs in IDLE and above. -/
def execFrameBoundary (s : State) : Host.Outcome State Fault Refusal :=
  act s fun s =>
    if packageMode s < 4 then s
    else
      let s1 := [0, 1, 2].foldl endFrame s
      let s2 := bootMode (boundarySwitch s1)
      let s3 := startAdmitted s2
      let s4 := [0, 1, 2].foldl beginPlan s3
      let s5 := bump { s4 with planClosed := false,
                               ost := { s4.ost with began := s4.now, beganTb := tbNs s4, frameLength := 1000000 },
                               move := { s4.move with edgeSeen := false } } O.frame_count
      let s6 := boundaryMirror (followAll (moveStep s5))
      (s6.miller.air.map (fun e => e.1)).foldl airWake s6

end Sys2Proof.Machine
end

