-- ==== Sys2Proof/Machine/Resets.lean ====
section
/-! DEFINITION. Resets of units and levels (R21, R23 to R25, R77, R80, R93, R282, R345, R384, R387): what the reset of each unit of the
unit tables clears, and the reset of a level as the reset of its units together. Values of objects are configuration and stay; states that
commands or traffic began are cleared. -/

namespace Sys2Proof.Machine

/-! ### The radio dies (R75) -/

/-- The synthesiser restarts: its lock is lost, a PPDU on air is cut, and the radio settles again where it was tuned. -/
def resetSynth (s : State) (r : Nat) : State :=
  let t := setLocked (cutPpdu s r) r false
  if 3 ≤ rState s r ∧ rState s r ≤ 6 then setRState t r 3 else t

/-- The radio sequencer's state machine and its queue (R80): PAs off, SLEEP, and the radio goes on from there as its target says. A
command taken and not yet sent is reported as not sent. -/
def resetSequencer (s : State) (r : Nat) : State :=
  if rState s r = 0 then s
  else
    let x := radio s r
    let t := cutPpdu s r
    let u := setRadio t r { radio t r with cmds := [], cal := none, crystal := false, afterPpdu := none, trainFull := false }
    let v := x.cmds.foldl (fun a c => txReport a r c .synthNotReady) u
    let w := { v with boot := { v.boot with fulls := v.boot.fulls.filter (fun j => j ≠ r) } }
    follow (setLocked (setRState w r 1) r false) r

/-- A calibration that an engine runs ends; the coefficients stay (R483). -/
def resetEngine (s : State) (r chain unit : Nat) : State :=
  match (radio s r).cal with
  | some k =>
    if decide (3 ≤ k.kind) && decide (k.chains.head? = some chain) && decide (calEngine k.kind = unit) then
      setRadio s r { radio s r with cal := none }
    else s
  | none => s

/-- A radio-wide engine: a PHASE_ALIGN or a FULL that runs ends. -/
def resetRadioWide (s : State) (r : Nat) : State :=
  match (radio s r).cal with
  | some k => if k.kind ≤ 2 then follow (setRState (setRadio s r { radio s r with cal := none }) r 4) r else s
  | none => s

/-- One unit of radio `r`'s die. -/
def resetRadioUnit (s : State) (r region cluster unit : Nat) : State :=
  let x := radio s r
  if region = 0 then (if cluster = 0 then resetSynth s r else if cluster = 2 then resetSequencer s r else s)
  else if region = 1 then setRadio s r { x with resetSince := (2 * cluster + unit) :: x.resetSince.filter (fun j => j ≠ 2 * cluster + unit) }
  else if cluster = 16 then resetRadioWide s r
  else resetEngine s r cluster unit

/-! ### The host interface, region 0 (R532) -/

/-- One queue as a reset of the PCIe endpoint leaves it (R507). -/
def resetEndpoint (s : State) : State :=
  let s1 := (List.range 64).foldl perstQueue s
  { s1 with
    led := dropMailbox s1.led,
    boot := { s1.boot with pcieUp := false }, time := { s1.time with snapTb := 0, snapStatus := 0 } }

/-- A Scrivener engine: the messages it holds and its transport state; the replay map stays until the next BOOT (R51). -/
def resetScrivener (s : State) (t : Transport) : State :=
  let l := { s.led with arrivals := s.led.arrivals.filter (fun a => a.transport ≠ t),
                        hung := s.led.hung.map (fun h => if h.transport = some t then { h with arrival := none } else h) }
  { s with led := match t with
    | .eth => l
    | .mailbox => { l with mbStatus := 0, mbRespLen := 0 }
    | .spi => { l with spiState := 3, spiResp := [] } }

/-- The boot-flash controller: a save or clear that runs is broken off, and its result is that of one that did not finish. -/
def resetFlash (s : State) : State :=
  match s.led.saveOp with
  | some _ => setFlag (wr { s with led := { s.led with saveOp := none } } O.save_result Status.timeout.code) O.save_busy false
  | none => s

/-! ### The air MAC, region 1 (R112) -/

/-- The scoreboard and reorder memory: what is held is dropped, and every agreement of the receive side goes. -/
def resetBoards (s : State) : State :=
  (stationsInUse s).foldl (fun t i => setStation (dropHolds t i) i { station (dropHolds t i) i with boards := [], cache := none }) s

/-- The TWT table: agreements and places in broadcast schedules. -/
def resetTwt (s : State) : State :=
  let t := (s.mac.twt.map (fun e => e.1)).foldl (fun t k => setTwt t k none) s
  t.mac.members.foldl (fun u e => setMembers u (e.1 / 8) (e.1 % 8) []) t

/-- One unit of region 1. -/
def resetAirUnit (s : State) (cluster unit : Nat) : State :=
  if cluster = 0 then setMac s { s.mac with nav := s.mac.nav.del unit, ppdu := s.mac.ppdu.del unit, deauths := s.mac.deauths.filter (fun d => d.1 ≠ unit) }
  else if cluster = 1 then (if unit = 0 then (stationsInUse s).foldl staRemove s else resetBoards s)
  else if cluster = 2 then
    { setMac s { s.mac with beaconFails := s.mac.beaconFails.del unit } with ost := { s.ost with beacons := otherBeacons s unit } }
  else if cluster = 3 then resetTwt s
  else bhRefresh (wr (setMac s { s.mac with missed := s.mac.missed.filter (fun e => e.1 < 3), regained := [] }) O.bh_links 0)

/-! ### The Ostler, region 2 (R150, R181) -/

/-- One unit of region 2. -/
def resetPlanUnit (s : State) (cluster unit : Nat) : State :=
  if cluster = 0 then
    (if unit = 0 then endGrants { s with ost := { s.ost with triggered := [], tally := [] } } else emptyPlans s)
  else if cluster = 1 then skipAll (setPlan s unit { radioPlan s unit with running := [] }) unit (radioPlan s unit).running
  else if cluster = 2 then
    (stationsInUse s).foldl (fun t i =>
      let x := station t i
      setStation t i (if unit = 0 then { x with csiAt := [], corr := [], credit := 0, bsr := 0, bsrAt := none } else { x with rate := [], good := [] })) s
  else if cluster = 3 then wr { s with move := {} } O.sync_state (if rd s O.sync_mode = 1 then 1 else 0)
  else setTwin s { s.twin with pairTx := [], pairFallen := [], jointCsi := [] }

/-! ### The Locksmith, region 3 and the SecYs (R215) -/

/-- Frames in the cipher engines are lost: no verdict comes, so none of them goes on. -/
def dropFlights (s : State) (gone : List InFlight) : State :=
  let t := setLock s { s.lock with flight := s.lock.flight.filter (fun f => !(gone.contains f)) }
  recheckAll (gone.foldl (fun u f => if f.macsec then verdictFail u f.id else verdictBad u f.id) t)

/-- The replay and transmit PN store: every key starts again as INSTALL left it. -/
def resetReplay (s : State) (k : Nat) : State :=
  let rsc := slotVal s k O.key_rsc
  setSlot s k { keySlot s k with replay := (List.range 10).map (fun c => (c, rsc)), warned := false }

/-- One unit of region 3; of 16 engines it is free which holds a frame in flight (log 1). -/
def resetCipherUnit (s : State) (cluster unit : Nat) : State :=
  if cluster = 0 then
    let air := s.lock.flight.filter (fun f => !f.macsec)
    air.foldl (fun t f => if freeBelow t 16 = unit then dropFlights (freeNext t) [f] else freeNext t) s
  else if cluster = 1 then
    (if unit = 0 then (let t := (slotsInUse s).foldl slotZero s; setLock t { t.lock with keyValue := [] })
     else (slotsInUse s).foldl resetReplay s)
  else if cluster = 2 then s.lock.waiting.foldl refuseMpdu (setLock s { s.lock with waiting := [] })
  else s

/-- A SecY: its secure associations and what it holds in flight. -/
def resetSecY (s : State) (p : Nat) : State :=
  let own := fun (i : Nat) => decide (i / 8 = msPort s p)
  let t := dropFlights s (s.lock.flight.filter (fun f => f.macsec && own f.slot))
  setLock t { t.lock with assocs := t.lock.assocs.filter (fun e => !(own e.1)) }

/-! ### The Assayer and the switch, regions 4 and 5 (R246, R268, R287) -/

/-- One unit of region 4. Graph and rules are reloaded from the Ledger store's copies, which nothing here changes; rule rows lose what
was faulty in a bank (R282). -/
def resetAssayUnit (s : State) (cluster unit : Nat) : State :=
  if cluster = 1 then
    (if unit = 0 then { s.entering.foldl (fun t f => dropLeg t f.buf) s with entering := [] }
     else if unit = 1 then setGraph s { s.graph with bad := [], lastBad := none }
     else setGraph s { s.graph with lastExc := [] })
  else if cluster = 8 then
    setRules s { s.rules with current := { s.rules.current with faulty := [] }, other := { s.rules.other with faulty := [] } }
  else s

/-- One unit of region 5. Routes, next hops, groups, VLANs and tunnels are configuration. -/
def resetSwitchUnit (s : State) (cluster unit : Nat) : State :=
  if cluster = 1 then
    (if unit = 0 then setSwitch s { s.switch with cache := [] }
     else if unit = 1 then setSwitch s { s.switch with slots := [] }
     else (s.switch.flows.map (fun e => e.1)).foldl freeRec s)
  else if cluster = 2 ∧ unit = 0 then setFdb s []
  else s

/-! ### Queues, tasks and the DRAM, regions 6 to 8 (R313, R340, R354) -/

/-- Every queue flushed: air, wired, host, Varlan and group-addressed frames, and what plans hold bound. -/
def flushQueues (s : State) : State :=
  let s1 := (dropFrames s (fun _ => true) (fun _ => true)).2
  let s2 := (s1.miller.air.map (fun e => e.1)).foldl airFlush s1
  let s3 := (s2.miller.wired.filter (fun e => !(e.2.frames.isEmpty))).foldl (fun t e => wiredFlush t (e.1 / portQueues t) e.1 none) s2
  let bufs := s3.miller.host.flatMap (fun e => e.2.map (fun f => f.buf)) ++ s3.miller.varlan.map (fun f => f.buf) ++
    s3.miller.group.flatMap (fun e => e.2.map (fun f => f.buf))
  bufs.foldl dropLeg (setMiller s3 { s3.miller with host := [], varlan := [], group := [] })

/-- Every cell freed: no buffer is left, and no cell is missing from the free lists. -/
def freeAllCells (s : State) : State :=
  let t := s.miller.bufs.foldl (fun t e => freeBuf t e.1 e.2) (flushQueues s)
  setMiller t { t.miller with bufs := [], unowned := 0 }

/-- The air scheduler starts again with every queue that holds frames. -/
def resetAirSched (s : State) : State :=
  let t := setMiller s { s.miller with airSched := {}, air := s.miller.air.map (fun e => (e.1, { e.2 with deficit := 0, stamp := 0 })) }
  (t.miller.air.map (fun e => e.1)).foldl airWake t

/-- The wired scheduler: deficits and turns. -/
def resetWiredSched (s : State) : State :=
  setMiller s { s.miller with wired := s.miller.wired.map (fun e => (e.1, { e.2 with deficit := 0, turn := false })) }

/-- One unit of region 6. -/
def resetQueueUnit (s : State) (cluster unit : Nat) : State :=
  if cluster = 0 then (if unit = 0 ∨ unit = 2 then freeAllCells s else s)
  else if cluster = 1 then (if unit = 0 then resetAirSched s else if unit = 1 then resetWiredSched s else flushQueues s)
  else if unit = 1 then setMiller s { s.miller with meters := [] }
  else s

/-- One unit of region 7: tokens are cancelled without a counter (R345). -/
def resetTaskUnit (s : State) (cluster unit : Nat) : State :=
  let c := s.carter
  if cluster = 0 then
    (if unit = 0 then (c.tokens.map (fun t => t.id)).foldl cancelToken s else setCarter s { c with quiesced := false })
  else if cluster = 1 then
    ((if unit = 0 then c.urgent ++ c.normal else c.ringUrgent ++ c.ringNormal).map (fun k => k.token.id)).foldl cancelToken s
  else setCarter s { c with service := if unit = 0 then [] else c.service }

/-- One unit of region 8: requests at a channel, panic, the patrol, attempts of training. -/
def resetDramUnit (s : State) (cluster unit : Nat) : State :=
  if cluster = 0 then panicLevels (setChannel s unit {})
  else if cluster = 1 then
    (if unit = 0 then [0, 1, 2].foldl (fun t k => wr t (O.dp_panic k) 0) (setDram s { s.dram with panic := [] })
     else if unit = 1 then setDram s { s.dram with patrol := 0 }
     else setDram s { s.dram with attempts := if rd s O.dram_state = 1 then [] else s.dram.attempts })
  else s

/-! ### Region 9: lanes and ports (R181, R287) -/

/-- A Varlan lane trains again. -/
def resetLane (s : State) (l : Nat) : State :=
  if bit (rd s O.varlan_lanes) l then
    let t := laneRefresh (wr (setTwin s { s.twin with training := setBit s.twin.training l }) O.varlan_lanes (clrBit (rd s O.varlan_lanes) l))
    if lanesUp t = 0 then unsync t else t
  else s

/-- An uplink port goes DOWN and trains again. -/
def resetPort (s : State) (p : Nat) : State :=
  if p < portCount s then portDown s p (if flag s (O.port_enable p) then 1 else 0) else s

/-- One unit of region 9. -/
def resetLinkUnit (s : State) (cluster unit : Nat) : State :=
  if cluster = 0 then resetPort s (unit / (8 / portCount s))
  else if cluster = 1 then resetPort s unit
  else if cluster = 4 then resetLane s unit
  else if cluster = 6 then resetSecY s unit
  else s

/-! ### Regions 10 to 14 -/

/-- One unit of region 10 (R390). -/
def resetTimeUnit (s : State) (cluster unit : Nat) : State :=
  if cluster = 0 then
    (if unit = 0 then (if rd s O.ref_state = 0 then s else wr s O.ref_state 1)
     else setTbState { s with tb := 0, time := { s.time with acc := 0, slewLeft := 0, good := 0, bad := 0, uncertainty := 0, since := s.now } } 0)
  else if cluster = 1 then sourceLost (setTime s { s.time with ports := [], offsets := [], good := 0, bad := 0 })
  else if cluster = 3 ∧ unit = 0 then setTime s { s.time with ppsRun := 0 }
  else s

/-- The activity table: every activity stops where it is and leaves no record. -/
def resetActivities (s : State) : State :=
  let t := s.steward.running.foldl stopEngine s
  { t with steward := { t.steward with running := [], queue := [], inflight := none, answeredWait := false, waitingPeer := false } }

/-- The twin unit: what was heard of the peer is gone, and the pair state starts again, a takeover apart. -/
def resetTwinUnit (s : State) : State :=
  let t := setTwin s { s.twin with hb := none, hbFresh := false, hbSeen := none, standDown := false, kind48Sent := false }
  let u := setFlag (wr t O.peer_mode 1) O.peer_present false
  if twinState s = 0 ∨ twinState s = 5 then u else twinTo (dropCopy (releaseHeld u)) 1

/-- One unit of region 11 (R463, R478, R181). The log and its counts stand since the package reset (R475); the latch and the history lie in
the backup domain. -/
def resetControlUnit (s : State) (cluster unit : Nat) : State :=
  if cluster = 0 then
    (if unit = 0 then setTinker s { s.tinker with queue := [], fullOwed := false, forceBits := [] }
     else if unit = 1 then setTinker s { s.tinker with deferred := none }
     else s)
  else if cluster = 1 then (if unit = 1 then resetActivities s else s)
  else if unit = 0 then resetTwinUnit s
  else if unit = 1 then unsync (setTwin s { s.twin with waitingRecs := [], unacked := [] })
  else setTwin s { s.twin with aliveFresh := false }

/-- One unit of region 12: what the planner has gathered; the plan store lies in flash. -/
def resetSurveyUnit (s : State) (unit : Nat) : State :=
  if unit = 1 then { s with survey := { s.survey with items := [], weak := [], warned := false, vcoreRetry := false } } else s

/-- One unit of region 14: a GFP timer is disarmed and its captures go; the pin multiplexer holds configuration. -/
def resetPinUnit (s : State) (cluster unit : Nat) : State :=
  if cluster = 1 then wr (setGfpTimer s unit {}) (O.gt_state unit) 0 else s

/-- One unit of die 5 (R437). -/
def resetPowerUnit (s : State) (cluster unit : Nat) : State :=
  if cluster = 1 ∧ unit = 1 then
    wr (setPowerState s { s.power with avsPending := false, avsTarget := none, avsRetries := 0, avsRaise := false, avsAge := false }) O.avs_state 0
  else s

/-! ### A unit and a level -/

/-- One unit of the hub die, by region. -/
def resetHubUnit (s : State) (region cluster unit : Nat) : State :=
  if region = 0 then
    (if cluster = 0 then (if unit = 0 then resetEndpoint s else (List.range 64).foldl perstQueue s)
     else if cluster = 1 then resetScrivener s (if unit = 0 then .eth else if unit = 1 then .mailbox else .spi)
     else if unit = 1 then resetFlash s else s)
  else if region = 1 then resetAirUnit s cluster unit
  else if region = 2 then resetPlanUnit s cluster unit
  else if region = 3 then resetCipherUnit s cluster unit
  else if region = 4 then resetAssayUnit s cluster unit
  else if region = 5 then resetSwitchUnit s cluster unit
  else if region = 6 then resetQueueUnit s cluster unit
  else if region = 7 then resetTaskUnit s cluster unit
  else if region = 8 then resetDramUnit s cluster unit
  else if region = 9 then resetLinkUnit s cluster unit
  else if region = 10 then resetTimeUnit s cluster unit
  else if region = 11 then resetControlUnit s cluster unit
  else if region = 12 then resetSurveyUnit s unit
  else if region = 14 then resetPinUnit s cluster unit
  else s

/-- The reset of one unit, by the low 21 bits of its HID (R21). -/
def resetUnit (s : State) (u : Nat) : State :=
  let die := hidDie u
  if die = 0 then resetHubUnit s (hidRegion u) (hidCluster u) (hidUnit u)
  else if die ≤ 3 then resetRadioUnit s (die - 1) (hidRegion u) (hidCluster u) (hidUnit u)
  else if die = 5 then resetPowerUnit s (hidCluster u) (hidUnit u)
  else s

/-- The clock domains whose crossings a reset of a level clears (R21, R373, R384): those of a region or a die, in whole or in part. -/
def levelDomains (h : Nat) : List Nat :=
  if hidCluster h ≠ 63 then []
  else (List.range 18).filter (fun d =>
    if d = 0 ∨ d = 12 then decide (hidDie h = 0 ∧ hidRegion h = 10)
    else if d = 1 then decide (hidDie h = 0 ∧ hidRegion h ∈ [0, 11, 12, 14])
    else if d = 2 then decide (hidDie h = 0 ∧ hidRegion h = 0)
    else if d ≤ 11 then decide (hidDie h = 0 ∧ hidRegion h = d - 2)
    else if d = 13 then false
    else if d = 17 then decide (hidDie h = 5)
    else decide (hidDie h = d - 13))

/-- A fenced domain of the level relocks (R387). -/
def relock (s : State) (d : Nat) : State :=
  if clkState s d = 2 then setClk s d (if domainWanted s d then 1 else 0) else s

/-- What a whole region's reset adds to that of its units: all frames in the cipher engines go, and the Assayer's banks are both the current
version again (R282). -/
def resetWholeRegion (s : State) (h : Nat) : State :=
  if hidDie h = 0 ∧ hidCluster h = 63 then
    (if hidRegion h = 3 then dropFlights s (s.lock.flight.filter (fun f => !f.macsec))
     else if hidRegion h = 4 then ruleReload s
     else s)
  else s

/-- The reset of a level below the package (R21, R23, R33): its units together, their claims released, its fenced domains relocked; in a commit
its units no longer acknowledge. -/
def resetLevel (s : State) (h : Nat) : State :=
  let us := (fittedUnits s.fuse.part).filter (inLevel h)
  let s1 := us.foldl resetUnit (releaseLevel s h)
  let s2 := (levelDomains h).foldl relock (resetWholeRegion s1 h)
  if rd s O.epoch_phase ≠ 0 ∨ s.epoch.peerPhase ≠ 0 then
    setEpoch s2 { s2.epoch with lost := s2.epoch.lost ++ us.map (fun u => s.system * 4194304 + packageBit s * 2097152 + u) }
  else s2

/-- RESTORE_TIMEOUT (R33): each unit that has not restored gets a region reset and is reported with kind 0x05. -/
def restoreLate (s : State) (h : Nat) : State :=
  report (if hidOwn s h then resetLevel s (hidOf s (hidDie h) (hidRegion h) 63 255) else s) 0x05 h 0

def execRestoreTimeout (s : State) : Host.Outcome State Fault Refusal :=
  act s fun s =>
    if rd s O.epoch_phase = 3 ∧ s.epoch.switched then
      let late := s.epoch.waiting.filter (fun h => !(s.epoch.lost.contains h))
      rolledBack (late.foldl restoreLate s)
    else s

end Sys2Proof.Machine
end

