-- ==== Sys2Proof/Machine/Saves.lean ====
section
/-! DEFINITION. Saved values (R44, R45) and claims on command (R68 to R72): what SAVE stores, the two slots of the boot flash, and
`claim_cmd`. -/

namespace Sys2Proof.Machine

/-! ### What is saved -/

/-- The access code of a register key's object. -/
def accessOf (k : Nat) : Option Access := (rowOf k).map (fun r => r.acc)

/-- A value that says more than the object's default; the default of a graph or rule object lies with its unit. -/
def beyondDefault (s : State) (k v : Nat) : Bool :=
  match rowOf k with
  | some r => decide (r.stg = .graph) || decide (r.stg = .rule) || decide (v ≠ defaultOf s k)
  | none => false

/-- The rule memory of a version as object values. -/
def ruleRegs (b : RuleBank) : Tab Nat :=
  b.rows.foldl (fun t e => (t.put (winKey e.1 O.rule_valid) 1).put (winKey e.1 O.rule_action) e.2.action)
    ((if b.miss = 0x40000000 then [] else [(O.rule_miss_action, b.miss)]) |> fun t => if b.width = 0 then t else t.put O.block_width b.width)
def ruleBlobs (b : RuleBank) : Tab Octets :=
  b.rows.foldl (fun t e => (t.put (winKey e.1 O.rule_value) e.2.value).put (winKey e.1 O.rule_mask) e.2.mask) []

/-- The rule memory that object values give. -/
def rulesOf (regs : Tab Nat) (blobs : Tab Octets) : RuleBank :=
  { width := regs.getD O.block_width 0, miss := regs.getD O.rule_miss_action 0x40000000,
    rows := (regs.filter (fun e => decide (e.1 % 16777216 = O.rule_valid) && decide (e.2 = 1))).foldl (fun t e =>
      let n := e.1 / 16777216
      t.put n { value := blobs.getD (winKey n O.rule_value) [], mask := blobs.getD (winKey n O.rule_mask) [],
                action := regs.getD (winKey n O.rule_action) 0 }) [] }

/-- A register of the store whose object has one of some access codes, where its value is not the default. -/
def heldValues (s : State) (l : List Access) : Tab Nat :=
  s.regs.filter (fun e => (match accessOf e.1 with | some a => l.contains a | none => false) && beyondDefault s e.1 e.2)
def heldBlobs (s : State) (l : List Access) : Tab Octets :=
  s.blobs.filter (fun e => (match accessOf e.1 with | some a => l.contains a | none => false) && decide (e.2 ≠ blobDefault s e.1))

/-- Every RWS value in force that is not its default (R44, R45). -/
def rwsRegs (s : State) : Tab Nat := putAll (putAll (heldValues s [.rws]) s.graph.active) (ruleRegs s.rules.current)
def rwsBlobs (s : State) : Tab Octets := putAll (heldBlobs s [.rws]) (ruleBlobs s.rules.current)

/-- What SAVE writes (R44): every RWS value in force. Objects whose default a strap sets are written whatever their value. -/
def savedRegs (s : State) : Tab Nat :=
  [O.ledger_node, O.transports, O.uplink_mode].foldl (fun t k => t.put k (rd s k)) (rwsRegs s)

/-! ### The slots -/

/-- A slot's generation, 0 when it is not valid. -/
def slotGen (x : SavedSet) : Nat := if x.valid then x.generation else 0

/-- The slot in use (R44): the valid one with the higher generation. -/
def slotInUse (l : Ledger) : SavedSet := if slotGen l.slot0 < slotGen l.slot1 then l.slot1 else l.slot0

/-- `save_dirty` (R45), where no save runs. -/
def saveDirty (s : State) : Bool :=
  let x := slotInUse s.led
  if x.valid then
    decide ((rwsRegs s).filter (fun e => beyondDefault s e.1 e.2) ≠ x.regs.filter (fun e => beyondDefault s e.1 e.2)) ||
    decide ((rwsBlobs s).filter (fun e => decide (e.2 ≠ blobDefault s e.1)) ≠ x.blobs.filter (fun e => decide (e.2 ≠ blobDefault s e.1)))
  else !((rwsRegs s).isEmpty && (rwsBlobs s).isEmpty)

/-- The Ledger's part changed. -/
def setLed (s : State) (l : Ledger) : State := { s with led := l }

/-- A save or a clear begins (R45): `save_dirty` keeps its value until the end. -/
def saveBegin (s : State) (op : SaveOp) : Status × State :=
  match s.led.saveOp with
  | some _ => (.busy, s)
  | none => (.deferred, setFlag (setFlag (setLed s { s.led with saveOp := some op }) O.save_dirty (saveDirty s)) O.save_busy true)

/-- SAVE (R44). -/
def saveStart (s : State) : Status × State := saveBegin s (.save (savedRegs s) (rwsBlobs s))
def execSave (s : State) : Host.Outcome State Fault Refusal := act s fun s => command s O.save_cmd 1 saveStart

/-- CLEAR (R45). -/
def clearStart (s : State) : Status × State := saveBegin s .clear
def execClearSaved (s : State) : Host.Outcome State Fault Refusal := act s fun s => command s O.save_cmd 2 clearStart

/-- What the slot in use shows (R45). -/
def showSlots (s : State) : State :=
  let x := slotInUse s.led
  setFlag (wr s O.save_generation (slotGen x)) O.saved_valid x.valid

/-- The end of a save or a clear. -/
def saveEnd (s : State) (result : Status) : State :=
  setFlag (wr (showSlots (setLed s { s.led with saveOp := none })) O.save_result result.code) O.save_busy false

/-- The flash as a finished operation leaves it (R44): a save overwrites the slot with the lower generation. -/
def flashWrite (l : Ledger) : SaveOp → Ledger
  | .clear => { l with slot0 := {}, slot1 := {} }
  | .save regs blobs =>
    let x : SavedSet := { valid := true, generation := max (slotGen l.slot0) (slotGen l.slot1) + 1, regs := regs, blobs := blobs }
    if slotGen l.slot1 < slotGen l.slot0 then { l with slot1 := x } else { l with slot0 := x }

/-- SAVE_COMPLETE (R45): the flash has erased and written. -/
def execSaveComplete (s : State) : Host.Outcome State Fault Refusal :=
  act s fun s =>
    match s.led.saveOp with
    | some op => saveEnd (setLed s (flashWrite s.led op)) .ok
    | none => s

/-- SAVE_TIMEOUT (R45): 2 s have passed, and the older slot stays in use. -/
def execSaveTimeout (s : State) : Host.Outcome State Fault Refusal :=
  act s fun s => if s.led.saveOp.isSome then saveEnd s .timeout else s

/-! ### Claims on command -/

/-- CLAIM (R69). -/
def claimCmd (s : State) : Status × State := claimFor s (rd s O.claim_owner) (rd s O.claim_resource)
def execClaim (s : State) : Host.Outcome State Fault Refusal := act s fun s => command s O.claim_cmd 1 claimCmd

/-- RELEASE (R70). -/
def releaseCmd (s : State) : Status × State :=
  match s.claims.look (rd s O.claim_resource) with
  | none => (.ok, s)
  | some h =>
    if h = rd s O.claim_owner then (.ok, { s with claims := s.claims.del (rd s O.claim_resource) })
    else (.conflict, bump s O.claim_conflicts)
def execRelease (s : State) : Host.Outcome State Fault Refusal := act s fun s => command s O.claim_cmd 2 releaseCmd

end Sys2Proof.Machine
end

