-- ==== Sys2Proof/Machine/Dormant.lean ====
section
/-! DEFINITION. Reset, DORMANT and the wake from it (R376, R400, R439, R449 to R460, R503 to R506): PORST_N and the straps, the entry
into DORMANT with its retention banks, and the wake sources. -/

namespace Sys2Proof.Machine

/-! ### Out of reset (R459, R504, R506) -/

/-- The hub die and what hangs on it are powered, and the clocks of IDLE run (R374, R445): the package is in IDLE. -/
def hubStart (s : State) : State :=
  let dies := ([0, 1, 2].filter (fun r => radioFitted s.fuse.part r)).map (fun r => 6 + r)
  let s1 := ([3, 4, 5] ++ dies).foldl (fun t d => setPower t d 2) (wr s O.package_mode 4)
  followAll ([0, 1, 2, 10, 11, 12].foldl (fun t d => setClk t d 1) s1)

/-- The alive line's pins are claimed for the twin unit (R191). -/
def claimAlive (s : State) : State :=
  if twinRole s = 0 then s else (claimFor (claimFor s (twinHid s) 0x102E).2 (twinHid s) 0x102F).2

/-- The module leaves reset with its straps fixed (R43, R376, R459): IDLE, with the transports as their defaults say. -/
def leaveReset (s : State) : State :=
  let s1 := if rd s O.ref_state = 0 then wr s O.ref_state 1 else s
  let s2 := hubStart { s1 with boot := { s1.boot with inReset := false } }
  claimAlive (setLed s2 { s2.led with node := rd s2 O.ledger_node, enabled := rd s2 O.transports })

/-- The bits that at least two of three samples show (R504). -/
def majority (a b c : Nat) : Nat :=
  (List.range 12).foldl (fun v i => putBit v i (decide (2 ≤ [a, b, c].countP (fun x => bit x i)))) 0

/-- PORST_RELEASE (R504, R506): at tR the straps are sampled three times, with VCORE above its release threshold. -/
def execPorstRelease (samples : List Nat) (s : State) : Host.Outcome State Fault Refusal :=
  done s (
    if s.boot.inReset ∧ s.power.inputOn ∧ rd s O.v12_state = 2 then
      let straps := majority (samples.getD 0 0) (samples.getD 1 0) (samples.getD 2 0)
      leaveReset { s with boot := { s.boot with straps := straps } }
    else s)

/-- PORST_ASSERT (R25, R440, R454, R460, R506): a package reset; a latched or stopped 12 V output starts again. With the input absent
there is nothing to reset. -/
def execPorstAssert (s : State) : Host.Outcome State Fault Refusal :=
  done s (
    if s.power.inputOn then
      let v := rd s O.v12_state
      let s1 := packageReset s
      let s2 := if v = 0 ∨ v = 3 then wr s1 O.v12_state 1 else s1
      setClk (if rd s2 O.ref_state = 0 then wr s2 O.ref_state 1 else s2) 13 1
    else s)

/-! ### Retention banks (R453, R454) -/

/-- Values of tables that bank 2 holds: next hops, groups, tunnels and VLANs. -/
def tableKey (k : Nat) : Bool :=
  let i := k % 16777216 / 256
  decide (0x5830 ≤ i ∧ i < 0x5860 ∧ k % 256 ≠ 1)

/-- Entries that no bank holds (R453): stations and key slots, whose staging sets are values like others. -/
def entryKey (k : Nat) : Bool :=
  let i := k % 16777216 / 256
  decide (k / 16777216 ≠ 0x10000) && (decide (i = 0x3100 ∧ 3 ≤ k % 256) || decide (i = 0x4801 ∧ 2 ≤ k % 256))

/-- Bank 0: every RW and RWS value in force outside the tables of banks 1 and 2, the templates in use among them. -/
def bankValues (s : State) : Bank :=
  let keep := fun (k : Nat) => !(tableKey k) && !(entryKey k) && !(heldKey (k % 16777216))
  { sealed := true, regs := (heldValues s [.rw, .rws]).filter (fun e => keep e.1),
    blobs := putAll ((heldBlobs s [.rw, .rws]).filter (fun e => keep e.1)) s.mac.templates }

/-- Bank 1: the current rules and the parse graph. -/
def bankRules (s : State) : Bank :=
  { sealed := true, regs := putAll s.graph.active (ruleRegs s.rules.current), blobs := ruleBlobs s.rules.current }

/-- Bank 2: routes, next hops, groups, VLANs and tunnels. -/
def bankTables (s : State) : Bank :=
  { sealed := true, regs := (heldValues s [.rws]).filter (fun e => tableKey e.1), blobs := (heldBlobs s [.rws]).filter (fun e => tableKey e.1),
    routes := (s.switch.v4 ++ s.switch.v6).map (fun r => (r.vrf, r.prefixBytes, r.len, r.nexthop)) }

/-- Banks 3 to 5: a radio die's coefficients; bank 5 holds the corrections of JOINT_ALIGN too. -/
def bankRadio (s : State) (r : Nat) : Bank :=
  let x := radio s r
  { sealed := true, coeff := x.coeff, pdTemp := x.pdTemp, pdAt := x.pdAt,
    alignedAt := if r = 2 then s.twin.alignedAt else none, alignAged := decide (r = 2) && s.twin.alignAged }

/-- The banks that this part seals. -/
def bankList (s : State) : List Nat := [0, 1, 2] ++ ([0, 1, 2].filter (fun r => radioFitted s.fuse.part r)).map (fun r => 3 + r) ++ [6]

/-- What a bank holds when it is sealed. Bank 6 holds the trained values of the channels, which no command shows. -/
def bankNow (s : State) (b : Nat) : Bank :=
  if b = 0 then bankValues s else if b = 1 then bankRules s else if b = 2 then bankTables s
  else if b = 6 then { sealed := true } else bankRadio s (b - 3)

/-- Every bank sealed; the signatures are CRCs of layouts that the spec does not give, and so free (log 1). -/
def sealBanks (s : State) : State :=
  let l := bankList s
  let s1 := setPowerState s { s.power with banks := l.map (fun b => (b, bankNow s b)) }
  let sig := (List.range 28).map (fun i => if l.contains (i / 4) then Config.freeByte s.free i else 0)
  freeNext (wrB (wr s1 O.retain_sealed (l.foldl setBit 0)) O.retain_sig sig)

/-! ### Entry (R449, R450) -/

/-- An alarm is ARMED with WAKE set. -/
def wakeAlarm (s : State) : Bool := [0, 1].any (fun a => decide (rd s (O.al_state a) = 1) && bit (rd s (O.al_flags a)) 1)

/-- The status of ENTER (R449). -/
def enterCheck (s : State) : Option Status :=
  if s.tinker.latched then some .locked
  else if rd s O.wake_enable = 0 ∧ wakeAlarm s = false then some .range
  else if packageMode s ≠ 4 ∨ rd s O.epoch_phase ≠ 0 ∨ epochStaged s ∨ 0 < logUsed s ∨ rd s O.rule_state ≠ 0 ∨ s.led.saveOp.isSome then some .busy
  else none

/-- The DORMANT record (R400). -/
def recordTime (s : State) : State :=
  setPowerState s { s.power with record := some {
    tb := s.tb, origin := s.time.origin, ticks := rd s O.bak_ticks, tbState := rd s O.tb_state, uncertainty := tbUncertainty s } }

/-- Steps 1 to 5 of R450. -/
def dormantEntry (s : State) : State :=
  let s1 := sealBanks (wr s O.wake_cause 0)
  let s2 := setMode { s1 with power := { s1.power with entryStep := 5, wakePending := 0, enteredAt := s.now, latchedPins := pinLevels s } } 3
  let s3 := send ((slotsInUse s2).foldl slotZero s2) (.ppsOut false)
  latchPads (wr (recordTime s3) O.ref_state 0) [0, 1, 2, 3, 4]

/-- ENTER (R449). -/
def dormantCmd (s : State) : Status × State :=
  match enterCheck s with
  | some st => (st, s)
  | none => (.ok, dormantEntry s)

def execDormantEnter (s : State) : Host.Outcome State Fault Refusal := act s fun s => command s O.dormant_cmd 1 dormantCmd

/-! ### The wake (R400, R451, R452) -/

/-- TB96 at the wake edge (R400): N ticks of 2 × 10^9 units of 2^-16 ns each at the nominal rate. -/
def rebuiltTb (s : State) (rec : DormantRecord) : Nat :=
  let n := (rd s O.bak_ticks + 281474976710656 - rec.ticks) % 281474976710656
  rec.tb + n * 2000000000 * 1000000000 / ((1000000000 : Int) + rdI s O.bak_rate_ppb).toNat

/-- TB96, its state and the TSF origin after a wake. -/
def rebuildTime (s : State) : State :=
  match s.power.record with
  | none => { s with tb := 0 }
  | some rec =>
    let st := if rec.tbState = 0 then 0 else 4
    let s1 := wr (wr { s with tb := rebuiltTb s rec } O.tb_state st) O.tb_valid (if st = 0 then 0 else 1)
    { s1 with time := { s1.time with origin := rec.origin, uncertainty := if st = 0 then 0 else 30518, since := s.now } }

/-- A radio's coefficients from its bank. -/
def restoreRadio (s : State) (r : Nat) : State :=
  match s.power.banks.look (3 + r) with
  | some b =>
    let s1 := setRadio s r { radio s r with coeff := b.coeff, pdTemp := b.pdTemp, pdAt := b.pdAt }
    if r = 2 then setTwin s1 { s1.twin with alignedAt := b.alignedAt, alignAged := b.alignAged } else s1
  | none => s

/-- The wake: the 12 V output and VCORE come up, the banks are checked, the package is in IDLE, and TB96 is rebuilt. -/
def wake (s : State) (banksOk : Nat) : State :=
  let failed := (bankList s).filter (fun b => (s.power.banks.getD b {}).sealed && !(bit banksOk b))
  let kept := (bankList s).filter (fun b => (s.power.banks.getD b {}).sealed && bit banksOk b)
  let s1 := wr (wr s O.v12_state 2) O.ref_state 1
  let s2 := { s1 with
    boot := { perst := s.boot.perst, straps := s.boot.straps, wake := true, banksOk := kept.foldl setBit 0 },
    power := { s1.power with wakePending := 0, entryStep := 0, wokeAt := s.now } }
  let s3 := rebuildTime (hubStart (wr s2 O.last_dormant_s (min 0xFFFFFFFF ((s.now - s.power.enteredAt) / 1000000000))))
  let s4 := failed.foldl bankFailed (setLed s3 { s3.led with node := rd s3 O.ledger_node, enabled := rd s3 O.transports })
  claimAlive ([0, 1, 2].foldl restoreRadio s4)

/-- Whether a wake source is enabled (R452): the bits of `wake_enable`, and an alarm that has fired with WAKE. -/
def wakeEnabled (s : State) (source : Nat) : Bool :=
  if source < 2 then bit (rd s O.wake_enable) source
  else if source < 4 then decide (rd s (O.al_state (source - 2)) = 2) && bit (rd s (O.al_flags (source - 2))) 1
  else false

/-- WAKE_SOURCE (R452, R460): during entry the wake begins after step 6. -/
def execWakeSource (source banksOk : Nat) (s : State) : Host.Outcome State Fault Refusal :=
  done s (
    if packageMode s = 3 ∧ s.power.inputOn ∧ wakeEnabled s source then
      let s1 := wr s O.wake_cause (setBit (rd s O.wake_cause) source)
      if s.power.entryStep ≠ 0 then setPowerState s1 { s1.power with wakePending := banksOk % 128 * 256 + 1 } else wake s1 banksOk
    else s)

/-- Registers that DORMANT keeps beside what a package reset keeps: the latched pads, and of the time base the frame count, its phase and
the crystal's rate (R400, R456). -/
def dormantKeys : List Nat := [O.pad_latched, O.frame_count, O.frame_phase, O.bak_rate_ppb]

/-- Step 6 of R450: VCORE and the rails are gone, and the retention and backup domains keep what they hold. -/
def unpowered (s : State) : State :=
  let t := powerOff (packageReset s)
  let u := dormantKeys.foldl (fun u k => wr u k (rd s k)) t
  wr (wr { u with boot := { u.boot with inReset := false },
                  power := { u.power with banks := s.power.banks, record := s.power.record, latchedPins := s.power.latchedPins } }
    O.package_mode 3) O.v12_state 0

/-- DORMANT_ENTRY_DONE (R450, R460). -/
def execDormantEntryDone (s : State) : Host.Outcome State Fault Refusal :=
  done s (
    if packageMode s = 3 ∧ s.power.entryStep ≠ 0 then
      let s1 := bump (unpowered s) O.dormant_entries
      if s.power.wakePending = 0 then s1 else wake s1 (s.power.wakePending / 256)
    else s)

end Sys2Proof.Machine
end

