-- ==== Sys2Proof/Machine/Flags.lean ====
section
/-! DEFINITION. The values and flags that an object computes when it is read (the spec's RO objects that show a table, a queue or
an age), and the entry that an object's selector names. -/

namespace Sys2Proof.Machine

/-! ### Windows and their selectors -/

/-- Where a radio die or hub region that `rm_select` names keeps its target (R446): a radio die's covers its regions. -/
def regionKey (h : Nat) : Nat :=
  if 1 ≤ hidDie h ∧ hidDie h ≤ 3 then regionInst (hidDie h) 15 else regionInst (hidDie h) (hidRegion h)

/-- The register key that an object's selector names (R113, R221, R255, R269, R296, R321, R330, R446, R468): a station or key entry's
parameters go to the staging set where the entry is EMPTY, and else to the entry. -/
def targetKey (s : State) (index sub : Nat) : Nat :=
  let k := objKey index sub
  let win := fun (sel first : Nat) => if first ≤ sub then winKey (rd s sel) k else k
  if index = 0x3100 then
    let i := rd s O.sta_select
    if sub ≤ 2 then k
    else if 4 ≤ sub ∧ sub ≤ 0x0B ∧ staState s i = 0 then winKey staStage k
    else winKey i k
  else if index = 0x3101 then win O.sta_select 1
  else if index = 0x4801 then
    let i := rd s O.key_select
    if sub = 7 then winKey keyStage k
    else if 2 ≤ sub ∧ sub ≤ 5 then winKey (if slotState s i = 0 then keyStage else i) k
    else if 9 ≤ sub then winKey i k
    else k
  else if index = 0x4802 then win O.key_select 1
  else if index = 0x5010 then win O.node_select 2
  else if index = 0x5011 then win O.tr_select 2
  else if index = 0x5401 then win O.rule_select 2
  else if index = 0x5830 then win O.nh_select 2
  else if index = 0x5838 then win O.grp_select 2
  else if index = 0x5840 then win O.tn_select 2
  else if index = 0x5850 then win O.vid_select 2
  else if index = 0x6020 ∧ sub = 8 then winKey (rd s O.aq_select / 4 * 4) k
  else if index = 0x6041 then win O.m_select 2
  else if index = 0x7808 then win O.kind_select 2
  else if index = 0x1102 ∧ sub = 2 then winKey (regionKey (rd s O.rm_select)) k
  else k

/-! ### Computed values -/

/-- A Boolean as a register value. -/
def flagNat (b : Bool) : Nat := if b then 1 else 0

/-- Milliseconds, microseconds or seconds since an instant of real time, at most `top`, which is also the value with none. -/
def ageOf (s : State) (since : Option Nat) (unit top : Nat) : Nat :=
  match since with
  | some t => min top ((s.now - t) / unit)
  | none => top

/-- `fit_of_query` and `mode_of_query` check their HID again (R39, R46, R28). -/
def queryStatus (s : State) (h : Nat) : Status :=
  if hidMalformed h || !(hidOwn s h) then .range else .ok

/-- `channel_ok` (R108): every unpunctured subchannel passes checks 2 and 3 of R83. -/
def channelOk (s : State) (r : Nat) : Bool :=
  let l := opChannels s r
  !(l.isEmpty) && !(regBlocked s r l) && !(noGrant s r l)

/-- `cal_state` (R108): 0 NONE, 1 QUEUED, 2 RUNNING, 3 YIELDED. -/
def calState (s : State) (r : Nat) : Nat :=
  match (radio s r).cal with
  | some c => if c.yielded then 3 else 2
  | none =>
    if (radio s r).trainFull then 2
    else if (s.steward.queue ++ s.steward.running).any (fun e => decide (e.activity ≤ 3 ∧ activityRadio e.activity e.target = r)) then 1
    else 0

/-- The values of a radio's objects that are computed at the read (R108, R109). -/
def liveRadio (s : State) (r off sub : Nat) : Option Nat :=
  if off = 0x00 ∧ sub = 4 then some (muteCause s r)
  else if off = 0x01 ∧ sub = 4 then some (flagNat (channelOk s r))
  else if off = 0x03 ∧ sub = 0x0C then some (dutyNow s r)
  else if off = 0x04 ∧ sub = 5 then some (calState s r)
  else if off = 0x09 ∧ sub = 2 then some (bandLimitEff s r (opChannels s r)).toNat
  else if 0x10 ≤ off ∧ off < 0x20 ∧ sub = 2 then some (chainState s r (off - 0x10))
  else if 0x10 ≤ off ∧ off < 0x20 ∧ sub = 5 then
    some (match (radio s r).pdAt.look (off - 0x10) with
      | some t => min 0xFFFFFFFF ((s.now - t) / 1000000000)
      | none => 0)
  else none

/-- The 16 bytes of `sta_ba_window` (R114): the agreed window of TIDs 0 to 7. -/
def baWindows (s : State) (i : Nat) : Octets := ((List.range 8).map (fun t => leBytes 2 (board s i t).window)).flatten

/-- The values of the TWT window (R113, R132). -/
def liveTwt (s : State) (sub : Nat) : Option Nat :=
  match s.mac.twt.look (rd s O.twt_select) with
  | none => if sub = 2 then some 0xFFFF else none
  | some t =>
    if sub = 2 then some t.station
    else if sub = 3 then some t.flow
    else if sub = 4 then some t.radio
    else if sub = 5 then some t.interval
    else if sub = 6 then some t.duration
    else if sub = 7 then some (ofSigned 32 t.d)
    else if sub = 8 then some (ofSigned 32 t.r)
    else if sub = 9 then some (ofSigned 32 (twtDrift t))
    else none

/-- The values of the Ostler's station window (R160, R165, R180). -/
def liveOstler (s : State) (sub : Nat) : Option Nat :=
  let i := rd s O.ost_sta
  if 2 ≤ sub ∧ sub ≤ 4 then
    let x := rateOf s i (sub - 2)
    some ((x.2 - 1) * 16 + x.1)
  else if 5 ≤ sub ∧ sub ≤ 7 then some (ageOf s ((station s i).csiAt.look (sub - 5)) 1000000 0xFFFF)
  else if sub = 8 then some (ofSigned 32 (station s i).credit)
  else if sub = 9 then some (station s i).bsr
  else none

/-- `mirror_lag_now` (R195): the largest distance of a lead's transmit counter from its mirrored value. -/
def mirrorLag (s : State) : Nat :=
  if roleMode s = 8 ∧ twinState s = 3 then
    let sns := (s.mac.stations.map (fun e => e.2.txSn.map (fun x =>
      (x.2 + 4096 - s.twin.mirrored.getD (snCounter e.1 x.1) 0 % 4096) % 4096))).flatten
    let pns := (s.lock.slots.filter (fun e => slotState s e.1 ≠ 0)).map (fun e =>
      slotVal s e.1 O.key_tx_pn - s.twin.mirrored.getD (pnCounter e.1) 1)
    min 64 ((sns ++ pns).foldl max 0)
  else 0

/-- The values of a flow record (R300): `flow_key`, `flow_state`, `flow_pin`, `flow_counts`. -/
def liveFlow (s : State) (sub : Nat) : Option Octets :=
  match s.switch.flows.look (rd s O.flow_select) with
  | none =>
    if sub = 2 then some (zeros 40) else if sub = 3 then some [0] else if sub = 4 then some [0xFF, 0xFF]
    else if sub = 5 then some (zeros 16) else none
  | some f =>
    if sub = 2 then some f.key
    else if sub = 3 then some (leBytes 1 (f.state + flagNat f.fin * 4 + flagNat f.rst * 8))
    else if sub = 4 then some (leBytes 2 f.pin)
    else if sub = 5 then some (leBytes 4 f.lastSeen ++ leBytes 4 f.packets ++ leBytes 8 f.bytes)
    else none

/-- `nh_refs` (R296): the routes and the groups that name a next hop. -/
def nextHopRefs (s : State) (n : Nat) : Nat :=
  ((s.switch.v4 ++ s.switch.v6).filter (fun r => r.nexthop = n)).length +
    (s.blobs.filter (fun e => decide (e.1 % 16777216 = O.grp_members) && (leWords 2 e.2).contains n)).length

/-- The bytes of the frames of an air queue and of a wired queue. -/
def airBytes (l : List AirFrame) : Nat := l.foldl (fun n f => n + f.bytes.length) 0
def outBytes (l : List OutFrame) : Nat := l.foldl (fun n f => n + f.bytes.length) 0

/-- The values of the air queue window (R321, R323, R325): `aq_state` is 0 EMPTY, 1 LISTED, 2 INELIGIBLE, 3 GRANTED. -/
def liveAir (s : State) (sub : Nat) : Option Nat :=
  let a := rd s O.aq_select
  let q := airQ s a
  if sub = 2 then
    some (if q.granted then 3 else if q.frames.isEmpty then 0 else if s.miller.airSched.list.contains a then 1 else 2)
  else if sub = 3 then some q.frames.length
  else if sub = 4 then some (airBytes q.frames)
  else if sub = 5 then some (q.frames.foldl (fun n f => n + (match bufOf s f.buf with | some b => b.spilled | none => 0)) 0)
  else if sub = 6 then some q.deficit
  else if sub = 7 then some (q.stamp % 65536)
  else if sub = 9 then some q.charged
  else if sub = 10 then some q.drops
  else if sub = 11 then some (min 0xFFFFFFFF (q.frames.foldl (fun n f => max n (airAge s f)) 0 / 1000))
  else none

/-- The values of the wired queue window (R321, R324). -/
def liveWired (s : State) (sub : Nat) : Option Nat :=
  let w := rd s O.wq_select
  let q := wiredQ s w
  if sub = 2 then some (w / portQueues s)
  else if sub = 3 then some (wiredTc s w)
  else if sub = 4 then some q.frames.length
  else if sub = 5 then some (outBytes q.frames)
  else if sub = 6 then some q.deficit
  else if sub = 7 then some (q.stamp % 65536)
  else if sub = 8 then some q.sentFrames
  else if sub = 9 then some q.sentBytes
  else if sub = 10 then some q.drops
  else none

/-- The entry of the Steward's table that `mt_select` names (R482): 0 to 15 running, 16 to 47 queued, oldest first. -/
def tableEntry (s : State) : Option Activity :=
  let n := rd s O.mt_select
  if n < 16 then (s.steward.running)[n]? else (s.steward.queue)[n - 16]?

def liveActivity (s : State) (sub : Nat) : Option Nat :=
  match tableEntry s with
  | none => if sub = 6 then some 0 else if 2 ≤ sub ∧ sub ≤ 5 then some 0 else none
  | some e =>
    if sub = 2 then some e.activity
    else if sub = 3 then some e.target
    else if sub = 4 then some e.requester
    else if sub = 5 then some e.state
    else if sub = 6 then some (time80Of e.since)
    else none

/-- A region or die that R446 names: a hub region, or a die from 1 to 5, as a whole level. -/
def regionNamed (h : Nat) : Bool :=
  decide (h % 16384 = 16383) && (decide (hidDie h = 0 ∧ hidRegion h ≤ 14) || decide (1 ≤ hidDie h ∧ hidDie h ≤ 5 ∧ hidRegion h = 15))

/-- `rm_allowed` (R446): bit m where mode m is accepted for `rm_select`. -/
def regionModes (h : Nat) : List Nat :=
  if regionNamed h = false then []
  else if 1 ≤ hidDie h ∧ hidDie h ≤ 3 then [1, 3, 4, 11]
  else if hidDie h = 0 ∧ (hidRegion h ∈ [1, 2, 3, 4, 5, 6, 7, 9, 12]) then [11]
  else []

/-- The 128 bits of a fault message as a number (R464). -/
def messageBits (m : FaultMsg) : Nat :=
  m.source % 16777216 * 2 ^ 104 + m.kind % 256 * 2 ^ 96 + m.severity % 4 * 2 ^ 94 + flagNat m.forced * 2 ^ 93 +
    m.detail % 8192 * 2 ^ 80 + m.sequence % 4294967296 * 2 ^ 48 + m.address % 2 ^ 48

/-- A log entry's 32 bytes (R475). -/
def logBytes (e : LogEntry) : Octets :=
  leBytes 16 (messageBits e.msg) ++ leBytes 10 e.time ++ leBytes 2 e.repeats ++ leBytes 1 (flagNat e.msg.late) ++
    leBytes 1 e.reaction ++ zeros 2

/-- The entry `log_select` names, where it is one of the last 127 written (R475). -/
def logNamed (s : State) (n : Nat) : Option LogEntry :=
  let w := rd s O.log_written
  if n < w ∧ w ≤ n + 127 then s.tinker.log.look n else none

/-- Numbers that are computed at the read and belong to no window. -/
def liveModule (s : State) (index sub : Nat) : Option Nat :=
  if index ≤ 1 then capabilityValue s index sub
  else if index = 0x0002 ∧ sub = 2 then some (fitValue (hidFitted s (rd s O.fit_query)))
  else if index = 0x1181 ∧ sub = 2 then some (modeOf s (rd s O.mode_query))
  else if index = 0x1180 ∧ sub = 2 then some (flagNat (epochStaged s))
  else if index = 0x1001 ∧ sub = 3 then some (if s.led.saveOp.isNone then flagNat (saveDirty s) else rd s O.save_dirty)
  else if index = 0x8000 ∧ sub = 4 then some (flagNat (s.claims.has (rd s O.claim_resource)))
  else if index = 0x8000 ∧ sub = 5 then some (s.claims.getD (rd s O.claim_resource) 0)
  else if index = 0x1102 ∧ sub = 3 then some ((regionModes (rd s O.rm_select)).foldl (fun n m => n + 2 ^ m) 0)
  else if index = 0x1200 ∧ sub = 4 then
    some (if rd s O.ref_state = 3 then min 0xFFFFFFFF ((s.now - s.refSince) / 1000000000) else rd s O.holdover_time)
  else if index = 0x1200 ∧ sub = 7 then some (min 255 (s.led.hung.filter (fun h => h.ended.isNone)).length)
  else if index = 0x1300 ∧ sub = 5 then some (now80 s)
  else if index = 0x1300 ∧ sub = 9 then some (ofSigned 32 (freqAdj s))
  else if index = 0x1300 ∧ sub = 0x0D then some (tbUncertainty s)
  else if 0x1308 ≤ index ∧ index ≤ 0x130F ∧ sub = 2 then some (ptpState s (index - 0x1308))
  else if 0x3001 ≤ index ∧ index ≤ 0x3003 ∧ sub = 5 then some (ofSigned 64 (tsfNs s / 1000))
  else if 0x3048 ≤ index ∧ index ≤ 0x304A ∧ sub = 2 then some ((rdB s (O.rx_group_list (index - 0x3048))).length / 6)
  else if index = 0x4002 ∧ sub = 3 then some (ageOf s s.twin.hbSeen 1000 0xFFFFFFFF)
  else if index = 0x4002 ∧ sub = 4 then some (ageOf s s.twin.aliveSeen 1000 0xFFFFFFFF)
  else if index = 0x4003 ∧ sub = 1 then some (mirrorLag s)
  else if index = 0x5000 ∧ sub = 7 then some (flagNat (graphDiffers s))
  else if index = 0x5400 ∧ sub = 6 then some (stagedWidth s)
  else if index = 0x5400 ∧ sub = 7 then some (stagedMiss s)
  else if index = 0x6800 ∧ sub = 2 then some s.carter.tokens.length
  else if index = 0x6800 ∧ sub = 5 then some (readyUsed s)
  else if index = 0x6800 ∧ sub = 8 then some s.carter.ringUrgent.length
  else if index = 0x6800 ∧ sub = 9 then some s.carter.ringNormal.length
  else if 0x7010 ≤ index ∧ index ≤ 0x7014 ∧ sub = 2 then some (portLevel s (index - 0x7010))
  else if index = 0x7800 ∧ sub = 5 then some (min 7 (recentRecoveries s).length)
  else if index = 0x7C00 ∧ sub = 1 then some s.steward.running.length
  else if index = 0x7C00 ∧ sub = 2 then some s.steward.queue.length
  else none

/-- Numbers that are computed at the read, in every window. -/
def liveNumber (s : State) (index sub : Nat) : Option Nat :=
  if 0x2000 ≤ index ∧ index < 0x2C00 then liveRadio s ((index - 0x2000) / 1024) ((index - 0x2000) % 1024) sub
  else if index = 0x3111 then liveTwt s sub
  else if index = 0x3810 then liveOstler s sub
  else if index = 0x4820 ∧ sub = 7 then
    (match assoc s (saNamed s) with
      | some a => if rd s O.sa_port / 8 = packageBit s then some a.pn else none
      | none => none)
  else if index = 0x4820 ∧ sub = 9 then some (match assoc s (saNamed s) with | some a => a.state | none => 0)
  else if index = 0x5010 ∧ 2 ≤ sub then some (gv s.graph.shadow (targetKey s index sub))
  else if index = 0x5011 ∧ 2 ≤ sub then some (gv s.graph.shadow (targetKey s index sub))
  else if index = 0x5401 ∧ sub = 2 then some (flagNat (rowStaged s (rd s O.rule_select)).valid)
  else if index = 0x5401 ∧ sub = 5 then some (rowStaged s (rd s O.rule_select)).action
  else if index = 0x5401 ∧ sub = 8 then some (flagNat (s.rules.current.faulty.contains (rd s O.rule_select)))
  else if index = 0x5830 ∧ sub = 7 then some (nextHopRefs s (rd s O.nh_select))
  else if index = 0x5838 ∧ sub = 3 then some ((rdB s (winKey (rd s O.grp_select) O.grp_members)).length / 2)
  else if index = 0x6020 ∧ sub ≠ 8 then liveAir s sub
  else if index = 0x6030 then liveWired s sub
  else if index = 0x6041 ∧ sub = 0x0B then some ((meterFill s (rd s O.m_select)).c / 256)
  else if index = 0x6041 ∧ sub = 0x0C then some ((meterFill s (rd s O.m_select)).x / 256)
  else if index = 0x7C02 then liveActivity s sub
  else liveModule s index sub

/-- Octets that are computed at the read: the agreed windows, the slot's counters, a rule row, a flow record, a template. -/
def liveOctets (s : State) (index sub : Nat) : Option Octets :=
  if index = 0x0000 ∧ sub = 4 then some s.fuse.serial
  else if index = 0x3100 ∧ sub = 0x0D then some (baWindows s (rd s O.sta_select))
  else if index = 0x4802 ∧ sub = 5 then
    some ((List.range 10).map (fun t => leBytes 8 ((keySlot s (rd s O.key_select)).replay.getD t 0))).flatten
  else if index = 0x5401 ∧ sub = 3 then some (rowStaged s (rd s O.rule_select)).value
  else if index = 0x5401 ∧ sub = 4 then some (rowStaged s (rd s O.rule_select)).mask
  else if index = 0x5802 then liveFlow s sub
  else if 0x3010 ≤ index ∧ index ≤ 0x303F ∧ (sub = 3 ∨ sub = 4) then
    some (match s.mac.shadows.look (objKey index sub) with
      | some x => x.bytes
      | none => s.mac.templates.getD (objKey index sub) [])
  else none

end Sys2Proof.Machine
end

