-- ==== Sys2Proof/Machine/Checks.lean ====
section
/-! DEFINITION. The checks a Ledger access meets (R16, R534): those the Ledger store makes from the object's description alone, and those
that depend on the unit's state or on other objects. -/

namespace Sys2Proof.Machine

/-! ### Values an object lists for itself, beyond a range of numbers -/

/-- The values of a CMD object that start something; another value returns RANGE. -/
def cmdValues (index sub : Nat) : List Nat :=
  let k := objKey (normIndex index) sub
  if k = O.reset_cmd ∨ k = O.cal_cmd 0 ∨ k = O.twt_cmd ∨ k = O.takeover_cmd ∨ k = O.peer_key_cmd ∨ k = O.graph_check_cmd ∨
      k = O.graph_default_cmd ∨ k = O.region_cmd ∨ k = O.bak_cmd ∨ k = O.dormant_cmd ∨ k = O.force_cmd then [1]
  else if k = O.sta_cmd then [1, 2, 3, 4]
  else if k = O.key_cmd ∨ k = O.rt_cmd ∨ k = O.tb_cmd ∨ k = O.q_cmd then [1, 2, 3]
  else [1, 2]

/-- A length specification within its layout (R252): SCALE 3 is outside it. -/
def lenWordOk (w : Nat) : Bool := decide (bits w 15 14 ≠ 3)

/-- A selector within its layout (R253): a one-byte field has a one-byte mask. -/
def selWordOk (w : Nat) : Bool := bit w 30 || decide (bits w 15 8 = 0)

/-- The actions of an exception class (R259): 0 DROP, 1 REPORT, 2 HOST, 3 CLASSIFY. -/
def excActions (c : Nat) : List Nat :=
  if c = 1 ∨ c = 5 ∨ c = 6 then [0, 1, 2, 3] else if c = 2 ∨ c = 3 then [0, 1, 2] else if c = 4 then [0, 1] else [1]

/-- A mirror session's destination (R284): a port, the Varlan link, a to-host queue. -/
def mirDestOk (v : Nat) : Bool :=
  let i := v % 4096
  if v / 4096 = 1 then decide (i ≤ 7) else if v / 4096 = 3 then decide (i = 0) else if v / 4096 = 4 then decide (i ≤ 31) else false

/-- The addresses of `rx_group_list` (R117): group addresses, none of them the broadcast address, none given twice. -/
def groupListOk (o : Octets) : Bool :=
  let l := (List.range (o.length / 6)).map (fun i => slice o (6 * i) 6)
  decide (o.length % 6 = 0) && l.all (fun a => groupAddr a && !(broadcastAddr a)) && decide l.Nodup

/-- One category of `edca_set` (R180): AIFSN 1 to 15, ECW 0 to 15, ECWmin not above ECWmax, and a zero byte. -/
def edcaOk (o : Octets) (i : Nat) : Bool :=
  decide (1 ≤ octet o (4 * i)) && decide (octet o (4 * i) ≤ 15) && decide (octet o (4 * i + 1) ≤ octet o (4 * i + 2)) &&
    decide (octet o (4 * i + 2) ≤ 15) && decide (octet o (4 * i + 3) = 0)

/-- A binding word of the Weigher (R329) with its span. -/
def bindingOk (span w : Nat) : Bool := decide (w % 65536 + span ≤ 65536)

/-- The range of `mi_min` (R488). -/
def marginRange (i : Nat) : Int × Int :=
  if i = 0 then (10, 200) else if i ≤ 3 then (25, 400) else if i ≤ 11 then (10, 100) else (5, 80)

/-- A VID that can be given to a bridge domain. -/
def vidOk (v : Nat) : Bool := decide (1 ≤ v) && decide (v ≤ 4094)

/-- The widest setting of a radio (R73): 40 MHz on A, 160 MHz on B, 320 MHz on C. -/
def widthMax (r : Nat) : Nat := if r = 0 then 1 else if r = 1 then 3 else 4

/-- A radio object's own range (R73, R74, R108, R109). -/
def radioRangeOk (s : State) (r off sub v : Nat) : Bool :=
  if off = 0x01 ∧ sub = 2 then decide (v ≤ widthMax r)
  else if off = 0x02 ∧ sub = 1 then decide (v < 2 ^ chainsOf s.fuse.part r)
  else if off = 0x04 ∧ sub = 2 then decide (v = 255 ∨ v < chainsOf s.fuse.part r)
  else if off = 0x09 ∧ sub = 1 then decide (v ≤ (radioFuse s.fuse r).bandMax)
  else if 0x10 ≤ off ∧ off < 0x20 ∧ sub = 1 then decide (v ≤ (radioFuse s.fuse r).chainMax)
  else true

/-- The own range of objects from 0x3000 to 0x3FFF. -/
def airRangeOk (s : State) (index sub v : Nat) (o : Octets) : Bool :=
  let p := s.fuse.part
  if 0x3010 ≤ index ∧ index ≤ 0x303F ∧ sub = 1 then !(groupAddr o)
  else if 0x3048 ≤ index ∧ index ≤ 0x304A ∧ sub = 1 then groupListOk o
  else if (index = 0x3100 ∧ sub = 1) ∨ (index = 0x3810 ∧ sub = 1) then decide (v < stationCount p)
  else if index = 0x3111 ∧ sub = 1 then decide (v < 2 * stationCount p)
  else if (index = 0x3110 ∨ (0x3120 ≤ index ∧ index ≤ 0x3137)) ∧ sub = 3 then decide (v % 256 = 0)
  else if index = 0x3180 ∧ sub = 0x0B then decide (v = 0xFFFF ∨ v < stationCount p)
  else if 0x3801 ≤ index ∧ index ≤ 0x3803 then
    let r := index - 0x3801
    if sub = 4 then decide (v ≤ (if r = 0 then 1 else min 16 (chainsOf p r)))
    else if sub = 0x0F then decide (r ≠ 0 ∨ v = 0)
    else if sub = 0x12 then [0, 1, 2, 3].all (edcaOk o)
    else true
  else true

/-- The own range of objects from 0x4800 to 0x5FFF. -/
def fabricRangeOk (s : State) (index sub v : Nat) (o : Octets) : Bool :=
  let p := s.fuse.part
  if index = 0x4801 ∧ sub = 1 then decide (v < keySlotCount p)
  else if index = 0x4820 ∧ sub = 1 then decide (twinRole s ≠ 0 ∨ v < 8)
  else if index = 0x5010 then
    if sub = 5 ∨ sub = 6 then lenWordOk v
    else if sub = 7 ∨ sub = 8 then selWordOk v
    else true
  else if 0x5020 ≤ index ∧ index ≤ 0x5027 ∧ sub = 1 then decide (v ∈ excActions (index - 0x5020))
  else if 0x5410 ≤ index ∧ index ≤ 0x541F ∧ sub = 2 then mirDestOk v
  else if index = 0x5802 ∧ sub = 1 then decide (v < flowCount p)
  else if index = 0x5810 ∧ sub = 2 then !(groupAddr o)
  else if index = 0x5810 ∧ sub = 9 then (leWords 2 o).all vidOk
  else if index = 0x5830 ∧ sub = 5 then vidOk v
  else if index = 0x5830 ∧ sub = 6 then decide (v ≤ 4095 ∨ v = 0xFFFF)
  else if index = 0x5838 ∧ sub = 2 then decide (o.length % 2 = 0)
  else if index = 0x5850 ∧ sub = 5 then decide (bits v 15 9 = 0)
  else true

/-- What a value must be beside the range of its row: the object's own text (R29, R57, R61, R251, R446 and the object tables). -/
def ownRangeOk (s : State) (index sub v : Nat) (o : Octets) : Bool :=
  if 0x2000 ≤ index ∧ index < 0x2C00 then radioRangeOk s ((index - 0x2000) / 1024) ((index - 0x2000) % 1024) sub v
  else if 0x3000 ≤ index ∧ index ≤ 0x3FFF then airRangeOk s index sub v o
  else if 0x4800 ≤ index ∧ index ≤ 0x5FFF then fabricRangeOk s index sub v o
  else if 0x1040 ≤ index ∧ index < 0x1080 ∧ sub = 1 then decide (v % 4096 = 0)
  else if index = 0x1101 ∧ sub = 2 then decide (650 ≤ v ∧ v ≤ s.fuse.vcoreNominal)
  else if index = 0x1102 ∧ sub = 1 then regionNamed v
  else if index = 0x1301 ∧ sub = 0x0C then decide (v ≤ 4094)
  else if index = 0x1310 ∧ sub = 1 then decide (v < 8 ∨ v = 255)
  else if index = 0x1310 ∧ sub = 4 then decide (v < 48 ∨ v = 255)
  else if index = 0x1310 ∧ sub = 0x0D then decide (1 ≤ v ∧ v ≤ 500000)
  else if 0x1320 ≤ index ∧ index < 0x1340 ∧ sub = 4 then decide (40 * 65536 ≤ v ∧ v ≤ 1000000000000 * 65536)
  else if 0x6008 ≤ index ∧ index ≤ 0x600F ∧ sub = 2 then (leWords 2 o).all (fun q => decide (256 ≤ q))
  else if index = 0x6010 ∧ sub = 1 then [0, 1, 2, 3, 4, 5, 6, 7].all (fun t => !(bit v (4 * t + 3)))
  else if index = 0x6020 ∧ sub = 1 then decide (v < 4 * stationCount s.fuse.part)
  else if index = 0x6040 then bindingOk (if sub = 1 ∨ sub = 3 then stationCount s.fuse.part else 64) v
  else if index = 0x7808 ∧ sub = 1 then kindListed v
  else if index = 0x7C02 ∧ sub = 1 then decide (v ≤ 47)
  else if 0x7E08 ≤ index ∧ index ≤ 0x7E1F ∧ sub = 2 then
    let m := marginRange (index - 0x7E08)
    decide (m.1 ≤ toSigned 32 v ∧ toSigned 32 v ≤ m.2)
  else if index = 0x8000 ∧ sub = 1 then resourceValid v
  else if index = 0x8000 ∧ sub = 2 then hidIsUnit v
  else true

/-- An index within the part's fitted count and the ports of the present mode (R6, R74, R238, R288). -/
def indexInCount (s : State) (index : Nat) : Bool :=
  objInCount s.fuse.part index &&
  (if 0x4810 ≤ index ∧ index ≤ 0x481F then decide (index < 0x4818 ∨ twinRole s ≠ 0)
   else if 0x5808 ≤ index ∧ index ≤ 0x580F then decide (index - 0x5808 < portCount s)
   else if 0x6008 ≤ index ∧ index ≤ 0x600F then decide (index - 0x6008 < portCount s)
   else if 0x1308 ≤ index ∧ index ≤ 0x130F then decide (index - 0x1308 < portCount s)
   else true)

/-- A value that names something the part does not have (R5, R29, R72, R273). -/
def namesAbsent (s : State) (index sub v : Nat) : Bool :=
  let own := !(hidMalformed v) && hidOwn s v
  if index = 0x1180 ∧ (sub = 4 ∨ sub = 5) then decide (v = 8 ∨ v = 9) && !(twinFitted s.fuse.part)
  else if index = 0x1180 ∧ sub = 9 then decide (v = 1) && !(twinFitted s.fuse.part)
  else if index = 0x1102 ∧ sub = 1 then own && regionNamed v && !(hidFitted s v)
  else if index = 0x8000 ∧ sub = 2 then own && hidIsUnit v && !(hidFitted s v)
  else if 0x5410 ≤ index ∧ index ≤ 0x541F ∧ sub = 2 then decide (v = 0x3000) && !(twinFitted s.fuse.part)
  else false

/-- A window onto a unit that is not fitted: `rm_target` of an absent radio's die. -/
def windowAbsent (s : State) (index sub : Nat) : Bool :=
  decide (index = 0x1102 ∧ 2 ≤ sub) && !(hidFitted s (rd s O.rm_select))

/-- A value that the fuses forbid (R41, R57, R108). -/
def fusedOut (s : State) (index sub v : Nat) : Bool :=
  if index = 0x1000 ∧ sub = 3 then decide (maskTransports v (fusedTransports s.fuse) ≠ v % 8)
  else if 0x2000 ≤ index ∧ index < 0x2C00 ∧ (index - 0x2000) % 1024 = 1 ∧ sub = 1 then
    !(channelSet (radioFuse s.fuse ((index - 0x2000) / 1024)).channels v)
  else false

/-- The lengths of the objects that take two of them (R222, R277, R295). -/
def ownLengthOk (index sub : Nat) (o : Octets) : Bool :=
  if index = 0x4801 ∧ sub = 6 then decide (o.length = 16 ∨ o.length = 32)
  else if index = 0x5401 ∧ (sub = 3 ∨ sub = 4) then decide (o.length = 40 ∨ o.length = 80)
  else if index = 0x5820 ∧ sub = 3 then decide (o.length = 4 ∨ o.length = 16)
  else true

/-- The number a value's octets give: 0 for an OCTETS object. -/
def valueOf (t : ObjType) (o : Octets) : Nat := if t.isOct then 0 else leNat o

/-! ### The Ledger store's checks (R534) -/

/-- An object that no chapter defines, or whose unit is not fitted (R5, R37, R38). -/
def objectAbsent (s : State) (index sub : Nat) : Bool :=
  match subCount index with
  | none => true
  | some n => decide (n < sub) || !(objFitted s.fuse.part index) ||
      decide (sub ≠ 0 ∧ findRow index sub = none) || windowAbsent s index sub

/-- A write's checks in the Ledger store, in the order of R16; `none` where it passes. -/
def storeWrite (s : State) (index sub : Nat) (o : Octets) : Option Status :=
  if objectAbsent s index sub then some .absent
  else match findRow index sub with
  | none => some .denied
  | some row =>
    let v := valueOf row.ty o
    let fits := lengthOk row.ty o && ownLengthOk index sub o
    if fits && namesAbsent s index sub v then some .absent
    else if row.fuse then some .locked
    else if row.acc = .ro then some .denied
    else if fits && decide (index = 0x1182 ∧ sub = 1 ∧ !(hidMalformed v) ∧ hidOwn s v ∧ hidDie v = 0 ∧ hidRegion v = 13) then some .denied
    else if fits && fusedOut s index sub v then some .locked
    else if fits = false then some .type
    else if row.acc = .cmd ∧ v ∉ cmdValues index sub then some .range
    else if !(limitOk row.lim v) || !(encodingOk s row.ty v) || !(indexInCount s index) || !(ownRangeOk s index sub v o) then some .range
    else none

/-- A read's checks in the Ledger store. -/
def storeRead (s : State) (index sub : Nat) : Option Status :=
  if objectAbsent s index sub then some .absent
  else match findRow index sub with
  | none => if indexInCount s index then none else some .range
  | some row =>
    if row.acc = .wo ∨ row.acc = .cmd then some .denied
    else if indexInCount s index = false then some .range
    else none

/-! ### The checks in the unit's domain (R534) -/

/-- A value as staged, else in force. -/
def stagedNum (s : State) (k : Nat) : Nat := s.staged.getD k (rd s k)
def stagedBlob (s : State) (k : Nat) : Octets := s.stagedBlobs.getD k (rdB s k)

/-- Another BSSID or a client link of the module has an address (R112). -/
def addressInUse (s : State) (k : Nat) (a : Octets) : Bool :=
  (List.range 48).any (fun i => decide (O.bssid (i / 16) (i % 16) ≠ k ∧ stagedBlob s (O.bssid (i / 16) (i % 16)) = a)) ||
  [0, 1, 2].any (fun r => decide (bhOwnAddr s r = a))

/-- A meter's set of parameters is consistent (R333). -/
def meterSetOk (mode cir cbs pir xbs : Nat) : Bool :=
  if mode = 1 then decide (0 < cbs ∨ 0 < xbs)
  else if mode = 2 then decide (cir ≤ pir) && decide (0 < cbs) && decide (0 < xbs)
  else true

/-- The cross-field checks of a meter write (R333): applied while `m_mode` is not OFF, and to the whole set when it is written. -/
def meterWriteOk (s : State) (i sub v : Nat) : Bool :=
  let f := fun (k n : Nat) => if sub = n then v else rd s (winKey i k)
  if 2 ≤ sub ∧ sub ≤ 7 then meterSetOk (f O.m_mode 2) (f O.m_cir 4) (f O.m_cbs 5) (f O.m_pir 6) (f O.m_xbs 7) else true

/-- The range of `nh_port` by kind (R296). -/
def nextHopPortOk (s : State) (kind v : Nat) : Bool :=
  if kind = 1 then decide (v < 8)
  else if kind = 2 then decide (v < stationCount s.fuse.part)
  else if kind = 3 then decide (v < 32)
  else if kind = 5 then decide (v < 1024)
  else true

/-- RANGE across fields of radio and air objects. -/
def airCrossOk (s : State) (index sub v : Nat) (o : Octets) : Bool :=
  let r := (radioOfIndex index).getD 0
  let off := (index - 0x2000) % 1024
  if 0x2000 ≤ index ∧ index < 0x2C00 then
    if off = 0x01 ∧ sub = 3 then
      punctureOk (radioFuse s.fuse r).channels r (stagedNum s (O.primary r)) (stagedNum s (O.width r)) v
    else if off = 0x02 ∧ sub = 2 then decide (v + rd s (O.fem_gap r) ≤ 2000)
    else if off = 0x02 ∧ sub = 4 then decide (rd s (O.fem_tx_lead r) + v ≤ 2000)
    else true
  else if 0x3001 ≤ index ∧ index ≤ 0x3003 ∧ sub = 4 then decide (v < stagedNum s (O.beacon_interval r))
  else if 0x3010 ≤ index ∧ index ≤ 0x303F ∧ sub = 1 then decide (o = zeros 6) || !(addressInUse s (objKey index sub) o)
  else if 0x3120 ≤ index ∧ index ≤ 0x3137 ∧ sub = 4 then decide (v < stagedNum s (objKey index 2))
  else if index = 0x3804 ∧ sub = 2 then decide (rd s O.sound_interval ≤ v)
  else true

/-- RANGE across fields of the fabric's objects. -/
def fabricCrossOk (s : State) (index sub v : Nat) (o : Octets) : Bool :=
  let k := targetKey s index sub
  let inst := k / 16777216
  if 0x4810 ≤ index ∧ index ≤ 0x481F ∧ sub = 5 then
    (match assoc s (saIndex (index - 0x4810) 0 v) with | some a => decide (a.state = 1) | none => false)
  else if index = 0x5401 ∧ sub = 1 then !(wideBlock (stagedWidth s) v && decide (v % 2 = 1))
  else if index = 0x5830 ∧ sub = 3 then nextHopPortOk s (rd s (winKey inst O.nh_kind)) v
  else if index = 0x5838 ∧ sub = 2 then
    (leWords 2 o).all (fun n => decide (n < 16384) && decide (rd s (winKey n O.nh_kind) ≠ 0) && decide (rd s (winKey n O.nh_kind) ≠ 5))
  else if index = 0x5840 ∧ sub = 5 then decide (rd s (winKey inst O.tn_kind) < 3 ∨ v = 0)
  else if index = 0x5840 ∧ sub = 7 then decide (v < 16384) && decide (rd s (winKey v O.nh_kind) = 1)
  else if index = 0x6000 ∧ sub = 7 then decide (rd s O.cell_reserve < v)
  else if index = 0x6041 then meterWriteOk s inst sub v
  else true

/-- RANGE across fields (R534), for a value that passed the Ledger store. -/
def crossOk (s : State) (index sub v : Nat) (o : Octets) : Bool :=
  if 0x2000 ≤ index ∧ index ≤ 0x3FFF then airCrossOk s index sub v o
  else if 0x4800 ≤ index ∧ index ≤ 0x6FFF then fabricCrossOk s index sub v o
  else if index = 0x4004 ∧ sub = 5 then decide (2 * rd s O.align_interval ≤ v)
  else if index = 0x1102 ∧ sub = 2 then decide (v = 0 ∨ v ∈ regionModes (rd s O.rm_select))
  else if 0x1320 ≤ index ∧ index < 0x1340 ∧ sub = 5 then decide (v * 65536 < rd s (O.gt_period (index - 0x1320)))
  else if index = 0x7808 ∧ sub = 3 then decide (rd s O.kind_select ∉ [0x08, 0x09, 0x0A])
  else true

/-- RANGE that a transient state gives: a log entry no longer held (R475), a station's links (R135). -/
def transientRange (s : State) (index sub v : Nat) : Bool :=
  if index = 0x7802 ∧ sub = 1 then (logNamed s v).isSome
  else if index = 0x3100 ∧ sub = 0x0B ∧ staState s (rd s O.sta_select) ≠ 0 then mapCovers v (staLinks s (rd s O.sta_select))
  else true

/-- LOCKED by the fused MACsec requirement (R220): STRICT and protection are forced. -/
def macsecForced (s : State) (index sub v : Nat) : Bool :=
  bit s.fuse.secConfig 3 && decide (0x4810 ≤ index ∧ index ≤ 0x481F ∧ ((sub = 2 ∧ v ≠ 2) ∨ (sub = 3 ∧ v ≠ 1)))

/-- The staging of an object (R29, R251, R276). -/
def stagingOf (index sub : Nat) : Staging :=
  match findRow index sub with
  | some r => r.stg
  | none => .now

/-- A commit runs, as coordinator or as another coordinator's peer (R33). -/
def commitRuns (s : State) : Bool := decide (rd s O.epoch_phase ≠ 0) || decide (s.epoch.peerPhase ≠ 0)

/-- BUSY (R33, R60, R114, R265, R296, R415, R431): the object may not change now. -/
def writeBusy (s : State) (index sub v : Nat) : Bool :=
  let st := stagingOf index sub
  if st = .epoch then commitRuns s
  else if st = .graph then commitRuns s || s.graph.copying
  else if index = 0x1180 ∧ (sub = 4 ∨ sub = 5) then commitRuns s
  else if 0x1040 ≤ index ∧ index < 0x1080 ∧ sub ≤ 2 then flag s (O.enable (index - 0x1040))
  else if index = 0x3100 ∧ 4 ≤ sub ∧ sub ≤ 0x0A then decide (staState s (rd s O.sta_select) ≠ 0)
  else if 0x1320 ≤ index ∧ index < 0x1340 ∧ 2 ≤ sub ∧ sub ≤ 5 then decide (rd s (O.gt_state (index - 0x1320)) = 1)
  else if 0x1404 ≤ index ∧ index ≤ 0x1405 ∧ sub ≤ 2 then decide (rd s (O.al_state (index - 0x1404)) = 1)
  else if index = 0x5830 ∧ sub = 2 then decide (v = 0) && decide (0 < nextHopRefs s (rd s O.nh_select))
  else false

/-- The resources that an enabling write claims, with their owner (R69, R410, R415, R452). -/
def claimsOf (s : State) (index sub v : Nat) : Option (Nat × List Nat) :=
  if 0x1320 ≤ index ∧ index < 0x1340 ∧ sub = 1 ∧ v ≠ 0 then
    let t := index - 0x1320
    some (hidOf s 0 14 1 t, [0x2000 + t, 0x1000 + rd s (O.gt_pin t)])
  else if index = 0x1310 ∧ sub = 4 ∧ v < 48 then some (hidOf s 0 10 3 1, [0x1000 + v])
  else if index = 0x1104 ∧ sub = 2 ∧ bit v 1 then some (hidOf s 0 13 1 0, [0x102C])
  else none

/-- The claims of an enabling write made (R69): CONFLICT when one is another owner's. -/
def claimStep (s : State) (index sub v : Nat) : Status × State :=
  match claimsOf s index sub v with
  | some (owner, l) => claimAll s owner l
  | none => (.ok, s)

/-- The checks of a write in the unit's domain, in the order of R16, but for the claims; `none` where it passes. -/
def unitWrite (s : State) (index sub v : Nat) (o : Octets) : Option Status :=
  if macsecForced s index sub v then some .locked
  else if crossOk s index sub v o = false ∨ transientRange s index sub v = false then some .range
  else none

end Sys2Proof.Machine
end

