-- ==== Sys2Proof/Machine/Access.lean ====
section
/-! DEFINITION. Ledger reads and writes (R37 to R41, R53, R192, R533 to R535): what a record that passed its checks reads, sets, stages
or starts, and the writes that a lead forwards to its follower. -/

namespace Sys2Proof.Machine

/-- The status and the state that a command of its own row leaves. -/
def taken (s : State) (o : Host.Outcome State Fault Refusal) : Status × State :=
  match o with
  | .next t => (t.status, t)
  | _ => (.ok, s)

/-! ### Reset by command (R21 to R25, R384) -/

/-- Accesses that hang at a domain of the level reset end (R384): their records end with TIMEOUT. -/
def endHung (s : State) (h : Nat) : State :=
  { s with led := { s.led with hung := s.led.hung.map (fun e =>
      if (levelDomains h).contains e.domain && e.ended.isNone then { e with ended := some false } else e) } }

/-- `reset_cmd` (R25): the level that `reset_target` names. A lead that is reset as a package sends HANDOVER first (R198). -/
def resetTarget (s : State) : Status × State :=
  let h := rd s O.reset_target
  if hidMalformed h || !(hidOwn s h) then (.range, s)
  else if hidDie h = 7 then (.ok, leaveReset (packageReset (if roleMode s = 8 then sendHandover s else s)))
  else if hidFitted s h = false then (.absent, s)
  else if hidDie h = 0 ∧ (hidRegion h = 15 ∨ hidRegion h = 13) then (.denied, s)
  else (.ok, endHung (resetLevel s h) h)

/-! ### Objects whose writes are commands of their own -/

/-- A radio's own rows: `tx_mute`, `cal_cmd`, `grant_cmd`. -/
def radioRow (s : State) (r off sub v : Nat) : Option (Host.Outcome State Fault Refusal) :=
  let q := Fin.ofNat 3 r
  if off = 0x00 ∧ sub = 3 then some (execTxMute q (decide (v = 1)) s)
  else if off = 0x04 ∧ sub = 3 then some (execCalCmd q s)
  else if 0x40 ≤ off ∧ off < 0x50 ∧ sub = 6 then
    some (if v = 1 then execGrantInstall q (Fin.ofNat 16 (off - 0x40)) s else execGrantRevoke q (Fin.ofNat 16 (off - 0x40)) s)
  else none

/-- The rule write that an object's write is (R276). -/
def ruleWriteOf (k v : Nat) (o : Octets) : Option RuleWrite :=
  if k = O.rule_valid then some (.valid (decide (v = 1)))
  else if k = O.rule_value then some (.value o)
  else if k = O.rule_mask then some (.mask o)
  else if k = O.rule_action then some (.action v)
  else if k = O.block_width then some (.width v)
  else if k = O.rule_miss_action then some (.miss v)
  else none

/-- Commands of the Ledger, the package and the backup domain. -/
def moduleRow (s : State) (k v : Nat) (o : Octets) : Option (Host.Outcome State Fault Refusal) :=
  if k = O.epoch_cmd then some (if v = 1 then execEpochCommit s else execEpochDiscard s)
  else if k = O.save_cmd then some (if v = 1 then execSave s else execClearSaved s)
  else if k = O.claim_cmd then some (if v = 1 then execClaim s else execRelease s)
  else if k = O.dormant_cmd then some (execDormantEnter s)
  else if k = O.pad_release then some (execPadRelease (BitVec.ofNat 8 v) s)
  else if k = O.bak_cmd then some (execBakReset s)
  else if k = O.bak_seconds then some (execBakSecondsWrite v s)
  else if k = O.bak_trim then some (execBakTrimWrite (toSigned 32 v) s)
  else if k = O.al_cmd 0 then some (if v = 1 then execAlarmArm 0 s else execAlarmDisarm 0 s)
  else if k = O.al_cmd 1 then some (if v = 1 then execAlarmArm 1 s else execAlarmDisarm 1 s)
  else if k = O.pwron_cmd then some (if v = 1 then execPwronRelease s else execPwronCancel s)
  else if k = O.scratch then some (execScratchWrite o s)
  else if k = O.tb_source then some (execTbSourceWrite (Fin.ofNat 3 v) s)
  else if k = O.tb_cmd then some (if v = 1 then execTbSet s else if v = 2 then execTbAdjust s else execTbSlew s)
  else if k = O.q_cmd then some (if v = 1 then execQEnter s else if v = 2 then execQExit s else execClearLatch s)
  else if k = O.force_cmd then some (execForce s)
  else if k = O.mreq_cmd then some (if v = 1 then execMaintRequest none s else execMaintCancel s)
  else if k = O.takeover_cmd then some (execTakeoverForce s)
  else if k = O.peer_key then some (execPeerKeyWrite o s)
  else if k = O.peer_key_cmd then some (execForget s)
  else if k = O.region_cmd then some (execRegionEnable s)
  else none

/-- Commands of the shared set's ranges (R192). A rule COMMIT asks the peer whether its own rule memory is busy: a free answer (log 1). -/
def sharedRow (s : State) (k v : Nat) (o : Octets) : Option (Host.Outcome State Fault Refusal) :=
  if k = O.sta_cmd then
    some (if v = 1 then execStaAdd s else if v = 2 then execStaRemove s else if v = 3 then execStaAuthorize s else execStaDeauthorize s)
  else if k = O.twt_cmd then some (execTwtTeardown s)
  else if k = O.key_cmd then some (if v = 1 then execKeyInstall s else if v = 2 then execKeyClear s else execSetTx s)
  else if k = O.sa_cmd then some (if v = 1 then execSaInstall s else execSaClear s)
  else if k = O.graph_check_cmd then some (execGraphCheck s)
  else if k = O.graph_default_cmd then some (execGraphDefault s)
  else if k = O.rule_cmd then
    some (if v = 1 then execRuleCommit (decide (freeBelow s 2 = 1)) (freeNext s) else execRuleDiscard s)
  else if k = O.flow_cmd then some (if v = 1 then execFlowDelete s else execFlowFlush s)
  else if k = O.rt_cmd then some (if v = 1 then execRouteAdd s else if v = 2 then execRouteDelete s else execRouteLookup s)
  else match ruleWriteOf k v o with
    | some w => some (execRuleStageWrite w s)
    | none => none

/-- The command that a write to an object with a row of its own is, as that row runs it. -/
def ownRow (s : State) (index sub v : Nat) (o : Octets) : Option (Host.Outcome State Fault Refusal) :=
  let k := objKey index sub
  if 0x2000 ≤ index ∧ index < 0x2C00 then radioRow s ((index - 0x2000) / 1024) ((index - 0x2000) % 1024) sub v
  else if 0x1040 ≤ index ∧ index < 0x1080 then
    (if sub = 3 then
      some (if v = 1 then execQueueEnable (Fin.ofNat 64 (index - 0x1040)) s else execQueueDisable (Fin.ofNat 64 (index - 0x1040)) s)
     else none)
  else if 0x1320 ≤ index ∧ index < 0x1340 then
    (if sub = 8 then
      some (if v = 1 then execGtArm (Fin.ofNat 32 (index - 0x1320)) s else execGtDisarm (Fin.ofNat 32 (index - 0x1320)) s)
     else none)
  else match moduleRow s k v o with
    | some x => some x
    | none => sharedRow s k v o

/-! ### A write's effect -/

/-- What a write of a graph field does (R265): the shadow bank takes it. -/
def graphWrite (s : State) (k v : Nat) : State := setGraph s { s.graph with shadow := gput s.graph.shadow k v }

/-- A write to a register that acts at once: W1C clears bits (R40). -/
def plainWrite (s : State) (row : ObjRow) (k v : Nat) (o : Octets) : State :=
  if row.ty.isOct then wrB s k o
  else if row.acc = .w1c then wr s k ((bitList 8 v).foldl clrBit (rd s k))
  else wr s k v

/-- A meter's levels after a write of its parameters (R331, R333): full when `m_mode` is written, else clipped to the new sizes. -/
def meterWrite (s : State) (sub k v : Nat) : State :=
  let i := k / 16777216
  if 2 ≤ sub ∧ sub ≤ 7 ∧ sub ≠ 3 then
    let s1 := wr (setMeter s i (meterFill s i)) k v
    let z := meterSize s1 i
    if sub = 2 then setMeter s1 i { c := z.1, x := z.2, filled := s1.now }
    else
      let m := meter s1 i
      setMeter s1 i { m with c := min m.c z.1, x := min m.x z.2 }
  else wr s k v

/-- What follows a write that has set its register (R114, R135, R154, R156, R194, R207, R410). -/
def afterWrite (s : State) (index sub k v : Nat) : State :=
  if index = 0x3800 ∧ sub = 4 then
    (if v = 1 then (if rd s O.sync_state = 0 then wr s O.sync_state 1 else s)
     else wr (if s.move.fromSync then { s with move := { s.move with left := 0, slewing := false, fromSync := false } } else s) O.sync_state 0)
  else if index = 0x1310 ∧ sub = 1 then wr s O.synce_state 0
  else if index = 0x4004 then pairRefresh s
  else if index = 0x3100 ∧ sub = 0x0B ∧ k / 16777216 ≠ staStage then
    wakeStation (mirror s (stationRecord s (k / 16777216))) (k / 16777216)
  else if 0x2000 ≤ index ∧ index < 0x2C00 ∧ (index - 0x2000) % 1024 = 9 ∧ sub = 4 then derateDie s ((index - 0x2000) / 1024)
  else s

/-- What an accepted write does: it is staged, or it acts at once on the register of key `k`. -/
def applyWrite (s : State) (row : ObjRow) (index sub k v : Nat) (o : Octets) : State :=
  if row.stg = .graph then graphWrite s k v
  else if row.stg = .epoch then
    (if row.ty.isOct then { s with stagedBlobs := s.stagedBlobs.put k o } else { s with staged := s.staged.put k v })
  else if index = 0x4801 ∧ sub = 6 then setLock s { s.lock with keyValue := o }
  else if index = 0x4801 ∧ 2 ≤ sub ∧ sub ≤ 7 then wr s (winKey keyStage (objKey index sub)) v
  else if index = 0x4820 ∧ sub = 4 then setLock s { s.lock with saKey := some o }
  else if index = 0x4820 ∧ sub = 5 then setLock s { s.lock with saSalt := some o }
  else if 0x3010 ≤ index ∧ index ≤ 0x303F ∧ (sub = 3 ∨ sub = 4) then
    setMac s { s.mac with shadows := s.mac.shadows.put k { bytes := o, written := s.now } }
  else if index = 0x6041 ∧ 2 ≤ sub then meterWrite s sub k v
  else afterWrite (plainWrite s row k v o) index sub k v

/-- The key a write is forwarded under (R192): the object, whose shared selectors the follower holds itself; but a station entry, whose selector
is each module's own. -/
def forwardKey (s : State) (index sub : Nat) : Nat := if index = 0x3100 then targetKey s index sub else objKey index sub

/-- A word without the bits from `hi` down to `lo`. -/
def clearBits (w hi lo : Nat) : Nat := w - bits w hi lo * 2 ^ lo

/-- A value as its object keeps it: the reserved bits of length, selector, extraction and binding words read as zero (R9, R252 to R254, R329;
DEDUCED, log 50). -/
def keptValue (index sub v : Nat) : Nat :=
  if index = 0x5010 ∧ (sub = 5 ∨ sub = 6) then clearBits v 13 8
  else if index = 0x5010 ∧ (sub = 7 ∨ sub = 8) then clearBits v 23 16
  else if index = 0x5010 ∧ 0x0D ≤ sub then clearBits (clearBits v 30 26) 15 7
  else if index = 0x6040 then clearBits v 30 16
  else v

/-- A write that passed the Ledger store and has reached its unit (R69, R192, R534). -/
def writeInUnit (s : State) (row : ObjRow) (index sub : Nat) (o : Octets) : Status × State :=
  let v := keptValue index sub (valueOf row.ty o)
  if roleMode s = 9 ∧ inSharedSet index sub then (.denied, s)
  else if objKey index sub = O.reset_cmd then resetTarget s
  else match ownRow s index sub v o with
  | some x => taken s x
  | none =>
    match unitWrite s index sub v o with
    | some st => (st, s)
    | none =>
      match claimStep s index sub v with
      | (.ok, s1) =>
        if writeBusy s1 index sub v then (.busy, s)
        else
          let s2 := applyWrite s1 row index sub (targetKey s index sub) v o
          (.ok, if inSharedSet index sub then forwardWrite s2 (forwardKey s index sub) v o (decide (row.stg ≠ .now)) else s2)
      | (st, s1) => (st, s1)

/-- How far a record comes (R534): answered with a status, or stopped at a domain. -/
inductive Reached where
  | answered (st : Status) (value : Octets) (after : State)
  | hangs (domain : Nat)

/-- A write record (R40, R53, R534). -/
def writeObject (s : State) (index sub : Nat) (o : Octets) : Reached :=
  match storeWrite s index sub o with
  | some st => .answered st [] s
  | none =>
    match crossing s index, findRow index sub with
    | .answered st, _ => .answered st [] s
    | .hangs d, _ => .hangs d
    | .reached, some row =>
      let r := writeInUnit s row index sub o
      .answered r.1 [] r.2
    | .reached, none => .answered .denied [] s

/-! ### A read's value -/

/-- A stored value as octets (R535): the staged one while it is pending. -/
def storedOctets (s : State) (row : ObjRow) (index sub : Nat) : Octets :=
  let k := targetKey s index sub
  if row.ty.isOct then (if row.stg = .epoch then stagedBlob s k else rdB s k)
  else leBytes row.ty.size (if row.stg = .epoch then stagedNum s k else rd s k)

/-- A read that has reached its unit. Five backup objects are latched together, and `gt_cap_read` takes what it returns (R413, R428). -/
def readInUnit (s : State) (index sub : Nat) : Status × Octets × State :=
  match findRow index sub with
  | none => (.ok, leBytes 1 ((subCount index).getD 0), s)
  | some row =>
    if index = 0x1401 ∧ 1 ≤ sub ∧ sub ≤ 5 then
      let r := backupTimeRead s sub
      (.ok, r.1, r.2)
    else if 0x1320 ≤ index ∧ index < 0x1340 ∧ sub = 0x0D then
      let r := gtCapRead s (index - 0x1320)
      (.ok, r.1, r.2)
    else if index = 0x7802 ∧ sub = 2 then
      (match logNamed s (rd s O.log_select) with
        | some e => (.ok, logBytes e, s)
        | none => (.range, [], s))
    else if index = 0x0002 ∧ sub = 2 ∧ queryStatus s (rd s O.fit_query) ≠ .ok then (.range, [], s)
    else if index = 0x1181 ∧ sub = 2 ∧ queryStatus s (rd s O.mode_query) ≠ .ok then (.range, [], s)
    else if index = 0x1181 ∧ sub = 2 ∧ hidFitted s (rd s O.mode_query) = false then (.absent, [], s)
    else match liveOctets s index sub with
      | some o => (.ok, o, s)
      | none =>
        match liveNumber s index sub with
        | some v => (.ok, leBytes row.ty.size v, s)
        | none => (.ok, storedOctets s row index sub, s)

/-- A read record (R40, R534). -/
def readObject (s : State) (index sub : Nat) : Reached :=
  match storeRead s index sub with
  | some st => .answered st [] s
  | none =>
    match crossing s index with
    | .answered st => .answered st [] s
    | .hangs d => .hangs d
    | .reached =>
      let r := readInUnit s index sub
      .answered r.1 r.2.1 r.2.2

/-! ### Writes that a lead forwards (R192) -/

/-- A forwarded command runs as it would on the lead. -/
def forwardedCommand (s : State) (k v : Nat) : Option (Status × State) :=
  if k = O.sa_cmd then some (if v = 1 then saInstall s else saClear s)
  else if k = O.graph_check_cmd then some (graphChecked s)
  else if k = O.graph_default_cmd then some (graphDefaulted s)
  else if k = O.rule_cmd then some (if v = 1 then ruleCommit s false else (.ok, ruleDiscard s))
  else if k = O.flow_cmd then some (if v = 1 then flowDelete s else flowFlush s)
  else if k = O.rt_cmd then some (if v = 1 then routeAdd s else if v = 2 then routeDelete s else routeFind s)
  else none

/-- A forwarded write on the follower: its own checks, but for the DENIED of FOLLOW. A station entry is named by its key. -/
def forwardedApply (s : State) (key : Nat) (o : Octets) : Status × State :=
  let index := key % 16777216 / 256
  let sub := key % 256
  match storeWrite s index sub o, findRow index sub, crossing s index with
  | none, some row, .reached =>
    let v := keptValue index sub (valueOf row.ty o)
    match forwardedCommand s key v with
    | some r => r
    | none =>
      match ruleWriteOf key v o with
      | some w => ruleStage s w
      | none =>
        if 16777216 ≤ key then (.ok, applyWrite s row index sub key v o)
        else match unitWrite s index sub v o with
          | some st => (st, s)
          | none =>
            if writeBusy s index sub v then (.busy, s)
            else (.ok, applyWrite s row index sub (targetKey s index sub) v o)
  | some st, _, _ => (st, s)
  | _, _, _ => (.timeout, s)

/-- FORWARDED_WRITE (R192): the follower applies the lead's write and acknowledges it, or refuses it. -/
def execForwardedWrite (v : VHead) (key value : Nat) (octets : Octets) (s : State) : Host.Outcome State Fault Refusal :=
  act s fun s =>
    onMessage s 1 v fun s =>
      if roleMode s = 9 then
        let r := forwardedApply s key (if octets = [] then valueOctets key value else octets)
        varlanSend r.2 1 (.forwardAck key (accepted r.1))
      else s

end Sys2Proof.Machine
end

