-- ==== Sys2Proof/Machine/Boot.lean ====
section
/-! DEFINITION. The start of the module (R42, R451, R473, R518 to R528): BOOT's steps, the values objects take, and the end of TRAIN. -/

namespace Sys2Proof.Machine

/-! ### Step 1 of BOOT (R51, R393, R518, R522) -/

/-- `boot_count` of this BOOT: one more than the higher copy, saturating (R51, R518). -/
def bootCountNext (l : Ledger) : Nat := min 0xFFFF (max l.bootCount0 l.bootCount1 + 1)

/-- The copy with the lower value takes it (R518). -/
def bootCountWrite (l : Ledger) : Ledger :=
  if l.bootCount1 < l.bootCount0 then { l with bootCount1 := bootCountNext l } else { l with bootCount0 := bootCountNext l }

/-- `boot_count` had saturated before this BOOT (R189): both copies hold 0xFFFF. -/
def bootSaturated (l : Ledger) : Bool := decide (l.bootCount0 = 0xFFFF ∧ l.bootCount1 = 0xFFFF)

/-- TB96 at BOOT (R393): kept after a wake with its record; else the Watchman's time, or 0 and UNSET. -/
def bootTime (s : State) : State :=
  if s.boot.wake ∧ s.power.record.isSome then s
  else
    let valid := !s.boot.wake && flag s O.bak_valid
    let tb := if valid then rd s O.bak_seconds * 65536000000000 + rd s O.bak_prescaler * 2000000000 else 0
    let s1 := setTbState { s with tb := tb, time := { s.time with origin := tb } } (if valid then 4 else 0)
    setUncertainty s1 (if valid then 30518 else 0)

/-- A kind held since the hub die was unpowered enters the collector, with the source's next SEQUENCE (R439, R466). -/
def reportHeldOver (s : State) (m : FaultMsg) : State :=
  let n := nextSequence s m.source
  collect { s with tinker := { s.tinker with seqs := s.tinker.seqs.put m.source n } } { m with sequence := n }

/-- The kinds that step 1 reports (R51, R288, R425, R439, R522). -/
def bootKinds (s : State) : State :=
  let s1 := s.power.lateKinds.foldl reportHeldOver { s with power := { s.power with lateKinds := [] } }
  let s2 := if rd s1 O.boot_count = 0xFFFF then report s1 0x01 (ledgerHid s1) 0 else s1
  let s3 := if bit s2.boot.straps 0 then report s2 0x12 (ledgerHid s2) 0 else s2
  let s4 := if flag s3 O.bak_por then report s3 0x71 (supplyHid s3) 0 else s3
  if 4 ≤ bits s4.boot.straps 7 5 then report s4 0x57 (hidOf s4 0 9 1 0) 0 else s4

/-- The slots that BOOT_SRC has tried, in order (R520). -/
def bootSlots (straps : Nat) : List Nat :=
  let v := bits straps 9 8
  if v = 0 then [0, 1] else if v = 1 then [1, 0] else if v = 2 then [0] else [1]

/-- The plan store's steps are restored before the first VCORE request (R490). -/
def bootPlan (s : State) : State :=
  let s1 := (List.range 24).foldl (fun t i =>
    match s.survey.flash.look i with
    | some n => wr t (O.mi_steps i) n
    | none => t) s
  let s2 := wr s1 O.vcore_age_offset (min 50 (5 * s.survey.flash.getD 0 0))
  let s3 := [0, 1, 2].foldl (fun t r => wr t (O.life_derate r) (s.survey.flash.getD (r + 1) 0)) s2
  setPowerState (setFlag s3 O.plan_valid true) { s3.power with avsPending := true, idleByCommit := false }

/-- What the flash shows at BOOT (R45, R189). -/
def bootFlash (s : State) : State := setFlag (showSlots s) O.peer_key_set s.led.peerKey.isSome

/-- The transports start afresh (R51, R52, R56): no counter accepted yet, and no request or response but one that management SPI has
held since before step 1. -/
def bootTransports (l : Ledger) : Ledger :=
  { l with eth := {}, mb := {}, spi := {}, notifyCount := 0,
           spiState := if l.arrivals.any (fun a => decide (a.transport = .spi)) then 0 else 3 }

/-- Step 1 of BOOT. -/
def bootBegin (s : State) : State :=
  let n := bootCountNext s.led
  let s1 := wr (setLed s (bootTransports (bootCountWrite s.led))) O.boot_count n
  let s2 := { s1 with boot := { s1.boot with step := 1, slots := bootSlots s.boot.straps } }
  let s3 := bootTime (setMode s2 5)
  let s4 := setPowerState s3 { s3.power with record := none }
  let s5 := if s.boot.wake then wr s4 O.last_wake_ms (min (topOf O.last_wake_ms) ((s.now - s.power.wokeAt) / 1000000)) else s4
  bootKinds (bootPlan (bootFlash s5))

/-- BOOT_START (R522): from IDLE, with the reference LOCKED. -/
def execBootStart (s : State) : Host.Outcome State Fault Refusal :=
  act s fun s =>
    if packageMode s = 4 ∧ s.boot.step = 0 ∧ s.boot.halted = false ∧ rd s O.ref_state = 2 then bootBegin s else s

/-! ### Steps 2 and 3 (R519 to R523) -/

/-- BOOT halts (R521): the mode stays BOOT, and no step follows. -/
def bootHalt (s : State) : State := wr { s with boot := { s.boot with halted := true } } O.firmware_rev 0

/-- IMAGE_CHECK_DONE (R519, R520): the slot that streams passes, or fails the check of the number given and the next slot streams. -/
def execImageCheckDone (failed : Fin 5) (revision : Nat) (s : State) : Host.Outcome State Fault Refusal :=
  act s fun s =>
    match s.boot.slots with
    | [] => s
    | slot :: rest =>
      if s.boot.step ≠ 1 ∨ s.boot.halted then s
      else if failed = 0 then
        wr { s with boot := { s.boot with step := 2, slots := [] } } O.firmware_rev (revision % 4294967296)
      else
        let s1 := report { s with boot := { s.boot with slots := rest } } 0x10 (ledgerHid s) (slot + 256 * failed)
        if rest = [] then bootHalt s1 else s1

/-- A unit that BOOT cannot do without (R523). -/
def bootVital (h : Nat) : Bool := decide (hidDie h = 0) && decide (hidRegion h ∈ [0, 8, 10, 11, 13])

/-- A fitted unit of the hub die or a transceiver die, whose guarded memory self-test runs (R523). -/
def selfTested (s : State) (h : Nat) : Bool := hidIsUnit h && hidOwn s h && decide (hidDie h ≤ 3) && hidFitted s h

/-- SELF_TEST_DONE (R523): each failing unit reports kind 0x11; one of the regions named there halts BOOT, any other is disabled. -/
def execSelfTestDone (failed : List Nat) (s : State) : Host.Outcome State Fault Refusal :=
  act s fun s =>
    if s.boot.step ≠ 2 ∨ s.boot.halted then s
    else
      let l := failed.filter (selfTested s)
      let s1 := l.foldl (fun t h => report t 0x11 h h) s
      if l.any bootVital then bootHalt s1 else { s1 with boot := { s1.boot with step := 3, disabled := l } }

/-! ### Step 4: the values objects take (R42, R451) -/

/-- The selector of an object that shows one entry of a table. -/
def selectorOf (index : Nat) : Option Nat :=
  if index = 0x5010 then some O.node_select
  else if index = 0x5011 then some O.tr_select
  else if index = 0x5401 then some O.rule_select
  else if index = 0x5830 then some O.nh_select
  else if index = 0x5838 then some O.grp_select
  else if index = 0x5840 then some O.tn_select
  else if index = 0x5850 then some O.vid_select
  else if index = 0x6020 then some O.aq_select
  else if index = 0x6041 then some O.m_select
  else if index = 0x7808 then some O.kind_select
  else none

/-- The state in which a register's entry is the one selected. -/
def entryNamed (s : State) (k : Nat) : State :=
  match selectorOf (k % 16777216 / 256) with
  | some sel => wr s sel (k / 16777216)
  | none => s

/-- A register key as a number that rises by index, sub-index and then entry (R42), and back. -/
def settleOrder (k : Nat) : Nat := k % 16777216 * 16777216 + k / 16777216
def settleKey (n : Nat) : Nat := n % 16777216 * 16777216 + n / 16777216

/-- The values of a saved set in the order of R42. -/
def settleList (x : SavedSet) : List (Nat × Octets) :=
  let t := x.regs.foldl (fun (t : Tab Octets) e => t.put (settleOrder e.1) (valueOctets e.1 e.2)) []
  (x.blobs.foldl (fun t e => t.put (settleOrder e.1) e.2) t).map (fun e => (settleKey e.1, e.2))

/-- The parts of the state that a retention bank covers: 1 the rules and the parse graph, 2 the tables, 0 all else (R453). -/
def bankCovering (k : Nat) : Nat :=
  let i := k % 16777216 / 256
  if tableKey k then 2
  else if i = 0x5010 ∨ i = 0x5011 ∨ i = 0x5401 ∨ k = O.block_width ∨ k = O.rule_miss_action then 1
  else 0

/-- The saved objects whose values take part in a check that fails even with the default (R42). -/
def checkPartners (k : Nat) : List Nat :=
  if k = O.csi_max_age then [O.sound_interval]
  else if k = O.align_max_age then [O.align_interval]
  else if k = O.spill_on then [O.cell_reserve]
  else if k % 16777216 = O.tn_nexthop then [winKey 0 O.nh_kind]
  else []

/-- Values being settled: the state, and the keys that the saved set has given so far. -/
abbrev Settled := State × List Nat

/-- A saved value is discarded (R42). -/
def saveReject (s : State) : State := bump s O.save_rejects

/-- A saved value that was taken gives way to the default. -/
def unsettle (x : Settled) (k : Nat) : Settled :=
  if x.2.contains k then
    (saveReject { x.1 with regs := x.1.regs.del k, blobs := x.1.blobs.del k }, x.2.filter (fun j => j ≠ k))
  else x

/-- A saved value fails (R42): it is discarded; where the default fails the same check, its partners are too. -/
def settleFail (x : Settled) (k : Nat) : Settled :=
  let s := x.1
  let t := entryNamed s k
  let index := k % 16777216 / 256
  let y : Settled := (saveReject s, x.2)
  if crossOk t index (k % 256) (rd t k) (rdB t k) then y else (checkPartners k).foldl unsettle y

/-- A saved rule value (R276, R277, R282): it goes into the current version, version 0. -/
def settleRule (x : Settled) (k : Nat) (w : RuleWrite) : Settled :=
  let s := x.1
  let r := ruleStage (entryNamed { s with rules := { s.rules with logRows := [], logWidth := none, logMiss := none } } k) w
  if r.1 = .ok then (setRules s { s.rules with current := nextBank r.2.rules }, x.2 ++ [k]) else (saveReject s, x.2)

/-- One saved value settled (R42): the checks of a host write but those against transient state. A value that the host has written since
step 1 stands (DEDUCED, log 52). -/
def settleOne (x : Settled) (e : Nat × Octets) : Settled :=
  let s := x.1
  let k := e.1
  let index := k % 16777216 / 256
  let sub := k % 256
  match findRow index sub with
  | none => x
  | some row =>
    if row.acc ≠ .rws ∨ s.regs.has k ∨ s.blobs.has k then x
    else
      let v := valueOf row.ty e.2
      let t := entryNamed s k
      if (storeWrite t index sub e.2).isSome then settleFail x k
      else match ruleWriteOf (k % 16777216) v e.2 with
        | some w => settleRule x k w
        | none =>
          if (unitWrite t index sub v e.2).isSome then settleFail x k
          else if row.stg = .graph then (setGraph s { s.graph with active := gput s.graph.active k v }, x.2 ++ [k])
          else (if row.ty.isOct then wrB s k e.2 else wr s k v, x.2 ++ [k])

/-- The parse graph as the values give it, checked whole (R42, R263); one that fails is the default graph, with `start_node` 0. -/
def settleGraph (x : Settled) : State :=
  let s := x.1
  if (graphCheck s.graph.active (rd s O.start_node)).1 = 0 then s
  else
    let n := (x.2.filter (fun k => decide (bankCovering k = 1 ∧ k % 16777216 / 256 < 0x5400 ∨ k = O.start_node))).length
    setGraph { bumpBy s O.save_rejects n with regs := (bumpBy s O.save_rejects n).regs.del O.start_node } { s.graph with active := [] }

/-- A bank that passed at the wake (R454). -/
def bankPassed (s : State) (b : Nat) : Bool := s.boot.wake && bit s.boot.banksOk b

/-- Beacon and probe-response templates, which the air MAC keeps. -/
def templateKey (k : Nat) : Bool := decide (0x3010 ≤ k / 256 ∧ k / 256 ≤ 0x303F ∧ (k % 256 = 3 ∨ k % 256 = 4))

/-- The values of the banks that passed (R451, R453), which stand in place of saved values and defaults. -/
def bootBanks (s : State) : State :=
  let b := fun (i : Nat) => s.power.banks.getD i {}
  let s1 := if bankPassed s 0 then
      setMac { s with regs := putAll (b 0).regs s.regs, blobs := putAll ((b 0).blobs.filter (fun e => !(templateKey e.1))) s.blobs }
        { s.mac with templates := (b 0).blobs.filter (fun e => templateKey e.1) }
    else s
  let s2 := if bankPassed s 1 then
      let graph := (b 1).regs.filter (fun e => decide (e.1 % 16777216 / 256 = 0x5010 ∨ e.1 % 16777216 / 256 = 0x5011))
      setRules (setGraph s1 { s1.graph with active := graph }) { s1.rules with current := rulesOf (b 1).regs (b 1).blobs }
    else s1
  if bankPassed s 2 then
    let r := (b 2).routes.map (fun e => { vrf := e.1, prefixBytes := e.2.1, len := e.2.2.1, nexthop := e.2.2.2 : Route })
    let v4 := r.filter (fun e => e.prefixBytes.length = 4)
    let v6 := r.filter (fun e => e.prefixBytes.length ≠ 4)
    wr (wr { s2 with regs := putAll s2.regs (b 2).regs, blobs := putAll s2.blobs (b 2).blobs, switch := { s2.switch with v4 := v4, v6 := v6 } }
      O.rt_count_v4 v4.length) O.rt_count_v6 v6.length
  else s2

/-- The saved values that apply: a valid slot, SAFE_START 0, and no bank in their place. -/
def bootSaved (s : State) : List (Nat × Octets) :=
  let x := slotInUse s.led
  if x.valid && !(bit s.boot.straps 0) then (settleList x).filter (fun e => !(bankPassed s (bankCovering e.1))) else []

/-- Every object has its value (R42, R451); the rule memory and the graph load both their banks (R267, R282). -/
def bootValues (s : State) : State :=
  let s1 := settleGraph ((bootSaved s).foldl settleOne (bootBanks s, []))
  let s2 := setRules (setGraph s1 { s1.graph with shadow := s1.graph.active }) { s1.rules with other := s1.rules.current }
  setPowerState s2 { s2.power with banks := [] }

/-! ### Step 4: claims, the twin and TRAIN (R70, R182, R525) -/

/-- One feature's claims (R70): with CONFLICT it stays disabled and kind 0x04 is reported. -/
def bootClaim (s : State) (index sub k off : Nat) : State :=
  let v := rd s k
  match claimStep s index sub v with
  | (.ok, t) => t
  | (_, t) => report (wr t k (if off = 256 then clrBit v 1 else off)) 0x04 (ledgerHid s) 0

/-- The features that values enable claim in ascending object number (R70). -/
def bootClaims (s : State) : State :=
  let s1 := bootClaim s 0x1104 2 O.wake_enable 256
  let s2 := bootClaim s1 0x1310 4 O.rclk_pin 0xFF
  (List.range 32).foldl (fun t i => if rd t (O.gt_mode i) = 0 then t else bootClaim t (0x1320 + i) 1 (O.gt_mode i) 0) s2

/-- A die whose retained target lies below IDLE stays unpowered (R446, R451). -/
def bootDies (s : State) : State :=
  ([0, 1, 2].filter (fun r => radioFitted s.fuse.part r)).foldl (fun t r =>
    if regionMode t (r + 1) 0 < 4 then setPower (radioUnpowered t r) (6 + r) 0 else t) s

/-- A radio at the start of TRAIN (R525): FULL, but where its retained bank passed; nothing on a die that is not powered. -/
def trainRadio (s : State) (r : Nat) : State :=
  if radioFitted s.fuse.part r = false ∨ rd s (O.pd_state (6 + r)) ≠ 2 then s
  else if bankPassed s (3 + r) then follow s r
  else startFull { s with boot := { s.boot with fulls := s.boot.fulls ++ [r] } } r

/-- The Varlan lanes train in a twin role (R182, R186). -/
def trainLanes (s : State) : State := if twinState s = 0 then s else laneRefresh (setTwin s { s.twin with training := 15 })

/-- TRAIN's tasks begin (R525): the DRAM, the radios, the ports and the lanes. -/
def trainBegin (s : State) : State :=
  let s1 := setMode { s with boot := { s.boot with step := 4, fulls := [] } } 6
  let s2 := setDram (wr s1 O.dram_state 1) { s1.dram with attempts := [] }
  trainLanes (portsRestart ([0, 1, 2].foldl trainRadio s2))

/-- Step 4 of R522 and the end of BOOT: values, claims, `twin_state`; then TRAIN. -/
def bootFinish (s : State) : State :=
  let s1 := bootClaims (bootValues s)
  let s2 := setLed s1 { s1.led with node := rd s1 O.ledger_node, enabled := maskTransports (rd s1 O.transports) (fusedTransports s1.fuse) }
  let s3 := wr (wr s2 O.twin_state (if twinRole s2 = 0 ∨ bootSaturated s2.led then 0 else 1)) O.epoch_current 1
  let s4 := if rd s3 O.sync_mode = 1 then wr s3 O.sync_state 1 else s3
  trainBegin (bhRefresh (bootDies s4))

/-- BOOT_END (R522): steps 4 and 5. -/
def execBootEnd (s : State) : Host.Outcome State Fault Refusal :=
  act s fun s => if s.boot.step = 3 ∧ s.boot.halted = false then bootFinish s else s

/-- What follows the end of TRAIN (R183, R473, R525, R526). -/
def trainChoice (s : State) : State :=
  if s.tinker.latched ∨ twinState s = 0 then { s with boot := { s.boot with chosen := some 7 } }
  else
    let t := { s with boot := { s.boot with waiting := true } }
    if s.twin.hbFresh then
      (if peerServes s then (if flag s O.auto_rejoin then sendJoin t else waitToSolo t)
       else if twinRole s = 1 then waitToSolo t
       else t)
    else if s.boot.searched then waitToSolo t
    else t

/-- TRAIN_END (R525): the DRAM is READY and every FULL has ended. -/
def execTrainEnd (s : State) : Host.Outcome State Fault Refusal :=
  act s fun s =>
    if packageMode s = 6 ∧ rd s O.dram_state = 3 ∧ s.boot.fulls = [] ∧ s.boot.waiting = false ∧ s.boot.chosen = none then
      trainChoice s
    else s

end Sys2Proof.Machine
end

