-- ==== Sys2Proof/Machine/Aes.lean ====
section
/-! DEFINITION. The AES-CMAC of R48, R50 and R218 (AES of FIPS 197, CMAC of NIST SP 800-38B) and the key derivation of R218. Bytes are
numbers here. -/

namespace Sys2Proof.Machine

/-! ### The AES block (FIPS 197) -/

/-- The S-box of FIPS 197, a row of 16 entries to a number, the first entry highest. -/
def sboxRows : List Nat := [
  0x637c777bf26b6fc53001672bfed7ab76, 0xca82c97dfa5947f0add4a2af9ca472c0, 0xb7fd9326363ff7cc34a5e5f171d83115,
  0x04c723c31896059a071280e2eb27b275, 0x09832c1a1b6e5aa0523bd6b329e32f84, 0x53d100ed20fcb15b6acbbe394a4c58cf,
  0xd0efaafb434d338545f9027f503c9fa8, 0x51a3408f929d38f5bcb6da2110fff3d2] ++ [
  0xcd0c13ec5f974417c4a77e3d645d1973, 0x60814fdc222a908846eeb814de5e0bdb, 0xe0323a0a4906245cc2d3ac629195e479,
  0xe7c8376d8dd54ea96c56f4ea657aae08, 0xba78252e1ca6b4c6e8dd741f4bbd8b8a, 0x703eb5664803f60e613557b986c11d9e,
  0xe1f8981169d98e949b1e87e9ce5528df, 0x8ca1890dbfe6426841992d0fb054bb16]

/-- One byte through the S-box. -/
def sbox (b : Nat) : Nat := sboxRows.getD (b / 16) 0 / 256 ^ (15 - b % 16) % 256

/-- A byte times x in the field of AES. -/
def xtime (b : Nat) : Nat := if b < 128 then 2 * b else (2 * b) ^^^ 0x11B

/-- Bytes added in the field, place by place. -/
def xorBytes (a b : List Nat) : List Nat := List.zipWith (fun x y => x ^^^ y) a b

/-- SHIFTROWS on the block's 16 bytes, column by column. -/
def shiftRows (b : List Nat) : List Nat := (List.range 16).map (fun i => b.getD ((i + 4 * (i % 4)) % 16) 0)

/-- MIXCOLUMNS on one column. -/
def mixColumn (a b c d : Nat) : List Nat :=
  let t := a ^^^ b ^^^ c ^^^ d
  [a ^^^ t ^^^ xtime (a ^^^ b), b ^^^ t ^^^ xtime (b ^^^ c), c ^^^ t ^^^ xtime (c ^^^ d), d ^^^ t ^^^ xtime (d ^^^ a)]

/-- MIXCOLUMNS on a block. -/
def mixColumns : List Nat → List Nat
  | a :: b :: c :: d :: t => mixColumn a b c d ++ mixColumns t
  | _ => []

/-- The next word of the key schedule, word number `i`, from the words so far, newest first. -/
def nextWord (nk i : Nat) (ws : List (List Nat)) : List Nat :=
  let last := ws.headD []
  let t :=
    if i % nk = 0 then xorBytes ((last.drop 1 ++ last.take 1).map sbox) [Nat.repeat xtime (i / nk - 1) 1, 0, 0, 0]
    else if 6 < nk ∧ i % nk = 4 then last.map sbox
    else last
  xorBytes (ws.getD (nk - 1) []) t

/-- The key schedule continued by `n` words. -/
def scheduleWords (nk : Nat) : Nat → Nat → List (List Nat) → List (List Nat)
  | 0, _, ws => ws
  | n + 1, i, ws => scheduleWords nk n (i + 1) (nextWord nk i ws :: ws)

/-- The four-byte words of a key. -/
def keyWords (key : List Nat) : List (List Nat) := (List.range (key.length / 4)).map (fun i => (key.drop (4 * i)).take 4)

/-- The bytes of every round key in order: 4 × (rounds + 1) words, with 10 rounds for 16 key bytes and 14 for 32. -/
def keySchedule (key : List Nat) : List Nat :=
  let nk := key.length / 4
  (scheduleWords nk (4 * (nk + 7) - nk) nk (keyWords key).reverse).reverse.flatten

/-- The rounds after the first key addition, with the round keys left. -/
def aesRounds : Nat → List Nat → List Nat → List Nat
  | 0, b, _ => b
  | 1, b, ks => xorBytes (shiftRows (b.map sbox)) (ks.take 16)
  | n + 1, b, ks => aesRounds n (xorBytes (mixColumns (shiftRows (b.map sbox))) (ks.take 16)) (ks.drop 16)

/-- One block encrypted under a round key list. -/
def aesBlock (rounds : Nat) (ks b : List Nat) : List Nat := aesRounds rounds (xorBytes b (ks.take 16)) (ks.drop 16)

/-! ### CMAC (SP 800-38B) -/

/-- A block doubled in the field of CMAC. -/
def cmacDouble (b : List Nat) : List Nat :=
  let v := b.foldl (fun a x => a * 256 + x) 0
  let w := (2 * v) % 2 ^ 128 ^^^ (if v < 2 ^ 127 then 0 else 0x87)
  (List.range 16).map (fun i => w / 256 ^ (15 - i) % 256)

/-- The chain over a message of `n` blocks; the last one is finished with a subkey. -/
def cmacChain (enc : List Nat → List Nat) (k1 k2 : List Nat) : Nat → List Nat → List Nat → List Nat
  | 0, c, _ => c
  | 1, c, m =>
    if m.length = 16 then enc (xorBytes c (xorBytes m k1))
    else enc (xorBytes c (xorBytes (m ++ [0x80] ++ List.replicate (15 - m.length) 0) k2))
  | n + 1, c, m => cmacChain enc k1 k2 n (enc (xorBytes c (m.take 16))) (m.drop 16)

/-- AES-CMAC of a message under a key of 16 or 32 bytes. -/
def aesCmac (key msg : List Nat) : List Nat :=
  let ks := keySchedule key
  let enc := aesBlock (key.length / 4 + 6) ks
  let l := enc (List.replicate 16 0)
  let k1 := cmacDouble l
  cmacChain enc k1 (cmacDouble k1) (max 1 (ceilDiv msg.length 16)) (List.replicate 16 0) msg

/-- The same on octets. -/
def cmacOctets (key msg : Octets) : Octets := (aesCmac (key.map BitVec.toNat) (msg.map BitVec.toNat)).map (BitVec.ofNat 8)

/-- A derived key (R218): the first 16 bytes of AES-256-CMAC(root, 0x01 ‖ label ‖ 0x00 ‖ 0x00 0x80). -/
def deriveKey (root label : Octets) : Octets := (cmacOctets root ([1] ++ label ++ zeros (16 - label.length) ++ [0, 0, 0x80])).take 16

/-- The label "SCRIVENER" (R219). -/
def scrivenerLabel : Octets := [0x53, 0x43, 0x52, 0x49, 0x56, 0x45, 0x4E, 0x45, 0x52]

end Sys2Proof.Machine
end

