-- ==== Sys2Proof/Machine/Scrivener.lean ====
section
/-! DEFINITION. The Scrivener messages (R48 to R59, R382 to R385, R475): the checks of a request, its records in order, what hangs and how it
ends, and the responses. -/

namespace Sys2Proof.Machine

/-! ### Messages (R48 to R50) -/

/-- The tag key (R50, R219). -/
def scrivenerKey (s : State) : Octets := deriveKey s.fuse.root scrivenerLabel

/-- A message with its tag: head, body, and the tag over both. -/
def sealMessage (s : State) (kind count status : Nat) (sequence body : Octets) : Octets :=
  let m := leBytes 1 1 ++ leBytes 1 kind ++ leBytes 1 s.led.node ++ leBytes 1 count ++ leBytes 2 (32 + body.length) ++
    leBytes 1 status ++ [0] ++ sequence ++ body
  m ++ cmacOctets (scrivenerKey s) m

/-- The fields of a request's head (R48). -/
def msgVersion (b : Octets) : Nat := octet b 0
def msgKind (b : Octets) : Nat := octet b 1
def msgNode (b : Octets) : Nat := octet b 2
def msgRecords (b : Octets) : Nat := octet b 3
def msgLength (b : Octets) : Nat := leNat (slice b 4 2)
def msgSequence (b : Octets) : Octets := slice b 8 8
def msgCounter (b : Octets) : Nat := leNat (slice b 8 6)
def msgBoot (b : Octets) : Nat := leNat (slice b 14 2)

/-- `n` records that end exactly with the octets (R49, R52 step 3). -/
def parseRecords : Nat → Octets → Option (List LedgerRecord)
  | 0, o => if o = [] then some [] else none
  | n + 1, o =>
    let vlen := leNat (slice o 4 2)
    let size := 8 + alignUp 4 vlen
    if o.length < size then none
    else (parseRecords n (o.drop size)).map (fun l =>
      { index := leNat (slice o 0 2), sub := octet o 2, op := octet o 3, value := slice o 8 vlen } :: l)

/-- The records of a request, where it is well formed (R52 step 3). -/
def requestRecords (b : Octets) : Option (List LedgerRecord) :=
  let n := msgRecords b
  if msgKind b ≠ 1 ∨ n = 0 ∨ 8 < n then none else parseRecords n ((b.take (b.length - 16)).drop 16)

/-- A record of a response (R49). -/
def recordOctets (r : LedgerRecord) (st : Status) (value : Octets) : Octets :=
  let v := if r.op = 1 ∧ st = .ok then value else []
  leBytes 2 r.index ++ leBytes 1 r.sub ++ leBytes 1 r.op ++ leBytes 2 v.length ++ leBytes 1 st.code ++ [0] ++ v ++
    zeros (alignUp 4 v.length - v.length)

/-! ### The transports (R51, R55 to R59) -/

/-- A transport's bit in `transports` (R57). -/
def Transport.bit : Transport → Nat
  | .eth => 0 | .mailbox => 1 | .spi => 2

/-- A transport's replay state. -/
def replayOf (l : Ledger) : Transport → Replay
  | .eth => l.eth | .mailbox => l.mb | .spi => l.spi
def setReplay (l : Ledger) (t : Transport) (r : Replay) : Ledger :=
  match t with
  | .eth => { l with eth := r } | .mailbox => { l with mb := r } | .spi => { l with spi := r }

/-- The counters of a transport (R57). -/
def failCounter : Transport → Nat
  | .eth => O.auth_fail_eth | .mailbox => O.auth_fail_mb | .spi => O.auth_fail_spi
def acceptCounter : Transport → Nat
  | .eth => O.accepted_eth | .mailbox => O.accepted_mb | .spi => O.accepted_spi

/-- The replay check (R51). -/
def replayOk (r : Replay) (bootCount boot counter : Nat) : Bool :=
  decide (boot = bootCount) && decide (counter ≠ 0) && decide (counter ≠ 281474976710655) &&
    (decide (r.high < counter) || (decide (r.high ≤ counter + 63) && !(bit r.map (r.high - counter))))

/-- H and the map take a counter (R51): bit j of the map stands for counter H − j. -/
def replayTake (r : Replay) (counter : Nat) : Replay :=
  if r.high < counter then { r with high := counter, map := (r.map * 2 ^ min 64 (counter - r.high) + 1) % 2 ^ 64 }
  else { r with map := setBit r.map (r.high - counter) }

/-- A response goes out on its transport (R55, R56, R59). -/
def deliver (s : State) (a : Arrival) (b : Octets) : State :=
  match a.transport with
  | .eth => send s (.response .eth a.port a.vid a.srcAddr a.srcPort b)
  | .mailbox =>
    send (setLed s { s.led with mbResp := b, mbRespLen := b.length, mbStatus := setBit (clrBit s.led.mbStatus 0) 1 }) (.msix 64)
  | .spi => setLed s { s.led with spiState := 1, spiResp := b }

/-- A message that gets no response (R52, R56, R59). -/
def discardMessage (s : State) (t : Transport) : State :=
  match t with
  | .eth => s
  | .mailbox => setLed s { s.led with mbStatus := clrBit s.led.mbStatus 0 }
  | .spi => setLed s { s.led with spiState := 2 }

/-- A response without records (R52 steps 2 to 4). -/
def refuse (s : State) (a : Arrival) (st : Status) (word : Octets) : State :=
  deliver s a (sealMessage s 2 0 st.code (msgSequence a.bytes) word)

/-! ### Records (R53) -/

/-- How far the records of a message have come. -/
structure Ran where
  state : State
  done : Octets := []
  count : Nat := 0
  /-- A record was `dormant_cmd` ENTER, which returned OK: entry follows the response (R449). -/
  enter : Bool := false
  /-- The record that hangs, its domain, and the records after it (R382). -/
  hungAt : Option (Nat × LedgerRecord × List LedgerRecord) := none
  /-- A package reset has ended the message. -/
  aborted : Bool := false

/-- One record (R49, R53): another operation is TYPE, and so is a READ that carries a value. -/
def runRecord (s : State) (r : LedgerRecord) : Reached :=
  if r.op = 1 then (if r.value = [] then readObject s r.index r.sub else .answered .type [] s)
  else if r.op = 2 then writeObject s r.index r.sub r.value
  else .answered .type [] s

/-- A record that a status ends. -/
def Ran.push (x : Ran) (r : LedgerRecord) (st : Status) (value : Octets) (s : State) : Ran :=
  { x with state := ret s st, done := x.done ++ recordOctets r st value, count := x.count + 1 }

/-- The records in order, one at a time (R53); DORMANT entry waits for the response (R449). -/
def runRecords : List LedgerRecord → Ran → Ran
  | [], x => x
  | r :: rest, x =>
    match runRecord x.state r with
    | .hangs d => { x with hungAt := some (d, r, rest) }
    | .answered st v t =>
      if packageMode x.state = 4 ∧ packageMode t = 3 then runRecords rest { x.push r st v x.state with enter := true }
      else if t.boot.step = 0 then { x.push r st v t with aborted := true }
      else runRecords rest (x.push r st v t)

/-- No message is stopped by a hung record. -/
def noneHung (s : State) : Bool := s.led.hung.all (fun h => h.transport.isNone)

/-- What the end of a message releases and puts in force (R57, R428). -/
def messageOver (s : State) : State :=
  if noneHung s then
    setLed s { s.led with node := rd s O.ledger_node, enabled := maskTransports (rd s O.transports) (fusedTransports s.fuse), backupLatch := none }
  else s

/-- DORMANT entry after its response (R449, R450). -/
def enterAfter (s : State) (enter : Bool) : State := if enter ∧ packageMode s = 4 then dormantEntry s else s

/-- A message as its records leave it: its response sent, or one of its records hung. `a` is none where PERST_N or a reset of the transport
has taken the place its response would go to (R507). -/
def closeMessage (t : Transport) (a : Option Arrival) (x : Ran) : State :=
  let s := x.state
  if x.aborted then s
  else match x.hungAt with
    | some (d, r, rest) =>
      enterAfter (setLed s { s.led with hung := s.led.hung ++
        [{ transport := some t, arrival := a, done := x.done, doneCount := x.count, index := r.index, sub := r.sub,
           write := decide (r.op = 2), value := r.value, rest := rest, domain := d, since := s.now, reported := false }] }) x.enter
    | none =>
      let s1 := match a with
        | some m => deliver s m (sealMessage s 2 x.count 0 (msgSequence m.bytes) x.done)
        | none => s
      enterAfter (messageOver s1) x.enter

/-! ### Hung records (R382 to R385) -/

/-- A hung record as a record. -/
def Hung.record (h : Hung) : LedgerRecord := { index := h.index, sub := h.sub, op := if h.write then 2 else 1, value := h.value }

/-- A record whose wait is over and that no message carries: it goes on, or ends TIMEOUT. -/
def resumeAlone (s : State) (h : Hung) (started : Bool) : State :=
  if started then
    match runRecord s h.record with
    | .answered st v t => ret (if h.write then t else { t with lastRead := v }) st
    | .hangs d => hangAlone s h.index h.sub h.write h.value d
  else ret s .timeout

/-- A hung record whose wait is over (R382, R384): the access goes on, or the record ends TIMEOUT; then its message goes on. -/
def resumeOne (s : State) (h : Hung) (started : Bool) : State :=
  match h.transport with
  | none => resumeAlone s h started
  | some t =>
    let x : Ran := { state := s, done := h.done, count := h.doneCount }
    closeMessage t h.arrival
      (if started then runRecords (h.record :: h.rest) x else runRecords h.rest (x.push h.record .timeout [] s))

/-- The first hung record whose wait is over, and those that remain. -/
def takeEnded : List Hung → Option (Hung × Bool × List Hung)
  | [] => none
  | h :: t =>
    match h.ended with
    | some b => some (h, b, t)
    | none => (takeEnded t).map (fun x => (x.1, x.2.1, h :: x.2.2))

/-- Every hung record whose wait is over goes on, oldest first; `n` bounds their number. -/
def resumeEnded : Nat → State → State
  | 0, s => s
  | n + 1, s =>
    match takeEnded s.led.hung with
    | some (h, started, rest) => resumeEnded n (resumeOne (setLed s { s.led with hung := rest }) h started)
    | none => s

/-- The same for all that hang now. -/
def resumeAll (s : State) : State := resumeEnded s.led.hung.length s

/-! ### The next message (R52, R54, R385) -/

/-- A record that R385 lets run beside a hung one. -/
def sideRecord (r : LedgerRecord) : Bool :=
  decide (r.index = 0x1182) || (decide (r.op = 1) && (decide (r.index = 0x1181) || (decide (0x1200 ≤ r.index) && decide (r.index ≤ 0x12FF))))

/-- A message of such records only. -/
def sideMessage (b : Octets) : Bool :=
  match requestRecords b with
  | some l => l.all sideRecord
  | none => false

/-- The message that runs next (R54): the oldest, or while a message hangs the oldest one on another transport that R385 allows. -/
def nextMessage (s : State) : Option Arrival :=
  if noneHung s then s.led.arrivals.head?
  else s.led.arrivals.find? (fun a => s.led.hung.all (fun h => h.transport ≠ some a.transport) && sideMessage a.bytes)

/-- Step 1 of R52: what is discarded without a response. -/
def discards (s : State) (a : Arrival) : Bool :=
  let b := a.bytes
  decide (b.length < 40) || decide (msgVersion b ≠ 1) || decide (msgNode b ≠ s.led.node) || !(bit s.led.enabled a.transport.bit) ||
    decide (msgLength b < 40) || decide (1280 < msgLength b) || decide (msgLength b ≠ b.length)

/-- Step 2 of R52: the tag and the replay check. -/
def authentic (s : State) (a : Arrival) : Bool :=
  let b := a.bytes
  let n := b.length - 16
  decide (b.drop n = cmacOctets (scrivenerKey s) (b.take n)) &&
    replayOk (replayOf s.led a.transport) (rd s O.boot_count) (msgBoot b) (msgCounter b)

/-- A failure of step 2: counted, and answered at most once in 10 ms on each transport. -/
def authFailed (s : State) (a : Arrival) : State :=
  let t := a.transport
  let s1 := bump s (failCounter t)
  let r := replayOf s.led t
  let due := match r.lastFail with
    | some x => decide (x + 10000000 ≤ s.now)
    | none => true
  if due then
    refuse (setLed s1 (setReplay s1.led t { r with lastFail := some s.now })) a .authFail (leBytes 6 r.high ++ leBytes 2 (rd s O.boot_count))
  else discardMessage s1 t

/-- Step 5 of R52: the counter is taken, and the records are to run. -/
def acceptMessage (s : State) (a : Arrival) : State :=
  let t := a.transport
  let l := setReplay s.led t (replayTake (replayOf s.led t) (msgCounter a.bytes))
  let s1 := bump (setLed s l) (acceptCounter t)
  if t = .eth then setLed s1 { s1.led with lastPort := some a.port } else s1

/-- One message (R52). Whether its response would exceed 1,280 bytes is judged by running its records; a message whose response would be
too long has had no effect. -/
def runMessage (s : State) (a : Arrival) : State :=
  if discards s a then discardMessage s a.transport
  else if authentic s a = false then authFailed s a
  else match requestRecords a.bytes with
    | none => refuse (bump s O.format_err) a .type (zeros 8)
    | some l =>
      let x := runRecords l { state := acceptMessage s a }
      if x.hungAt.isNone ∧ x.aborted = false ∧ 1280 < 32 + x.done.length then refuse (bump s O.format_err) a .range (zeros 8)
      else closeMessage a.transport (some a) x

/-- MESSAGE_RUN (R52 to R54, R449, R524). -/
def execMessageRun (s : State) : Host.Outcome State Fault Refusal :=
  act s fun s =>
    if ledgerServes s = false then s
    else match nextMessage s with
      | some a => resumeAll (runMessage (setLed s { s.led with arrivals := s.led.arrivals.filter (fun b => b.order ≠ a.order) }) a)
      | none => s

/-! ### How messages arrive (R54 to R56, R59) -/

/-- A transport's place among messages complete in the same cycle (R54). -/
def Transport.rank : Transport → Nat
  | .mailbox => 0 | .spi => 1 | .eth => 2

/-- A message put among those waiting (R54): behind those that were complete before it, and in the same cycle by its transport. -/
def queueArrival (a : Arrival) : List Arrival → List Arrival
  | [] => [a]
  | b :: t => if b.since = a.since ∧ a.transport.rank < b.transport.rank then a :: b :: t else b :: queueArrival a t

/-- A complete message waits for the Ledger (R54). Two that no cycle of the time base parts are complete in the same cycle (log 53). -/
def arrive (s : State) (t : Transport) (port vid : Nat) (addr : Octets) (udp : Nat) (b : Octets) : State :=
  let a : Arrival :=
    { transport := t, order := s.led.nextOrder, since := s.now, port := port, vid := vid, srcAddr := addr, srcPort := udp, bytes := b }
  setLed s { s.led with arrivals := queueArrival a s.led.arrivals, nextOrder := s.led.nextOrder + 1 }

/-- A write of `MB_DOORBELL` (R59): the request is taken as the buffer holds it. -/
def doorbell (s : State) (value : Nat) : State :=
  let n := bits value 10 0
  let st := s.led.mbStatus
  let bad := decide (n = 0 ∨ 1280 < n)
  let excess := bit st 0 || bit st 1
  if bad || excess then setLed s { s.led with mbStatus := putBit (putBit st 3 (bad || bit st 3)) 2 (excess || bit st 2) }
  else arrive (setLed s { s.led with mbStatus := setBit st 0 }) .mailbox 0 0 [] 0 ((s.led.mbReq ++ zeros (n - s.led.mbReq.length)).take n)

/-- MB_DOORBELL (R59). -/
def execMbDoorbell (value : BitVec 32) (s : State) : Host.Outcome State Fault Refusal :=
  act s fun s => if bar0Up s then doorbell s value.toNat else s

/-- SPI_REQUEST (R55, R56): a request is ignored while the state is PENDING or READY; before step 1 of BOOT the first one is held. -/
def execSpiRequest (bytes : Octets) (s : State) : Host.Outcome State Fault Refusal :=
  act s fun s =>
    let free := if s.boot.step = 0 then s.led.arrivals.all (fun a => a.transport ≠ .spi) else decide (s.led.spiState = 2 ∨ s.led.spiState = 3)
    if free then arrive (setLed s { s.led with spiState := 0 }) .spi 0 0 [] 0 bytes else s

/-- What command 0x03 clocks out (R56): the response where one is ready, else the state byte; the bytes after either are free (log 1). -/
def spiBytes (s : State) (n : Nat) : Octets :=
  let known := if s.led.spiState = 1 then s.led.spiResp else leBytes 1 s.led.spiState
  (known ++ (List.range (n - known.length)).map (Config.freeByte s.free)).take n

/-- SPI_RESPONSE_READ (R55, R56, R530): a module in reset or unpowered reads 0x00. -/
def execSpiResponseRead (clocked : Nat) (s : State) : Host.Outcome State Fault Refusal :=
  done s (
    if hubOn s then
      let t := freeNext { s with lastRead := spiBytes s clocked }
      if s.led.spiState = 1 ∧ s.led.spiResp.length ≤ clocked then setLed t { t.led with spiState := 3, spiResp := [] }
      else if s.led.spiState = 2 ∧ 0 < clocked then setLed t { t.led with spiState := 3 }
      else t
    else { s with lastRead := zeros clocked })

/-- MGMT_DATAGRAM (R54, R55): a datagram on port 4117, tagged with `mgmt_vid`, at a port that is UP. -/
def execMgmtDatagram (port : Fin 8) (vid : Nat) (srcAddr : Octets) (srcPort : Nat) (bytes : Octets) (s : State) :
    Host.Outcome State Fault Refusal :=
  act s fun s =>
    if portUp s port = false ∨ vid ≠ rd s O.mgmt_vid then s
    else if 16 ≤ (s.led.arrivals.filter (fun a => decide (a.transport = .eth))).length then bump s O.eth_queue_drop
    else arrive s .eth port vid srcAddr srcPort bytes

/-! ### Announcements (R475) -/

/-- Log entries that a transport still owes, oldest first: reaction NOTIFY or stronger. -/
def owedEntries (s : State) (announced : LogEntry → Bool) : List (Nat × LogEntry) :=
  s.tinker.log.filter (fun e => decide (1 ≤ e.2.reaction) && !(announced e.2))

/-- `notify_gap` has passed since the last announcement on a transport. -/
def gapOver (s : State) (last : Option Nat) : Bool :=
  match last with
  | some t => decide (t + 1000 * rd s O.notify_gap ≤ s.now)
  | none => true

/-- The port that a NOTIFY leaves on: that of the last accepted datagram, else the lowest UP member of `mgmt_vid`. -/
def notifyPort (s : State) : Option Nat :=
  let l := (List.range 8).filter (fun p => portUp s p && bit (vidMembers s (rd s O.mgmt_vid)) p)
  match s.led.lastPort with
  | some p => if portUp s p then some p else l.head?
  | none => l.head?

/-- Log entries marked. -/
def markEntries (s : State) (l : List (Nat × LogEntry)) (f : LogEntry → LogEntry) : State :=
  setTinker s { s.tinker with log := l.foldl (fun t e => t.put e.1 (f e.2)) s.tinker.log }

/-- `notify_addr`, or the all-nodes address ff02::1. -/
def notifyAddr (s : State) : Octets :=
  let a := rdB s O.notify_addr
  if a = zeros 16 then [0xFF, 2] ++ zeros 13 ++ [1] else a

/-- Up to eight entries go in one NOTIFY on management Ethernet. -/
def notifyEth (s : State) : State :=
  let l := (owedEntries s (fun e => e.eth)).take 8
  match notifyPort s with
  | some p =>
    if bit (rd s O.notify_transports) 0 = false ∨ l = [] ∨ gapOver s s.tinker.lastEth = false then s
    else
      let n := s.led.notifyCount + 1
      let body := (l.map (fun e => recordOctets { index := 0x7802, sub := 2, op := 1, value := [] } .ok (logBytes e.2))).flatten
      let m := sealMessage s 3 l.length 0 (leBytes 6 n ++ leBytes 2 (rd s O.boot_count)) body
      let s1 := markEntries (send (setLed s { s.led with notifyCount := n }) (.notify p (notifyAddr s) m)) l (fun e => { e with eth := true })
      setTinker s1 { s1.tinker with lastEth := some s.now }
  | none => s

/-- MSI-X vector 65 announces every entry owed on PCIe. -/
def notifyPcie (s : State) : State :=
  let l := owedEntries s (fun e => e.pcie)
  if bit (rd s O.notify_transports) 1 = false ∨ l = [] ∨ bar0Up s = false ∨ gapOver s s.tinker.lastPcie = false then s
  else
    let s1 := markEntries (send s (.msix 65)) l (fun e => { e with pcie := true })
    setTinker s1 { s1.tinker with lastPcie := some s.now }

/-- NOTIFY_SEND (R475). -/
def execNotifySend (s : State) : Host.Outcome State Fault Refusal := act s fun s => if ledgerServes s then notifyPcie (notifyEth s) else s

/-! ### Writes, resets and clocks that hung records wait for -/

/-- One word of 32 bits written to BAR0 (R58 to R61): a read-only register and the space between ignore it. -/
def bar0Word (s : State) (offset value : Nat) (bytes : Octets) : State :=
  if offset = 0 then doorbell s value
  else if offset = 4 then setLed s { s.led with mbStatus := [1, 2, 3].foldl (fun st i => if bit value i then clrBit st i else st) s.led.mbStatus }
  else if 0x1000 ≤ offset ∧ offset < 0x1800 then
    setLed s { s.led with mbReq := patch (s.led.mbReq ++ zeros (2048 - s.led.mbReq.length)) (offset - 0x1000) bytes }
  else if 0x10000 ≤ offset ∧ offset < 0x10400 then
    let q := (offset - 0x10000) / 16
    if offset % 16 = 0 then (taken s (execTailWrite (Fin.ofNat 64 q) value s)).2
    else if offset % 16 = 8 then
      setHq s q { hq s q with badTail := (hq s q).badTail && !(bit value 4), dmaErr := (hq s q).dmaErr && !(bit value 3) }
    else s
  else s

/-- `QSTAT` of a host queue (R61). -/
def qstat (s : State) (q : Nat) : Nat :=
  let x := hq s q
  x.badTail.toNat * 16 + x.dmaErr.toNat * 8 + x.stopped.toNat * 4 + x.full.toNat * 2 + rd s (O.enable q)

/-- The 32 bytes of log entry slot `n` (R475, R476): of the entry e held with e mod 127 = n, or zeros. -/
def logSlot (s : State) (n : Nat) : Octets :=
  match (s.tinker.log.filter (fun e => decide (e.1 % 127 = n))).getLast? with
  | some e => logBytes e.2
  | none => zeros 32

/-- What a read of the 32-bit word of BAR0 gives (R58, R59, R61, R416, R476): the blocks' registers, and 0 between them. No command
of the table reads one but TS_SNAPSHOT_READ, whose word 0 latches the rest of its block. -/
def bar0View (s : State) (offset : Nat) : Nat :=
  if offset = 4 then s.led.mbStatus
  else if offset = 8 then s.led.mbRespLen
  else if 0x1000 ≤ offset ∧ offset < 0x1800 then leNat (slice s.led.mbReq (offset - 0x1000) 4)
  else if 0x1800 ≤ offset ∧ offset < 0x2000 then leNat (slice s.led.mbResp (offset - 0x1800) 4)
  else if 0x10000 ≤ offset ∧ offset < 0x10400 then
    let q := (offset - 0x10000) / 16
    if offset % 16 = 0 then (hq s q).tail else if offset % 16 = 4 then (hq s q).head else if offset % 16 = 8 then qstat s q else 0
  else if 0x40000 ≤ offset ∧ offset < 0x40014 then
    let ns := s.time.snapTb / 65536
    if offset = 0x40000 then ns % 1000000000
    else if offset = 0x40004 then ns / 1000000000 % 4294967296
    else if offset = 0x40008 then ns / 1000000000 / 4294967296 % 65536
    else if offset = 0x4000C then s.time.snapTb % 65536 else s.time.snapStatus
  else if offset = 0x41000 then rd s O.log_written
  else if offset = 0x41004 then rd s O.log_overrun
  else if 0x41020 ≤ offset ∧ offset < 0x42000 then leNat (slice (logSlot s ((offset - 0x41020) / 32)) (offset % 32) 4)
  else 0

/-- A write to BAR0 (R58): naturally aligned, of one word or of two, the lower first. -/
def bar0Write (s : State) (offset size : Nat) (value : Octets) : State :=
  if bar0Up s = false then s
  else if (size = 4 ∨ size = 8) ∧ offset % size = 0 then
    (List.range (size / 4)).foldl (fun t i => bar0Word t (offset + 4 * i) (leNat (slice value (4 * i) 4)) (slice value (4 * i) 4)) s
  else (taken s (execBar0BadAccess offset size true s)).2

/-- LEDGER_WRITE (R40, R58, R534): a write record that runs alone, or a write to BAR0; beyond its 64 MiB there is nothing to write to. -/
def execLedgerWrite (target : WriteTarget) (value : Octets) (s : State) : Host.Outcome State Fault Refusal :=
  match target with
  | .object index sub =>
    act s fun s =>
      if ledgerServes s = false then s
      else match writeObject s index sub value with
        | .answered st _ t => resumeAll (if t.boot.step = 0 then ret t st else messageOver (ret t st))
        | .hangs d => hangAlone s index sub true value d
  | .bar0 offset size => if 67108864 ≤ offset then .fault .outsideBar0 else act s fun s => bar0Write s offset size value

/-- RESET_CMD (R25, R384): the records that hung on what was reset go on with TIMEOUT. -/
def execResetCmd (s : State) : Host.Outcome State Fault Refusal := act s fun s => resumeAll (command s O.reset_cmd 1 resetTarget)

/-- DOMAIN_CLOCK_START (R374, R382): a domain that is to run starts, and hung accesses go on. -/
def execDomainClockStart (d : Fin 18) (s : State) : Host.Outcome State Fault Refusal :=
  done s (
    if clkState s d = 0 ∧ domainWanted s d then
      let t := setClk s d 1
      resumeAll (setLed t { t.led with hung := t.led.hung.map (fun h => if h.domain = d.val ∧ h.ended = none then { h with ended := some true } else h) })
    else s)

end Sys2Proof.Machine
end

