-- ==== Sys2Proof/Machine/Dispatch.lean ====
section
/-! DEFINITION. One arm per command: its meaning, or its rejection by name. -/

namespace Sys2Proof.Machine

/-- What a command does to everything but the queue of commands. -/
def exec (i : Instr) (s : State) : Host.Outcome State Fault Refusal :=
  match i with
  | .ledgerWrite target value => Sys2Proof.Machine.execLedgerWrite target value s
  | .mbDoorbell value => Sys2Proof.Machine.execMbDoorbell value s
  | .spiRequest bytes => Sys2Proof.Machine.execSpiRequest bytes s
  | .spiResponseRead clocked => Sys2Proof.Machine.execSpiResponseRead clocked s
  | .mgmtDatagram port vid srcAddr srcPort bytes => Sys2Proof.Machine.execMgmtDatagram port vid srcAddr srcPort bytes s
  | .messageRun => Sys2Proof.Machine.execMessageRun s
  | .save => Sys2Proof.Machine.execSave s
  | .clearSaved => Sys2Proof.Machine.execClearSaved s
  | .saveComplete => Sys2Proof.Machine.execSaveComplete s
  | .saveTimeout => Sys2Proof.Machine.execSaveTimeout s
  | .claim => Sys2Proof.Machine.execClaim s
  | .release => Sys2Proof.Machine.execRelease s
  | .resetCmd => Sys2Proof.Machine.execResetCmd s
  | .epochCommit => Sys2Proof.Machine.execEpochCommit s
  | .epochDiscard => Sys2Proof.Machine.execEpochDiscard s
  | .unitPrepared hid agrees => Sys2Proof.Machine.execUnitPrepared hid agrees s
  | .prepareTimeout => Sys2Proof.Machine.execPrepareTimeout s
  | .unitApplied hid => Sys2Proof.Machine.execUnitApplied hid s
  | .applyTimeout => Sys2Proof.Machine.execApplyTimeout s
  | .unitRestored hid => Sys2Proof.Machine.execUnitRestored hid s
  | .restoreTimeout => Sys2Proof.Machine.execRestoreTimeout s
  | .peerDoneTimeout => Sys2Proof.Machine.execPeerDoneTimeout s
  | .autoCommit => Sys2Proof.Machine.execAutoCommit s
  | .tailWrite q value => Sys2Proof.Machine.execTailWrite q value s
  | .queueEnable q => Sys2Proof.Machine.execQueueEnable q s
  | .queueDisable q => Sys2Proof.Machine.execQueueDisable q s
  | .descriptorFetch q d => Sys2Proof.Machine.execDescriptorFetch q d s
  | .fromHostTakeIn q bytes => Sys2Proof.Machine.execFromHostTakeIn q bytes s
  | .dmaError q writable => Sys2Proof.Machine.execDmaError q writable s
  | .irqTimeExpire q => Sys2Proof.Machine.execIrqTimeExpire q s
  | .bar0BadAccess offset size write => Sys2Proof.Machine.execBar0BadAccess offset size write s
  | .perst asserted => Sys2Proof.Machine.execPerst asserted s
  | .pcieLinkTrained => Sys2Proof.Machine.execPcieLinkTrained s
  | .tsSnapshotRead wide => Sys2Proof.Machine.execTsSnapshotRead wide s
  | .crystalStable r => Sys2Proof.Machine.execCrystalStable r s
  | .synthLock r => Sys2Proof.Machine.execSynthLock r s
  | .settleTimeout r => Sys2Proof.Machine.execSettleTimeout r s
  | .lockLost r => Sys2Proof.Machine.execLockLost r s
  | .transmitCommand r c => Sys2Proof.Machine.execTransmitCommand r c s
  | .commandStart r => Sys2Proof.Machine.execCommandStart r s
  | .heldCommandAbort r => Sys2Proof.Machine.execHeldCommandAbort r s
  | .ppduEnd r pdet => Sys2Proof.Machine.execPpduEnd r pdet s
  | .txResult => Sys2Proof.Machine.execTxResult s
  | .txMute r on => Sys2Proof.Machine.execTxMute r on s
  | .calCmd r => Sys2Proof.Machine.execCalCmd r s
  | .predistortTempRaise r chain celsius => Sys2Proof.Machine.execPredistortTempRaise r chain celsius s
  | .calResume r => Sys2Proof.Machine.execCalResume r s
  | .calLimitTimeout r => Sys2Proof.Machine.execCalLimitTimeout r s
  | .calEnd r failed => Sys2Proof.Machine.execCalEnd r failed s
  | .pdetOvershoot r chain reading => Sys2Proof.Machine.execPdetOvershoot r chain reading s
  | .grantInstall r g => Sys2Proof.Machine.execGrantInstall r g s
  | .grantRevoke r g => Sys2Proof.Machine.execGrantRevoke r g s
  | .grantExpiry r g => Sys2Proof.Machine.execGrantExpiry r g s
  | .thermalDerateUpdate r celsius => Sys2Proof.Machine.execThermalDerateUpdate r celsius s
  | .vfemLow r => Sys2Proof.Machine.execVfemLow r s
  | .mpduReceived r m e => Sys2Proof.Machine.execMpduReceived r m e s
  | .staAdd => Sys2Proof.Machine.execStaAdd s
  | .staRemove => Sys2Proof.Machine.execStaRemove s
  | .staAuthorize => Sys2Proof.Machine.execStaAuthorize s
  | .staDeauthorize => Sys2Proof.Machine.execStaDeauthorize s
  | .reorderTimeout station tid => Sys2Proof.Machine.execReorderTimeout station tid s
  | .mpduUnacked station tid sn => Sys2Proof.Machine.execMpduUnacked station tid sn s
  | .twtTeardown => Sys2Proof.Machine.execTwtTeardown s
  | .tbtt r => Sys2Proof.Machine.execTbtt r s
  | .beaconWaitExpire r upstream => Sys2Proof.Machine.execBeaconWaitExpire r upstream s
  | .frameBoundary => Sys2Proof.Machine.execFrameBoundary s
  | .planClose e => Sys2Proof.Machine.execPlanClose e s
  | .grantRequest => Sys2Proof.Machine.execGrantRequest s
  | .syncInEdge => Sys2Proof.Machine.execSyncInEdge s
  | .syncTimeout => Sys2Proof.Machine.execSyncTimeout s
  | .txopAccessComplete r busy => Sys2Proof.Machine.execTxopAccessComplete r busy s
  | .accessDeadline r => Sys2Proof.Machine.execAccessDeadline r s
  | .tbPpduMissing r station => Sys2Proof.Machine.execTbPpduMissing r station s
  | .heartbeatSend => Sys2Proof.Machine.execHeartbeatSend s
  | .heartbeatReceived v h => Sys2Proof.Machine.execHeartbeatReceived v h s
  | .heartbeatStale => Sys2Proof.Machine.execHeartbeatStale s
  | .aliveEdgeSend => Sys2Proof.Machine.execAliveEdgeSend s
  | .aliveEdgeReceived => Sys2Proof.Machine.execAliveEdgeReceived s
  | .aliveSilent => Sys2Proof.Machine.execAliveSilent s
  | .laneDown lane => Sys2Proof.Machine.execLaneDown lane s
  | .laneUp lane => Sys2Proof.Machine.execLaneUp lane s
  | .joinReceived v serial => Sys2Proof.Machine.execJoinReceived v serial s
  | .handoverReceived v => Sys2Proof.Machine.execHandoverReceived v s
  | .takeoverForce => Sys2Proof.Machine.execTakeoverForce s
  | .standDownReceived v => Sys2Proof.Machine.execStandDownReceived v s
  | .standDownAnswer v => Sys2Proof.Machine.execStandDownAnswer v s
  | .standDownTimeout => Sys2Proof.Machine.execStandDownTimeout s
  | .forwardedWrite v key value octets => Sys2Proof.Machine.execForwardedWrite v key value octets s
  | .forwardAckTimeout => Sys2Proof.Machine.execForwardAckTimeout s
  | .copyComplete v data => Sys2Proof.Machine.execCopyComplete v data s
  | .copyTimeout => Sys2Proof.Machine.execCopyTimeout s
  | .joinRetry => Sys2Proof.Machine.execJoinRetry s
  | .searchTimeout => Sys2Proof.Machine.execSearchTimeout s
  | .mirrorRecordReceived v rec => Sys2Proof.Machine.execMirrorRecordReceived v rec s
  | .mirrorAck v n => Sys2Proof.Machine.execMirrorAck v n s
  | .mirrorAckTimeout => Sys2Proof.Machine.execMirrorAckTimeout s
  | .rxpnAck v token => Sys2Proof.Machine.execRxpnAck v token s
  | .rxpnWaitExpire token => Sys2Proof.Machine.execRxpnWaitExpire token s
  | .pairTxReceived v c => Sys2Proof.Machine.execPairTxReceived v c s
  | .pairGoReceived v tag start => Sys2Proof.Machine.execPairGoReceived v tag start s
  | .pairResultReceived v tag sent => Sys2Proof.Machine.execPairResultReceived v tag sent s
  | .pairCancelReceived v tag => Sys2Proof.Machine.execPairCancelReceived v tag s
  | .peerKeyWrite key => Sys2Proof.Machine.execPeerKeyWrite key s
  | .forget => Sys2Proof.Machine.execForget s
  | .keyInstall => Sys2Proof.Machine.execKeyInstall s
  | .keyClear => Sys2Proof.Machine.execKeyClear s
  | .setTx => Sys2Proof.Machine.execSetTx s
  | .mpduDecrypt => Sys2Proof.Machine.execMpduDecrypt s
  | .tagVerdict m v => Sys2Proof.Machine.execTagVerdict m v s
  | .verdictTimeout m => Sys2Proof.Machine.execVerdictTimeout m s
  | .saInstall => Sys2Proof.Machine.execSaInstall s
  | .saClear => Sys2Proof.Machine.execSaClear s
  | .parseWalk bad => Sys2Proof.Machine.execParseWalk bad s
  | .graphCheck => Sys2Proof.Machine.execGraphCheck s
  | .graphDefault => Sys2Proof.Machine.execGraphDefault s
  | .shadowCopyDone => Sys2Proof.Machine.execShadowCopyDone s
  | .ruleStageWrite w => Sys2Proof.Machine.execRuleStageWrite w s
  | .ruleCommit peerBusy => Sys2Proof.Machine.execRuleCommit peerBusy s
  | .ruleDiscard => Sys2Proof.Machine.execRuleDiscard s
  | .ruleLookup => Sys2Proof.Machine.execRuleLookup s
  | .drainLimitExpire => Sys2Proof.Machine.execDrainLimitExpire s
  | .catchUpDone => Sys2Proof.Machine.execCatchUpDone s
  | .ruleScrub errors => Sys2Proof.Machine.execRuleScrub errors s
  | .uplinkFrameRx port f => Sys2Proof.Machine.execUplinkFrameRx port f s
  | .varlanFrameRx crcOk bytes => Sys2Proof.Machine.execVarlanFrameRx crcOk bytes s
  | .portUp port => Sys2Proof.Machine.execPortUp port s
  | .portDown port codewords => Sys2Proof.Machine.execPortDown port codewords s
  | .flowBucketArrival bucket bad => Sys2Proof.Machine.execFlowBucketArrival bucket bad s
  | .routeAdd => Sys2Proof.Machine.execRouteAdd s
  | .routeDelete => Sys2Proof.Machine.execRouteDelete s
  | .routeLookup => Sys2Proof.Machine.execRouteLookup s
  | .flowDelete => Sys2Proof.Machine.execFlowDelete s
  | .flowFlush => Sys2Proof.Machine.execFlowFlush s
  | .flowFlushDone => Sys2Proof.Machine.execFlowFlushDone s
  | .ageScan => Sys2Proof.Machine.execAgeScan s
  | .fdbAgeExpire => Sys2Proof.Machine.execFdbAgeExpire s
  | .announceFrame => Sys2Proof.Machine.execAnnounceFrame s
  | .spill => Sys2Proof.Machine.execSpill s
  | .fetch => Sys2Proof.Machine.execFetch s
  | .overflowUnavailable => Sys2Proof.Machine.execOverflowUnavailable s
  | .airAgeSweep => Sys2Proof.Machine.execAirAgeSweep s
  | .wiredDequeue port e => Sys2Proof.Machine.execWiredDequeue port e s
  | .auditReclaim => Sys2Proof.Machine.execAuditReclaim s
  | .taskDispatch e => Sys2Proof.Machine.execTaskDispatch e s
  | .taskLeaveService n => Sys2Proof.Machine.execTaskLeaveService n s
  | .taskAgeTimeout token => Sys2Proof.Machine.execTaskAgeTimeout token s
  | .ringRefill urgent => Sys2Proof.Machine.execRingRefill urgent s
  | .trackerRewriteDone => Sys2Proof.Machine.execTrackerRewriteDone s
  | .channelCommand ch => Sys2Proof.Machine.execChannelCommand ch s
  | .refreshDue ch bank => Sys2Proof.Machine.execRefreshDue ch bank s
  | .mr4Read factors temps => Sys2Proof.Machine.execMr4Read factors temps s
  | .wckTracking ch trim => Sys2Proof.Machine.execWckTracking ch trim s
  | .dramTrainDone failed => Sys2Proof.Machine.execDramTrainDone failed s
  | .dramInitDone => Sys2Proof.Machine.execDramInitDone s
  | .retrainEnd failed => Sys2Proof.Machine.execRetrainEnd failed s
  | .patrolScrub e => Sys2Proof.Machine.execPatrolScrub e s
  | .regionEnable => Sys2Proof.Machine.execRegionEnable s
  | .regionEnableDone => Sys2Proof.Machine.execRegionEnableDone s
  | .refLoss => Sys2Proof.Machine.execRefLoss s
  | .refAcquired => Sys2Proof.Machine.execRefAcquired s
  | .refRestored => Sys2Proof.Machine.execRefRestored s
  | .domainQuiesceDone d => Sys2Proof.Machine.execDomainQuiesceDone d s
  | .domainClockStart d => Sys2Proof.Machine.execDomainClockStart d s
  | .crossingStall n => Sys2Proof.Machine.execCrossingStall n s
  | .pllUnlock pll => Sys2Proof.Machine.execPllUnlock pll s
  | .tbSet => Sys2Proof.Machine.execTbSet s
  | .tbAdjust => Sys2Proof.Machine.execTbAdjust s
  | .tbSlew => Sys2Proof.Machine.execTbSlew s
  | .tbSourceWrite v => Sys2Proof.Machine.execTbSourceWrite v s
  | .ptpMessageRx port m => Sys2Proof.Machine.execPtpMessageRx port m s
  | .ptpMessageTx port kind => Sys2Proof.Machine.execPtpMessageTx port kind s
  | .ptpAnnounceTimeout port => Sys2Proof.Machine.execPtpAnnounceTimeout port s
  | .ppsInEdge => Sys2Proof.Machine.execPpsInEdge s
  | .ppsInTimeout => Sys2Proof.Machine.execPpsInTimeout s
  | .ppsOutRise => Sys2Proof.Machine.execPpsOutRise s
  | .synceLost => Sys2Proof.Machine.execSynceLost s
  | .bakRateWindow ppb => Sys2Proof.Machine.execBakRateWindow ppb s
  | .gtArm t => Sys2Proof.Machine.execGtArm t s
  | .gtDisarm t => Sys2Proof.Machine.execGtDisarm t s
  | .gtInstant t => Sys2Proof.Machine.execGtInstant t s
  | .gtCaptureEdge t rising => Sys2Proof.Machine.execGtCaptureEdge t rising s
  | .gtCapRead t => Sys2Proof.Machine.execGtCapRead t s
  | .internalRailLow => Sys2Proof.Machine.execInternalRailLow s
  | .internalRailRestored => Sys2Proof.Machine.execInternalRailRestored s
  | .vbakMeasure mv => Sys2Proof.Machine.execVbakMeasure mv s
  | .backupPor => Sys2Proof.Machine.execBackupPor s
  | .bakReset => Sys2Proof.Machine.execBakReset s
  | .xtalStop => Sys2Proof.Machine.execXtalStop s
  | .xtalResume => Sys2Proof.Machine.execXtalResume s
  | .secondBoundary => Sys2Proof.Machine.execSecondBoundary s
  | .bakSecondsWrite value => Sys2Proof.Machine.execBakSecondsWrite value s
  | .bakSyncWrite => Sys2Proof.Machine.execBakSyncWrite s
  | .bakTrimWrite value => Sys2Proof.Machine.execBakTrimWrite value s
  | .backupTimeRead sub => Sys2Proof.Machine.execBackupTimeRead sub s
  | .alarmArm a => Sys2Proof.Machine.execAlarmArm a s
  | .alarmDisarm a => Sys2Proof.Machine.execAlarmDisarm a s
  | .pwronRelease => Sys2Proof.Machine.execPwronRelease s
  | .pwronCancel => Sys2Proof.Machine.execPwronCancel s
  | .pwronDelayExpire => Sys2Proof.Machine.execPwronDelayExpire s
  | .scratchWrite bytes => Sys2Proof.Machine.execScratchWrite bytes s
  | .vinRise => Sys2Proof.Machine.execVinRise s
  | .vinWarn mv => Sys2Proof.Machine.execVinWarn mv s
  | .powerFailWarning => Sys2Proof.Machine.execPowerFailWarning s
  | .vinCollapse => Sys2Proof.Machine.execVinCollapse s
  | .vinOvervoltage => Sys2Proof.Machine.execVinOvervoltage s
  | .vinOvRecover => Sys2Proof.Machine.execVinOvRecover s
  | .v12Started => Sys2Proof.Machine.execV12Started s
  | .v12StartFail => Sys2Proof.Machine.execV12StartFail s
  | .v12Fault cause => Sys2Proof.Machine.execV12Fault cause s
  | .converterHot celsius => Sys2Proof.Machine.execConverterHot celsius s
  | .avsRequest ack => Sys2Proof.Machine.execAvsRequest ack s
  | .avsRetry ack => Sys2Proof.Machine.execAvsRetry ack s
  | .avsStatusPoll vdone mv => Sys2Proof.Machine.execAvsStatusPoll vdone mv s
  | .avsSettleTimeout => Sys2Proof.Machine.execAvsSettleTimeout s
  | .vcoreFault mv => Sys2Proof.Machine.execVcoreFault mv s
  | .dormantEnter => Sys2Proof.Machine.execDormantEnter s
  | .wakeSource source banksOk => Sys2Proof.Machine.execWakeSource source banksOk s
  | .padRelease value => Sys2Proof.Machine.execPadRelease value s
  | .faultMessage m => Sys2Proof.Machine.execFaultMessage m s
  | .quietExpire => Sys2Proof.Machine.execQuietExpire s
  | .qEnter => Sys2Proof.Machine.execQEnter s
  | .qExit => Sys2Proof.Machine.execQExit s
  | .clearLatch => Sys2Proof.Machine.execClearLatch s
  | .force => Sys2Proof.Machine.execForce s
  | .notifySend => Sys2Proof.Machine.execNotifySend s
  | .maintRequest u => Sys2Proof.Machine.execMaintRequest u s
  | .maintCancel => Sys2Proof.Machine.execMaintCancel s
  | .activityEnd activity target result => Sys2Proof.Machine.execActivityEnd activity target result s
  | .activityBound activity target => Sys2Proof.Machine.execActivityBound activity target s
  | .queueLimitExpire n => Sys2Proof.Machine.execQueueLimitExpire n s
  | .alignAnswer v admitted => Sys2Proof.Machine.execAlignAnswer v admitted s
  | .alignAnswerTimeout => Sys2Proof.Machine.execAlignAnswerTimeout s
  | .alignTimer => Sys2Proof.Machine.execAlignTimer s
  | .surveyTimer => Sys2Proof.Machine.execSurveyTimer s
  | .memSurveyTimer => Sys2Proof.Machine.execMemSurveyTimer s
  | .dailyMean => Sys2Proof.Machine.execDailyMean s
  | .porstAssert => Sys2Proof.Machine.execPorstAssert s
  | .porstRelease samples => Sys2Proof.Machine.execPorstRelease samples s
  | .bootStart => Sys2Proof.Machine.execBootStart s
  | .imageCheckDone failed revision => Sys2Proof.Machine.execImageCheckDone failed revision s
  | .selfTestDone failed => Sys2Proof.Machine.execSelfTestDone failed s
  | .bootEnd => Sys2Proof.Machine.execBootEnd s
  | .trainEnd => Sys2Proof.Machine.execTrainEnd s
  | .takeoverEnd => Sys2Proof.Machine.execTakeoverEnd s
  | .alignAgeExpire => Sys2Proof.Machine.execAlignAgeExpire s
  | .synceLocked => Sys2Proof.Machine.execSynceLocked s
  | .vinLowClear mv => Sys2Proof.Machine.execVinLowClear mv s
  | .vbakApplied => Sys2Proof.Machine.execVbakApplied s
  | .dormantEntryDone => Sys2Proof.Machine.execDormantEntryDone s
  | .epochMessageReceived v msg => Sys2Proof.Machine.execEpochMessageReceived v msg s
  | .alignRequestReceived v => Sys2Proof.Machine.execAlignRequestReceived v s
  | .followerCsiReceived v station corr => Sys2Proof.Machine.execFollowerCsiReceived v station corr s
  | .heartbeatMissed => Sys2Proof.Machine.execHeartbeatMissed s

end Sys2Proof.Machine
end

