-- ==== Sys2Proof/Safety.lean ====
section
/-! DEFINITION. What a safe run is, and the terms the statements use: a command that completes, the registers it leaves, a message a
unit raises, and when a command's value reaches its object. -/

namespace Sys2Proof

open Machine

/-- The step from a state answers a next state: it neither faults nor refuses. -/
def Goes (s : State) : Prop := ∃ t, step s = .next t

/-- A command that never stops: every one but a write to BAR0 beyond its 64 MiB (R58). -/
def NeverStops : Instr → Prop
  | .ledgerWrite (.bar0 offset _) _ => offset < 67108864
  | _ => True

/-- The invariant of a run: no waiting command is one that stops. -/
def RunInv (s : State) : Prop := ∀ c ∈ s.pending, NeverStops c

/-- A command completes on a state: it answers a next state, which has the property. -/
def Completes (c : Instr) (s : State) (P : State → Prop) : Prop := ∃ t, exec c s = .next t ∧ P t

/-- Every register but those named reads as before. -/
def Only (s t : State) (keys : List Nat) : Prop := ∀ k, k ∉ keys → rd t k = rd s k

/-- Every octet object but those named reads as before. -/
def OnlyOctets (s t : State) (keys : List Nat) : Prop := ∀ k, k ∉ keys → rdB t k = rdB s k

/-- Wherever a command answers a next state, the two states stand in the relation. -/
def Leaves (c : Instr) (R : State → State → Prop) : Prop := ∀ s t, exec c s = .next t → R s t

/-- What the backup domain, the flash and the plan store hold is as before, but for the registers named (R44, R426, R461, R473, R490). -/
def HeldOver (s t : State) (keys : List Nat) : Prop :=
  t.watch = s.watch ∧ t.tinker.history = s.tinker.history ∧ t.tinker.latched = s.tinker.latched ∧ t.led.slot0 = s.led.slot0 ∧
    t.led.slot1 = s.led.slot1 ∧ t.led.peerKey = s.led.peerKey ∧ t.led.bootCount0 = s.led.bootCount0 ∧ t.led.bootCount1 = s.led.bootCount1 ∧
    t.survey.flash = s.survey.flash ∧ t.power.vbak = s.power.vbak ∧
    ∀ k, heldKey k = true → k ∉ keys → rd t k = rd s k ∧ rdB t k = rdB s k

/-- The serving state is gone: no command waits in an engine, no frame, no station, no key and no claim is left. -/
abbrev StartsAgain (t : State) : Prop :=
  t.staged = [] ∧ t.claims = [] ∧ t.epoch = {} ∧ t.mac = {} ∧ t.ost = {} ∧ t.lock = {} ∧ t.entering = [] ∧ t.carter = {} ∧ t.graph = {} ∧
    t.rules = {} ∧ t.switch = {} ∧ t.miller = {} ∧ t.hostq = [] ∧ t.twin = {}

/-- A 32-bit counter has counted one more, and stays at its greatest value (R39). -/
abbrev Counted (s t : State) (k : Nat) : Prop := rd t k = min (rd s k + 1) 0xFFFFFFFF

/-- A 64-bit counter has counted one more, and stays at its greatest value (R39). -/
abbrev Counted64 (s t : State) (k : Nat) : Prop := rd t k = min (rd s k + 1) 0xFFFFFFFFFFFFFFFF

/-- A unit has raised a message of a kind (R464, R466): its next SEQUENCE is taken, and the message waits for the Tinker or, with the
queue full, is counted among the lost. -/
abbrev Raised (s t : State) (kind source : Nat) : Prop :=
  t.tinker.seqs.getD source 0 = (s.tinker.seqs.getD source 0 + 1) % 4294967296 ∧
    ((∃ m ∈ t.tinker.queue, m.kind = kind ∧ m.source = source) ∨ t.tinker.fullOwed = true)

/-- A value written to the object of key `k` reaches it (R386, R449, R524, R534): the Ledger serves, the object is fitted, its clock runs,
and in FOLLOW it is not in the shared set. -/
abbrev Reaches (s : State) (k : Nat) : Prop :=
  hubOn s = true ∧ ledgerServes s = true ∧ commandCheck s (k / 256) (k % 256) = none ∧ crossing s (k / 256) = .reached

/-- A Varlan message of a class passes its tag and its counter (R188). -/
abbrev Heard (s : State) (cls : Nat) (v : VHead) : Prop :=
  hubOn s = true ∧ v.tagOk = true ∧ s.led.peerKey ≠ none ∧ s.twin.rx.counts.getD (v.boot * 8 + cls) 0 < v.count

end Sys2Proof
end

