-- ==== Sys2Proof/Certificates/Slice0/Obligations.lean ====
section
/-! DEFINITION. The statements for the provers. -/

open Sys2Proof Sys2Proof.Machine

/-! ### The queue, the outcomes and reset -/

/-- A command in front is run by `exec` on the state with the queue's rest (R40; the queue is the model's own, log 2). -/
def Obligations.StepRunsFront : Prop :=
  ∀ (s : State) (c : Instr), step { s with pending := c :: s.pending } = exec c s

/-- With no command waiting a step is one cycle of 1 ns (DESIGN CHOICE, log 2; R391): real time advances by 1 ns; where the TIME domain does not run
TB96 stands, and where it runs and no adjustment is in force it advances by 1 ns. No message, no output and no object but the crystal's counters comes of it. -/
def Obligations.IdleStep : Prop :=
  ∀ s : State, s.pending = [] → ∃ t, step s = .next t ∧ t.now = s.now + 1 ∧ t.pending = [] ∧ t.out = s.out ∧ t.tinker = s.tinker ∧
    Only s t [O.bak_prescaler, O.bak_ticks] ∧
    (clkState s 12 ≠ 1 → t.tb = s.tb) ∧
    (clkState s 12 = 1 → s.time.slewLeft = 0 → s.time.freq = 0 → s.time.acc < 1000000000000 → t.tb = s.tb + 65536)

/-- Every command but a write to BAR0 beyond 64 MiB answers a next state, and no command touches the queue, the fuses (R41), the `system`
field or real time. -/
def Obligations.EveryCommandAnswers : Prop :=
  ∀ (c : Instr) (s : State), NeverStops c →
    ∃ t, exec c s = .next t ∧ t.pending = s.pending ∧ t.fuse = s.fuse ∧ t.system = s.system ∧ t.now = s.now

/-- From every state whose waiting commands never stop, a step answers a next state of the same kind, with the front command gone and the
fuses as they were: the module never stops on its own. -/
def Obligations.RunNeverStops : Prop :=
  ∀ s : State, RunInv s → ∃ t, step s = .next t ∧ RunInv t ∧ t.pending = s.pending.tail ∧ t.fuse = s.fuse

/-- The state after reset meets the run's invariant, and its queue is empty. -/
def Obligations.ResetMeetsRunInv : Prop := RunInv State.reset ∧ State.reset.pending = []

/-- The one stop of the model (R58): a write to BAR0 beyond its 64 MiB has nothing to act on and faults. -/
def Obligations.OutsideBar0Faults : Prop :=
  ∀ (s : State) (offset size : Nat) (v : Octets),
    exec (.ledgerWrite (.bar0 offset size) v) s = .fault .outsideBar0 ↔ 67108864 ≤ offset

/-- What reset leaves (R26, R42, R46): the module is in reset with nothing sent, no command waiting and no claim held; its identity is that of the
fuses (the fuses' own values are the model's choice, log 3). -/
def Obligations.ResetState : Prop :=
  State.reset.boot.inReset = true ∧ State.reset.boot.step = 0 ∧ State.reset.pending = [] ∧ State.reset.out = [] ∧ State.reset.claims = [] ∧
  State.reset.tb = 0 ∧ State.reset.tinker.queue = [] ∧ State.reset.tinker.log = [] ∧ State.reset.staged = [] ∧
  rd State.reset O.epoch_phase = 0 ∧ rd State.reset O.part_number = 0x9316 ∧ rd State.reset O.ledger_layout = 1 ∧
  (readInUnit State.reset 0x0000 5).2.1 = leBytes 3 (packageHid State.reset)

/-- Capabilities and identity never change (R46): whatever command runs, a read of each of those objects gives what it gave before, but for
`firmware_rev`, `package_hid` and `strap_word`. -/
def Obligations.CapabilitiesNeverChange : Prop :=
  ∀ (c : Instr) (s t : State), exec c s = .next t →
    (∀ sub ∈ [1, 2, 4, 7], (readInUnit t 0x0000 sub).2.1 = (readInUnit s 0x0000 sub).2.1) ∧
    (∀ sub ∈ [1, 2, 3, 4, 5, 6, 7, 8, 9, 10, 11, 12, 13, 14], (readInUnit t 0x0001 sub).2.1 = (readInUnit s 0x0001 sub).2.1)

/-! ### Clocks and the reference -/

/-- The reference PLL and the clock domains (R373, R374, R376, R383, R387). Loss of REF in LOCKED enters HOLDOVER, counts and reports kind
0x69; an acquired reference is LOCKED; a restored one leaves HOLDOVER, and `holdover_time` keeps the seconds spent. A quiescing
domain whose accesses are complete stops, and a stopped domain that its mode wants runs at its rate. A hung access that stalls is counted and
reported once, with its domain kept. A PLL that unlocks stops and fences each of its running domains. -/
def Obligations.ClockCommandsComplete : Prop :=
  (∀ s : State, hubOn s = true → rd s O.ref_state = 2 →
    Completes .refLoss s fun t => rd t O.ref_state = 3 ∧ Counted s t O.ref_losses ∧
      t.refSince = s.now ∧ Raised s t 0x69 (refHid s)) ∧
  (∀ s : State, rd s O.ref_state = 1 → Completes .refAcquired s fun t => rd t O.ref_state = 2) ∧
  (∀ s : State, hubOn s = true → rd s O.ref_state = 3 →
    Completes .refRestored s fun t => rd t O.ref_state = 2 ∧
      rd t O.holdover_time = min 0xFFFFFFFF ((s.now - s.refSince) / 1000000000)) ∧
  (∀ (s : State) (d : Fin 18), clkState s d = 3 →
    Completes (.domainQuiesceDone d) s fun t => clkState t d = 0 ∧ rd t (O.clk_rate d) = 0) ∧
  (∀ (s : State) (d : Fin 18), clkState s d = 0 → domainWanted s d = true → s.led.hung = [] →
    Completes (.domainClockStart d) s fun t => clkState t d = 1 ∧ rd t (O.clk_rate d) = domainRate d (rd s O.uplink_mode)) ∧
  (∀ (s : State) (i : Nat) (h : Hung), hubOn s = true → s.led.hung[i]? = some h → h.reported = false →
    Completes (.crossingStall i) s fun t => Counted s t O.stalls ∧ rd t O.last_stall_domain = h.domain ∧
      t.led.hung[i]? = some { h with reported := true } ∧ Raised s t 0x68 (ledgerHid s)) ∧
  (∀ (s : State) (p : Pll) (d : Nat), hubOn s = true → d ∈ pllDomains p → clkState s d = 1 ∨ clkState s d = 3 →
    Completes (.pllUnlock p) s fun t => clkState t d = 2 ∧ rd t (O.clk_rate d) = 0 ∧ Raised s t 0x6A (pllSource s p))

/-! ### The backup domain -/

/-- The supply switch, the crystal and the reset of the backup domain (R423 to R425), in every mode but OFF. The switch to VBAK counts and the rail's
return ends it; a measurement of VBAK is kept, with `vbak_low` set below `vbak_warn` and cleared 100 mV above it. A power-on reset and a commanded
reset put the seconds and the alarms back to their defaults; a power-on reset sets `bak_por`, and takes a package in HOLD without its input to OFF. A crystal
that stops makes the time invalid, counts and is reported. -/
def Obligations.BackupSupplyComplete : Prop :=
  (∀ s : State, packageMode s ≠ 1 → rd s O.bak_supply = 0 →
    Completes .internalRailLow s fun t => rd t O.bak_supply = 1 ∧ Counted s t O.vbak_switches) ∧
  (∀ s : State, packageMode s ≠ 1 → rd s O.bak_supply = 1 → Completes .internalRailRestored s fun t => rd t O.bak_supply = 0) ∧
  (∀ (s : State) (mv : Nat), packageMode s ≠ 1 →
    Completes (.vbakMeasure mv) s fun t => rd t O.vbak_mv = min 0xFFFF mv ∧ (mv < rd s O.vbak_warn → flag t O.vbak_low = true) ∧
      (rd s O.vbak_warn + 100 < mv → flag t O.vbak_low = false) ∧
      (rd s O.vbak_warn ≤ mv → mv ≤ rd s O.vbak_warn + 100 → flag t O.vbak_low = flag s O.vbak_low)) ∧
  (∀ s : State, Completes .backupPor s fun t => flag t O.bak_por = true ∧ rd t O.bak_seconds = 0 ∧ rd t (O.al_state 0) = 0 ∧
      rd t (O.al_state 1) = 0 ∧ (s.power.inputOn = false → packageMode s = 2 → packageMode t = 1)) ∧
  (∀ s : State, Reaches s O.bak_cmd →
    Completes .bakReset s fun t => t.status = .ok ∧ rd t O.bak_seconds = 0 ∧ rd t (O.al_state 0) = 0 ∧ rd t (O.al_state 1) = 0 ∧
      flag t O.bak_por = flag s O.bak_por) ∧
  (∀ s : State, packageMode s ≠ 1 → s.watch.stopped = false →
    Completes .xtalStop s fun t => t.watch.stopped = true ∧ flag t O.bak_valid = false ∧ Counted s t O.xtal_stops) ∧
  (∀ s : State, packageMode s ≠ 1 → Completes .xtalResume s fun t => t.watch.stopped = false)

/-- The backup domain's time (R427 to R430). A second boundary counts one second modulo 2^48, restarts the prescaler and takes the trim into use; a write
of the seconds while no LOCKED `bak_sync` holds them, and the Clocksmith's write while it does, sets them, restarts the prescaler and makes the time valid; a trim within
±30,000 is kept and is pending. A read of one of the five time objects gives its value: the seconds, the prescaler, the ticks, the seconds with nanoseconds, the
calendar. -/
def Obligations.BackupTimeComplete : Prop :=
  (∀ s : State, packageMode s ≠ 1 → s.watch.stopped = false →
    Completes .secondBoundary s fun t => rd t O.bak_seconds = (rd s O.bak_seconds + 1) % 281474976710656 ∧ rd t O.bak_prescaler = 0 ∧
      flag t O.trim_pending = false) ∧
  (∀ (s : State) (v : Nat), Reaches s O.bak_seconds → v < 281474976710656 → (flag s O.bak_sync = false ∨ rd s O.tb_state ≠ 3) →
    Completes (.bakSecondsWrite v) s fun t => t.status = .ok ∧ rd t O.bak_seconds = v ∧ rd t O.bak_prescaler = 0 ∧ flag t O.bak_valid = true) ∧
  (∀ s : State, hubOn s = true → flag s O.bak_sync = true → rd s O.tb_state = 3 →
    Completes .bakSyncWrite s fun t => rd t O.bak_seconds = tbNs s / 1000000000 % 281474976710656 ∧ flag t O.bak_valid = true) ∧
  (∀ (s : State) (v : Int), Reaches s O.bak_trim → -30000 ≤ v → v ≤ 30000 →
    Completes (.bakTrimWrite v) s fun t => t.status = .ok ∧ rdI t O.bak_trim = v ∧ flag t O.trim_pending = true) ∧
  (∀ (s : State) (i : Fin 5), hubOn s = true → ledgerServes s = true → crossing s 0x1401 = .reached →
    Completes (.backupTimeRead i) s fun t => t.status = .ok ∧
      (i = 0 → t.lastRead = leBytes 8 (rd s O.bak_seconds)) ∧ (i = 1 → t.lastRead = leBytes 2 (rd s O.bak_prescaler)) ∧
      (i = 2 → t.lastRead = leBytes 8 (rd s O.bak_ticks)) ∧
      (i = 3 → t.lastRead = leBytes 6 (rd s O.bak_seconds) ++ leBytes 4 (prescalerNs (rd s O.bak_prescaler))) ∧
      (i = 4 → t.lastRead = calendarOf (rd s O.bak_seconds) (rdI s O.cal_utc_offset)))

/-- The alarms, PWRON_OUT and the scratch memory (R431 to R434). An alarm armed for a second ahead is ARMED, a disarmed one is not; RELEASE
starts the delay, whose end drives PWRON_OUT low; CANCEL during the delay keeps it high and counts, and after it drives it high again; a write of exactly 32
octets is what the scratch memory then holds. -/
def Obligations.AlarmAndScratchComplete : Prop :=
  (∀ (s : State) (a : Fin 2), Reaches s (O.al_cmd a) → flag s O.bak_valid = true → rd s O.bak_seconds < rd s (O.al_seconds a) →
    Completes (.alarmArm a) s fun t => t.status = .ok ∧ rd t (O.al_state a) = 1) ∧
  (∀ (s : State) (a : Fin 2), Reaches s (O.al_cmd a) →
    Completes (.alarmDisarm a) s fun t => t.status = .ok ∧ rd t (O.al_state a) = 0) ∧
  (∀ s : State, Reaches s O.pwron_cmd → rd s O.pwron_state = 0 →
    Completes .pwronRelease s fun t => t.status = .ok ∧ rd t O.pwron_state = 1) ∧
  (∀ s : State, Reaches s O.pwron_cmd →
    Completes .pwronCancel s fun t => t.status = .ok ∧ (rd s O.pwron_state = 1 → rd t O.pwron_state = 0 ∧ Counted s t O.pwron_cancels) ∧
      (rd s O.pwron_state = 2 → rd t O.pwron_state = 0 ∧ .pwronOut true ∈ t.out)) ∧
  (∀ s : State, packageMode s ≠ 1 → rd s O.pwron_state = 1 →
    Completes .pwronDelayExpire s fun t => rd t O.pwron_state = 2 ∧ t.out = s.out ++ [.pwronOut false]) ∧
  (∀ (s : State) (b : Octets), Reaches s O.scratch → b.length = 32 →
    Completes (.scratchWrite b) s fun t => t.status = .ok ∧ rdB t O.scratch = b)

/-! ### Power, DORMANT and reset -/

/-- The input and the converter (R438, R439, R440, R459). A rising input starts the converter and its clock, and a package in HOLD or OFF enters reset with its
reference acquiring; a low input is kept and warned of; one that has risen 1 V above `vin_warn` clears the warning; a power-fail warning counts; a collapse stops the
output and leaves HOLD while VBAK holds, else OFF; an over-voltage stops it until the input recovers; VBAK applied to a package in OFF brings HOLD. -/
def Obligations.InputPowerComplete : Prop :=
  (∀ s : State, s.power.inputOn = false →
    Completes .vinRise s fun t => t.power.inputOn = true ∧ clkState t 17 = 1 ∧
      (packageMode s = 1 ∨ packageMode s = 2 → t.boot.inReset = true ∧ rd t O.ref_state = 1)) ∧
  (∀ (s : State) (mv : Nat), s.power.inputOn = true → mv < rd s O.vin_warn →
    Completes (.vinWarn mv) s fun t => rd t O.vin_mv = mv ∧ flag t O.vin_low = true) ∧
  (∀ (s : State) (mv : Nat), rd s O.vin_warn + 1000 < mv →
    Completes (.vinLowClear mv) s fun t => rd t O.vin_mv = mv ∧ flag t O.vin_low = false) ∧
  (∀ s : State, s.power.inputOn = true → Completes .powerFailWarning s fun t => Counted s t O.pwrfail_events) ∧
  (∀ s : State, s.power.inputOn = true →
    Completes .vinCollapse s fun t => t.power.inputOn = false ∧ rd t O.v12_state = 0 ∧ rd t O.last_loss_cause = 1 ∧
      packageMode t = (if s.power.vbak then 2 else 1) ∧ rd t O.ref_state = 0) ∧
  (∀ s : State, s.power.inputOn = true →
    Completes .vinOvervoltage s fun t => t.power.overVoltage = true ∧ rd t O.v12_state = 0 ∧ rd t O.last_loss_cause = 2 ∧
      packageMode t = (if s.power.vbak then 2 else 1)) ∧
  (∀ s : State, s.power.overVoltage = true →
    Completes .vinOvRecover s fun t => t.power.inputOn = true ∧ t.power.overVoltage = false ∧ clkState t 17 = 1) ∧
  (∀ s : State, Completes .vbakApplied s fun t => t.power.vbak = true ∧
      (packageMode s = 1 → s.power.inputOn = false → packageMode t = 2 ∧ rd t O.bak_supply = 1 ∧ clkState t 13 = 1))

/-- The 12 V output, VCORE over AVSBus and the pads (R440 to R444, R457). The output starts, fails to start or faults, each with its state, its cause and its count, and a fault leaves
HOLD; a hot converter's temperature is kept. A target goes out on AVSBus and is answered by the slave's acknowledge, retried three times at most, settled within 15 mV, or
failed with a count and a report; a VCORE out of bounds counts and is reported. Latched pad groups are released where their domain is on. -/
def Obligations.OutputPowerComplete : Prop :=
  (∀ s : State, rd s O.v12_state = 1 → Completes .v12Started s fun t => rd t O.v12_state = 2) ∧
  (∀ s : State, rd s O.v12_state = 1 →
    Completes .v12StartFail s fun t => rd t O.v12_state = 3 ∧ rd t O.last_loss_cause = 6 ∧ Counted s t O.v12_faults) ∧
  (∀ (s : State) (c : V12Cause), rd s O.v12_state = 2 →
    Completes (.v12Fault c) s fun t => rd t O.v12_state = 3 ∧ packageMode t = 2 ∧
      rd t O.last_loss_cause = (match c with | .overCurrent => 3 | .underVoltage => 4 | .overTemperature => 5)) ∧
  (∀ (s : State) (c : Int), Completes (.converterHot c) s fun t => rd t O.conv_temp = ofSigned 32 c ∧
      (125 < c → t.power.hotReported = true) ∧ (c < 115 → t.power.hotReported = false) ∧
      (115 ≤ c → c ≤ 125 → t.power.hotReported = s.power.hotReported)) ∧
  (∀ (s : State) (a : Fin 4), hubOn s = true → s.power.avsPending = true → rd s O.avs_state ≠ 1 → rd s O.avs_state ≠ 2 →
    Completes (.avsRequest a) s fun t => rd t O.vcore_target = vcoreTarget s ∧ t.out = s.out ++ [.avsWrite (vcoreTarget s)] ∧
      rd t O.avs_state = (if a = 0 then 2 else 1) ∧ (a ≠ 0 → Counted s t O.avs_nacks)) ∧
  (∀ (s : State) (a : Fin 4) (v : Nat), hubOn s = true → s.power.avsTarget = some v → rd s O.avs_state = 1 →
    Completes (.avsRetry a) s fun t => t.out = s.out ++ [.avsWrite v] ∧
      rd t O.avs_state = (if a = 0 then 2 else if s.power.avsRetries < 2 then 1 else 3)) ∧
  (∀ (s : State) (d : Bool) (mv v : Nat), hubOn s = true → s.power.avsTarget = some v → rd s O.avs_state = 2 →
    Completes (.avsStatusPoll d mv) s fun t => rd t O.vcore_mv = min 0xFFFF mv ∧ .avsRead ∈ t.out ∧
      rd t O.avs_state = (if d = false then 2 else if mv ≤ v + 15 ∧ v ≤ mv + 15 then 0 else 3)) ∧
  (∀ s : State, hubOn s = true → rd s O.avs_state = 2 →
    Completes .avsSettleTimeout s fun t => rd t O.avs_state = 3 ∧ Counted s t O.avs_timeouts ∧ Raised s t 0x7A (avsHid s)) ∧
  (∀ (s : State) (mv : Nat), hubOn s = true → rd s O.vcore_target ≠ 0 → rd s O.avs_state ≠ 1 → rd s O.avs_state ≠ 2 →
    vcoreBad (rd s O.vcore_target) mv = true →
    Completes (.vcoreFault mv) s fun t => rd t O.vcore_mv = min 0xFFFF mv ∧ Counted s t O.vcore_faults ∧ Raised s t 0x7B (avsHid s)) ∧
  (∀ (s : State) (v : BitVec 8), Reaches s O.pad_release → v.toNat < 32 →
    (∀ g ∈ [0, 1, 2, 3, 4], bit v.toNat g = true → padFitted s g = true → bit (rd s O.pad_latched) g = true → rd s (O.pd_state (padDomain g)) = 2) →
    Completes (.padRelease v) s fun t => t.status = .ok ∧
      ∀ g ∈ [0, 1, 2, 3, 4], bit (rd t O.pad_latched) g = (bit (rd s O.pad_latched) g && !(bit v.toNat g && padFitted s g)))

/-- DORMANT, reset and the wake (R25, R449 to R454, R460, R503 to R507, R524). ENTER in an IDLE that it checks takes the package to DORMANT, stops the reference and
keeps the DORMANT record of the time base; the end of entry leaves the hub unpowered in DORMANT; an enabled wake source during entry is held until that
end, and after it wakes the package to IDLE with its cause kept. PORST_N low is a package reset; its release takes the straps by majority and
enters IDLE; a package reset by command leaves reset at once. PERST_N takes the PCIe link down and up again. -/
def Obligations.ResetAndDormantComplete : Prop :=
  (∀ s : State, Reaches s O.dormant_cmd → enterCheck s = none →
    Completes .dormantEnter s fun t => t.status = .ok ∧ packageMode t = 3 ∧ rd t O.ref_state = 0 ∧ t.power.record.isSome = true) ∧
  (∀ s : State, packageMode s = 3 → s.power.entryStep ≠ 0 → s.power.wakePending = 0 →
    Completes .dormantEntryDone s fun t => packageMode t = 3 ∧ rd t O.v12_state = 0 ∧ t.power.entryStep = 0 ∧ t.entering = [] ∧
      t.mac.stations = [] ∧ Counted s t O.dormant_entries) ∧
  (∀ (s : State) (i b : Nat), packageMode s = 3 → s.power.inputOn = true → wakeEnabled s i = true → s.power.entryStep ≠ 0 → b < 128 →
    Completes (.wakeSource i b) s fun t => packageMode t = 3 ∧ rd t O.wake_cause = setBit (rd s O.wake_cause) i ∧
      t.power.wakePending = b * 256 + 1) ∧
  (∀ (s : State) (i b : Nat), packageMode s = 3 → s.power.inputOn = true → wakeEnabled s i = true → s.power.entryStep = 0 →
    Completes (.wakeSource i b) s fun t => packageMode t = 4 ∧ rd t O.wake_cause = setBit (rd s O.wake_cause) i ∧ t.boot.wake = true ∧
      t.boot.step = 0) ∧
  (∀ s : State, s.power.inputOn = true →
    Completes .porstAssert s fun t => t.boot.inReset = true ∧ clkState t 13 = 1 ∧
      rd t O.ref_state = (if rd s O.ref_state = 0 then 1 else rd s O.ref_state) ∧ rd t O.epoch_phase = 0 ∧ t.claims = [] ∧ t.staged = [] ∧
      t.tinker.log = [] ∧ t.mac.stations = [] ∧ t.led.peerKey = s.led.peerKey) ∧
  (∀ (s : State) (a b c : Nat), s.boot.inReset = true → s.power.inputOn = true → rd s O.v12_state = 2 →
    Completes (.porstRelease [a, b, c]) s fun t => t.boot.inReset = false ∧ t.boot.straps = majority a b c ∧ packageMode t = 4) ∧
  (∀ s : State, Reaches s O.reset_cmd → hidMalformed (rd s O.reset_target) = false → hidOwn s (rd s O.reset_target) = true →
    hidDie (rd s O.reset_target) = 7 →
    Completes .resetCmd s fun t => t.status = .ok ∧ packageMode t = 4 ∧ t.boot.inReset = false ∧ t.boot.step = 0 ∧ t.staged = [] ∧
      t.mac.stations = [] ∧ t.boot.straps = s.boot.straps) ∧
  (∀ (s : State) (b : Bool), hubOn s = true →
    Completes (.perst b) s fun t => t.boot.perst = b ∧ (b = true → t.boot.pcieUp = false) ∧ (b = false → t.boot.pcieUp = s.boot.pcieUp)) ∧
  (∀ s : State, hubOn s = true → s.boot.perst = false → 1 ≤ s.boot.step → Completes .pcieLinkTrained s fun t => t.boot.pcieUp = true)

/-- BOOT and TRAIN (R518 to R526). BOOT's first step counts the boot and enters BOOT; an image that passes its check gives its revision, and one that fails is
reported and gives way to the next slot, or to a halt; the self-test's failed units are reported and left out, or halt the module where BOOT
needs them; the last step takes the objects' values and enters TRAIN; TRAIN ends in SOLO without a twin, and with one waits for its peer. -/
def Obligations.BootComplete : Prop :=
  (∀ s : State, hubOn s = true → packageMode s = 4 → s.boot.step = 0 → s.boot.halted = false → rd s O.ref_state = 2 →
    Completes .bootStart s fun t => t.boot.step = 1 ∧ packageMode t = 5 ∧ t.boot.slots = bootSlots s.boot.straps ∧ t.power.record = none) ∧
  (∀ (s : State) (v : Nat), hubOn s = true → s.boot.step = 1 → s.boot.halted = false → s.boot.slots ≠ [] → v < 4294967296 →
    Completes (.imageCheckDone 0 v) s fun t => t.boot.step = 2 ∧ t.boot.slots = [] ∧ rd t O.firmware_rev = v) ∧
  (∀ (s : State) (f : Fin 5) (v slot : Nat) (rest : List Nat), hubOn s = true → s.boot.step = 1 → s.boot.halted = false →
    s.boot.slots = slot :: rest → f ≠ 0 →
    Completes (.imageCheckDone f v) s fun t => t.boot.step = 1 ∧ t.boot.slots = rest ∧ Raised s t 0x10 (ledgerHid s) ∧
      (rest = [] → t.boot.halted = true ∧ rd t O.firmware_rev = 0) ∧ (rest ≠ [] → t.boot.halted = false)) ∧
  (∀ (s : State) (l : List Nat), hubOn s = true → s.boot.step = 2 → s.boot.halted = false →
    Completes (.selfTestDone l) s fun t =>
      ((l.filter (selfTested s)).any bootVital = false → t.boot.step = 3 ∧ t.boot.disabled = l.filter (selfTested s)) ∧
      ((l.filter (selfTested s)).any bootVital = true → t.boot.step = 2 ∧ t.boot.halted = true)) ∧
  (∀ s : State, hubOn s = true → s.boot.step = 3 → s.boot.halted = false →
    Completes .bootEnd s fun t => t.boot.step = 4 ∧ packageMode t = 6 ∧ rd t O.epoch_current = 1) ∧
  (∀ s : State, hubOn s = true → packageMode s = 6 → rd s O.dram_state = 3 → s.boot.fulls = [] → s.boot.waiting = false → s.boot.chosen = none →
    Completes .trainEnd s fun t => (s.tinker.latched = true ∨ twinState s = 0 → t.boot.chosen = some 7) ∧
      (s.tinker.latched = false → twinState s ≠ 0 → s.twin.hbFresh = false → s.boot.searched = false → t.boot.waiting = true ∧ t.boot.chosen = none))

/-! ### Epochs and the frame boundary -/

/-- A commit as its coordinator runs it (R29 to R33, R184). COMMIT of something staged is DEFERRED and enters PREPARE with no laggard, and with nothing staged it is OK at once; DISCARD clears
what is staged and both target modes; a unit that agrees is no longer waited for; one that refuses, and a prepare that takes too long, roll the commit
back; an automatic commit that waits starts on the lead once the phase is IDLE. -/
def Obligations.EpochPrepareComplete : Prop :=
  (∀ s : State, Reaches s O.epoch_cmd → (rd s O.epoch_scope ≠ 1 ∨ roleMode s ≠ 9) → rd s O.q_state ≠ 2 → rd s O.epoch_phase = 0 →
    s.epoch.peerPhase = 0 → packageMode s ∉ [5, 6, 10, 12] → anyStaged s = true →
    Completes .epochCommit s fun t => t.status = .deferred ∧ rd t O.epoch_phase = 1 ∧ rd t O.laggard_count = 0 ∧ rd t O.first_laggard = 0 ∧
      t.epoch.coordinator = true ∧ t.epoch.kind = .host) ∧
  (∀ s : State, Reaches s O.epoch_cmd → (rd s O.epoch_scope ≠ 1 ∨ roleMode s ≠ 9) → rd s O.q_state ≠ 2 → rd s O.epoch_phase = 0 →
    s.epoch.peerPhase = 0 → packageMode s ∉ [5, 6, 10, 12] → anyStaged s = false → rd s O.target_mode_a = 0 → rd s O.target_mode_b = 0 →
    Completes .epochCommit s fun t => t.status = .ok ∧ rd t O.epoch_phase = 0) ∧
  (∀ s : State, Reaches s O.epoch_cmd → rd s O.epoch_phase = 0 → s.epoch.peerPhase = 0 →
    Completes .epochDiscard s fun t => t.status = .ok ∧ t.staged = [] ∧ t.stagedBlobs = [] ∧ rd t O.target_mode_a = 0 ∧
      rd t O.target_mode_b = 0 ∧ (s.graph.copying = false → t.graph.shadow = s.graph.active)) ∧
  (∀ (s : State) (h : Nat), h < 16777216 → hubOn s = true → rd s O.epoch_phase = 1 → ackCounts s h = true →
    (hidOwn s h = false ∨ (unitWaits s h = false ∧ unitRefuses s h = false)) → s.epoch.waiting.filter (fun x => x ≠ h) ≠ [] →
    Completes (.unitPrepared h true) s fun t => rd t O.epoch_phase = 1 ∧ t.epoch.waiting = s.epoch.waiting.filter (fun x => x ≠ h)) ∧
  (∀ (s : State) (h : Nat), h < 16777216 → hubOn s = true → rd s O.epoch_phase = 1 → ackCounts s h = true →
    (hidOwn s h = false ∨ (unitWaits s h = false ∧ unitRefuses s h = false)) → s.epoch.waiting.filter (fun x => x ≠ h) = [] →
    Completes (.unitPrepared h true) s fun t => rd t O.epoch_phase = 2 ∧ t.epoch.earliest = some (tbNs s + rd s O.apply_guard * 1000)) ∧
  (∀ (s : State) (h : Nat), h < 16777216 → hubOn s = true → rd s O.epoch_phase = 1 → ackCounts s h = true →
    Completes (.unitPrepared h false) s fun t => rd t O.epoch_phase = 0 ∧ rd t O.epoch_result = Status.code .rolledBack ∧
      rd t O.first_laggard = h ∧ rd t O.laggard_count = 1) ∧
  (∀ s : State, hubOn s = true → rd s O.epoch_phase = 1 →
    Completes .prepareTimeout s fun t => rd t O.epoch_phase = 0 ∧ rd t O.epoch_result = Status.code .rolledBack) ∧
  (∀ (s : State) (a b : Nat), hubOn s = true → s.epoch.autoWaiting = some (a, b) → rd s O.epoch_phase = 0 → s.epoch.peerPhase = 0 →
    packageMode s ∈ [7, 8, 9, 11] → roleMode s = 8 → a ≠ 8 → b ≠ 8 →
    Completes .autoCommit s fun t => rd t O.epoch_phase = 1 ∧ t.epoch.autoWaiting = none ∧ t.epoch.coordinator = true)

/-- The apply, the rollback and the peer's part (R33 to R36, R151 to R155). A unit that has applied is no longer waited for, and with the last the commit ends OK at phase
IDLE; an apply that takes too long sets the rollback's instant; a restored unit is no longer waited for, and with the last, or when a restore takes too
long, the commit ends ROLLED_BACK; a peer follows its coordinator's messages, and restores by itself when the coordinator is silent; a frame boundary
counts its frame and opens the next plan. -/
def Obligations.EpochApplyComplete : Prop :=
  (∀ (s : State) (h : Nat), h < 16777216 → hubOn s = true → rd s O.epoch_phase = 2 → s.epoch.switched = true → ackCounts s h = true →
    (s.epoch.waiting.filter (fun x => x ≠ h) ≠ [] ∨ s.epoch.lost ≠ []) →
    Completes (.unitApplied h) s fun t => rd t O.epoch_phase = 2 ∧ t.epoch.waiting = s.epoch.waiting.filter (fun x => x ≠ h) ∧
      t.epoch.applied = s.epoch.applied ++ [h]) ∧
  (∀ (s : State) (h : Nat), h < 16777216 → hubOn s = true → rd s O.epoch_phase = 2 → s.epoch.switched = true → ackCounts s h = true →
    s.epoch.waiting.filter (fun x => x ≠ h) = [] → s.epoch.lost = [] →
    Completes (.unitApplied h) s fun t => rd t O.epoch_phase = 0 ∧ rd t O.epoch_result = Status.code .ok ∧ t.epoch.waiting = []) ∧
  (∀ s : State, hubOn s = true → rd s O.epoch_phase = 2 → s.epoch.switched = true →
    Completes .applyTimeout s fun t => rd t O.epoch_phase = 3 ∧ t.epoch.earliest = some (tbNs s + rd s O.apply_guard * 1000) ∧
      t.epoch.switched = false ∧ t.epoch.laggards = s.epoch.waiting ++ s.epoch.lost) ∧
  (∀ (s : State) (h : Nat), h < 16777216 → hubOn s = true → rd s O.epoch_phase = 3 → s.epoch.switched = true → ackCounts s h = true →
    Completes (.unitRestored h) s fun t =>
      (s.epoch.waiting.filter (fun x => x ≠ h) ≠ [] → rd t O.epoch_phase = 3 ∧ t.epoch.waiting = s.epoch.waiting.filter (fun x => x ≠ h)) ∧
      (s.epoch.waiting.filter (fun x => x ≠ h) = [] → rd t O.epoch_phase = 0 ∧ rd t O.epoch_result = Status.code .rolledBack)) ∧
  (∀ s : State, hubOn s = true → rd s O.epoch_phase = 3 → s.epoch.switched = true →
    Completes .restoreTimeout s fun t => rd t O.epoch_phase = 0 ∧ rd t O.epoch_result = Status.code .rolledBack) ∧
  (∀ s : State, hubOn s = true → s.epoch.peerPhase ≠ 0 →
    Completes .peerDoneTimeout s fun t => t.epoch.peerPhase = 0 ∧ rd t O.epoch_result = Status.code .rolledBack) ∧
  (∀ (s : State) (v : VHead) (n : Nat), Heard s 1 v → s.epoch.peerPhase = 1 →
    Completes (.epochMessageReceived v (.applyAt n)) s fun t => t.epoch.peerPhase = 2 ∧ t.epoch.earliest = some n ∧ t.epoch.waiting = ownUnits s) ∧
  (∀ (s : State) (v : VHead), Heard s 1 v → s.epoch.peerPhase = 0 → rd s O.epoch_phase = 0 →
    Completes (.epochMessageReceived v (.prepare none)) s fun t => t.epoch.peerPhase = 1 ∧ t.epoch.peerIn = true) ∧
  (∀ (s : State) (v : VHead), Heard s 1 v → s.epoch.peerPhase = 1 →
    Completes (.epochMessageReceived v .abort) s fun t => t.epoch.peerPhase = 0) ∧
  (∀ (s : State) (v : VHead), Heard s 1 v → s.epoch.peerPhase = 3 →
    Completes (.epochMessageReceived v .done) s fun t => t.epoch.peerPhase = 0) ∧
  (∀ (s : State) (v : VHead) (n : Nat), Heard s 1 v → s.epoch.peerPhase = 3 →
    Completes (.epochMessageReceived v (.rollbackAt n)) s fun t => t.epoch.peerPhase = 4 ∧ t.epoch.earliest = some n) ∧
  (∀ s : State, hubOn s = true → s.epoch.earliest = none →
    Completes .frameBoundary s fun t => t.planClosed = false ∧ rd t O.frame_count = min (rd s O.frame_count + 1) 0xFFFFFFFFFFFFFFFF)

/-! ### The Ledger, its transports and the host -/

/-- Ledger accesses and messages (R40, R52 to R56, R59, R475). A write record of `fit_query` with a HID of this package sets it; a doorbell with a good length takes the
mailbox's request, as BAR0 offset 0 does; an SPI request is taken in READY-less states, and a read of all of a ready response ends it; a datagram on `mgmt_vid` waits for the
Ledger; a message that passes R52 and whose one record reads `part_number` is counted, takes its replay counter and is answered with that one record; entries owed
are announced on each transport that `notify_transports` names. -/
def Obligations.LedgerMessagesComplete : Prop :=
  (∀ (s : State) (v : Octets), hubOn s = true → ledgerServes s = true → s.led.hung = [] → v.length = 3 → hidMalformed (leNat v) = false →
    hidOwn s (leNat v) = true →
    Completes (.ledgerWrite (.object 0x0002 1) v) s fun t => t.status = .ok ∧ rd t O.fit_query = leNat v) ∧
  (∀ (s : State) (v : Octets), hubOn s = true → bar0Up s = true → v.length = 4 → 1 ≤ bits (leNat v) 10 0 → bits (leNat v) 10 0 ≤ 1280 →
    bit s.led.mbStatus 0 = false → bit s.led.mbStatus 1 = false →
    Completes (.ledgerWrite (.bar0 0 4) v) s fun t => bit t.led.mbStatus 0 = true ∧
      t.led.arrivals.any (fun a => decide (a.transport = .mailbox ∧ a.order = s.led.nextOrder)) = true) ∧
  (∀ (s : State) (v : BitVec 32), hubOn s = true → bar0Up s = true → 1 ≤ bits v.toNat 10 0 → bits v.toNat 10 0 ≤ 1280 →
    bit s.led.mbStatus 0 = false → bit s.led.mbStatus 1 = false →
    Completes (.mbDoorbell v) s fun t => bit t.led.mbStatus 0 = true ∧
      t.led.arrivals.any (fun a => decide (a.transport = .mailbox ∧ a.order = s.led.nextOrder ∧ a.bytes.length = bits v.toNat 10 0)) = true) ∧
  (∀ (s : State) (b : Octets), hubOn s = true → s.boot.step ≠ 0 → s.led.spiState = 2 ∨ s.led.spiState = 3 →
    Completes (.spiRequest b) s fun t => t.led.spiState = 0 ∧
      t.led.arrivals.any (fun a => decide (a.transport = .spi ∧ a.order = s.led.nextOrder ∧ a.bytes = b)) = true) ∧
  (∀ (s : State) (n : Nat), hubOn s = true → s.led.spiState = 1 → s.led.spiResp.length ≤ n →
    Completes (.spiResponseRead n) s fun t => t.led.spiState = 3 ∧ t.lastRead.take s.led.spiResp.length = s.led.spiResp) ∧
  (∀ (s : State) (p : Fin 8) (vid udp : Nat) (a b : Octets), hubOn s = true → portUp s p = true → vid = rd s O.mgmt_vid →
    (s.led.arrivals.filter (fun x => decide (x.transport = .eth))).length < 16 →
    Completes (.mgmtDatagram p vid a udp b) s fun t =>
      t.led.arrivals.any (fun x => decide (x.transport = .eth ∧ x.order = s.led.nextOrder ∧ x.port = p ∧ x.srcAddr = a ∧ x.srcPort = udp ∧
        x.bytes = b)) = true) ∧
  (∀ (s : State) (a : Arrival), hubOn s = true → ledgerServes s = true → s.led.hung = [] → s.led.arrivals.head? = some a → a.transport = .eth →
    discards s a = false → authentic s a = true → requestRecords a.bytes = some [{ index := 0, sub := 1, op := 1, value := [] }] →
    Completes .messageRun s fun t => Counted s t O.accepted_eth ∧ t.led.eth = replayTake s.led.eth (msgCounter a.bytes) ∧
      t.out = s.out ++ [.response .eth a.port a.vid a.srcAddr a.srcPort (sealMessage s 2 1 0 (msgSequence a.bytes)
        (recordOctets { index := 0, sub := 1, op := 1, value := [] } .ok (readInUnit s 0 1).2.1))]) ∧
  (∀ s : State, hubOn s = true → ledgerServes s = true → bar0Up s = true → bit (rd s O.notify_transports) 0 = false →
    bit (rd s O.notify_transports) 1 = true → owedEntries s (fun e => e.pcie) ≠ [] → gapOver s s.tinker.lastPcie = true →
    Completes .notifySend s fun t => t.out = s.out ++ [.msix 65] ∧ t.tinker.lastPcie = some s.now) ∧
  (∀ (s : State) (p : Nat), hubOn s = true → ledgerServes s = true → bit (rd s O.notify_transports) 0 = true →
    bit (rd s O.notify_transports) 1 = false → notifyPort s = some p → owedEntries s (fun e => e.eth) ≠ [] → gapOver s s.tinker.lastEth = true →
    Completes .notifySend s fun t => t.led.notifyCount = s.led.notifyCount + 1 ∧ t.tinker.lastEth = some s.now ∧ t.out.length = s.out.length + 1)

/-- Saves and claims (R44, R45, R69, R70). SAVE and CLEAR start a flash operation where none runs, and are DEFERRED; its completion writes the older slot, or
clears both, and ends it OK; its time limit ends it with TIMEOUT and leaves the slots. A free resource is claimed for the owner named, and its owner releases it. -/
def Obligations.SavesAndClaimsComplete : Prop :=
  (∀ s : State, Reaches s O.save_cmd → s.led.saveOp = none →
    Completes .save s fun t => t.status = .deferred ∧ flag t O.save_busy = true ∧ t.led.saveOp = some (.save (savedRegs s) (rwsBlobs s))) ∧
  (∀ s : State, Reaches s O.save_cmd → s.led.saveOp = none →
    Completes .clearSaved s fun t => t.status = .deferred ∧ flag t O.save_busy = true ∧ t.led.saveOp = some .clear) ∧
  (∀ (s : State) (r : Tab Nat) (b : Tab Octets), hubOn s = true → s.led.saveOp = some (.save r b) →
    Completes .saveComplete s fun t => t.led.saveOp = none ∧ flag t O.save_busy = false ∧ rd t O.save_result = 0 ∧
      (if slotGen s.led.slot1 < slotGen s.led.slot0 then t.led.slot1.valid = true ∧ t.led.slot1.regs = r ∧ t.led.slot1.blobs = b ∧ t.led.slot0 = s.led.slot0
        else t.led.slot0.valid = true ∧ t.led.slot0.regs = r ∧ t.led.slot0.blobs = b ∧ t.led.slot1 = s.led.slot1)) ∧
  (∀ s : State, hubOn s = true → s.led.saveOp = some .clear →
    Completes .saveComplete s fun t => t.led.saveOp = none ∧ flag t O.save_busy = false ∧ rd t O.save_result = 0 ∧ t.led.slot0.valid = false ∧
      t.led.slot1.valid = false) ∧
  (∀ s : State, hubOn s = true → s.led.saveOp.isSome = true →
    Completes .saveTimeout s fun t => t.led.saveOp = none ∧ flag t O.save_busy = false ∧ rd t O.save_result = Status.code .timeout ∧
      t.led.slot0 = s.led.slot0 ∧ t.led.slot1 = s.led.slot1) ∧
  (∀ s : State, Reaches s O.claim_cmd → s.claims.look (rd s O.claim_resource) = none →
    Completes .claim s fun t => t.status = .ok ∧ t.claims.look (rd s O.claim_resource) = some (rd s O.claim_owner)) ∧
  (∀ s : State, Reaches s O.claim_cmd → s.claims.look (rd s O.claim_resource) = some (rd s O.claim_owner) →
    Completes .release s fun t => t.status = .ok ∧ t.claims = s.claims.del (rd s O.claim_resource))

/-- The host's queues and BAR0 (R58, R60 to R67, R416). A tail within the ring's free space is taken and any other sets BAD_TAIL; an enabled ring starts at 0 and a
disabled one holds no frame; a fetched descriptor takes the front frame of a to-host queue out, or is the one in hand; a from-host frame with cells to hold it
leaves the descriptor; a DMA error stops the queue and is reported; a run-out interrupt time raises the queue's vector; a malformed access reads all
ones and is reported; the time snapshot latches TB96. -/
def Obligations.HostCommandsComplete : Prop :=
  (∀ (s : State) (q : Fin 64) (v : Nat), hubOn s = true → bar0Up s = true →
    Completes (.tailWrite q v) s fun t =>
      (v % 65536 < ringSize s q → (v % 65536 + ringSize s q - (hq s q).tail) % ringSize s q ≤ ringSize s q - 1 - postedOf s q →
        (hq t q).tail = v % 65536 ∧ (hq t q).badTail = (hq s q).badTail) ∧
      (ringSize s q ≤ v % 65536 → (hq t q).tail = (hq s q).tail ∧ (hq t q).badTail = true)) ∧
  (∀ (s : State) (q : Fin 64), Reaches s (O.enable q) → flag s (O.enable q) = false →
    Completes (.queueEnable q) s fun t => t.status = .ok ∧ flag t (O.enable q) = true ∧ (hq t q).tail = 0 ∧ (hq t q).head = 0 ∧
      (hq t q).stopped = false) ∧
  (∀ (s : State) (q : Fin 64), Reaches s (O.enable q) → flag s (O.enable q) = true →
    Completes (.queueDisable q) s fun t => t.status = .ok ∧ flag t (O.enable q) = false) ∧
  (∀ (s : State) (q : Fin 64) (d : Descriptor), hubOn s = true → ringsMove s q = true → postedOf s q ≠ 0 → 32 ≤ q.val → (hq s q).inHand = none →
    (hq s q).held.length < postedOf s q →
    Completes (.descriptorFetch q d) s fun t => (hq t q).inHand = some d) ∧
  (∀ (s : State) (q : Fin 64) (d : Descriptor) (f : OutFrame) (l : List OutFrame), hubOn s = true → ringsMove s q = true → postedOf s q ≠ 0 → q.val < 32 →
    hostDirect s q = f :: l → badLength d.length = false → f.bytes.length ≤ d.length →
    Completes (.descriptorFetch q d) s fun t => .hostFrame q d.bufAddr f.bytes ∈ t.out) ∧
  (∀ (s : State) (q : Fin 64) (d : Descriptor) (b : Octets), hubOn s = true → bar0Up s = true → packageMode s ≠ 4 → (hq s q).inHand = some d →
    badLength d.length = false → b.length = d.length → hostPath s d b = .forwarding →
    (placeCells s (cellsFor b.length) (reservedBytes s b 0)).isSome = true →
    Completes (.fromHostTakeIn q b) s fun t => (hq t q).inHand = none ∧ t.entering.length = s.entering.length + 1) ∧
  (∀ (s : State) (q : Fin 64) (w : Bool), hubOn s = true → ringsMove s q = true → postedOf s q ≠ 0 →
    Completes (.dmaError q w) s fun t => (hq t q).dmaErr = true ∧ (hq t q).stopped = true ∧ (hq t q).inHand = none ∧
      Raised s t 0x03 (queueEngineHid s)) ∧
  (∀ (s : State) (q : Fin 64), hubOn s = true → (hq s q).irqTimer = true →
    Completes (.irqTimeExpire q) s fun t => t.out = s.out ++ [.msix (rd s (O.msix_vector q))] ∧ (hq t q).irqTimer = false ∧
      (hq t q).unsignalled = 0) ∧
  (∀ (s : State) (o n : Nat) (w : Bool), hubOn s = true → bar0Up s = true → ¬((n = 4 ∨ n = 8) ∧ o % n = 0) →
    Completes (.bar0BadAccess o n w) s fun t => Raised s t 0x02 (endpointHid s) ∧ (w = false → t.lastRead = List.replicate n 255) ∧
      (w = true → t.lastRead = s.lastRead)) ∧
  (∀ (s : State) (w : Bool), hubOn s = true → s.boot.perst = false →
    Completes (.tsSnapshotRead w) s fun t => t.time.snapTb = s.tb ∧ t.time.snapStatus = tsStatus s ∧
      t.lastRead = leBytes 4 (tbNs s % 1000000000) ++ (if w then leBytes 4 (tbNs s / 1000000000 % 4294967296) else []))

/-! ### The radios -/

/-- The radio sequencer and its commands (R77, R80, R83 to R87, R105, R120, R138). A stable crystal leads to STANDBY, or on to SETTLING where the target is RX; lock leads to RX and drops held
commands that it comes too late for; a settle time-out is FAULT, and lost lock goes back to SETTLING with the PPDU cut, each reported; a command that passes the checks
waits, held where the radio settles; the first one is sent at its start; one held too long is dropped with SYNTH_NOT_READY; a PPDU's end leaves TX with the
power of each chain; a result is taken by its issuer; a mute takes effect at once; a low FEM supply faults each enabled chain. -/
def Obligations.RadioSequencerComplete : Prop :=
  (∀ (s : State) (r : Fin 3), hubOn s = true → rState s r = 1 → (radio s r).crystal = true →
    Completes (.crystalStable r) s fun t => rState t r = (if effTarget s r = 3 then 3 else 2) ∧ (radio t r).crystal = false) ∧
  (∀ (s : State) (r : Fin 3), hubOn s = true → rState s r = 3 →
    Completes (.synthLock r) s fun t => rState t r = 4 ∧ flag t (O.synth_locked r) = true ∧
      (radio t r).cmds = (radio s r).cmds.filter (fun c => !(c.held && decide (latestStart c < tbNs s + 6000)))) ∧
  (∀ (s : State) (r : Fin 3), hubOn s = true → rState s r = 3 →
    Completes (.settleTimeout r) s fun t => rState t r = 7 ∧ (radio t r).onAir = none ∧ Raised s t 0x21 (synthHid s r)) ∧
  (∀ (s : State) (r : Fin 3), hubOn s = true → rState s r = 4 ∨ rState s r = 5 ∨ rState s r = 6 →
    Completes (.lockLost r) s fun t => rState t r = 3 ∧ (radio t r).onAir = none ∧ flag t (O.synth_locked r) = false ∧
      Counted s t (O.lock_losses r) ∧ Raised s t 0x20 (synthHid s r)) ∧
  (∀ (s : State) (r : Fin 3) (c : TxCmd), hubOn s = true → radioFitted s.fuse.part r = true → c.held = false → earlyChecks s r c = none →
    Completes (.transmitCommand r c) s fun t =>
      (rState s r = 3 → { c with held := true } ∈ (radio t r).cmds ∧ t.txReports = s.txReports) ∧
      (rState s r ≠ 3 → earliestStart c (readyInstant s r 2000) ≤ latestStart c → c ∈ (radio t r).cmds ∧ t.txReports = s.txReports) ∧
      (rState s r ≠ 3 → latestStart c < earliestStart c (readyInstant s r 2000) →
        t.txReports = s.txReports ++ [{ radio := r, cmd := c, result := .late }])) ∧
  (∀ (s : State) (r : Fin 3) (c : TxCmd) (l : List TxCmd), hubOn s = true → (radio s r).cmds = c :: l →
    earlyChecks (setRadio s r { radio s r with cmds := l }) r c = none → rState s r = 4 → (radio s r).cal = none →
    earliestStart c (readyInstant s r 0) ≤ latestStart c →
    Completes (.commandStart r) s fun t => rState t r = 5 ∧ (radio t r).cmds = l ∧ (radio t r).onAir.isSome = true ∧
      t.txReports.getLast?.map (fun x => x.result) = some .sent) ∧
  (∀ (s : State) (r : Fin 3) (c : TxCmd) (l : List TxCmd), hubOn s = true → (radio s r).cmds = c :: l → c.held = true → rState s r = 3 →
    Completes (.heldCommandAbort r) s fun t => (radio t r).cmds = l ∧
      t.txReports = s.txReports ++ [{ radio := r, cmd := c, result := .synthNotReady }]) ∧
  (∀ (s : State) (r : Fin 3) (c : TxCmd) (l : List Nat), hubOn s = true → (radio s r).onAir = some c → rState s r = 5 →
    Completes (.ppduEnd r l) s fun t => rState t r ≠ 5 ∧ (radio t r).onAir = none ∧
      ∀ e ∈ (bitList 16 c.chains).zip l, rd t (O.chain_power r e.1) = e.2) ∧
  (∀ (s : State) (x : TxReport) (l : List TxReport), hubOn s = true → s.txReports = x :: l →
    Completes .txResult s fun t => t.txReports = l ∧
      (x.cmd.issuer = .sifs → x.result = .sent → rd t (O.resp_sent x.radio) = min (rd s (O.resp_sent x.radio) + 1) (topOf (O.resp_sent x.radio)))) ∧
  (∀ (s : State) (r : Fin 3) (b : Bool), Reaches s (O.tx_mute r) →
    Completes (.txMute r b) s fun t => t.status = .ok ∧ flag t (O.tx_mute r) = b ∧ (b = true → rState t r ≠ 5)) ∧
  (∀ (s : State) (r : Fin 3) (k : Nat), hubOn s = true → rd s (O.pd_state (6 + r)) = 2 → k ∈ enabledChains s r →
    Completes (.vfemLow r) s fun t => k ∈ (radio t r).faulty)

/-- Calibrations, limits and grants (R89 to R92, R99, R102, R107). A calibration that the Steward admits runs, and one that does not fit yet is queued; a chain whose
temperature moved has PREDISTORT raised; a yielded calibration resumes, its limit ends it with TIMEOUT, and its end gives the chain its new coefficients or the radio its
result; an overshoot is cut, counted and reported; a grant that passes its checks is ACTIVE, until it is revoked or expires; the derating follows the temperature. -/
def Obligations.CalibrationAndGrantsComplete : Prop :=
  (∀ (s : State) (r : Fin 3), Reaches s (O.cal_cmd r) →
    Completes (.calCmd r) s fun t =>
      t.status = (stewardRequest s (calActivity (rd s (O.cal_kind r))) (calTarget s r (rd s (O.cal_kind r)) (rd s (O.cal_chain r))) (ledgerHid s)
        (rd s (O.cal_kind r))).1 ∧
      (t.status = .ok → t.steward.running.any (fun e => decide (e.activity = calActivity (rd s (O.cal_kind r)) ∧
        e.target = calTarget s r (rd s (O.cal_kind r)) (rd s (O.cal_chain r)))) = true) ∧
      (t.status = .deferred → t.steward.queue.any (fun e => decide (e.activity = calActivity (rd s (O.cal_kind r)) ∧
        e.target = calTarget s r (rd s (O.cal_kind r)) (rd s (O.cal_chain r)))) = true)) ∧
  (∀ (s : State) (r : Fin 3) (k : Fin 16) (c : Int), hubOn s = true → k.val < chainsOf s.fuse.part r →
    Completes (.predistortTempRaise r k c) s fun t => rd t (O.chain_temp r k) = ofSigned 32 c ∧
      ((radio s r).pdTemp.look k = none → t.steward = s.steward)) ∧
  (∀ (s : State) (r : Fin 3) (k : CalRun), hubOn s = true → (radio s r).cal = some k → k.yielded = true → (radio s r).cmds = [] →
    (radio s r).onAir = none →
    Completes (.calResume r) s fun t => (radio t r).cal = some { k with yielded := false }) ∧
  (∀ (s : State) (r : Fin 3) (k : CalRun), hubOn s = true → (radio s r).cal = some k → 3 ≤ k.kind →
    Completes (.calLimitTimeout r) s fun t => (radio t r).cal = none ∧ rd t (O.cal_result r) = Status.code .timeout ∧
      (radio t r).coeff = (radio s r).coeff) ∧
  (∀ (s : State) (r : Fin 3) (k : CalRun) (c : Nat) (l : List Nat), hubOn s = true → (radio s r).cal = some k → (radio s r).trainFull = false →
    3 ≤ k.kind → k.chains = c :: l →
    Completes (.calEnd r []) s fun t => rd t (O.cal_result r) = 0 ∧
      (radio t r).coeff.getD (c * 16 + calEngine k.kind) 0 = (radio s r).coeff.getD (c * 16 + calEngine k.kind) 0 + 1 ∧
      (radio t r).cal = (if l = [] then none else some { k with chains := l, step := 0 })) ∧
  (∀ (s : State) (r : Fin 3) (k : CalRun), hubOn s = true → (radio s r).cal = some k → (radio s r).trainFull = false → k.kind = 1 →
    Completes (.calEnd r []) s fun t => rd t (O.cal_result r) = 0 ∧ (radio t r).cal = none ∧ rState t r ≠ 6) ∧
  (∀ (s : State) (r : Fin 3) (k : Fin 16) (v : Nat), hubOn s = true → (radio s r).onAir.isSome = true → chainLimitEff s r k + 2 < (v : Int) →
    Completes (.pdetOvershoot r k v) s fun t => (radio t r).gainCut.look k = some ((v : Int) - chainLimitEff s r k).toNat ∧
      Counted s t (O.power_overshoots r) ∧ Raised s t 0x26 (hidOf s (r + 1) 1 k 0)) ∧
  (∀ (s : State) (r : Fin 3) (g : Fin 16), Reaches s (O.grant_cmd r g) → grantInstallCheck s r g = .ok →
    Completes (.grantInstall r g) s fun t => t.status = .ok ∧ rd t (O.grant_state r g) = 1 ∧
      (radio t r).grants.look g = some { first := rd s (O.grant_first r g), last := rd s (O.grant_last r g), power := rd s (O.grant_power r g),
                                         expiry := nsOf80 (rd s (O.grant_expiry r g)) }) ∧
  (∀ (s : State) (r : Fin 3) (g : Fin 16), Reaches s (O.grant_cmd r g) → rd s (O.grant_state r g) = 1 →
    Completes (.grantRevoke r g) s fun t => t.status = .ok ∧ rd t (O.grant_state r g) = 3) ∧
  (∀ (s : State) (r : Fin 3) (g : Fin 16) (x : Grant), hubOn s = true → (radio s r).grants.look g = some x → rd s (O.grant_state r g) = 1 →
    x.expiry ≤ tbNs s →
    Completes (.grantExpiry r g) s fun t => rd t (O.grant_state r g) = 2) ∧
  (∀ (s : State) (r : Fin 3) (c : Int), hubOn s = true → radioFitted s.fuse.part r = true →
    Completes (.thermalDerateUpdate r c) s fun t => rd t (O.die_temp r) = ofSigned 32 c ∧
      rd t (O.thermal_derate r) = min 24 (rdI t (O.die_temp r) - (rd s (O.derate_start r) : Int)).toNat)


/-! ### The air MAC and the Ostler -/

/-- Commands of the air MAC (R114, R117, R120, R122, R125, R128, R133, R138, R140, R142). A bad FCS, an oversized MPDU and one for another receiver are each
counted; ADD builds the staged station as ADDED, REMOVE empties its entry, and AUTHORIZE and DEAUTHORIZE move it between ADDED and AUTHORIZED; a reorder time-out moves the window
and releases what was held; an unacknowledged MPDU with sends left goes back to its queue; a torn-down agreement leaves the table; a TBTT builds a beacon, or
counts one that cannot go; a watched beacon that does not come is counted, and the upstream link is down at the third. -/
def Obligations.AirMacComplete : Prop :=
  (∀ (s : State) (r : Fin 3) (m : RxMpdu) (e : LookupError), hubOn s = true → rState s r = 4 → m.fcsOk = false → m.last = false →
    Completes (.mpduReceived r m e) s fun t => Counted64 s t (O.air_rx_fcs_err r) ∧ rd t (O.rx_fcs_ok r) = rd s (O.rx_fcs_ok r)) ∧
  (∀ (s : State) (r : Fin 3) (m : RxMpdu), hubOn s = true → rState s r = 4 → m.fcsOk = true → m.last = false → m.kind ≠ .beacon → 11454 < m.length →
    Completes (.mpduReceived r m .none) s fun t => Counted64 s t (O.rx_fcs_ok r) ∧ Counted64 s t (O.air_rx_oversize r) ∧ t.mac.arrived = s.mac.arrived) ∧
  (∀ (s : State) (r : Fin 3) (m : RxMpdu), hubOn s = true → rState s r = 4 → m.fcsOk = true → m.last = false → m.kind ≠ .beacon → m.length ≤ 11454 →
    addressCheck s r m.ra = 0 →
    Completes (.mpduReceived r m .none) s fun t => Counted64 s t (O.rx_fcs_ok r) ∧ Counted64 s t (O.rx_not_mine r) ∧ t.mac.arrived = s.mac.arrived) ∧
  (∀ s : State, Reaches s O.sta_cmd → staState s (rd s O.sta_select) = 0 → staAddOk s = true →
    Completes .staAdd s fun t => t.status = .ok ∧ staState t (rd s O.sta_select) = 1 ∧
      rd t (winKey (rd s O.sta_select) O.sta_aid) = rd s (winKey staStage O.sta_aid)) ∧
  (∀ s : State, Reaches s O.sta_cmd → staState s (rd s O.sta_select) ≠ 0 →
    Completes .staRemove s fun t => t.status = .ok ∧ staState t (rd s O.sta_select) = 0 ∧ t.mac.stations.look (rd s O.sta_select) = none) ∧
  (∀ s : State, Reaches s O.sta_cmd → staState s (rd s O.sta_select) = 1 →
    Completes .staAuthorize s fun t => t.status = .ok ∧ staState t (rd s O.sta_select) = 2) ∧
  (∀ s : State, Reaches s O.sta_cmd → staState s (rd s O.sta_select) = 2 →
    Completes .staDeauthorize s fun t => t.status = .ok ∧ staState t (rd s O.sta_select) = 1) ∧
  (∀ (s : State) (i tid : Nat) (h : Held) (x : Arrived), hubOn s = true → (board s i tid).held = [h] → (board s i tid).marked = [h.sn] → h.sn < 4096 →
    snBefore (board s i tid).start h.sn = false → s.mac.arrived.look h.mpdu = some x → x.mpdu.kind = .data → x.mpdu.isProtected = true → x.radio < 3 →
    Completes (.reorderTimeout i tid) s fun t => Counted64 s t (O.reorder_gap_skips x.radio) ∧ (board t i tid).start = (h.sn + 1) % 4096 ∧
      (board t i tid).held = [] ∧ t.lock.input = s.lock.input ++ [h.mpdu]) ∧
  (∀ (s : State) (i tid sn : Nat) (u : Unacked), hubOn s = true →
    s.ost.sent.find? (fun v => decide (v.station = i ∧ v.frame.tid = tid ∧ v.frame.sn = some sn)) = some u → u.radio < 3 → u.frame.sends < rd s O.retry_limit →
    Completes (.mpduUnacked i tid sn) s fun t => Counted64 s t (O.air_tx_retries u.radio) ∧ u.frame ∈ (airQ t (4 * i + acOf tid)).frames) ∧
  (∀ (s : State) (x : Twt), Reaches s O.twt_cmd → s.mac.twt.look (rd s O.twt_select) = some x →
    Completes .twtTeardown s fun t => t.status = .ok ∧ t.mac.twt.look (rd s O.twt_select) = none ∧
      (x.radio, .twtTeardown x.station x.flow) ∈ t.mac.outgoing) ∧
  (∀ (s : State) (r : Fin 3), hubOn s = true → ownsLinks s = true → radioFitted s.fuse.part r = true → rd s (O.bss_count r) ≠ 0 →
    planBarred (swapTemplates s r) r = false →
    Completes (.tbtt r) s fun t => t.ost.beacons.any (fun b => decide (b.1 = (r : Nat))) = true ∧
      t.ost.beacons.filter (fun b => b.1 ≠ (r : Nat)) = s.ost.beacons.filter (fun b => b.1 ≠ (r : Nat))) ∧
  (∀ (s : State) (r : Fin 3), hubOn s = true → roleMode s = 9 → flag s (O.monitor_lead r) = true → (s.mac.missed.getD r 0 + 1) % 3 ≠ 0 →
    Completes (.beaconWaitExpire r false) s fun t => Counted s t (O.lead_beacon_missed r) ∧ t.mac.missed.look r = some (s.mac.missed.getD r 0 + 1) ∧
      t.tinker = s.tinker) ∧
  (∀ (s : State) (r : Fin 3), hubOn s = true → bhLink s r = true → 2 ≤ s.mac.missed.getD (3 + r) 0 → bit (rd s O.bh_link_state) r = true →
    Completes (.beaconWaitExpire r true) s fun t => bit (rd t O.bh_link_state) r = false ∧ Counted s t O.bh_link_lost ∧ Raised s t 0x33 (hidOf s 0 1 4 0))

/-- The frame and the TXOP (R151, R154 to R156, R165, R171, R173, R174, R207, R325). At the plan's close it is closed and no grant is left, and a plan whose memory erred is
empty; a grant takes the queue off the list; a SYNC_IN edge steps the phase, or slews where it is too far; a lost SYNC_IN is HOLDOVER and reported; a won TXOP sends
its exchange, or the beacon that is due; a TXOP that its deadline ends is skipped; a silent station is counted; the follower's CSI is kept. -/
def Obligations.OstlerComplete : Prop :=
  (∀ (s : State) (e : PlanErrors), hubOn s = true → s.planClosed = false → 7 ≤ packageMode s →
    Completes (.planClose e) s fun t => t.planClosed = true ∧ t.ost.grants = [] ∧ ∀ r ∈ e.plans, (radioPlan t r).closed = []) ∧
  (∀ (s u : State) (a : Nat), hubOn s = true → s.planClosed = false → nextListed s = (some a, u) → airEligible (ageQueue u a) a = true →
    Completes .grantRequest s fun t => (airQ t a).granted = true ∧ t.miller.airSched.list.contains a = false ∧
      t.ost.grants.any (fun g => decide (g.queue = a)) = true) ∧
  (∀ s : State, hubOn s = true → roleMode s = 9 →
    Completes .syncInEdge s fun t => Counted s t O.sync_ignored ∧ rd t O.sync_state = rd s O.sync_state) ∧
  (∀ s : State, hubOn s = true → roleMode s ≠ 9 → rd s O.sync_mode ≠ 0 → s.move.edgeSeen = false → rd s O.sync_state ≠ 3 →
    (syncError s).natAbs ≤ rd s O.sync_step_max * 1000 →
    Completes .syncInEdge s fun t => Counted s t O.sync_events ∧ rd t O.sync_error = ofSigned 32 (syncError s) ∧ rd t O.sync_state = 2) ∧
  (∀ s : State, hubOn s = true → roleMode s ≠ 9 → rd s O.sync_mode ≠ 0 → s.move.edgeSeen = false → rd s O.sync_state ≠ 3 →
    rd s O.sync_step_max * 1000 < (syncError s).natAbs →
    Completes .syncInEdge s fun t => Counted s t O.sync_slews ∧ rd t O.sync_state = 3 ∧ Raised s t 0x39 (syncHid s)) ∧
  (∀ s : State, hubOn s = true → rd s O.sync_mode = 1 → rd s O.sync_state ≠ 4 →
    Completes .syncTimeout s fun t => rd t O.sync_state = 4 ∧ Raised s t 0x3A (syncHid s)) ∧
  (∀ (s : State) (r : Fin 3) (e : Exchange), hubOn s = true → s.ost.beacons.find? (fun b => decide (b.1 = (r : Nat))) = none →
    (radioPlan s r).running = [e] → e.kind ≠ .beacon → e.users = [] → e.content ≠ none → e.paired = false → e.start ≤ tbNs s - s.ost.beganTb →
    tbNs s - s.ost.beganTb ≤ e.start + (radioPlan s r).slip + rd s (O.slip_max r) * 1000 → e.ppdu ≤ e.length → fitsAt s [] e (tbNs s - s.ost.beganTb) = true →
    Completes (.txopAccessComplete r []) s fun t => (radioPlan t r).running = [] ∧ (radioPlan t r).sent.look e.tag = some e) ∧
  (∀ (s : State) (r : Fin 3) (c : Nat × TxContent), hubOn s = true → s.ost.beacons.find? (fun b => decide (b.1 = (r : Nat))) = some c →
    Completes (.txopAccessComplete r []) s fun t => t.ost.beacons = s.ost.beacons.filter (fun b => b.1 ≠ (r : Nat)) ∧ t.ost.nextTag = s.ost.nextTag + 1) ∧
  (∀ (s : State) (r : Fin 3) (e : Exchange) (l : List Exchange), hubOn s = true → (radioPlan s r).running = e :: l → e.kind ≠ .beacon →
    Completes (.accessDeadline r) s fun t => Counted64 s t (O.ost_skipped r) ∧ (radioPlan t r).running = reopen l ∧
      (radioPlan t r).doubled = (radioPlan s r).doubled + 1) ∧
  (∀ (s : State) (r : Fin 3) (i : Nat), hubOn s = true → s.ost.triggered.any (fun e => decide (e.1 = (r : Nat)) && decide (e.2.1 = i)) = true →
    Completes (.tbPpduMissing r i) s fun t => Counted64 s t (O.ul_silent r) ∧
      t.ost.triggered.any (fun e => decide (e.1 = (r : Nat)) && decide (e.2.1 = i)) = false) ∧
  (∀ (s : State) (v : VHead) (i : Nat) (l : List (Nat × Nat)), Heard s 4 v → staState s i ≠ 0 → roleMode s = 8 →
    Completes (.followerCsiReceived v i l) s fun t => (station t i).corr.look 2 = some l ∧ t.twin.jointCsi.look i = some s.now)

/-! ### The pair -/

/-- Heartbeats, the alive line and the lanes (R183 to R191, R198, R204). A heartbeat carries this module's own report and the next counter of its class; one that
is heard is kept, shows the peer and acknowledges mirror records; a missed one is counted; a stale peer is gone, and a lead that hears no alive line either loses its
follower; the alive line's edges are sent and heard, and its silence is reported; a lane that fails is down, counted and reported, and one
that trains again is up. The peer key is stored and forgotten. -/
def Obligations.VarlanLinkComplete : Prop :=
  (∀ s : State, hubOn s = true → twinState s ≠ 0 → lanesUp s ≠ 0 → rd s O.boot_count ≠ 0xFFFF →
    Completes .heartbeatSend s fun t => t.out = s.out ++ [.varlan 0 (s.twin.tx.getD 0 0 + 1) (.heartbeat (ownHeartbeat s))] ∧
      t.twin.tx.getD 0 0 = s.twin.tx.getD 0 0 + 1) ∧
  (∀ (s : State) (v : VHead) (h : HbMsg), Heard s 0 v → h.fault = false → twinState s = 3 → roleMode s = 8 →
    Completes (.heartbeatReceived v h) s fun t => t.twin.hbFresh = true ∧ t.twin.hb = some h ∧ rd t O.peer_mode = h.mode ∧ rd t O.peer_present = 1 ∧
      t.twin.unacked = s.twin.unacked.filter (fun e => decide (h.mirrorAck < e.1))) ∧
  (∀ (s : State) (v : VHead) (h : HbMsg), Heard s 0 v → h.fault = false → h.hears = false → twinState s = 4 → roleMode s = 9 →
    Completes (.heartbeatReceived v h) s fun t => t.twin.hbFresh = true ∧ t.twin.hb = some h ∧ rd t O.peer_mode = h.mode ∧ rd t O.peer_present = 1) ∧
  (∀ s : State, hubOn s = true → twinState s ≠ 0 →
    Completes .heartbeatMissed s fun t => Counted s t O.hb_missed) ∧
  (∀ s : State, hubOn s = true → s.twin.aliveFresh = true → followsPair s = false → roleMode s ≠ 9 →
    Completes .heartbeatStale s fun t => t.twin.hbFresh = false ∧ rd t O.peer_present = 0 ∧ rd t O.peer_mode = 1 ∧ twinState t = twinState s) ∧
  (∀ s : State, hubOn s = true → s.twin.aliveFresh = false → followsPair s = false → leadsPair s = true → s.twin.rxpnHeld = [] →
    Completes .heartbeatStale s fun t => t.twin.hbFresh = false ∧ twinState t = 1 ∧ Counted s t O.peer_lost ∧ t.epoch.autoWaiting.isSome = true) ∧
  (∀ s : State, hubOn s = true → twinRole s ≠ 0 →
    Completes .aliveEdgeSend s fun t => t.out = s.out ++ [.pin 46 (!s.twin.aliveLevel)] ∧ t.twin.aliveLevel = !s.twin.aliveLevel) ∧
  (∀ s : State, hubOn s = true → twinRole s ≠ 0 →
    Completes .aliveEdgeReceived s fun t => t.twin.aliveFresh = true ∧ t.twin.aliveSeen = some s.now) ∧
  (∀ s : State, hubOn s = true → twinRole s ≠ 0 → s.twin.hbFresh = true →
    Completes .aliveSilent s fun t => t.twin.aliveFresh = false ∧ Raised s t 0x4F (aliveHid s) ∧ packageMode t = packageMode s) ∧
  (∀ (s : State) (l : Fin 4), hubOn s = true → bit (rd s O.varlan_lanes) l = true → 2 ≤ lanesUp s →
    Completes (.laneDown l) s fun t => bit (rd t O.varlan_lanes) l = false ∧ bit t.twin.training l = true ∧ Counted s t O.lane_downs ∧
      Raised s t 0x4C (laneHid s l)) ∧
  (∀ (s : State) (l : Fin 4), hubOn s = true → bit s.twin.training l = true → s.miller.varlan = [] →
    Completes (.laneUp l) s fun t => bit (rd t O.varlan_lanes) l = true ∧ bit t.twin.training l = false) ∧
  (∀ (s : State) (k : Octets), Reaches s O.peer_key → k.length = 16 →
    Completes (.peerKeyWrite k) s fun t => t.status = .ok ∧ t.led.peerKey = some k ∧ rd t O.peer_key_set = 1) ∧
  (∀ s : State, Reaches s O.peer_key_cmd →
    Completes .forget s fun t => t.status = .ok ∧ t.led.peerKey = none ∧ rd t O.peer_key_set = 0)

/-- Mirror records, replay counters and paired transmission (R194 to R196, R207 to R209). A record is numbered, applied and acknowledged by the FOLLOW; one for a replay
counter moves that counter; an acknowledgement clears what it covers; records not acknowledged in time leave SYNCED; a verdict held for an acknowledgement goes on when it
comes or when the wait ends, which is counted. A command announced is held by its tag, offered to radio C at its start, and cancelled by its
tag; a follower's failure is counted once. -/
def Obligations.MirrorAndPairingComplete : Prop :=
  (∀ (s : State) (v : VHead) (i tid n : Nat), Heard s 3 v → roleMode s = 9 → twinState s = 3 → staState s i ≠ 0 → lanesUp s ≠ 0 →
    rd s O.boot_count ≠ 0xFFFF →
    Completes (.mirrorRecordReceived v (.txSn i tid n)) s fun t => t.twin.recordsApplied = s.twin.recordsApplied + 1 ∧
      (station t i).txSn.look tid = some n ∧
      t.out = s.out ++ [.varlan 3 (s.twin.tx.getD 3 0 + 1) (.mirrorAck (s.twin.recordsApplied + 1))]) ∧
  (∀ (s : State) (v : VHead) (i tid n : Nat), Heard s 3 v → twinState s = 2 → s.twin.copy = some .joiner →
    Completes (.mirrorRecordReceived v (.txSn i tid n)) s fun t => t.twin.waitingRecs = s.twin.waitingRecs ++ [.txSn i tid n] ∧
      t.mac.stations = s.mac.stations) ∧
  (∀ (s : State) (v : VHead) (token k c pn : Nat), Heard s 2 v → roleMode s = 9 → twinState s = 3 → s.lock.slots.has k = true → lanesUp s ≠ 0 →
    rd s O.boot_count ≠ 0xFFFF →
    Completes (.mirrorRecordReceived v (.rxPn token k c pn)) s fun t => replayC t k c = max (replayC s k c) pn ∧
      t.out = s.out ++ [.varlan 2 (s.twin.tx.getD 2 0 + 1) (.rxpnAck token)]) ∧
  (∀ (s : State) (v : VHead) (n : Nat), Heard s 3 v →
    Completes (.mirrorAck v n) s fun t => t.twin.recordsAcked = max s.twin.recordsAcked n ∧
      t.twin.unacked = s.twin.unacked.filter (fun e => decide (n < e.1))) ∧
  (∀ s : State, hubOn s = true → roleMode s = 8 → s.twin.unacked ≠ [] → twinState s = 3 → s.twin.rxpnHeld = [] →
    Completes .mirrorAckTimeout s fun t => twinState t = 4 ∧ Counted s t O.unsync_events ∧ Raised s t 0x4B (mirrorHid s)) ∧
  (∀ (s : State) (v : VHead) (token m : Nat) (x : Arrived), Heard s 2 v → s.twin.rxpnHeld.find? (fun e => e.1 = token) = some (token, m) →
    s.mac.arrived.look m = some x → presents s m x = false → macHandles x.mpdu.kind = false →
    Completes (.rxpnAck v token) s fun t => t.twin.rxpnHeld = s.twin.rxpnHeld.filter (fun e => e.1 ≠ token) ∧ t.mac.arrived.look m = none) ∧
  (∀ (s : State) (token m : Nat) (x : Arrived), hubOn s = true → twinState s = 4 → s.twin.rxpnHeld.find? (fun e => e.1 = token) = some (token, m) →
    s.mac.arrived.look m = some x → presents s m x = false → macHandles x.mpdu.kind = false →
    Completes (.rxpnWaitExpire token) s fun t => t.twin.rxpnHeld = s.twin.rxpnHeld.filter (fun e => e.1 ≠ token) ∧ t.mac.arrived.look m = none ∧
      Counted s t O.rxpn_unacked) ∧
  (∀ (s : State) (v : VHead) (c : TxCmd), Heard s 4 v → roleMode s = 9 →
    Completes (.pairTxReceived v c) s fun t => t.twin.pairTx.look c.tag = some c) ∧
  (∀ (s : State) (v : VHead) (c : TxCmd) (tag start : Nat), Heard s 4 v → roleMode s = 9 → s.twin.pairTx.look tag = some c → rState s 2 = 3 →
    earlyChecks s 2 { c with issuer := .pair, start := some start, deadline := start, chains := goodChains s 2 } = none →
    Completes (.pairGoReceived v tag start) s fun t => t.twin.pairTx.look tag = none ∧
      { c with issuer := .pair, start := some start, deadline := start, chains := goodChains s 2, held := true } ∈ (radio t 2).cmds) ∧
  (∀ (s : State) (v : VHead) (tag : Nat), Heard s 4 v → s.twin.pairFallen.has tag = false →
    Completes (.pairResultReceived v tag false) s fun t => t.twin.pairFallen.has tag = true ∧ Counted64 s t O.pair_fallback) ∧
  (∀ (s : State) (v : VHead) (tag : Nat), Heard s 4 v →
    Completes (.pairCancelReceived v tag) s fun t => t.twin.pairTx.look tag = none ∧
      (radio t 2).cmds = (radio s 2).cmds.filter (fun c => !(decide (c.issuer = .pair) && decide (c.tag = tag))))

/-- Joining, handing over and taking over (R56, R193, R197 to R203, R206). A serving module that hears JOIN becomes the copy's source; HANDOVER and a STAND_DOWN answer make the FOLLOW take over,
each with its trigger; a lead asked to stand down hands over; STAND_DOWN unanswered ends in TIMEOUT; a forwarded write is applied and acknowledged, and one not
acknowledged in time leaves SYNCED; a copy that ends brings SYNCED back, or asks for the commit of the join; one that does not end is given up;
a search that finds no peer ends in SOLO; a takeover ends in SOLO. -/
def Obligations.JoinAndTakeoverComplete : Prop :=
  (∀ (s : State) (v : VHead) (serial : Octets), Heard s 1 v → twinState s = 1 → servingMode (packageMode s) = true → s.twin.handedOver = false →
    Completes (.joinReceived v serial) s fun t => twinState t = 2 ∧ t.twin.copy = some .source ∧ rdB t O.peer_serial = serial) ∧
  (∀ (s : State) (v : VHead), Heard s 1 v → followsPair s = true →
    Completes (.handoverReceived v) s fun t => packageMode t = 10 ∧ twinState t = 5 ∧ rd t O.last_trigger = 1 ∧
      t.twin.takeover = some { trigger := 1, since := s.now, cold := decide (twinState s ≠ 3) }) ∧
  (∀ s : State, Reaches s O.takeover_cmd → roleMode s ≠ 8 → twinState s = 3 →
    Completes .takeoverForce s fun t => t.status = .ok ∧ t.twin.standDown = true) ∧
  (∀ s : State, Reaches s O.takeover_cmd → roleMode s = 8 →
    Completes .takeoverForce s fun t => t.status = .denied ∧ t.twin = s.twin) ∧
  (∀ (s : State) (v : VHead), Heard s 1 v → roleMode s = 8 → twinState s = 3 →
    Completes (.standDownReceived v) s fun t => twinState t = 1 ∧ t.twin.handedOver = true ∧ t.twin.unacked = []) ∧
  (∀ (s : State) (v : VHead), Heard s 1 v → s.twin.standDown = true → followsPair s = true →
    Completes (.standDownAnswer v) s fun t => packageMode t = 10 ∧ rd t O.last_trigger = 4 ∧ rd t O.takeover_result = 0 ∧ t.twin.standDown = false) ∧
  (∀ s : State, hubOn s = true → s.twin.standDown = true →
    Completes .standDownTimeout s fun t => t.twin.standDown = false ∧ rd t O.takeover_result = Status.code .timeout) ∧
  (∀ (s : State) (v : VHead) (n : Nat), Heard s 1 v → roleMode s = 9 → lanesUp s ≠ 0 → rd s O.boot_count ≠ 0xFFFF →
    storeWrite s 0x5810 6 (leBytes 2 n) = none → n < 65536 →
    Completes (.forwardedWrite v O.fdb_age n []) s fun t => rd t O.fdb_age = n ∧
      t.out = s.out ++ [.varlan 1 (s.twin.tx.getD 1 0 + 1) (.forwardAck O.fdb_age true)]) ∧
  (∀ s : State, hubOn s = true → s.twin.forwarding.isSome = true → twinState s = 3 → s.twin.rxpnHeld = [] →
    Completes .forwardAckTimeout s fun t => t.twin.forwarding = none ∧ twinState t = 4 ∧ Counted s t O.unsync_events) ∧
  (∀ (s : State) (v : VHead), Heard s 1 v → twinState s = 2 → s.twin.copyDone = false → s.twin.copy = some .source → s.twin.waitingRecs = [] →
    Completes (.copyComplete v none) s fun t => (s.twin.resync = true → twinState t = 3 ∧ t.twin.copy = none) ∧
      (s.twin.resync = false → twinState t = 2 ∧ t.twin.copyDone = true ∧ t.epoch.autoWaiting.isSome = true)) ∧
  (∀ (s : State) (v : VHead) (d : CopyData), Heard s 1 v → twinState s = 2 → s.twin.copyDone = false → s.twin.copy = some .joiner →
    s.twin.resync = true →
    Completes (.copyComplete v (some d)) s fun t => twinState t = 3 ∧ t.twin.copy = none ∧ t.twin.waitingRecs = []) ∧
  (∀ s : State, hubOn s = true → twinState s = 2 → s.twin.copyDone = false → s.twin.resync = true → roleMode s ≠ 8 →
    Completes .copyTimeout s fun t => twinState t = 4 ∧ t.twin.copy = none) ∧
  (∀ s : State, hubOn s = true → twinState s = 2 → s.twin.copyDone = false → s.twin.resync = false → s.twin.copy = some .source →
    Completes .copyTimeout s fun t => twinState t = 1 ∧ t.twin.copy = none) ∧
  (∀ s : State, hubOn s = true → twinState s = 2 → s.twin.copyDone = true → s.twin.copy = some .source → s.twin.retryAuto = true →
    Completes .joinRetry s fun t => t.twin.retryAuto = false ∧ t.epoch.autoWaiting.isSome = true) ∧
  (∀ s : State, hubOn s = true → s.boot.waiting = true → twinState s = 1 → s.twin.hbFresh = false →
    Completes .searchTimeout s fun t => t.boot.searched = true ∧ t.boot.waiting = false ∧ t.boot.chosen = some 7) ∧
  (∀ s : State, hubOn s = true → packageMode s = 10 → s.tinker.deferred = none →
    Completes .takeoverEnd s fun t => packageMode t = 7 ∧ twinState t = 1 ∧ t.twin.takeover = none)

/-! ### The Locksmith, the parse graph and the rule store -/

/-- Key slots, associations and verdicts (R222, R223, R227 to R230, R234, R244). INSTALL fills an EMPTY slot with the staged key and erases the staging, and is BUSY on one in use;
CLEAR empties it; SET_TX gives the slot the transmit use and takes it from the others of its kind; a protected MPDU without a key is
refused and counted, one whose PN is new goes to a cipher engine; a verdict takes the frame out of flight, each outcome counted; an association is
installed with the PN given, and cleared. -/
def Obligations.LocksmithComplete : Prop :=
  (∀ s : State, Reaches s O.key_cmd → slotState s (rd s O.key_select) = 0 → installCheck s = .ok →
    Completes .keyInstall s fun t => t.status = .ok ∧ slotState t (rd s O.key_select) = 1 ∧
      (keySlot t (rd s O.key_select)).material = s.lock.keyValue ∧ t.lock.keyValue = [] ∧
      slotVal t (rd s O.key_select) O.key_cipher = keyStaged s O.key_cipher ∧ slotVal t (rd s O.key_select) O.key_tx_pn = 1) ∧
  (∀ s : State, Reaches s O.key_cmd → slotState s (rd s O.key_select) ≠ 0 →
    Completes .keyInstall s fun t => t.status = .busy ∧ t.lock = { s.lock with keyValue := [] } ∧ t.regs = s.regs) ∧
  (∀ s : State, Reaches s O.key_cmd → slotState s (rd s O.key_select) ≠ 0 →
    Completes .keyClear s fun t => t.status = .ok ∧ slotState t (rd s O.key_select) = 0 ∧ t.lock.slots.look (rd s O.key_select) = none) ∧
  (∀ s : State, Reaches s O.key_cmd → slotState s (rd s O.key_select) = 1 → (slotsInUse s).contains (rd s O.key_select) = true →
    Completes .setTx s fun t => t.status = .ok ∧ slotVal t (rd s O.key_select) O.key_use = 1 ∧
      ∀ j ∈ slotsInUse s, j ≠ rd s O.key_select → slotVal s j O.key_owner_kind = slotVal s (rd s O.key_select) O.key_owner_kind →
        slotVal s j O.key_owner = slotVal s (rd s O.key_select) O.key_owner →
        keyKind (slotVal s j O.key_owner_kind) (slotVal s j O.key_id) =
          keyKind (slotVal s j O.key_owner_kind) (slotVal s (rd s O.key_select) O.key_id) → slotVal t j O.key_use = 0) ∧
  (∀ (s : State) (m : Nat) (l : List Nat) (x : Arrived), hubOn s = true → s.lock.input = m :: l → s.mac.arrived.look m = some x →
    x.mpdu.isProtected = true → x.mpdu.extIv = true → x.mpdu.header = 1 ∨ x.mpdu.header = 2 → rxSlot s 0 (x.station.getD 0) x.mpdu.keyId = none →
    waitingFor s m = [] →
    Completes .mpduDecrypt s fun t => t.lock.input = l ∧ Counted64 s t O.rx_no_key ∧ t.mac.arrived.look m = none) ∧
  (∀ (s : State) (m k : Nat) (l : List Nat) (x : Arrived), hubOn s = true → s.lock.input = m :: l → s.mac.arrived.look m = some x →
    x.mpdu.isProtected = true → x.mpdu.extIv = true → rxSlot s 0 (x.station.getD 0) x.mpdu.keyId = some k → s.mac.coldBss = [] →
    headerOf (slotVal s k O.key_cipher) = x.mpdu.header → x.mpdu.header = 1 ∨ x.mpdu.header = 2 → replayC s k (replayCounter x.mpdu) < x.mpdu.pn →
    s.lock.flight = [] →
    Completes .mpduDecrypt s fun t => t.lock.input = l ∧
      t.lock.flight = [{ id := m, slot := k, counter := replayCounter x.mpdu, pn := x.mpdu.pn, macsec := false, len := x.mpdu.length, refused := false }]) ∧
  (∀ (s : State) (m : Nat) (f : InFlight) (x : Arrived), hubOn s = true → s.lock.flight = [f] → f.id = m → f.macsec = false → s.lock.waiting = [] →
    s.lock.slots.has f.slot = true → s.mac.arrived.look m = some x → presents s m x = false → macHandles x.mpdu.kind = false → roleMode s ≠ 8 →
    Completes (.tagVerdict m .pass) s fun t => t.lock.flight = [] ∧ Counted64 s t O.rx_ok ∧ replayC t f.slot f.counter = max (replayC s f.slot f.counter) f.pn ∧
      t.mac.arrived.look m = none) ∧
  (∀ (s : State) (m : Nat) (f : InFlight) (x : Arrived), hubOn s = true → s.lock.flight = [f] → f.id = m → f.macsec = false → s.lock.waiting = [] →
    s.mac.arrived.look m = some x → presents s m x = false →
    Completes (.tagVerdict m .fail) s fun t => t.lock.flight = [] ∧ Counted64 s t O.mic_fail ∧ rd t O.rx_ok = rd s O.rx_ok ∧ t.lock.slots = s.lock.slots ∧
      t.mac.arrived.look m = none) ∧
  (∀ (s : State) (m : Nat) (f : InFlight) (x : Arrived), hubOn s = true → s.lock.flight = [f] → f.id = m → f.macsec = false → s.lock.waiting = [] →
    s.mac.arrived.look m = some x → presents s m x = false →
    Completes (.verdictTimeout m) s fun t => t.lock.flight = [] ∧ Counted s t O.gate_faults ∧ Raised s t 0x46 (gateHid s)) ∧
  (∀ (s : State) (k x : Octets), Reaches s O.sa_cmd → assoc s (saNamed s) = none → s.lock.saKey = some k → s.lock.saSalt = some x →
    Completes .saInstall s fun t => t.status = .ok ∧ (assoc t (saNamed s)).map (fun a => (a.key, a.salt, a.state, a.pn)) = some (k, x, 1, rd s O.sa_pn) ∧
      t.lock.saKey = none ∧ t.lock.saSalt = none) ∧
  (∀ (s : State) (a : SecAssoc), Reaches s O.sa_cmd → assoc s (saNamed s) = some a →
    Completes .saClear s fun t => t.status = .ok ∧ assoc t (saNamed s) = none)

/-- The parse graph and the rule store (R250, R258, R260, R261, R273, R276 to R283). A walk issues a token; CHECK gives the staged graph's verdict; DEFAULT stages the default
graph; the copy brings the shadow up to the graph in force; a write to the log stages the row; COMMIT puts the log in force under the next
version, DISCARD empties it; a lookup gives the token its action; the drain limit forces the tokens of the old version and is reported; the catch-up ends in
IDLE; an error found in the store is counted, and one that cannot be corrected is reported and its row is skipped. -/
def Obligations.GraphAndRulesComplete : Prop :=
  (∀ (s : State) (f : Frame) (l : List Frame), hubOn s = true → s.entering = f :: l → s.carter.tokens.length < 16384 →
    (walkToken { s with entering := l } f (walkOf { s with entering := l } f none)).fate = none →
    s.carter.tokens.all (fun x => decide (x.id ≠ s.carter.next)) = true →
    Completes (.parseWalk none) s fun t => t.entering = l ∧ Counted64 s t O.tokens_issued ∧
      t.carter.tokens = s.carter.tokens ++ [walkToken { s with entering := l } f (walkOf { s with entering := l } f none)]) ∧
  (∀ s : State, Reaches s O.graph_check_cmd →
    Completes .graphCheck s fun t => rd t O.graph_status = (Sys2Proof.Machine.graphCheck s.graph.shadow (stagedStart s)).1 ∧
      rd t O.graph_bad_index = (Sys2Proof.Machine.graphCheck s.graph.shadow (stagedStart s)).2 ∧
      t.status = (if (Sys2Proof.Machine.graphCheck s.graph.shadow (stagedStart s)).1 = 0 then .ok else .range)) ∧
  (∀ s : State, Reaches s O.graph_default_cmd → s.graph.copying = false →
    Completes .graphDefault s fun t => t.status = .ok ∧ t.graph = { s.graph with shadow := [] }) ∧
  (∀ s : State, hubOn s = true → s.graph.copying = true →
    Completes .shadowCopyDone s fun t => t.graph.shadow = s.graph.active ∧ t.graph.copying = false ∧ t.graph.active = s.graph.active) ∧
  (∀ (s : State) (b : Bool), Reaches s O.rule_valid → wideBlock (stagedWidth s) (rd s O.rule_select) = false →
    logUsed (setRules s { s.rules with logRows := s.rules.logRows.put (rd s O.rule_select) { rowStaged s (rd s O.rule_select) with valid := b } }) ≤ 1024 →
    Completes (.ruleStageWrite (.valid b)) s fun t => t.status = .ok ∧ t.rules.current = s.rules.current ∧
      t.rules.logRows.look (rd s O.rule_select) = some { rowStaged s (rd s O.rule_select) with valid := b }) ∧
  (∀ (s : State) (a : Nat), Reaches s O.rule_action → wideBlock (stagedWidth s) (rd s O.rule_select) = false → actionWord s a = .ok →
    logUsed (setRules s { s.rules with logRows := s.rules.logRows.put (rd s O.rule_select) { rowStaged s (rd s O.rule_select) with action := a } }) ≤ 1024 →
    Completes (.ruleStageWrite (.action a)) s fun t => t.status = .ok ∧ t.rules.current = s.rules.current ∧
      t.rules.logRows.look (rd s O.rule_select) = some { rowStaged s (rd s O.rule_select) with action := a }) ∧
  (∀ s : State, Reaches s O.rule_cmd → logEmpty s.rules = false → rd s O.rule_state = 0 →
    Completes (.ruleCommit false) s fun t => t.status = .ok ∧ rd t O.rule_version = (rd s O.rule_version + 1) % 16 ∧
      t.rules.current = nextBank s.rules ∧ t.rules.logRows = [] ∧ t.rules.logWidth = none ∧ t.rules.logMiss = none ∧ rd t O.rule_log_used = 0 ∧
      Counted s t O.commits) ∧
  (∀ s : State, Reaches s O.rule_cmd →
    Completes .ruleDiscard s fun t => t.status = .ok ∧ rd t O.rule_log_used = 0 ∧
      t.rules = { s.rules with logRows := [], logWidth := none, logMiss := none }) ∧
  (∀ (s : State) (k : Token) (row a : Nat), hubOn s = true → s.carter.tokens = [k] → k.toLook = true → k.verdict = false →
    lookupBank s (bankOf s k.version) k.key = .hit row a → bits a 31 30 = 0 ∨ bits a 29 27 ≠ 0 →
    Completes .ruleLookup s fun t => t.carter.tokens.map (fun x => (x.id, x.row, x.action, x.toLook, x.fate.isSome)) = [(k.id, some row, a, false, true)]) ∧
  (∀ s : State, hubOn s = true → rd s O.rule_state = 1 → s.carter.tokens.all (fun k => !k.verdict) = true →
    Completes .drainLimitExpire s fun t => rd t O.rule_state = 2 ∧ Raised s t 0x53 (versionUnitHid s) ∧
      t.carter.tokens.all (fun k => !(k.holds && decide (k.version = rd s O.rule_old_version))) = true) ∧
  (∀ s : State, hubOn s = true → rd s O.rule_state = 2 →
    Completes .catchUpDone s fun t => rd t O.rule_state = 0 ∧ t.rules = { s.rules with other := { s.rules.current with faulty := [] } }) ∧
  (∀ (s : State) (e : RowError), hubOn s = true → e.correctable = true →
    Completes (.ruleScrub [e]) s fun t => Counted s t O.ecc_corrected ∧ t.rules = s.rules ∧ t.tinker = s.tinker) ∧
  (∀ (s : State) (e : RowError), hubOn s = true → e.correctable = false → e.current = true → e.storeBad = true →
    Completes (.ruleScrub [e]) s fun t => Counted s t O.ecc_uncorrected ∧ Raised s t 0x52 (ruleBankHid s) ∧ e.row ∈ t.rules.current.faulty ∧
      t.rules.current.rows = s.rules.current.rows)

/-! ### The switch -/

/-- Ports, frames, flows, routes and the forwarding database (R288, R289, R292, R295, R296, R301, R304, R305, R311). A port comes up and goes down, which is reported; a frame with
a bad FCS, one too long and one in SAFE or a mode that takes none are counted, and one that passes enters; a Varlan frame enters; a record that
arrives decides its token; a route is added, changed, removed and found by the longest prefix; a record is deleted, all are flushed, and those idle too long are freed and
counted; an entry too old leaves the database; an announcement goes out on the next port. -/
def Obligations.SwitchComplete : Prop :=
  (∀ (s : State) (p : Fin 8) (f : UplinkFrame), hubOn s = true → portUp s p = true → packageMode s ≠ 4 → f.fcsOk = false →
    Completes (.uplinkFrameRx p f) s fun t => Counted64 s t (O.port_rx_fcs_err p) ∧ t.entering = s.entering) ∧
  (∀ (s : State) (p : Fin 8) (f : UplinkFrame), hubOn s = true → portUp s p = true → packageMode s ≠ 4 → f.fcsOk = true →
    rd s (O.port_mtu p) < f.bytes.length →
    Completes (.uplinkFrameRx p f) s fun t => Counted64 s t (O.port_rx_oversize p) ∧ t.entering = s.entering) ∧
  (∀ (s : State) (p : Fin 8) (f : UplinkFrame), hubOn s = true → portUp s p = true → packageMode s = 4 →
    Completes (.uplinkFrameRx p f) s fun t => Counted64 s t (O.rx_accept_drop p) ∧ t.entering = s.entering) ∧
  (∀ (s : State) (p : Fin 8) (f : UplinkFrame), hubOn s = true → portUp s p = true → packageMode s ≠ 4 → f.fcsOk = true →
    f.bytes.length ≤ rd s (O.port_mtu p) → msRuns s p = false → portAccepts s p f.bytes = true →
    placeCells s (cellsFor f.bytes.length) (reservedBytes s f.bytes (tagPrio f.bytes)) ≠ none →
    Completes (.uplinkFrameRx p f) s fun t =>
      t.entering.map (fun x => (x.bytes, x.source)) = s.entering.map (fun x => (x.bytes, x.source)) ++ [(f.bytes, (p : Nat))]) ∧
  (∀ (s : State) (b : Octets), hubOn s = true → lanesUp s ≠ 0 → packageMode s ≠ 4 → placeCells s (cellsFor b.length) (reservedBytes s b (tagPrio b)) ≠ none →
    Completes (.varlanFrameRx true b) s fun t =>
      t.entering.map (fun x => (x.bytes, x.source)) = s.entering.map (fun x => (x.bytes, x.source)) ++ [(b, 0x2000)]) ∧
  (∀ (s : State) (p : Fin 8), hubOn s = true → p < portCount s → flag s (O.port_enable p) = true →
    Completes (.portUp p) s fun t => rd t (O.port_state p) = 2) ∧
  (∀ (s : State) (p : Fin 8) (n : Nat), hubOn s = true → p < portCount s → rd s (O.port_state p) = 2 →
    Completes (.portDown p n) s fun t => rd t (O.port_state p) = 0 ∧ Counted s t (O.link_downs p) ∧ Raised s t 0x56 (portMacHid s p)) ∧
  (∀ (s : State) (b : Nat) (k : Token), hubOn s = true → s.switch.slots.contains b = true → s.carter.tokens = [k] → k.bucket = some b → k.verdict = false →
    Completes (.flowBucketArrival b []) s fun t => t.switch.slots.contains b = false ∧
      t.carter.tokens.map (fun x => (x.id, x.bucket, x.fate.isSome)) = [(k.id, none, true)]) ∧
  (∀ s : State, Reaches s O.rt_cmd → rtTyped s = true → rd s O.rt_len ≤ (if rtV6 s then 128 else 32) →
    zeroBeyond (rd s O.rt_len) (rdB s O.rt_prefix) = true → rd s (winKey (rd s O.rt_nexthop) O.nh_kind) ≠ 0 →
    (routesOf s (rtV6 s)).any (isRoute s) = false → (routesOf s (rtV6 s)).length < (if rtV6 s then 32768 else 131072) →
    Completes .routeAdd s fun t => t.status = .ok ∧ routesOf t (rtV6 s) = routesOf s (rtV6 s) ++
      [{ vrf := rd s O.rt_vrf, prefixBytes := rdB s O.rt_prefix, len := rd s O.rt_len, nexthop := rd s O.rt_nexthop }]) ∧
  (∀ s : State, Reaches s O.rt_cmd → rtTyped s = true → (routesOf s (rtV6 s)).any (isRoute s) = true →
    Completes .routeDelete s fun t => t.status = .ok ∧ routesOf t (rtV6 s) = (routesOf s (rtV6 s)).filter (fun r => !(isRoute s r)) ∧
      routesOf t (!(rtV6 s)) = routesOf s (!(rtV6 s))) ∧
  (∀ (s : State) (r : Route), Reaches s O.rt_cmd → rtTyped s = true →
    longest (routesOf s (rtV6 s)) (rd s O.rt_vrf) (rdB s O.rt_prefix) = some r →
    Completes .routeLookup s fun t => t.status = .ok ∧ rd t O.rt_found = 1 ∧ rd t O.rt_len = r.len ∧ rd t O.rt_nexthop = r.nexthop) ∧
  (∀ s : State, Reaches s O.flow_cmd → s.switch.flows.has (rd s O.flow_select) = true →
    Completes .flowDelete s fun t => t.status = .ok ∧ t.switch.flows.look (rd s O.flow_select) = none ∧ rd t O.flows_in_use = t.switch.flows.length) ∧
  (∀ s : State, Reaches s O.flow_cmd → s.switch.flushed = none →
    Completes .flowFlush s fun t => t.status = .deferred ∧ rd t O.flow_flush_active = 1 ∧ t.switch.flushed = some s.now ∧
      t.switch.flows.all (fun e => !e.2.young) = true) ∧
  (∀ s : State, hubOn s = true → s.switch.flushed.isSome = true →
    Completes .flowFlushDone s fun t => t.switch.flushed = none ∧ rd t O.flow_flush_active = 0 ∧ t.switch.flows.all (fun e => e.2.young) = true) ∧
  (∀ s : State, hubOn s = true → s.switch.flows.any (fun e => idleOut s e.2) = true →
    Completes .ageScan s fun t => t.switch.flows.all (fun e => !(idleOut s e.2)) = true ∧
      rd t O.aged_out = min (rd s O.aged_out + (s.switch.flows.filter (fun e => idleOut s e.2)).length) 0xFFFFFFFFFFFFFFFF) ∧
  (∀ s : State, hubOn s = true →
    Completes .fdbAgeExpire s fun t => t.switch.fdb = s.switch.fdb.filter (fun e => s.now < e.seen + rd s O.fdb_age * 1000000000) ∧
      rd t O.fdb_in_use = t.switch.fdb.length) ∧
  (∀ (s : State) (v p : Nat) (a : Octets) (l : List (Nat × Octets × Nat)), hubOn s = true → nextAnnounce s s.switch.announce = (some (v, a, p), l) →
    placeCells s (cellsFor (rarpFrame a).length) false ≠ none →
    Completes .announceFrame s fun t => t.switch.announce = l ∧ Counted s t O.announce_sent)

/-! ### The Miller, the Carter and the DRAM -/

/-- Buffers, queues and tasks (R316 to R319, R322, R328, R331, R345, R347, R349, R350). A frame spills to the overflow and comes back with its cells; an overflow that is gone is
reported once; a queue's old frames are dropped and counted; a frame leaves a port, or is dropped for its cell; the audit gives unowned cells back;
a task enters service and leaves it, and its copies may then go; one whose slot erred is cancelled; a token too old is cancelled and reported; the ring refills the
ready queue; the tracker's rewrite lets tokens go again. -/
def Obligations.MillerAndCarterComplete : Prop :=
  (∀ (s : State) (b : Nat) (l : List Nat) (x : Buf), hubOn s = true → overflowUp s = true → rd s O.cells_free < rd s O.spill_on + 8192 →
    spillOrder s = b :: l → bufOf s b = some x → x.onDie ≤ overflowFree s →
    Completes .spill s fun t => bufOf t b = some { x with onDie := 0, spilled := x.spilled + x.onDie } ∧
      rd t O.cells_free = rd s O.cells_free + x.onDie ∧ rd t O.overflow_used = rd s O.overflow_used + x.onDie ∧ Counted64 s t O.spills) ∧
  (∀ (s : State) (b : Nat) (l : List Nat) (x : Buf), hubOn s = true → overflowUp s = true → fetchOrder s = b :: l → bufOf s b = some x →
    x.bad = false → x.spilled ≤ rd s O.cells_free →
    Completes .fetch s fun t => bufOf t b = some { x with onDie := x.onDie + x.spilled, spilled := 0 } ∧
      rd t O.cells_free = rd s O.cells_free - x.spilled ∧ rd t O.overflow_used = rd s O.overflow_used - x.spilled ∧ Counted64 s t O.fetches) ∧
  (∀ s : State, hubOn s = true → bit (rd s O.region_status) 2 = false → s.miller.noOverflow = false →
    Completes .overflowUnavailable s fun t => t.miller.noOverflow = true ∧ Raised s t 0x5A (spillHid s)) ∧
  (∀ (s : State) (a : Nat) (q : AirQueue), hubOn s = true → s.miller.air = [(a, q)] →
    Completes .airAgeSweep s fun t => (airQ t a).frames = q.frames.filter (fun f => !(aged s a f)) ∧
      (airQ t a).drops = q.drops + (q.frames.filter (aged s a)).length ∧
      (q.frames.any (aged s a) = true →
        rd t O.aged_drops = min (rd s O.aged_drops + (q.frames.filter (aged s a)).length) 0xFFFFFFFFFFFFFFFF)) ∧
  (∀ (s u : State) (p : Fin 8) (w : Nat) (f : OutFrame) (l : List OutFrame), hubOn s = true → portUp s p = true → pickWired s p = (some w, u) →
    (wiredQ u w).frames = f :: l → msRuns u p = false → bufOf u f.buf = none →
    Completes (.wiredDequeue p .none) s fun t => (wiredQ t w).frames = l ∧ Counted64 u t (O.tx_frames p) ∧
      t.out = u.out ++ [.uplink p (tbNs u) (tcCorrect u f).1]) ∧
  (∀ (s u : State) (p : Fin 8) (w : Nat) (f : OutFrame) (l : List OutFrame), hubOn s = true → portUp s p = true → pickWired s p = (some w, u) →
    (wiredQ u w).frames = f :: l →
    Completes (.wiredDequeue p .cell) s fun t => (wiredQ t w).frames = l ∧ Counted u t O.cell_ecc_drop ∧ Raised u t 0x59 (cellMemoryHid s)) ∧
  (∀ s : State, hubOn s = true →
    Completes .auditReclaim s fun t => t.miller.unowned = 0 ∧ rd t O.cells_free = rd s O.cells_free + s.miller.unowned ∧
      rd t O.audit_reclaimed = min (rd s O.audit_reclaimed + s.miller.unowned) 0xFFFFFFFF) ∧
  (∀ (s u : State) (k : Task), hubOn s = true → s.carter.service.length < 32 → takeTask s = (some k, u) → k.leg = none →
    k.token.fate = some (.forced false) →
    Completes (.taskDispatch .none) s fun t => t.carter.service = s.carter.service ++ [k] ∧ Counted64 u t O.tasks_dispatched) ∧
  (∀ (s u : State) (k : Task), hubOn s = true → s.carter.service.length < 32 → takeTask s = (some k, u) →
    Completes (.taskDispatch .slot) s fun t => t.carter.service = s.carter.service ∧ Counted u t O.ecc_cancels ∧ Raised u t 0x5C (readyHid s)) ∧
  (∀ (s : State) (i : Nat) (k : Task), hubOn s = true → s.carter.service[i]? = some k → k.leg = none →
    Completes (.taskLeaveService i) s fun t => t.carter.service = s.carter.service.eraseIdx i ∧
      t.carter.normal.all (fun e => !(e.blocked && decide (e.token.id = k.token.id))) = true ∧
      t.carter.urgent.all (fun e => !(e.blocked && decide (e.token.id = k.token.id))) = true) ∧
  (∀ (s : State) (i : Nat), hubOn s = true → tokenFound s i = true →
    Completes (.taskAgeTimeout i) s fun t => tokenFound t i = false ∧ Counted s t O.task_timeouts ∧ Raised s t 0x5E (trackerHid s)) ∧
  (∀ s : State, hubOn s = true → bit (rd s O.region_status) 1 = true →
    Completes (.ringRefill true) s fun t => t.carter.urgent = s.carter.urgent ++ s.carter.ringUrgent.take (32768 - readyUsed s) ∧
      t.carter.ringUrgent = s.carter.ringUrgent.drop (32768 - readyUsed s) ∧ t.carter.normal = s.carter.normal) ∧
  (∀ s : State, hubOn s = true → bit (rd s O.region_status) 1 = true →
    Completes (.ringRefill false) s fun t => t.carter.normal = s.carter.normal ++ s.carter.ringNormal.take (32768 - readyUsed s) ∧
      t.carter.ringNormal = s.carter.ringNormal.drop (32768 - readyUsed s) ∧ t.carter.urgent = s.carter.urgent) ∧
  (∀ s : State, hubOn s = true → s.carter.tokens.all (fun k => !(k.verdict && k.fate.isSome)) = true →
    Completes .trackerRewriteDone s fun t => t.carter = { s.carter with quiesced := false })

/-- The DRAM (R357 to R368). Training ends with every channel trained, or with one that failed three times; initialisation and retraining end in READY with the regions
open; a refresh falls due, and an urgent one goes first; else the first request in order is served; the rate and the WCK follow their
readings; the patrol goes on, corrects, and records what it cannot correct; disabled regions are enabled again. -/
def Obligations.DramComplete : Prop :=
  (∀ s : State, hubOn s = true → rd s O.dram_state = 1 → (List.range 8).all (fun ch => decide (s.dram.attempts.getD ch 0 ≠ 3)) = true →
    Completes (.dramTrainDone []) s fun t => rd t O.dram_state = 2 ∧ t.tinker = s.tinker) ∧
  (∀ (s : State) (ch : Nat), hubOn s = true → rd s O.dram_state = 1 → inTraining s = [ch] → ch < 8 → s.dram.attempts.getD ch 0 = 2 →
    Completes (.dramTrainDone [ch]) s fun t => rd t O.dram_state = 6 ∧ rd t (O.ch_train_result ch) = Status.code .timeout ∧ Raised s t 0x62 (trainHid s)) ∧
  (∀ s : State, hubOn s = true → rd s O.dram_state = 2 →
    Completes .dramInitDone s fun t => rd t O.dram_state = 3 ∧ rd t O.region_status = 15 ∧ t.dram.disabled = []) ∧
  (∀ s : State, hubOn s = true → rd s O.dram_state = 5 →
    Completes (.retrainEnd []) s fun t => rd t O.dram_state = 3 ∧ rd t O.region_status = s.steward.regions ∧ Counted s t O.retrains ∧
      rd t O.last_retrain = now80 s ∧ t.tinker = s.tinker) ∧
  (∀ (s : State) (ch : Fin 8), hubOn s = true → rd s O.dram_state = 5 →
    Completes (.retrainEnd [(ch : Nat)]) s fun t => rd t O.dram_state = 3 ∧ Counted s t O.retrain_fail ∧ Raised s t 0x62 (trainHid s)) ∧
  (∀ (s : State) (ch : Fin 8) (b : Fin 16), hubOn s = true → rd s O.dram_state = 3 →
    Completes (.refreshDue ch b) s fun t => (channel t ch).owed.getD b 0 = (channel s ch).owed.getD b 0 + 1 ∧
      rd t (O.ch_postponed_max ch) = max (rd s (O.ch_postponed_max ch)) (min 8 ((channel s ch).owed.getD b 0 + 1))) ∧
  (∀ (s : State) (ch : Fin 8), hubOn s = true → rd s O.dram_state = 3 → owing (channel s ch) 8 ≠ [] →
    Completes (.channelCommand ch) s fun t => ∃ b ∈ owing (channel s ch) 8, t.out = s.out ++ [.dram ch b 0 0] ∧
      (channel t ch).owed.getD b 0 = (channel s ch).owed.getD b 0 - 1 ∧ (channel t ch).openRow.look b = none) ∧
  (∀ (s : State) (ch : Fin 8) (q : DramReq), hubOn s = true → rd s O.dram_state = 3 → owing (channel s ch) 8 = [] →
    urgentReq s (channel s ch) = some q →
    Completes (.channelCommand ch) s fun t => t.out = s.out ++ [.dram ch q.bank q.row (if q.write then 2 else 1)] ∧
      (channel t ch).openRow.look q.bank = some q.row) ∧
  (∀ (s : State) (l : List Nat) (c : List Int), hubOn s = true → rd s O.dram_state = 3 →
    Completes (.mr4Read l c) s fun t => ∀ ch : Fin 8, l.getD ch 0 = 1 ∨ l.getD ch 0 = 2 ∨ l.getD ch 0 = 4 →
      rd t (O.ch_rate_factor ch) = l.getD ch 0 ∧ rd t (O.ch_temp ch) = ofSigned 32 (c.getD ch 0)) ∧
  (∀ (s : State) (ch : Fin 8) (x : Int), hubOn s = true → rd s O.dram_state = 3 → 7 ≤ packageMode s →
    Completes (.wckTracking ch x) s fun t => rd t (O.ch_wck_trim ch) = ofSigned 32 x ∧ Counted s t (O.ch_tracks ch)) ∧
  (∀ s : State, hubOn s = true → rd s O.dram_state = 3 →
    Completes (.patrolScrub .clean) s fun t => t.dram.patrol = (if s.dram.patrol + 8 < dramBytes then s.dram.patrol + 8 else 0) ∧ t.tinker = s.tinker) ∧
  (∀ s : State, hubOn s = true → rd s O.dram_state = 3 →
    Completes (.patrolScrub .corrected) s fun t => Counted64 s t (O.ch_ecc_corrected (blockChannel (s.dram.patrol / 256))) ∧ t.tinker = s.tinker) ∧
  (∀ s : State, hubOn s = true → rd s O.dram_state = 3 → dramRegion s.dram.patrol = 2 →
    Completes (.patrolScrub .uncorrectable) s fun t => rd t O.err_addr = s.dram.patrol ∧ rd t O.err_region = 2 ∧
      Counted s t (O.ch_ecc_uncorrected (blockChannel (s.dram.patrol / 256)))) ∧
  (∀ s : State, Reaches s O.region_cmd → rd s O.dram_state = 5 →
    Completes .regionEnable s fun t => t.status = .busy ∧ t.dram = s.dram) ∧
  (∀ s : State, Reaches s O.region_cmd → rd s O.dram_state ≠ 5 →
    Completes .regionEnable s fun t => t.status = (if s.dram.disabled = [] then .ok else .deferred) ∧
      (s.dram.disabled ≠ [] → t.dram.enabling = true)) ∧
  (∀ s : State, hubOn s = true → s.dram.enabling = true →
    Completes .regionEnableDone s fun t => t.dram.enabling = false ∧ t.dram.disabled = [] ∧
      rd t O.region_status = (s.dram.disabled.filterMap rowBit).foldl setBit (rd s O.region_status))

/-! ### The time base -/

/-- The time base and its sources (R394 to R413). SET and ADJUST step it, which is counted and reported; SLEW leaves it and adds to what is left to slew; a new source starts again in FREE;
PTP messages are counted, answered and sent with the time base's stamp, and a port that hears no master forgets it; a PPS edge is stamped, a wrong one
reported, a missing one is HOLDOVER; PPS_OUT rises; SyncE is lost, reported, and locked; the backup rate is measured; a timer is armed, disarmed, fires and captures, and
a read takes the oldest capture. -/
def Obligations.TimeBaseComplete : Prop :=
  (∀ s : State, Reaches s O.tb_cmd → tbCmdCheck s false = none →
    Completes .tbSet s fun t => t.status = .ok ∧ t.tb = nsOf80 (rd s O.tb_set) * 65536 ∧ Counted s t O.tb_steps ∧ Raised s t 0x6D (servoHid s)) ∧
  (∀ s : State, Reaches s O.tb_cmd → tbCmdCheck s false = none →
    Completes .tbAdjust s fun t => t.status = .ok ∧ t.tb = ((s.tb : Int) + rdI s O.tb_adjust * 65536).toNat ∧ Counted s t O.tb_steps ∧
      Raised s t 0x6D (servoHid s)) ∧
  (∀ s : State, Reaches s O.tb_cmd → tbCmdCheck s true = none →
    Completes .tbSlew s fun t => t.status = .ok ∧ t.tb = s.tb ∧ t.time.slewLeft = s.time.slewLeft + rdI s O.tb_adjust * 65536000000000000) ∧
  (∀ (s : State) (v : Fin 3), Reaches s O.tb_source →
    Completes (.tbSourceWrite v) s fun t => t.status = .ok ∧ rd t O.tb_source = v ∧ rd t O.tb_state = (if rd s O.tb_state = 0 then 0 else 1)) ∧
  (∀ (s : State) (p : Fin 8) (m : PtpMsg), hubOn s = true → m.wellFormed = false →
    Completes (.ptpMessageRx p m) s fun t => Counted64 s t (O.pp_discard p) ∧ t.time = s.time) ∧
  (∀ (s : State) (p : Fin 8) (m : PtpMsg), hubOn s = true → m.wellFormed = true → ptpRuns s p = true →
    m.domain = (if rd s O.ptp_mode = 3 then 0 else rd s O.ptp_domain) → m.kind = .pdelayReq →
    Completes (.ptpMessageRx p m) s fun t => Counted64 s t (O.pp_rx_event p) ∧ Counted64 s t (O.pp_tx_event p) ∧
      t.out = s.out ++ [.ptp p .pdelayResp m.stamp]) ∧
  (∀ (s : State) (p : Fin 8) (m : PtpMsg), hubOn s = true → m.wellFormed = true → ptpRuns s p = true →
    m.domain = (if rd s O.ptp_mode = 3 then 0 else rd s O.ptp_domain) → m.kind = .sync → m.twoStep = true → ptpState s p = 9 →
    Completes (.ptpMessageRx p m) s fun t => Counted64 s t (O.pp_rx_event p) ∧ (ptpPort t p).waitingSync = some m) ∧
  (∀ (s : State) (p : Fin 8), hubOn s = true → ptpRuns s p = true → ptpState s p = 6 →
    Completes (.ptpMessageTx p .sync) s fun t => t.out = s.out ++ [.ptp p .sync s.tb] ∧ Counted64 s t (O.pp_tx_event p)) ∧
  (∀ (s : State) (p : Fin 8), hubOn s = true → ptpRuns s p = true → ptpState s p = 9 → rd s O.ptp_mode = 1 → rd s (O.pp_delay_mech p) ≠ 2 →
    Completes (.ptpMessageTx p .delayReq) s fun t => t.out = s.out ++ [.ptp p .delayReq s.tb] ∧ (ptpPort t p).delayReqAt = some s.tb) ∧
  (∀ (s : State) (p : Fin 8), hubOn s = true → ptpRuns s p = true →
    Completes (.ptpAnnounceTimeout p) s fun t => (ptpPort t p).foreign = [] ∧ (ptpPort t p).waitingSync = none ∧ (ptpPort t p).masterToSlave = none) ∧
  (∀ s : State, hubOn s = true → flag s O.pps_in_enable = true → clkState s 12 = 1 → rd s O.tb_source ≠ 2 →
    Completes .ppsInEdge s fun t => rd t O.pps_in_last = now80 s ∧ rd t O.pps_in_error = ofSigned 32 (wrapSecond (tbNs s % 1000000000)) ∧ t.tb = s.tb) ∧
  (∀ s : State, hubOn s = true → flag s O.pps_in_enable = true → clkState s 12 = 1 → rd s O.tb_source = 2 → roleMode s ≠ 9 → rd s O.tb_state = 3 →
    1000 < (ppsOffset s).natAbs → s.time.ppsRun < 3 →
    Completes .ppsInEdge s fun t => Counted s t O.pps_in_faults ∧ Raised s t 0x6E (ppsHid s) ∧ t.tb = s.tb ∧ rd t O.tb_state = 3) ∧
  (∀ s : State, hubOn s = true → rd s O.tb_source = 2 → roleMode s ≠ 9 → rd s O.tb_state = 2 ∨ rd s O.tb_state = 3 →
    Completes .ppsInTimeout s fun t => rd t O.tb_state = 4 ∧ rd t O.tb_locked_to = 0 ∧ Raised s t 0x6C (servoHid s)) ∧
  (∀ s : State, hubOn s = true → rd s O.pps_out_mode = 2 → 4 ≤ packageMode s → s.time.lastPps = none → bit (rd s O.pad_latched) 1 = false →
    Completes .ppsOutRise s fun t => t.out = s.out ++ [.ppsOut true] ∧ t.time.lastPps = some s.now) ∧
  (∀ s : State, hubOn s = true → rd s O.synce_port ≠ 0xFF → rd s O.synce_state ≠ 2 →
    Completes .synceLost s fun t => rd t O.synce_state = 2 ∧ Raised s t 0x6B (hidOf s 0 10 3 1)) ∧
  (∀ s : State, hubOn s = true → rd s O.synce_port ≠ 0xFF →
    Completes .synceLocked s fun t => rd t O.synce_state = 1 ∧ t.tinker = s.tinker) ∧
  (∀ (s : State) (x : Int), hubOn s = true → clkState s 12 = 1 →
    Completes (.bakRateWindow x) s fun t => rd t O.bak_rate_ppb = ofSigned 32 (clipI (-2147483648) 2147483647 x) ∧
      (flag s O.trim_auto = true → rd s O.tb_state = 3 →
        rd t O.bak_trim = ofSigned 32 (clipI (-30000) 30000 x) ∧ flag t O.trim_pending = true)) ∧
  (∀ (s : State) (k : Fin 32), Reaches s (O.gt_cmd k) →
    Completes (.gtArm k) s fun t => (rd s (O.gt_mode k) = 0 → t.status = .range ∧ rd t (O.gt_state k) = rd s (O.gt_state k)) ∧
      (rd s (O.gt_mode k) = 3 → t.status = .ok ∧ rd t (O.gt_state k) = 3) ∧
      (rd s (O.gt_mode k) = 1 ∨ rd s (O.gt_mode k) = 2 → t.status = .ok ∧ (rd t (O.gt_state k) = 1 ∨ rd t (O.gt_state k) = 2))) ∧
  (∀ (s : State) (k : Fin 32), Reaches s (O.gt_cmd k) →
    Completes (.gtDisarm k) s fun t => t.status = .ok ∧ rd t (O.gt_state k) = 0) ∧
  (∀ (s : State) (k : Fin 32), hubOn s = true → rd s (O.gt_state k) = 1 → 4 ≤ packageMode s →
    Completes (.gtInstant k) s fun t => Counted64 s t (O.gt_fired k) ∧ (gfpTimer t k).k = (gfpTimer s k).k + 1) ∧
  (∀ (s : State) (k : Fin 32), hubOn s = true → rd s (O.gt_state k) = 3 → bit (rd s (O.gt_flags k)) 2 = true → (gfpTimer s k).lastEdge = none →
    4 ≤ packageMode s → bit (rd s O.pad_latched) 0 = false → (gfpTimer s k).captures.length < 64 →
    Completes (.gtCaptureEdge k true) s fun t => (gfpTimer t k).captures = (gfpTimer s k).captures ++ [now80 s] ∧
      rd t (O.gt_cap_level k) = (gfpTimer s k).captures.length + 1) ∧
  (∀ (s : State) (k : Fin 32) (c : Nat) (l : List Nat), hubOn s = true → ledgerServes s = true → objFitted s.fuse.part (O.gt_cap_read k / 256) = true →
    crossing s (O.gt_cap_read k / 256) = .reached → (gfpTimer s k).captures = c :: l →
    Completes (.gtCapRead k) s fun t => t.status = .ok ∧ t.lastRead = leBytes 10 c ∧ (gfpTimer t k).captures = l ∧ rd t (O.gt_cap_level k) = l.length)

/-! ### The Tinker, the Steward and the Surveyor -/

/-- Messages, QUARANTINE and the forced ones (R466, R467, R470 to R474). The oldest message is logged and counted; a quiet time ends QUARANTINE, counted, or latches it where
recoveries come too often, and is reported; ENTER and EXIT do so by command, and EXIT is LOCKED while it is latched; CLEAR_LATCH clears it; a forced
message is taken with the next SEQUENCE of its source. -/
def Obligations.TinkerComplete : Prop :=
  (∀ (s : State) (x : FaultMsg) (l : List FaultMsg), hubOn s = true → s.tinker.queue = x :: l → coalesces s x = none → effectiveReaction s x < 2 →
    s.tinker.fullOwed = false →
    Completes (.faultMessage none) s fun t => t.tinker.queue = l ∧ rd t O.log_written = (rd s O.log_written + 1) % 4294967296 ∧
      (t.tinker.log.look (rd s O.log_written)).map (fun e => e.msg) = some x ∧ Counted64 s t O.msgs_received ∧
      Counted s t (winKey x.kind O.kind_count)) ∧
  (∀ s : State, hubOn s = true → packageMode s = 12 → s.tinker.quiet = true → s.tinker.latched = false → 7 ≤ (recentRecoveries s).length →
    Completes .quietExpire s fun t => t.tinker.latched = true ∧ rd t O.q_state = 2 ∧ packageMode t = 12 ∧ Raised s t 0x0A (quarantineHid s)) ∧
  (∀ s : State, hubOn s = true → packageMode s = 12 → s.tinker.quiet = true → s.tinker.latched = false → (recentRecoveries s).length < 7 →
    twinState s ≠ 1 →
    Completes .quietExpire s fun t => packageMode t = (modeBack s).1 ∧ t.tinker.quiet = false ∧ rd t O.q_state = 0 ∧ Counted s t O.recoveries) ∧
  (∀ s : State, Reaches s O.q_cmd → packageMode s = 7 ∨ packageMode s = 8 ∨ packageMode s = 9 ∨ packageMode s = 11 →
    Completes .qEnter s fun t => t.status = .ok ∧ packageMode t = 12 ∧ t.tinker.quiet = true ∧ rd t O.q_state = 1 ∧ t.tinker.modeLeft = packageMode s ∧
      Counted s t O.q_entries ∧ Counted s t O.q_host_entries) ∧
  (∀ s : State, Reaches s O.q_cmd → packageMode s = 12 → s.tinker.latched = true →
    Completes .qExit s fun t => t.status = .locked ∧ packageMode t = 12 ∧ t.tinker = s.tinker) ∧
  (∀ s : State, Reaches s O.q_cmd → packageMode s = 12 → s.tinker.latched = false → twinState s ≠ 1 →
    Completes .qExit s fun t => t.status = .ok ∧ packageMode t = (modeBack s).1 ∧ rd t O.q_state = 0 ∧ Counted s t O.q_host_exits) ∧
  (∀ s : State, Reaches s O.q_cmd → packageMode s ≠ 12 →
    Completes .clearLatch s fun t => t.status = .ok ∧ t.tinker = { s.tinker with latched := false, history := [] } ∧ packageMode t = packageMode s) ∧
  (∀ s : State, Reaches s O.force_cmd → hidMalformed (rd s O.force_source) = false → hidIsUnit (rd s O.force_source) = true →
    hidOwn s (rd s O.force_source) = true → rd s O.force_source / 4194304 = s.system → hidFitted s (rd s O.force_source) = true →
    sourceListed (rd s O.force_kind) (rd s O.force_source) = true → s.tinker.forceBits.contains (rd s O.force_source) = false →
    s.tinker.queue = [] →
    Completes .force s fun t => t.status = .ok ∧ t.tinker.forceBits = s.tinker.forceBits ++ [rd s O.force_source] ∧
      t.tinker.queue.map (fun x => (x.kind, x.source, x.forced, x.dry, x.sequence)) =
        [(rd s O.force_kind, rd s O.force_source, true, flag s O.force_dry, nextSequence s (rd s O.force_source))])

/-- Maintenance (R205, R479 to R488, R491). A request is answered as its checks say, and one admitted runs or one deferred waits; a refused raise is counted and reported; CANCEL takes a
waiting activity out; an activity ends with its result, at its bound with TIMEOUT, and in the queue at its limit; the peer's answer starts an
alignment or holds it, and none in time puts it back; the timers raise their activities; a day's close empties the means' sums; an alignment too old
is marked; the follower reserves one that fits. -/
def Obligations.MaintenanceComplete : Prop :=
  (∀ s : State, Reaches s O.mreq_cmd →
    Completes (.maintRequest none) s fun t =>
      t.status = (stewardRequest s (rd s O.mreq_activity) (rd s O.mreq_target) (ledgerHid s) 0).1 ∧
      (t.status = .ok → (runningNow t).any (fun e => decide (e.activity = rd s O.mreq_activity ∧ e.target = rd s O.mreq_target)) = true) ∧
      (t.status = .deferred → t.steward.queue.any (fun e => decide (e.activity = rd s O.mreq_activity ∧ e.target = rd s O.mreq_target)) = true)) ∧
  (∀ (s : State) (x : MaintRaise), hubOn s = true → (stewardRequest s x.activity x.target x.requester x.kind).1 = .range →
    Completes (.maintRequest (some x)) s fun t => Counted s t O.maint_refused ∧ Raised s t 0x81 (stewardHid s) ∧ t.steward = s.steward) ∧
  (∀ (s : State) (e : Activity), Reaches s O.mreq_cmd →
    (runningNow s).any (fun o => decide (o.activity = rd s O.mreq_activity ∧ o.target = rd s O.mreq_target)) = false →
    s.steward.queue.find? (fun o => decide (o.activity = rd s O.mreq_activity ∧ o.target = rd s O.mreq_target)) = some e →
    Completes .maintCancel s fun t => t.status = .ok ∧ rd t (O.act_last_result (rd s O.mreq_activity)) = Status.code .denied ∧
      t.steward.queue.any (fun o => decide (o.activity = rd s O.mreq_activity ∧ o.target = rd s O.mreq_target)) = false) ∧
  (∀ (s : State) (e : Activity) (r : ActivityReport), hubOn s = true → s.steward.running = [e] → s.steward.queue = [] → s.steward.waitingPeer = false →
    engineDone s e = true → e.activity ≠ 4 → e.activity ≠ 6 →
    Completes (.activityEnd e.activity e.target r) s fun t => t.steward.running = [] ∧
      rd t (O.act_last_result e.activity) = endResult s e r ∧ rd t (O.act_last_end e.activity) = now80 s) ∧
  (∀ (s : State) (e : Activity), hubOn s = true → s.steward.running = [e] → s.steward.queue = [] → s.steward.waitingPeer = false → e.state = 3 →
    e.activity ≠ 3 →
    Completes (.activityBound e.activity e.target) s fun t => t.steward.running = [] ∧ Counted s t O.maint_timeouts ∧
      rd t (O.act_last_result e.activity) = Status.code .timeout ∧ Raised s t 0x80 (stewardHid s)) ∧
  (∀ (s : State) (i : Fin 32) (e : Activity), hubOn s = true → s.steward.queue[(i : Nat)]? = some e →
    Completes (.queueLimitExpire i) s fun t => t.steward.queue = s.steward.queue.eraseIdx i ∧ Counted s t O.maint_expired ∧
      Raised s t 0x80 (stewardHid s)) ∧
  (∀ (s : State) (v : VHead) (e : Activity), Heard s 1 v → s.steward.inflight = some e →
    Completes (.alignAnswer v true) s fun t => t.steward.inflight = none ∧
      t.steward.running.any (fun o => decide (o.activity = e.activity ∧ o.target = e.target)) = true ∧ Counted s t O.maint_admitted) ∧
  (∀ (s : State) (v : VHead) (e : Activity), Heard s 1 v → s.steward.inflight = some e →
    Completes (.alignAnswer v false) s fun t => t.steward = { s.steward with answeredWait := true }) ∧
  (∀ (s : State) (e : Activity), hubOn s = true → s.steward.inflight = some e → s.steward.answeredWait = false →
    Completes .alignAnswerTimeout s fun t => t.steward.inflight = none ∧ t.steward.queue = s.steward.queue ++ [{ e with state := 1 }] ∧
      Counted s t O.maint_deferred) ∧
  (∀ s : State, hubOn s = true → pairedFitted s.fuse.part = true → roleMode s = 8 → twinState s = 3 →
    (stewardRequest s 4 (hidOf s 3 15 63 255) (hidOf s 0 11 8 0) 0).1 = .ok →
    Completes .alignTimer s fun t => t.steward.inflight.isSome = true ∧ t.steward.answeredWait = false) ∧
  (∀ s : State, hubOn s = true → (stewardRequest s 6 (packageHid s) (hidOf s 0 12 0 0) 0).1 = .ok →
    Completes .surveyTimer s fun t => t.steward.running.any (fun o => decide (o.activity = 6 ∧ o.target = packageHid s)) = true) ∧
  (∀ (s : State) (g : Nat), hubOn s = true → [1, 2, 3, 4, 5, 6, 7, 9, 12].filter (fun g => decide (regionMode s 0 g = 11)) = [g] →
    (stewardRequest s 7 (hidOf s 0 g 63 255) (hidOf s 0 12 0 0) 0).1 = .ok →
    Completes .memSurveyTimer s fun t => t.steward.running.any (fun o => decide (o.activity = 7 ∧ o.target = hidOf s 0 g 63 255)) = true) ∧
  (∀ s : State, hubOn s = true →
    Completes .dailyMean s fun t => t.survey.day = s.survey.day + 1 ∧ ∀ i : Fin 24, (item t i).count = 0) ∧
  (∀ s : State, hubOn s = true → s.twin.alignedAt.isSome = true →
    Completes .alignAgeExpire s fun t => t.twin.alignAged = true ∧ t.twin.alignedAt = s.twin.alignedAt) ∧
  (∀ (s : State) (v : VHead), Heard s 1 v → roleMode s = 9 → alignFits s = true →
    Completes (.alignRequestReceived v) s fun t => t.steward.waitingPeer = false ∧
      t.steward.running.any (fun o => decide (o.activity = 4 ∧ o.target = hidOf s 3 15 63 255)) = true) ∧
  (∀ (s : State) (v : VHead), Heard s 1 v → roleMode s = 9 → alignFits s = false →
    Completes (.alignRequestReceived v) s fun t => t.steward = { s.steward with waitingPeer := true })

/-- Frame of the clocks' and the backup region's events and commands (R30, R39, R373, R379, R422 to R434): each clause names the parts of State and the registers
that its command may change; every other part, and every other register, is as it was. -/
def Obligations.BackupAndClocksFrame : Prop :=
  (Leaves .refAcquired fun s t => t = { s with regs := t.regs } ∧ Only s t [O.ref_state]) ∧
  (Leaves .refRestored fun s t => t = { s with regs := t.regs } ∧ Only s t [O.holdover_time, O.ref_state]) ∧
  (Leaves .refLoss fun s t => t = { s with regs := t.regs, tinker := t.tinker, refSince := t.refSince } ∧
      Only s t [O.ref_losses, O.ref_state, O.msgs_dropped]) ∧
  (∀ (pll : Pll), Leaves (.pllUnlock pll) fun s t => t = { s with regs := t.regs, tinker := t.tinker } ∧
      Only s t ([O.msgs_dropped] ++ ((List.range 18).flatMap fun i => [O.clk_state i, O.clk_rate i, O.clk_lock_losses i]))) ∧
  (∀ (d : Fin 18), Leaves (.domainQuiesceDone d) fun s t => t = { s with regs := t.regs } ∧ Only s t [O.clk_state d, O.clk_rate d]) ∧
  (∀ (n : Nat), Leaves (.crossingStall n) fun s t => t = { s with regs := t.regs, led := t.led, tinker := t.tinker } ∧
      Only s t ([O.stalls, O.last_stall_domain, O.msgs_dropped] ++ s.led.hung.map (fun h => O.clk_stalls h.domain))) ∧
  (∀ (offset : Nat) (size : Nat) (write : Bool), Leaves (.bar0BadAccess offset size write) fun s t => t = { s with
        regs := t.regs, tinker := t.tinker, lastRead := t.lastRead } ∧
      Only s t [O.msgs_dropped]) ∧
  (Leaves .internalRailLow fun s t => t = { s with regs := t.regs } ∧ Only s t [O.bak_supply, O.vbak_switches]) ∧
  (Leaves .internalRailRestored fun s t => t = { s with regs := t.regs } ∧ Only s t [O.bak_supply]) ∧
  (Leaves .xtalStop fun s t => t = { s with regs := t.regs, tinker := t.tinker, power := t.power, watch := t.watch } ∧
      Only s t [O.xtal_stops, O.bak_valid, O.msgs_dropped]) ∧
  (Leaves .xtalResume fun s t => t = { s with watch := t.watch }) ∧
  (∀ (mv : Nat), Leaves (.vbakMeasure mv) fun s t => t = { s with regs := t.regs, tinker := t.tinker, power := t.power } ∧
      Only s t [O.vbak_mv, O.vbak_low, O.msgs_dropped]) ∧
  (∀ (value : Int), Leaves (.bakTrimWrite value) fun s t => t = { s with
        regs := t.regs, status := t.status, out := t.out, led := t.led, twin := t.twin } ∧
      Only s t [O.bak_trim, O.trim_pending]) ∧
  (∀ (sub : Fin 5), Leaves (.backupTimeRead sub) fun s t => t = { s with status := t.status, led := t.led, lastRead := t.lastRead }) ∧
  (∀ (a : Fin 2), Leaves (.alarmArm a) fun s t => t = { s with
        regs := t.regs, status := t.status, out := t.out, led := t.led, tinker := t.tinker, power := t.power, twin := t.twin } ∧
      Only s t [O.al_state a, O.al_fired a, O.al_skipped a, O.pwron_cancels, O.pwron_state, O.msgs_dropped]) ∧
  (∀ (a : Fin 2), Leaves (.alarmDisarm a) fun s t => t = { s with regs := t.regs, status := t.status, out := t.out, led := t.led, twin := t.twin } ∧
      Only s t [O.al_state a]) ∧
  (Leaves .pwronRelease fun s t => t = { s with regs := t.regs, status := t.status, out := t.out, led := t.led, twin := t.twin } ∧
      Only s t [O.pwron_state]) ∧
  (Leaves .pwronCancel fun s t => t = { s with regs := t.regs, status := t.status, out := t.out, led := t.led, twin := t.twin } ∧
      Only s t [O.pwron_cancels, O.pwron_state]) ∧
  (Leaves .pwronDelayExpire fun s t => t = { s with regs := t.regs, out := t.out } ∧ Only s t [O.pwron_state]) ∧
  (∀ (bytes : Octets), Leaves (.scratchWrite bytes) fun s t => t = { s with
        blobs := t.blobs, status := t.status, out := t.out, led := t.led, twin := t.twin } ∧
      OnlyOctets s t [O.scratch]) ∧
  (Leaves .secondBoundary fun s t => t = { s with regs := t.regs, out := t.out, tinker := t.tinker, power := t.power, watch := t.watch } ∧
      Only s t ([O.trim_pending, O.bak_prescaler, O.bak_seconds, O.bak_ticks, O.msgs_dropped, O.pwron_cancels, O.pwron_state] ++ ([0, 1].flatMap fun
      i => [O.al_state i, O.al_fired i, O.al_skipped i]))) ∧
  (∀ (value : Nat), Leaves (.bakSecondsWrite value) fun s t => t = { s with
        regs := t.regs, status := t.status, out := t.out, led := t.led, tinker := t.tinker, power := t.power, twin := t.twin, watch := t.watch } ∧
      Only s t ([O.bak_valid, O.bak_prescaler, O.bak_seconds, O.msgs_dropped, O.pwron_cancels, O.pwron_state] ++ ([0, 1].flatMap fun i => [O.al_state
      i, O.al_fired i, O.al_skipped i]))) ∧
  (Leaves .bakSyncWrite fun s t => t = { s with regs := t.regs, out := t.out, tinker := t.tinker, power := t.power, watch := t.watch } ∧
      Only s t ([O.bak_valid, O.bak_prescaler, O.bak_seconds, O.msgs_dropped, O.pwron_cancels, O.pwron_state] ++ ([0, 1].flatMap fun i => [O.al_state
      i, O.al_fired i, O.al_skipped i])))

/-- Frame of the supply's measurements and of boot's two failures (R33, R437 to R446, R452): each clause names the parts of State and the registers that its command
may change; every other is as it was. -/
def Obligations.PowerFrame : Prop :=
  (Leaves .v12Started fun s t => t = { s with regs := t.regs } ∧ Only s t [O.v12_state]) ∧
  (Leaves .v12StartFail fun s t => t = { s with regs := t.regs, power := t.power } ∧ Only s t [O.v12_faults, O.last_loss_cause, O.v12_state]) ∧
  (∀ (mv : Nat), Leaves (.vinWarn mv) fun s t => t = { s with regs := t.regs, tinker := t.tinker, power := t.power } ∧
      Only s t [O.vin_mv, O.vin_low, O.msgs_dropped]) ∧
  (∀ (mv : Nat), Leaves (.vinLowClear mv) fun s t => t = { s with regs := t.regs } ∧ Only s t [O.vin_low, O.vin_mv]) ∧
  (Leaves .powerFailWarning fun s t => t = { s with regs := t.regs, tinker := t.tinker, power := t.power } ∧
      Only s t [O.pwrfail_events, O.msgs_dropped]) ∧
  (∀ (celsius : Int), Leaves (.converterHot celsius) fun s t => t = { s with regs := t.regs, tinker := t.tinker, power := t.power } ∧
      Only s t [O.conv_temp, O.msgs_dropped]) ∧
  (∀ (ack : Fin 4), Leaves (.avsRequest ack) fun s t => t = { s with
        regs := t.regs, out := t.out, tinker := t.tinker, power := t.power, survey := t.survey } ∧
      Only s t [O.vcore_target, O.avs_nacks, O.avs_state, O.avs_timeouts, O.msgs_dropped]) ∧
  (∀ (ack : Fin 4), Leaves (.avsRetry ack) fun s t => t = { s with
        regs := t.regs, out := t.out, tinker := t.tinker, power := t.power, survey := t.survey } ∧
      Only s t [O.avs_nacks, O.avs_state, O.avs_timeouts, O.msgs_dropped]) ∧
  (∀ (vdone : Bool) (mv : Nat), Leaves (.avsStatusPoll vdone mv) fun s t => t = { s with
        regs := t.regs, out := t.out, tinker := t.tinker, power := t.power, survey := t.survey } ∧
      Only s t [O.avs_timeouts, O.avs_state, O.vcore_mv, O.msgs_dropped]) ∧
  (Leaves .avsSettleTimeout fun s t => t = { s with regs := t.regs, tinker := t.tinker, power := t.power, survey := t.survey } ∧
      Only s t [O.avs_timeouts, O.avs_state, O.msgs_dropped]) ∧
  (∀ (mv : Nat), Leaves (.vcoreFault mv) fun s t => t = { s with regs := t.regs, tinker := t.tinker } ∧
      Only s t [O.vcore_faults, O.vcore_mv, O.msgs_dropped]) ∧
  (∀ (value : BitVec 8), Leaves (.padRelease value) fun s t => t = { s with
        regs := t.regs, status := t.status, out := t.out, led := t.led, power := t.power, twin := t.twin } ∧
      Only s t [O.pad_latched]) ∧
  (∀ (r : Fin 3) (celsius : Int), Leaves (.thermalDerateUpdate r celsius) fun s t => t = { s with regs := t.regs, tinker := t.tinker } ∧
      Only s t [O.die_temp r, O.thermal_derate r, O.msgs_dropped]) ∧
  (∀ (failed : Fin 5) (revision : Nat), Leaves (.imageCheckDone failed revision) fun s t => t = { s with
        regs := t.regs, boot := t.boot, tinker := t.tinker } ∧
      Only s t [O.firmware_rev, O.msgs_dropped]) ∧
  (∀ (failed : List Nat), Leaves (.selfTestDone failed) fun s t => t = { s with regs := t.regs, boot := t.boot, tinker := t.tinker } ∧
      Only s t [O.firmware_rev, O.msgs_dropped])

/-- Frame of the Ledger's transports, saves and claims and of the host's rings (R44, R45, R54 to R63, R475): each clause names the parts of State and the registers that its
command may change; every other is as it was. A command that reaches the Ledger may leave its status, a hung record and a forwarded write. -/
def Obligations.LedgerAndHostFrame : Prop :=
  (∀ (value : BitVec 32), Leaves (.mbDoorbell value) fun s t => t = { s with led := t.led }) ∧
  (∀ (bytes : Octets), Leaves (.spiRequest bytes) fun s t => t = { s with led := t.led }) ∧
  (∀ (clocked : Nat), Leaves (.spiResponseRead clocked) fun s t => t = { s with free := t.free, led := t.led, lastRead := t.lastRead }) ∧
  (∀ (port : Fin 8) (vid : Nat) (srcAddr : Octets) (srcPort : Nat) (bytes : Octets), Leaves (.mgmtDatagram port vid srcAddr srcPort bytes) fun s t =>
  t = { s with
        regs := t.regs, led := t.led } ∧
      Only s t [O.eth_queue_drop]) ∧
  (Leaves .notifySend fun s t => t = { s with out := t.out, led := t.led, tinker := t.tinker }) ∧
  (Leaves .save fun s t => t = { s with regs := t.regs, status := t.status, out := t.out, led := t.led, twin := t.twin } ∧
      Only s t [O.save_busy, O.save_dirty]) ∧
  (Leaves .clearSaved fun s t => t = { s with regs := t.regs, status := t.status, out := t.out, led := t.led, twin := t.twin } ∧
      Only s t [O.save_busy, O.save_dirty]) ∧
  (Leaves .saveComplete fun s t => t = { s with regs := t.regs, led := t.led } ∧
      Only s t [O.save_busy, O.save_result, O.saved_valid, O.save_generation]) ∧
  (Leaves .saveTimeout fun s t => t = { s with regs := t.regs, led := t.led } ∧
      Only s t [O.save_busy, O.save_result, O.saved_valid, O.save_generation]) ∧
  (Leaves .claim fun s t => t = { s with regs := t.regs, status := t.status, out := t.out, claims := t.claims, led := t.led, twin := t.twin } ∧
      Only s t [O.claim_conflicts]) ∧
  (Leaves .release fun s t => t = { s with regs := t.regs, status := t.status, out := t.out, claims := t.claims, led := t.led, twin := t.twin } ∧
      Only s t [O.claim_conflicts]) ∧
  (∀ (q : Fin 64) (value : Nat), Leaves (.tailWrite q value) fun s t => t = { s with hostq := t.hostq }) ∧
  (∀ (q : Fin 64), Leaves (.queueEnable q) fun s t => t = { s with
        regs := t.regs, status := t.status, out := t.out, led := t.led, hostq := t.hostq, twin := t.twin } ∧
      Only s t [O.enable q]) ∧
  (∀ (q : Fin 64), Leaves (.irqTimeExpire q) fun s t => t = { s with out := t.out, hostq := t.hostq }) ∧
  (Leaves .pcieLinkTrained fun s t => t = { s with boot := t.boot }) ∧
  (∀ (wide : Bool), Leaves (.tsSnapshotRead wide) fun s t => t = { s with lastRead := t.lastRead, time := t.time })

/-- Frame of the epoch's short commands and of the radios' sequencer, transmit commands, calibrations and grants (R17, R20, R77 to R107, R120): each clause names the parts of
State and the registers that its command may change; every other is as it was, and where the command acts on one radio so is every other radio. -/
def Obligations.EpochAndRadioFrame : Prop :=
  (Leaves .epochDiscard fun s t => t = { s with
        regs := t.regs, staged := t.staged, stagedBlobs := t.stagedBlobs, status := t.status, out := t.out, led := t.led, twin := t.twin, graph :=
        t.graph } ∧
      Only s t [O.target_mode_a, O.target_mode_b]) ∧
  (Leaves .applyTimeout fun s t => t = { s with regs := t.regs, out := t.out, epoch := t.epoch, twin := t.twin } ∧
      Only s t [O.epoch_phase, O.first_laggard, O.laggard_count]) ∧
  (∀ (hid : Nat), Leaves (.unitRestored hid) fun s t => t = { s with regs := t.regs, out := t.out, epoch := t.epoch, twin := t.twin } ∧
      Only s t [O.epoch_phase, O.epoch_result]) ∧
  (∀ (r : Fin 3), Leaves (.crystalStable r) fun s t => t = { s with regs := t.regs, radios := t.radios } ∧
      Only s t [O.radio_state r] ∧ ∀ q, q ≠ r → radio t q = radio s q) ∧
  (∀ (r : Fin 3), Leaves (.synthLock r) fun s t => t = { s with regs := t.regs, radios := t.radios, txReports := t.txReports } ∧
      Only s t [O.radio_state r, O.synth_locked r, O.tx_sent r, O.tx_muted r, O.tx_reg_blocked r, O.tx_no_grant r, O.tx_duty_limit r, O.tx_busy r,
      O.tx_synth_not_ready r, O.tx_late r] ∧ ∀ q, q ≠ r → radio t q = radio s q) ∧
  (∀ (r : Fin 3), Leaves (.settleTimeout r) fun s t => t = { s with regs := t.regs, out := t.out, tinker := t.tinker, radios := t.radios } ∧
      Only s t [O.radio_state r, O.msgs_dropped] ∧ ∀ q, q ≠ r → radio t q = radio s q) ∧
  (∀ (r : Fin 3), Leaves (.lockLost r) fun s t => t = { s with regs := t.regs, out := t.out, tinker := t.tinker, radios := t.radios } ∧
      Only s t [O.lock_losses r, O.synth_locked r, O.radio_state r, O.msgs_dropped] ∧ ∀ q, q ≠ r → radio t q = radio s q) ∧
  (∀ (r : Fin 3) (c : TxCmd), Leaves (.transmitCommand r c) fun s t => t = { s with regs := t.regs, radios := t.radios, txReports := t.txReports } ∧
      Only s t [O.tx_sent r, O.tx_muted r, O.tx_reg_blocked r, O.tx_no_grant r, O.tx_duty_limit r, O.tx_busy r, O.tx_synth_not_ready r, O.tx_late r]
      ∧ ∀ q, q ≠ r → radio t q = radio s q) ∧
  (∀ (r : Fin 3), Leaves (.commandStart r) fun s t => t = { s with regs := t.regs, out := t.out, radios := t.radios, txReports := t.txReports } ∧
      Only s t [O.power_clamps r, O.tx_held r, O.radio_state r, O.cal_yields r, O.tx_sent r, O.tx_muted r, O.tx_reg_blocked r, O.tx_no_grant r,
      O.tx_duty_limit r, O.tx_busy r, O.tx_synth_not_ready r, O.tx_late r] ∧ ∀ q, q ≠ r → radio t q = radio s q) ∧
  (∀ (r : Fin 3), Leaves (.heldCommandAbort r) fun s t => t = { s with regs := t.regs, radios := t.radios, txReports := t.txReports } ∧
      Only s t [O.tx_sent r, O.tx_muted r, O.tx_reg_blocked r, O.tx_no_grant r, O.tx_duty_limit r, O.tx_busy r, O.tx_synth_not_ready r, O.tx_late r]
      ∧ ∀ q, q ≠ r → radio t q = radio s q) ∧
  (∀ (r : Fin 3) (pdet : List Nat), Leaves (.ppduEnd r pdet) fun s t => t = { s with regs := t.regs, radios := t.radios } ∧
      Only s t ([O.synth_locked r, O.radio_state r] ++ (List.range 16).map (O.chain_power r)) ∧ ∀ q, q ≠ r → radio t q = radio s q) ∧
  (∀ (r : Fin 3) (on : Bool), Leaves (.txMute r on) fun s t => t = { s with
        regs := t.regs, status := t.status, out := t.out, led := t.led, radios := t.radios, twin := t.twin } ∧
      Only s t [O.tx_mute r, O.synth_locked r, O.radio_state r] ∧ ∀ q, q ≠ r → radio t q = radio s q) ∧
  (∀ (r : Fin 3), Leaves (.vfemLow r) fun s t => t = { s with regs := t.regs, tinker := t.tinker, radios := t.radios } ∧
      Only s t ([O.msgs_dropped] ++ (List.range 16).map (O.chain_faults r)) ∧ ∀ q, q ≠ r → radio t q = radio s q) ∧
  (∀ (r : Fin 3), Leaves (.calResume r) fun s t => t = { s with radios := t.radios } ∧ ∀ q, q ≠ r → radio t q = radio s q) ∧
  (∀ (r : Fin 3), Leaves (.calLimitTimeout r) fun s t => t = { s with regs := t.regs, radios := t.radios } ∧
      Only s t [O.cal_result r] ∧ ∀ q, q ≠ r → radio t q = radio s q) ∧
  (∀ (r : Fin 3) (chain : Fin 16) (reading : Nat), Leaves (.pdetOvershoot r chain reading) fun s t => t = { s with
        regs := t.regs, tinker := t.tinker, radios := t.radios } ∧
      Only s t [O.power_overshoots r, O.msgs_dropped] ∧ ∀ q, q ≠ r → radio t q = radio s q) ∧
  (∀ (r : Fin 3) (g : Fin 16), Leaves (.grantInstall r g) fun s t => t = { s with
        regs := t.regs, status := t.status, out := t.out, led := t.led, radios := t.radios, twin := t.twin } ∧
      Only s t [O.grant_state r g] ∧ ∀ q, q ≠ r → radio t q = radio s q) ∧
  (∀ (r : Fin 3) (g : Fin 16), Leaves (.grantRevoke r g) fun s t => t = { s with
        regs := t.regs, status := t.status, out := t.out, led := t.led, tinker := t.tinker, twin := t.twin } ∧
      Only s t [O.grant_state r g, O.grant_lapses r g, O.msgs_dropped]) ∧
  (∀ (r : Fin 3) (g : Fin 16), Leaves (.grantExpiry r g) fun s t => t = { s with regs := t.regs, tinker := t.tinker } ∧
      Only s t [O.grant_state r g, O.grant_lapses r g, O.msgs_dropped])

/-- Frame of the station commands and of the frame's events (R114, R133, R154, R155, R165, R173): each clause names the parts of State and the registers that its command may change; every
other is as it was. -/
def Obligations.AirFrame : Prop :=
  (Leaves .staAdd fun s t => t = { s with
        regs := t.regs, blobs := t.blobs, status := t.status, out := t.out, led := t.led, twin := t.twin, mac := t.mac, miller := t.miller } ∧
      Only s t ([O.sta_in_use, O.mirror_records] ++ (O.sta_state :: O.sta_ps :: staFields ++ staCounters).map (winKey (rd s O.sta_select))) ∧
      OnlyOctets s t (staBlobs.map (winKey (rd s O.sta_select)))) ∧
  (Leaves .staAuthorize fun s t => t = { s with regs := t.regs, status := t.status, out := t.out, led := t.led, twin := t.twin, miller := t.miller } ∧
      Only s t [O.aq_active, O.mirror_records, winKey (rd s O.sta_select) O.sta_state]) ∧
  (Leaves .staDeauthorize fun s t => t = { s with regs := t.regs, status := t.status, out := t.out, led := t.led, twin := t.twin, miller := t.miller } ∧
      Only s t [O.aq_active, O.mirror_records, winKey (rd s O.sta_select) O.sta_state]) ∧
  (Leaves .twtTeardown fun s t => t = { s with regs := t.regs, status := t.status, out := t.out, led := t.led, twin := t.twin, mac := t.mac } ∧
      Only s t [O.twt_in_use, O.mirror_records]) ∧
  (Leaves .syncInEdge fun s t => t = { s with regs := t.regs, tinker := t.tinker, move := t.move } ∧
      Only s t [O.sync_ignored, O.sync_events, O.sync_slews, O.sync_state, O.sync_error, O.msgs_dropped]) ∧
  (Leaves .syncTimeout fun s t => t = { s with regs := t.regs, tinker := t.tinker, move := t.move } ∧ Only s t [O.sync_state, O.msgs_dropped]) ∧
  (∀ (r : Fin 3) (station : Nat), Leaves (.tbPpduMissing r station) fun s t => t = { s with regs := t.regs, ost := t.ost } ∧
      Only s t [O.ul_silent r]) ∧
  (∀ (r : Fin 3), Leaves (.accessDeadline r) fun s t => t = { s with
        regs := t.regs, tinker := t.tinker, mac := t.mac, ost := t.ost, miller := t.miller } ∧
      Only s t [O.beacon_tx_fail r 0, O.beacon_sent r 0, O.ost_skipped r, O.msgs_dropped]) ∧
  (∀ (v : VHead) (station : Nat) (corr : List (Nat × Nat)), Leaves (.followerCsiReceived v station corr) fun s t => t = { s with
        regs := t.regs, boot := t.boot, tinker := t.tinker, twin := t.twin, mac := t.mac } ∧
      Only s t [O.varlan_auth_fail, O.msgs_dropped])

/-- Frame of the pair's link, key, records and timers (R186 to R212): each clause names the parts of State and the registers that its command may change; every other is as it was. -/
def Obligations.PairFrame : Prop :=
  (Leaves .heartbeatSend fun s t => t = { s with out := t.out, twin := t.twin }) ∧
  (Leaves .heartbeatMissed fun s t => t = { s with regs := t.regs } ∧ Only s t [O.hb_missed]) ∧
  (Leaves .aliveEdgeSend fun s t => t = { s with out := t.out, twin := t.twin }) ∧
  (Leaves .aliveEdgeReceived fun s t => t = { s with twin := t.twin }) ∧
  (∀ (key : Octets), Leaves (.peerKeyWrite key) fun s t => t = { s with
        regs := t.regs, status := t.status, out := t.out, led := t.led, twin := t.twin } ∧
      Only s t [O.peer_key_set]) ∧
  (Leaves .forget fun s t => t = { s with regs := t.regs, status := t.status, out := t.out, led := t.led, twin := t.twin } ∧
      Only s t [O.peer_key_set]) ∧
  (∀ (v : VHead) (serial : Octets), Leaves (.joinReceived v serial) fun s t => t = { s with
        regs := t.regs, blobs := t.blobs, out := t.out, boot := t.boot, tinker := t.tinker, twin := t.twin, steward := t.steward } ∧
      Only s t [O.pair_state, O.pair_suspend_cause, O.twin_state, O.maint_deferred, O.varlan_auth_fail, O.msgs_dropped] ∧ OnlyOctets s t
      [O.peer_serial]) ∧
  (Leaves .joinRetry fun s t => t = { s with epoch := t.epoch, twin := t.twin }) ∧
  (Leaves .searchTimeout fun s t => t = { s with regs := t.regs, boot := t.boot, tinker := t.tinker, twin := t.twin } ∧ Only s t [O.msgs_dropped]) ∧
  (Leaves .takeoverForce fun s t => t = { s with status := t.status, out := t.out, led := t.led, twin := t.twin }) ∧
  (Leaves .standDownTimeout fun s t => t = { s with regs := t.regs, twin := t.twin } ∧ Only s t [O.takeover_result]) ∧
  (∀ (v : VHead) (n : Nat), Leaves (.mirrorAck v n) fun s t => t = { s with regs := t.regs, boot := t.boot, tinker := t.tinker, twin := t.twin } ∧
      Only s t [O.varlan_auth_fail, O.msgs_dropped]) ∧
  (∀ (v : VHead) (c : TxCmd), Leaves (.pairTxReceived v c) fun s t => t = { s with
        regs := t.regs, boot := t.boot, tinker := t.tinker, twin := t.twin } ∧
      Only s t [O.varlan_auth_fail, O.msgs_dropped]) ∧
  (∀ (v : VHead) (tag : Nat) (start : Nat), Leaves (.pairGoReceived v tag start) fun s t => t = { s with
        regs := t.regs, boot := t.boot, tinker := t.tinker, radios := t.radios, txReports := t.txReports, twin := t.twin } ∧
      Only s t [O.varlan_auth_fail, O.msgs_dropped, O.tx_sent 2, O.tx_muted 2, O.tx_reg_blocked 2, O.tx_no_grant 2, O.tx_duty_limit 2, O.tx_busy 2,
      O.tx_synth_not_ready 2, O.tx_late 2] ∧ ∀ q, q ≠ 2 → radio t q = radio s q) ∧
  (∀ (v : VHead) (tag : Nat) (sent : Bool), Leaves (.pairResultReceived v tag sent) fun s t => t = { s with
        regs := t.regs, boot := t.boot, tinker := t.tinker, radios := t.radios, twin := t.twin } ∧
      Only s t [O.pair_fallback, O.varlan_auth_fail, O.msgs_dropped] ∧ ∀ q, q ≠ 2 → radio t q = radio s q) ∧
  (∀ (v : VHead) (tag : Nat), Leaves (.pairCancelReceived v tag) fun s t => t = { s with
        regs := t.regs, boot := t.boot, tinker := t.tinker, radios := t.radios, twin := t.twin } ∧
      Only s t [O.varlan_auth_fail, O.msgs_dropped] ∧ ∀ q, q ≠ 2 → radio t q = radio s q) ∧
  (Leaves .alignAgeExpire fun s t => t = { s with regs := t.regs, tinker := t.tinker, twin := t.twin } ∧
      Only s t [O.pair_state, O.pair_suspend_cause, O.msgs_dropped])

/-- Frame of the key commands, the parse graph's staging and the rule log (R222, R244, R258, R276 to R283): each clause names the parts of State and the registers that its command may
change; every other is as it was. -/
def Obligations.LocksmithAndRulesFrame : Prop :=
  (Leaves .keyInstall fun s t => t = { s with
        regs := t.regs, status := t.status, out := t.out, led := t.led, twin := t.twin, mac := t.mac, lock := t.lock } ∧
      Only s t ([O.exhausted_slots, O.slots_in_use, O.mirror_records] ++ (slotKeys ++ [O.key_state, O.key_use, O.slot_rx_ok, O.slot_mic_fail,
      O.slot_replays, O.slot_tx]).map (winKey (rd s O.key_select)))) ∧
  (Leaves .setTx fun s t => t = { s with regs := t.regs, status := t.status, out := t.out, led := t.led, twin := t.twin } ∧
      Only s t ([O.mirror_records] ++ (slotsInUse s).map (fun i => winKey i O.key_use))) ∧
  (Leaves .saInstall fun s t => t = { s with status := t.status, out := t.out, led := t.led, twin := t.twin, lock := t.lock }) ∧
  (Leaves .graphCheck fun s t => t = { s with regs := t.regs, status := t.status, out := t.out, led := t.led, twin := t.twin } ∧
      Only s t [O.graph_bad_index, O.graph_status]) ∧
  (Leaves .graphDefault fun s t => t = { s with status := t.status, out := t.out, led := t.led, twin := t.twin, graph := t.graph }) ∧
  (Leaves .shadowCopyDone fun s t => t = { s with graph := t.graph }) ∧
  (∀ (w : RuleWrite), Leaves (.ruleStageWrite w) fun s t => t = { s with
        regs := t.regs, status := t.status, out := t.out, led := t.led, twin := t.twin, rules := t.rules } ∧
      Only s t [O.rule_log_used]) ∧
  (Leaves .ruleDiscard fun s t => t = { s with regs := t.regs, status := t.status, out := t.out, led := t.led, twin := t.twin, rules := t.rules } ∧
      Only s t [O.rule_log_used]) ∧
  (Leaves .catchUpDone fun s t => t = { s with regs := t.regs, rules := t.rules } ∧ Only s t [O.rule_state]) ∧
  (∀ (errors : List RowError), Leaves (.ruleScrub errors) fun s t => t = { s with regs := t.regs, tinker := t.tinker, rules := t.rules } ∧
      Only s t [O.ecc_corrected, O.ecc_uncorrected, O.msgs_dropped])

/-- Frame of the ports, routes, flow records, forwarding database and buffers (R288, R292 to R305, R316 to R319, R347): each clause names the parts of State and the registers that its command
may change; every other is as it was. -/
def Obligations.SwitchAndMillerFrame : Prop :=
  (∀ (crcOk : Bool) (bytes : Octets), Leaves (.varlanFrameRx crcOk bytes) fun s t => t = { s with
        regs := t.regs, tinker := t.tinker, entering := t.entering, miller := t.miller } ∧
      Only s t [O.no_cell_drop, O.direct_spills, O.overflow_used, O.cells_free, O.cells_low, O.msgs_dropped]) ∧
  (∀ (port : Fin 8), Leaves (.portUp port) fun s t => t = { s with regs := t.regs } ∧ Only s t [O.port_state port]) ∧
  (Leaves .routeAdd fun s t => t = { s with regs := t.regs, status := t.status, out := t.out, led := t.led, twin := t.twin, switch := t.switch } ∧
      Only s t [O.route_gen, O.rt_count_v4, O.rt_count_v6]) ∧
  (Leaves .routeDelete fun s t => t = { s with regs := t.regs, status := t.status, out := t.out, led := t.led, twin := t.twin, switch := t.switch } ∧
      Only s t [O.route_gen, O.rt_count_v4, O.rt_count_v6]) ∧
  (Leaves .routeLookup fun s t => t = { s with regs := t.regs, status := t.status, out := t.out, led := t.led, twin := t.twin } ∧
      Only s t [O.rt_found, O.rt_len, O.rt_nexthop]) ∧
  (Leaves .flowDelete fun s t => t = { s with regs := t.regs, status := t.status, out := t.out, led := t.led, twin := t.twin, switch := t.switch } ∧
      Only s t [O.flows_in_use]) ∧
  (Leaves .flowFlush fun s t => t = { s with regs := t.regs, status := t.status, out := t.out, led := t.led, twin := t.twin, switch := t.switch } ∧
      Only s t [O.flow_flush_active]) ∧
  (Leaves .flowFlushDone fun s t => t = { s with regs := t.regs, switch := t.switch } ∧ Only s t [O.flow_flush_active, O.flows_in_use]) ∧
  (Leaves .ageScan fun s t => t = { s with regs := t.regs, switch := t.switch } ∧ Only s t [O.aged_out, O.flows_in_use]) ∧
  (Leaves .fdbAgeExpire fun s t => t = { s with regs := t.regs, switch := t.switch } ∧ Only s t [O.fdb_in_use]) ∧
  (Leaves .spill fun s t => t = { s with regs := t.regs, free := t.free, miller := t.miller, dram := t.dram } ∧
      Only s t ([O.cells_free, O.spills, O.overflow_used] ++ ([0, 1, 2].flatMap fun i => [O.dp_panic i, O.dp_panic_events i, O.dp_panic_us i]))) ∧
  (Leaves .overflowUnavailable fun s t => t = { s with regs := t.regs, tinker := t.tinker, miller := t.miller } ∧ Only s t [O.msgs_dropped]) ∧
  (Leaves .auditReclaim fun s t => t = { s with regs := t.regs, miller := t.miller } ∧ Only s t [O.audit_reclaimed, O.cells_free]) ∧
  (∀ (n : Nat), Leaves (.taskLeaveService n) fun s t => t = { s with carter := t.carter }) ∧
  (∀ (urgent : Bool), Leaves (.ringRefill urgent) fun s t => t = { s with regs := t.regs, carter := t.carter, dram := t.dram } ∧
      Only s t (([0, 1, 2].flatMap fun i => [O.dp_panic i, O.dp_panic_events i, O.dp_panic_us i])))

/-- Frame of the DRAM's channels, training and regions (R357 to R368): each clause names the parts of State and the registers that its command may change; every other is as it was. -/
def Obligations.DramFrame : Prop :=
  (∀ (ch : Fin 8), Leaves (.channelCommand ch) fun s t => t = { s with regs := t.regs, out := t.out, free := t.free, dram := t.dram } ∧
      Only s t (([0, 1, 2].flatMap fun i => [O.dp_panic i, O.dp_panic_events i, O.dp_panic_us i]) ++ ((channel s ch).reqs ++ (channel s
      ch).writes).map (fun q => O.dp_bytes q.port))) ∧
  (∀ (ch : Fin 8) (bank : Fin 16), Leaves (.refreshDue ch bank) fun s t => t = { s with regs := t.regs, dram := t.dram } ∧
      Only s t [O.ch_postponed_max ch]) ∧
  (∀ (factors : List Nat) (temps : List Int), Leaves (.mr4Read factors temps) fun s t => t = { s with regs := t.regs, tinker := t.tinker } ∧
      Only s t ([O.msgs_dropped] ++ ((List.range 8).flatMap fun i => [O.ch_rate_factor i, O.ch_temp i]))) ∧
  (∀ (ch : Fin 8) (trim : Int), Leaves (.wckTracking ch trim) fun s t => t = { s with regs := t.regs } ∧
      Only s t [O.ch_tracks ch, O.ch_wck_trim ch]) ∧
  (∀ (failed : List Nat), Leaves (.dramTrainDone failed) fun s t => t = { s with regs := t.regs, tinker := t.tinker, dram := t.dram } ∧
      Only s t ([O.dram_state, O.msgs_dropped] ++ (List.range 8).map O.ch_train_result)) ∧
  (Leaves .dramInitDone fun s t => t = { s with regs := t.regs, dram := t.dram } ∧ Only s t [O.dram_state, O.region_status]) ∧
  (∀ (failed : List Nat), Leaves (.retrainEnd failed) fun s t => t = { s with regs := t.regs, tinker := t.tinker, miller := t.miller, dram := t.dram } ∧
      Only s t [O.retrains, O.retrain_fail, O.last_retrain, O.dram_state, O.region_status, O.msgs_dropped]) ∧
  (Leaves .regionEnable fun s t => t = { s with status := t.status, out := t.out, led := t.led, twin := t.twin, dram := t.dram })

/-- Frame of the time base, its sources, PTP's own sends and the GFP timers (R391 to R413): each clause names the parts of State and the registers that its command may change; every other is as
it was. -/
def Obligations.TimeFrame : Prop :=
  (Leaves .tbSet fun s t => t = { s with
        regs := t.regs, status := t.status, out := t.out, tb := t.tb, epoch := t.epoch, led := t.led, tinker := t.tinker, radios := t.radios, twin :=
        t.twin, time := t.time, move := t.move, mac := t.mac, ost := t.ost } ∧
      Only s t ([O.tb_state, O.tb_valid, O.tb_steps, O.frame_phase, O.tb_last_step, O.msgs_dropped] ++ ((List.range 32).flatMap fun i => [O.gt_state
      i, O.gt_fired i, O.gt_skipped i]))) ∧
  (Leaves .tbAdjust fun s t => t = { s with
        regs := t.regs, status := t.status, out := t.out, tb := t.tb, epoch := t.epoch, led := t.led, tinker := t.tinker, radios := t.radios, twin :=
        t.twin, time := t.time, move := t.move, mac := t.mac, ost := t.ost } ∧
      Only s t ([O.tb_state, O.tb_valid, O.tb_steps, O.frame_phase, O.tb_last_step, O.msgs_dropped] ++ ((List.range 32).flatMap fun i => [O.gt_state
      i, O.gt_fired i, O.gt_skipped i]))) ∧
  (Leaves .tbSlew fun s t => t = { s with regs := t.regs, status := t.status, out := t.out, led := t.led, twin := t.twin, time := t.time } ∧
      Only s t [O.tb_state, O.tb_valid]) ∧
  (∀ (v : Fin 3), Leaves (.tbSourceWrite v) fun s t => t = { s with
        regs := t.regs, status := t.status, out := t.out, led := t.led, twin := t.twin, time := t.time } ∧
      Only s t [O.tb_state, O.tb_valid, O.tb_locked_to, O.tb_source]) ∧
  (∀ (port : Fin 8) (kind : PtpKind), Leaves (.ptpMessageTx port kind) fun s t => t = { s with regs := t.regs, out := t.out, time := t.time } ∧
      Only s t [O.pp_tx_event port]) ∧
  (∀ (port : Fin 8), Leaves (.ptpAnnounceTimeout port) fun s t => t = { s with regs := t.regs, blobs := t.blobs, tinker := t.tinker, time := t.time } ∧
      Only s t ([O.ptp_slave_port, O.ptp_steps_removed, O.tb_freq_adj, O.tb_state, O.tb_valid, O.tb_locked_to, O.msgs_dropped] ++ (List.range 8).map
      O.pp_state) ∧ OnlyOctets s t [O.ptp_gm_id]) ∧
  (Leaves .ppsInTimeout fun s t => t = { s with regs := t.regs, tinker := t.tinker, time := t.time } ∧
      Only s t [O.tb_freq_adj, O.tb_state, O.tb_valid, O.tb_locked_to, O.msgs_dropped]) ∧
  (Leaves .ppsOutRise fun s t => t = { s with out := t.out, time := t.time }) ∧
  (Leaves .synceLost fun s t => t = { s with regs := t.regs, tinker := t.tinker } ∧ Only s t [O.synce_state, O.msgs_dropped]) ∧
  (Leaves .synceLocked fun s t => t = { s with regs := t.regs, free := t.free, time := t.time } ∧ Only s t [O.synce_state, O.tb_freq_adj]) ∧
  (∀ (ppb : Int), Leaves (.bakRateWindow ppb) fun s t => t = { s with regs := t.regs } ∧ Only s t [O.trim_pending, O.bak_rate_ppb, O.bak_trim]) ∧
  (∀ (x : Fin 32), Leaves (.gtArm x) fun s t => t = { s with
        regs := t.regs, status := t.status, out := t.out, led := t.led, tinker := t.tinker, twin := t.twin, time := t.time } ∧
      Only s t [O.gt_state x, O.gt_fired x, O.gt_skipped x, O.msgs_dropped]) ∧
  (∀ (x : Fin 32), Leaves (.gtDisarm x) fun s t => t = { s with regs := t.regs, status := t.status, out := t.out, led := t.led, twin := t.twin } ∧
      Only s t [O.gt_state x]) ∧
  (∀ (x : Fin 32), Leaves (.gtInstant x) fun s t => t = { s with regs := t.regs, out := t.out, time := t.time } ∧
      Only s t [O.gt_state x, O.gt_fired x]) ∧
  (∀ (x : Fin 32) (rising : Bool), Leaves (.gtCaptureEdge x rising) fun s t => t = { s with regs := t.regs, time := t.time } ∧
      Only s t [O.gt_cap_lost x, O.gt_cap_level x]) ∧
  (∀ (x : Fin 32), Leaves (.gtCapRead x) fun s t => t = { s with
        regs := t.regs, status := t.status, led := t.led, lastRead := t.lastRead, time := t.time } ∧
      Only s t [O.gt_cap_level x])

/-- Frame of the forced messages, calibration requests, the Steward's queue and the Surveyor's timers (R474, R479 to R491): each clause names the parts of State and the registers that its
command may change; every other is as it was. -/
def Obligations.MaintenanceFrame : Prop :=
  (Leaves .force fun s t => t = { s with regs := t.regs, status := t.status, out := t.out, led := t.led, tinker := t.tinker, twin := t.twin } ∧
      Only s t [O.msgs_dropped]) ∧
  (∀ (r : Fin 3), Leaves (.calCmd r) fun s t => t = { s with
        regs := t.regs, status := t.status, out := t.out, led := t.led, radios := t.radios, twin := t.twin, steward := t.steward } ∧
      Only s t ([O.maint_admitted, O.maint_refused, O.maint_deferred, O.dram_state, O.region_status, O.msgs_dropped] ++ (List.range 8).map O.act_runs
      ++ [O.radio_state 0, O.radio_state 1, O.radio_state 2])) ∧
  (∀ (r : Fin 3) (chain : Fin 16) (celsius : Int), Leaves (.predistortTempRaise r chain celsius) fun s t => t = { s with
        regs := t.regs, out := t.out, tinker := t.tinker, radios := t.radios, twin := t.twin, steward := t.steward } ∧
      Only s t ([O.maint_admitted, O.maint_refused, O.maint_deferred, O.dram_state, O.region_status, O.msgs_dropped, O.chain_temp r chain] ++
      (List.range 8).map O.act_runs ++ [O.radio_state 0, O.radio_state 1, O.radio_state 2])) ∧
  (∀ (u : Option MaintRaise), Leaves (.maintRequest u) fun s t => t = { s with
        regs := t.regs, status := t.status, out := t.out, led := t.led, tinker := t.tinker, radios := t.radios, twin := t.twin, steward := t.steward } ∧
      Only s t ([O.maint_admitted, O.maint_refused, O.maint_deferred, O.dram_state, O.region_status, O.msgs_dropped] ++ (List.range 8).map O.act_runs
      ++ [O.radio_state 0, O.radio_state 1, O.radio_state 2])) ∧
  (Leaves .maintCancel fun s t => t = { s with regs := t.regs, status := t.status, out := t.out, led := t.led, twin := t.twin, steward := t.steward } ∧
      Only s t ((s.steward.queue.flatMap fun e => [O.act_last_end e.activity, O.act_last_result e.activity]) ++ (List.range 7).map O.cal_result)) ∧
  (∀ (n : Fin 32), Leaves (.queueLimitExpire n) fun s t => t = { s with regs := t.regs, tinker := t.tinker, steward := t.steward } ∧
      Only s t ([O.maint_expired, O.msgs_dropped] ++ (s.steward.queue.flatMap fun e => [O.act_last_end e.activity, O.act_last_result e.activity]) ++
      (List.range 7).map O.cal_result)) ∧
  (Leaves .alignTimer fun s t => t = { s with
        regs := t.regs, out := t.out, tinker := t.tinker, radios := t.radios, twin := t.twin, steward := t.steward } ∧
      Only s t ([O.maint_admitted, O.maint_refused, O.maint_deferred, O.dram_state, O.region_status, O.msgs_dropped] ++ (List.range 8).map O.act_runs
      ++ [O.radio_state 0, O.radio_state 1, O.radio_state 2])) ∧
  (Leaves .alignAnswerTimeout fun s t => t = { s with regs := t.regs, steward := t.steward } ∧ Only s t [O.maint_deferred]) ∧
  (Leaves .surveyTimer fun s t => t = { s with
        regs := t.regs, out := t.out, tinker := t.tinker, radios := t.radios, twin := t.twin, steward := t.steward } ∧
      Only s t ([O.maint_admitted, O.maint_refused, O.maint_deferred, O.dram_state, O.region_status, O.msgs_dropped] ++ (List.range 8).map O.act_runs
      ++ [O.radio_state 0, O.radio_state 1, O.radio_state 2])) ∧
  (Leaves .memSurveyTimer fun s t => t = { s with
        regs := t.regs, out := t.out, tinker := t.tinker, radios := t.radios, twin := t.twin, steward := t.steward } ∧
      Only s t ([O.maint_admitted, O.maint_refused, O.maint_deferred, O.dram_state, O.region_status, O.msgs_dropped] ++ (List.range 8).map O.act_runs
      ++ [O.radio_state 0, O.radio_state 1, O.radio_state 2])) ∧
  (Leaves .dailyMean fun s t => t = { s with regs := t.regs, tinker := t.tinker, survey := t.survey } ∧
      Only s t ([O.life_estimate, O.life_item, O.msgs_dropped] ++ ((List.range 24).flatMap fun i => [O.mi_life i, O.mi_next_step i])))

/-- Frame of the longer control commands (R15 to R27, R89 to R95, R402 to R407, R427, R483 to R488, R519): each clause names the parts of State that its command may change; every other part is
as it was. -/
def Obligations.ControlFrame : Prop :=
  (Leaves .epochCommit fun s t => t = { s with
        regs := t.regs, blobs := t.blobs, status := t.status, out := t.out, free := t.free, epoch := t.epoch, led := t.led, tinker := t.tinker, power
        := t.power, radios := t.radios, twin := t.twin }) ∧
  (∀ (hid : Nat) (agrees : Bool), Leaves (.unitPrepared hid agrees) fun s t => t = { s with
        regs := t.regs, blobs := t.blobs, out := t.out, epoch := t.epoch, power := t.power, radios := t.radios, twin := t.twin }) ∧
  (Leaves .prepareTimeout fun s t => t = { s with
        regs := t.regs, out := t.out, epoch := t.epoch, power := t.power, radios := t.radios, twin := t.twin }) ∧
  (∀ (hid : Nat), Leaves (.unitApplied hid) fun s t => t = { s with
        regs := t.regs, staged := t.staged, stagedBlobs := t.stagedBlobs, out := t.out, epoch := t.epoch, tinker := t.tinker, power := t.power,
        radios := t.radios, twin := t.twin, steward := t.steward, graph := t.graph }) ∧
  (Leaves .autoCommit fun s t => t = { s with
        regs := t.regs, blobs := t.blobs, out := t.out, free := t.free, epoch := t.epoch, tinker := t.tinker, power := t.power, radios := t.radios,
        twin := t.twin }) ∧
  (∀ (v : VHead) (msg : EpochMsg), Leaves (.epochMessageReceived v msg) fun s t => t = { s with
        regs := t.regs, blobs := t.blobs, staged := t.staged, stagedBlobs := t.stagedBlobs, out := t.out, free := t.free, boot := t.boot, epoch :=
        t.epoch, tinker := t.tinker, power := t.power, radios := t.radios, twin := t.twin, steward := t.steward, graph := t.graph }) ∧
  (Leaves .backupPor fun s t => t = { s with regs := t.regs, blobs := t.blobs, out := t.out, tinker := t.tinker, power := t.power, watch := t.watch }) ∧
  (Leaves .bakReset fun s t => t = { s with
        regs := t.regs, blobs := t.blobs, status := t.status, out := t.out, led := t.led, tinker := t.tinker, power := t.power, twin := t.twin, watch
        := t.watch }) ∧
  (Leaves .vbakApplied fun s t => t = { s with
        regs := t.regs, blobs := t.blobs, out := t.out, tinker := t.tinker, power := t.power, watch := t.watch }) ∧
  (∀ (source : Nat) (banksOk : Nat), Leaves (.wakeSource source banksOk) fun s t => t = { s with
        regs := t.regs, tb := t.tb, boot := t.boot, claims := t.claims, led := t.led, tinker := t.tinker, power := t.power, radios := t.radios, twin
        := t.twin, time := t.time }) ∧
  (∀ (samples : List Nat), Leaves (.porstRelease samples) fun s t => t = { s with
        regs := t.regs, boot := t.boot, claims := t.claims, led := t.led, radios := t.radios }) ∧
  (Leaves .bootStart fun s t => t = { s with
        regs := t.regs, out := t.out, tb := t.tb, boot := t.boot, led := t.led, tinker := t.tinker, power := t.power, radios := t.radios, twin :=
        t.twin, time := t.time, steward := t.steward, dram := t.dram }) ∧
  (Leaves .trainEnd fun s t => t = { s with
        regs := t.regs, out := t.out, tb := t.tb, boot := t.boot, epoch := t.epoch, tinker := t.tinker, radios := t.radios, twin := t.twin, time :=
        t.time, move := t.move, steward := t.steward, mac := t.mac, ost := t.ost }) ∧
  (∀ (r : Fin 3) (failed : List Nat), Leaves (.calEnd r failed) fun s t => t = { s with
        regs := t.regs, boot := t.boot, tinker := t.tinker, radios := t.radios }) ∧
  (∀ (activity : Nat) (target : Nat) (result : ActivityReport), Leaves (.activityEnd activity target result) fun s t => t = { s with
        regs := t.regs, out := t.out, tinker := t.tinker, power := t.power, radios := t.radios, twin := t.twin, steward := t.steward, survey :=
        t.survey }) ∧
  (∀ (activity : Nat) (target : Nat), Leaves (.activityBound activity target) fun s t => t = { s with
        regs := t.regs, out := t.out, tinker := t.tinker, radios := t.radios, twin := t.twin, steward := t.steward }) ∧
  (∀ (v : VHead) (admitted : Bool), Leaves (.alignAnswer v admitted) fun s t => t = { s with
        regs := t.regs, boot := t.boot, tinker := t.tinker, radios := t.radios, twin := t.twin, steward := t.steward }) ∧
  (∀ (v : VHead), Leaves (.alignRequestReceived v) fun s t => t = { s with
        regs := t.regs, out := t.out, boot := t.boot, tinker := t.tinker, radios := t.radios, twin := t.twin, steward := t.steward }) ∧
  (∀ (port : Fin 8) (m : PtpMsg), Leaves (.ptpMessageRx port m) fun s t => t = { s with
        regs := t.regs, blobs := t.blobs, out := t.out, free := t.free, tb := t.tb, epoch := t.epoch, tinker := t.tinker, radios := t.radios, time :=
        t.time, move := t.move, mac := t.mac, ost := t.ost }) ∧
  (Leaves .ppsInEdge fun s t => t = { s with
        regs := t.regs, out := t.out, free := t.free, tb := t.tb, epoch := t.epoch, tinker := t.tinker, radios := t.radios, time := t.time, move :=
        t.move, mac := t.mac, ost := t.ost })

/-- Frame of the commands that move frames (R113 to R180, R246 to R335, R340 to R353): each clause names the parts of State that its command may change; every other part is as it was. -/
def Obligations.DataPathFrame : Prop :=
  (∀ (q : Fin 64), Leaves (.queueDisable q) fun s t => t = { s with
        regs := t.regs, status := t.status, out := t.out, led := t.led, hostq := t.hostq, twin := t.twin, miller := t.miller }) ∧
  (∀ (q : Fin 64) (d : Descriptor), Leaves (.descriptorFetch q d) fun s t => t = { s with
        regs := t.regs, out := t.out, hostq := t.hostq, miller := t.miller }) ∧
  (∀ (q : Fin 64) (bytes : Octets), Leaves (.fromHostTakeIn q bytes) fun s t => t = { s with
        regs := t.regs, out := t.out, hostq := t.hostq, tinker := t.tinker, twin := t.twin, entering := t.entering, graph := t.graph, miller :=
        t.miller }) ∧
  (∀ (q : Fin 64) (writable : Bool), Leaves (.dmaError q writable) fun s t => t = { s with
        regs := t.regs, out := t.out, hostq := t.hostq, tinker := t.tinker, miller := t.miller }) ∧
  (∀ (asserted : Bool), Leaves (.perst asserted) fun s t => t = { s with
        regs := t.regs, out := t.out, boot := t.boot, led := t.led, hostq := t.hostq, time := t.time, miller := t.miller }) ∧
  (Leaves .txResult fun s t => t = { s with
        regs := t.regs, out := t.out, hostq := t.hostq, tinker := t.tinker, radios := t.radios, txReports := t.txReports, twin := t.twin, mac :=
        t.mac, ost := t.ost, miller := t.miller }) ∧
  (Leaves .staRemove fun s t => t = { s with
        regs := t.regs, blobs := t.blobs, status := t.status, out := t.out, led := t.led, hostq := t.hostq, twin := t.twin, mac := t.mac, ost :=
        t.ost, miller := t.miller }) ∧
  (∀ (station : Nat) (tid : Nat) (sn : Nat), Leaves (.mpduUnacked station tid sn) fun s t => t = { s with
        regs := t.regs, out := t.out, hostq := t.hostq, mac := t.mac, ost := t.ost, miller := t.miller }) ∧
  (∀ (r : Fin 3), Leaves (.tbtt r) fun s t => t = { s with
        regs := t.regs, out := t.out, hostq := t.hostq, tinker := t.tinker, mac := t.mac, ost := t.ost, lock := t.lock, miller := t.miller }) ∧
  (∀ (e : PlanErrors), Leaves (.planClose e) fun s t => t = { s with
        regs := t.regs, out := t.out, hostq := t.hostq, tinker := t.tinker, twin := t.twin, planClosed := t.planClosed, mac := t.mac, ost := t.ost,
        lock := t.lock, miller := t.miller }) ∧
  (Leaves .grantRequest fun s t => t = { s with regs := t.regs, out := t.out, hostq := t.hostq, mac := t.mac, ost := t.ost, miller := t.miller }) ∧
  (∀ (r : Fin 3) (busy : List Nat), Leaves (.txopAccessComplete r busy) fun s t => t = { s with
        regs := t.regs, out := t.out, radios := t.radios, txReports := t.txReports, twin := t.twin, mac := t.mac, ost := t.ost, miller := t.miller }) ∧
  (∀ (lane : Fin 4), Leaves (.laneUp lane) fun s t => t = { s with
        regs := t.regs, out := t.out, hostq := t.hostq, tinker := t.tinker, twin := t.twin, miller := t.miller }) ∧
  (∀ (v : VHead) (rec_ : MirrorRec), Leaves (.mirrorRecordReceived v rec_) fun s t => t = { s with
        regs := t.regs, blobs := t.blobs, out := t.out, boot := t.boot, hostq := t.hostq, tinker := t.tinker, twin := t.twin, mac := t.mac, ost :=
        t.ost, lock := t.lock, miller := t.miller }) ∧
  (Leaves .keyClear fun s t => t = { s with
        regs := t.regs, status := t.status, out := t.out, led := t.led, hostq := t.hostq, twin := t.twin, ost := t.ost, lock := t.lock, miller :=
        t.miller }) ∧
  (Leaves .saClear fun s t => t = { s with
        regs := t.regs, status := t.status, out := t.out, led := t.led, hostq := t.hostq, twin := t.twin, lock := t.lock, miller := t.miller }) ∧
  (∀ (bad : Option Nat), Leaves (.parseWalk bad) fun s t => t = { s with
        regs := t.regs, out := t.out, hostq := t.hostq, tinker := t.tinker, entering := t.entering, carter := t.carter, graph := t.graph, miller :=
        t.miller, dram := t.dram }) ∧
  (∀ (peerBusy : Bool), Leaves (.ruleCommit peerBusy) fun s t => t = { s with
        regs := t.regs, status := t.status, out := t.out, led := t.led, twin := t.twin, rules := t.rules }) ∧
  (Leaves .ruleLookup fun s t => t = { s with
        regs := t.regs, out := t.out, hostq := t.hostq, tinker := t.tinker, carter := t.carter, switch := t.switch, miller := t.miller, dram := t.dram }) ∧
  (Leaves .drainLimitExpire fun s t => t = { s with
        regs := t.regs, out := t.out, hostq := t.hostq, tinker := t.tinker, carter := t.carter, miller := t.miller, dram := t.dram }) ∧
  (∀ (port : Fin 8) (f : UplinkFrame), Leaves (.uplinkFrameRx port f) fun s t => t = { s with
        regs := t.regs, out := t.out, hostq := t.hostq, tinker := t.tinker, mac := t.mac, lock := t.lock, entering := t.entering, carter := t.carter,
        miller := t.miller, dram := t.dram }) ∧
  (∀ (port : Fin 8) (codewords : Nat), Leaves (.portDown port codewords) fun s t => t = { s with
        regs := t.regs, out := t.out, hostq := t.hostq, tinker := t.tinker, miller := t.miller }) ∧
  (∀ (bucket : Nat) (bad : List Nat), Leaves (.flowBucketArrival bucket bad) fun s t => t = { s with
        regs := t.regs, out := t.out, hostq := t.hostq, tinker := t.tinker, steward := t.steward, carter := t.carter, switch := t.switch, miller :=
        t.miller, dram := t.dram }) ∧
  (Leaves .announceFrame fun s t => t = { s with
        regs := t.regs, out := t.out, hostq := t.hostq, twin := t.twin, switch := t.switch, miller := t.miller }) ∧
  (Leaves .fetch fun s t => t = { s with regs := t.regs, out := t.out, free := t.free, hostq := t.hostq, miller := t.miller, dram := t.dram }) ∧
  (Leaves .airAgeSweep fun s t => t = { s with regs := t.regs, out := t.out, hostq := t.hostq, mac := t.mac, miller := t.miller }) ∧
  (∀ (port : Fin 8) (e : QueueError), Leaves (.wiredDequeue port e) fun s t => t = { s with
        regs := t.regs, out := t.out, hostq := t.hostq, tinker := t.tinker, lock := t.lock, miller := t.miller }) ∧
  (∀ (token : Nat), Leaves (.taskAgeTimeout token) fun s t => t = { s with
        regs := t.regs, out := t.out, hostq := t.hostq, tinker := t.tinker, carter := t.carter, miller := t.miller }) ∧
  (Leaves .trackerRewriteDone fun s t => t = { s with
        regs := t.regs, out := t.out, hostq := t.hostq, tinker := t.tinker, carter := t.carter, miller := t.miller, dram := t.dram }) ∧
  (∀ (e : ReadResult), Leaves (.patrolScrub e) fun s t => t = { s with
        regs := t.regs, out := t.out, free := t.free, hostq := t.hostq, tinker := t.tinker, steward := t.steward, carter := t.carter, switch :=
        t.switch, miller := t.miller, dram := t.dram }) ∧
  (Leaves .regionEnableDone fun s t => t = { s with
        regs := t.regs, out := t.out, hostq := t.hostq, carter := t.carter, switch := t.switch, miller := t.miller, dram := t.dram })

/-- Frame of the commands with the longest effects (R129, R154, R197 to R206, R303, R447, R466 to R473, R519 to R522), among them reception, the frame boundary, takeovers, QUARANTINE and the
ends of BOOT: each clause names the parts of State that its command may change; every other part is as it was. -/
def Obligations.LongPathFrame : Prop :=
  (Leaves .restoreTimeout fun s t => t = { s with
        regs := t.regs, blobs := t.blobs, out := t.out, free := t.free, tb := t.tb, boot := t.boot, epoch := t.epoch, claims := t.claims, led :=
        t.led, hostq := t.hostq, tinker := t.tinker, power := t.power, radios := t.radios, txReports := t.txReports, twin := t.twin, time := t.time,
        move := t.move, steward := t.steward, survey := t.survey, mac := t.mac, ost := t.ost, lock := t.lock, entering := t.entering, carter :=
        t.carter, graph := t.graph, rules := t.rules, switch := t.switch, miller := t.miller, dram := t.dram }) ∧
  (Leaves .peerDoneTimeout fun s t => t = { s with
        regs := t.regs, blobs := t.blobs, out := t.out, boot := t.boot, epoch := t.epoch, hostq := t.hostq, tinker := t.tinker, power := t.power,
        radios := t.radios, twin := t.twin, steward := t.steward, ost := t.ost, graph := t.graph, miller := t.miller, dram := t.dram }) ∧
  (∀ (r : Fin 3) (m : RxMpdu) (e : LookupError), Leaves (.mpduReceived r m e) fun s t => t = { s with
        regs := t.regs, blobs := t.blobs, out := t.out, free := t.free, tb := t.tb, boot := t.boot, claims := t.claims, led := t.led, hostq :=
        t.hostq, tinker := t.tinker, power := t.power, radios := t.radios, txReports := t.txReports, twin := t.twin, time := t.time, mac := t.mac,
        ost := t.ost, lock := t.lock, carter := t.carter, miller := t.miller, dram := t.dram }) ∧
  (∀ (station : Nat) (tid : Nat), Leaves (.reorderTimeout station tid) fun s t => t = { s with
        regs := t.regs, out := t.out, free := t.free, tb := t.tb, boot := t.boot, claims := t.claims, led := t.led, hostq := t.hostq, tinker :=
        t.tinker, power := t.power, radios := t.radios, twin := t.twin, time := t.time, mac := t.mac, lock := t.lock, carter := t.carter, miller :=
        t.miller, dram := t.dram }) ∧
  (∀ (r : Fin 3) (upstream : Bool), Leaves (.beaconWaitExpire r upstream) fun s t => t = { s with
        regs := t.regs, out := t.out, epoch := t.epoch, hostq := t.hostq, tinker := t.tinker, radios := t.radios, twin := t.twin, time := t.time,
        planClosed := t.planClosed, steward := t.steward, mac := t.mac, ost := t.ost, lock := t.lock, miller := t.miller, dram := t.dram }) ∧
  (Leaves .frameBoundary fun s t => t = { s with
        regs := t.regs, blobs := t.blobs, out := t.out, boot := t.boot, epoch := t.epoch, hostq := t.hostq, tinker := t.tinker, power := t.power,
        radios := t.radios, twin := t.twin, move := t.move, planClosed := t.planClosed, steward := t.steward, mac := t.mac, ost := t.ost, graph :=
        t.graph, miller := t.miller, dram := t.dram }) ∧
  (∀ (v : VHead) (h : HbMsg), Leaves (.heartbeatReceived v h) fun s t => t = { s with
        regs := t.regs, blobs := t.blobs, out := t.out, free := t.free, tb := t.tb, boot := t.boot, epoch := t.epoch, claims := t.claims, led :=
        t.led, hostq := t.hostq, tinker := t.tinker, power := t.power, radios := t.radios, twin := t.twin, time := t.time, move := t.move, planClosed
        := t.planClosed, steward := t.steward, mac := t.mac, ost := t.ost, lock := t.lock, entering := t.entering, carter := t.carter, miller :=
        t.miller, dram := t.dram }) ∧
  (Leaves .heartbeatStale fun s t => t = { s with
        regs := t.regs, out := t.out, free := t.free, tb := t.tb, boot := t.boot, epoch := t.epoch, claims := t.claims, led := t.led, hostq :=
        t.hostq, tinker := t.tinker, power := t.power, radios := t.radios, twin := t.twin, time := t.time, planClosed := t.planClosed, steward :=
        t.steward, mac := t.mac, ost := t.ost, lock := t.lock, entering := t.entering, carter := t.carter, miller := t.miller, dram := t.dram }) ∧
  (Leaves .aliveSilent fun s t => t = { s with
        regs := t.regs, out := t.out, free := t.free, tb := t.tb, boot := t.boot, epoch := t.epoch, claims := t.claims, led := t.led, hostq :=
        t.hostq, tinker := t.tinker, power := t.power, radios := t.radios, twin := t.twin, time := t.time, planClosed := t.planClosed, steward :=
        t.steward, mac := t.mac, ost := t.ost, lock := t.lock, entering := t.entering, carter := t.carter, miller := t.miller, dram := t.dram }) ∧
  (∀ (lane : Fin 4), Leaves (.laneDown lane) fun s t => t = { s with
        regs := t.regs, out := t.out, free := t.free, tb := t.tb, boot := t.boot, claims := t.claims, led := t.led, hostq := t.hostq, tinker :=
        t.tinker, power := t.power, radios := t.radios, twin := t.twin, time := t.time, steward := t.steward, mac := t.mac, lock := t.lock, entering
        := t.entering, carter := t.carter, miller := t.miller, dram := t.dram }) ∧
  (∀ (v : VHead), Leaves (.handoverReceived v) fun s t => t = { s with
        regs := t.regs, out := t.out, boot := t.boot, epoch := t.epoch, hostq := t.hostq, tinker := t.tinker, radios := t.radios, twin := t.twin,
        time := t.time, planClosed := t.planClosed, steward := t.steward, mac := t.mac, ost := t.ost, lock := t.lock, miller := t.miller, dram :=
        t.dram }) ∧
  (∀ (v : VHead), Leaves (.standDownReceived v) fun s t => t = { s with
        regs := t.regs, blobs := t.blobs, out := t.out, free := t.free, tb := t.tb, boot := t.boot, claims := t.claims, led := t.led, hostq :=
        t.hostq, tinker := t.tinker, power := t.power, radios := t.radios, twin := t.twin, time := t.time, steward := t.steward, mac := t.mac, ost :=
        t.ost, lock := t.lock, entering := t.entering, carter := t.carter, miller := t.miller, dram := t.dram }) ∧
  (∀ (v : VHead), Leaves (.standDownAnswer v) fun s t => t = { s with
        regs := t.regs, out := t.out, boot := t.boot, epoch := t.epoch, hostq := t.hostq, tinker := t.tinker, radios := t.radios, twin := t.twin,
        time := t.time, planClosed := t.planClosed, steward := t.steward, mac := t.mac, ost := t.ost, lock := t.lock, miller := t.miller, dram :=
        t.dram }) ∧
  (∀ (v : VHead) (key : Nat) (value : Nat) (octets : Octets), Leaves (.forwardedWrite v key value octets) fun s t => t = { s with
        regs := t.regs, blobs := t.blobs, staged := t.staged, stagedBlobs := t.stagedBlobs, out := t.out, boot := t.boot, hostq := t.hostq, tinker :=
        t.tinker, twin := t.twin, move := t.move, mac := t.mac, lock := t.lock, graph := t.graph, rules := t.rules, switch := t.switch, miller :=
        t.miller }) ∧
  (Leaves .forwardAckTimeout fun s t => t = { s with
        regs := t.regs, out := t.out, free := t.free, tb := t.tb, boot := t.boot, claims := t.claims, led := t.led, hostq := t.hostq, tinker :=
        t.tinker, power := t.power, radios := t.radios, twin := t.twin, time := t.time, steward := t.steward, mac := t.mac, lock := t.lock, entering
        := t.entering, carter := t.carter, miller := t.miller, dram := t.dram }) ∧
  (∀ (v : VHead) (data : Option CopyData), Leaves (.copyComplete v data) fun s t => t = { s with
        regs := t.regs, blobs := t.blobs, staged := t.staged, stagedBlobs := t.stagedBlobs, out := t.out, boot := t.boot, epoch := t.epoch, hostq :=
        t.hostq, tinker := t.tinker, radios := t.radios, twin := t.twin, time := t.time, steward := t.steward, mac := t.mac, ost := t.ost, lock :=
        t.lock, graph := t.graph, rules := t.rules, switch := t.switch, miller := t.miller }) ∧
  (Leaves .copyTimeout fun s t => t = { s with
        regs := t.regs, out := t.out, free := t.free, tb := t.tb, boot := t.boot, epoch := t.epoch, claims := t.claims, led := t.led, hostq :=
        t.hostq, tinker := t.tinker, power := t.power, radios := t.radios, twin := t.twin, time := t.time, steward := t.steward, mac := t.mac, lock
        := t.lock, entering := t.entering, carter := t.carter, miller := t.miller, dram := t.dram }) ∧
  (Leaves .mirrorAckTimeout fun s t => t = { s with
        regs := t.regs, out := t.out, free := t.free, tb := t.tb, boot := t.boot, claims := t.claims, led := t.led, hostq := t.hostq, tinker :=
        t.tinker, power := t.power, radios := t.radios, twin := t.twin, time := t.time, steward := t.steward, mac := t.mac, lock := t.lock, entering
        := t.entering, carter := t.carter, miller := t.miller, dram := t.dram }) ∧
  (∀ (v : VHead) (token : Nat), Leaves (.rxpnAck v token) fun s t => t = { s with
        regs := t.regs, out := t.out, free := t.free, tb := t.tb, boot := t.boot, claims := t.claims, led := t.led, hostq := t.hostq, tinker :=
        t.tinker, power := t.power, radios := t.radios, twin := t.twin, time := t.time, mac := t.mac, lock := t.lock, entering := t.entering, carter
        := t.carter, miller := t.miller, dram := t.dram }) ∧
  (∀ (token : Nat), Leaves (.rxpnWaitExpire token) fun s t => t = { s with
        regs := t.regs, out := t.out, free := t.free, tb := t.tb, boot := t.boot, claims := t.claims, led := t.led, hostq := t.hostq, tinker :=
        t.tinker, power := t.power, radios := t.radios, twin := t.twin, time := t.time, steward := t.steward, mac := t.mac, lock := t.lock, entering
        := t.entering, carter := t.carter, miller := t.miller, dram := t.dram }) ∧
  (Leaves .mpduDecrypt fun s t => t = { s with
        regs := t.regs, out := t.out, free := t.free, tb := t.tb, boot := t.boot, claims := t.claims, led := t.led, hostq := t.hostq, tinker :=
        t.tinker, power := t.power, radios := t.radios, twin := t.twin, time := t.time, mac := t.mac, lock := t.lock, entering := t.entering, carter
        := t.carter, miller := t.miller, dram := t.dram }) ∧
  (∀ (m : Nat) (v : TagResult), Leaves (.tagVerdict m v) fun s t => t = { s with
        regs := t.regs, out := t.out, free := t.free, tb := t.tb, boot := t.boot, claims := t.claims, led := t.led, hostq := t.hostq, tinker :=
        t.tinker, power := t.power, radios := t.radios, twin := t.twin, time := t.time, mac := t.mac, lock := t.lock, entering := t.entering, carter
        := t.carter, miller := t.miller, dram := t.dram }) ∧
  (∀ (m : Nat), Leaves (.verdictTimeout m) fun s t => t = { s with
        regs := t.regs, out := t.out, free := t.free, tb := t.tb, boot := t.boot, claims := t.claims, led := t.led, hostq := t.hostq, tinker :=
        t.tinker, power := t.power, radios := t.radios, twin := t.twin, time := t.time, mac := t.mac, lock := t.lock, entering := t.entering, carter
        := t.carter, miller := t.miller, dram := t.dram }) ∧
  (∀ (e : TaskError), Leaves (.taskDispatch e) fun s t => t = { s with
        regs := t.regs, out := t.out, hostq := t.hostq, tinker := t.tinker, twin := t.twin, carter := t.carter, graph := t.graph, switch := t.switch,
        miller := t.miller, dram := t.dram }) ∧
  (Leaves .dormantEnter fun s t => t = { s with
        regs := t.regs, blobs := t.blobs, status := t.status, out := t.out, free := t.free, led := t.led, hostq := t.hostq, tinker := t.tinker, power
        := t.power, radios := t.radios, twin := t.twin, steward := t.steward, ost := t.ost, lock := t.lock, miller := t.miller, dram := t.dram }) ∧
  (∀ (m : Option FaultMsg), Leaves (.faultMessage m) fun s t => t = { s with
        regs := t.regs, blobs := t.blobs, out := t.out, free := t.free, tb := t.tb, boot := t.boot, epoch := t.epoch, claims := t.claims, led :=
        t.led, hostq := t.hostq, tinker := t.tinker, power := t.power, radios := t.radios, twin := t.twin, time := t.time, steward := t.steward, mac
        := t.mac, ost := t.ost, lock := t.lock, entering := t.entering, carter := t.carter, miller := t.miller, dram := t.dram }) ∧
  (Leaves .quietExpire fun s t => t = { s with
        regs := t.regs, out := t.out, tb := t.tb, epoch := t.epoch, tinker := t.tinker, radios := t.radios, twin := t.twin, time := t.time, move :=
        t.move, steward := t.steward, mac := t.mac, ost := t.ost, dram := t.dram }) ∧
  (Leaves .qEnter fun s t => t = { s with
        regs := t.regs, blobs := t.blobs, status := t.status, out := t.out, free := t.free, tb := t.tb, boot := t.boot, epoch := t.epoch, claims :=
        t.claims, led := t.led, hostq := t.hostq, tinker := t.tinker, power := t.power, radios := t.radios, twin := t.twin, time := t.time, steward
        := t.steward, mac := t.mac, ost := t.ost, lock := t.lock, entering := t.entering, carter := t.carter, miller := t.miller, dram := t.dram }) ∧
  (Leaves .qExit fun s t => t = { s with
        regs := t.regs, status := t.status, out := t.out, tb := t.tb, epoch := t.epoch, led := t.led, tinker := t.tinker, radios := t.radios, twin :=
        t.twin, time := t.time, move := t.move, steward := t.steward, mac := t.mac, ost := t.ost, dram := t.dram }) ∧
  (Leaves .clearLatch fun s t => t = { s with
        regs := t.regs, status := t.status, out := t.out, tb := t.tb, epoch := t.epoch, led := t.led, tinker := t.tinker, radios := t.radios, twin :=
        t.twin, time := t.time, move := t.move, steward := t.steward, mac := t.mac, ost := t.ost, dram := t.dram }) ∧
  (Leaves .bootEnd fun s t => t = { s with
        regs := t.regs, blobs := t.blobs, out := t.out, boot := t.boot, claims := t.claims, led := t.led, hostq := t.hostq, tinker := t.tinker, power
        := t.power, radios := t.radios, twin := t.twin, steward := t.steward, mac := t.mac, graph := t.graph, rules := t.rules, switch := t.switch,
        miller := t.miller, dram := t.dram }) ∧
  (Leaves .takeoverEnd fun s t => t = { s with
        regs := t.regs, blobs := t.blobs, out := t.out, free := t.free, tb := t.tb, boot := t.boot, epoch := t.epoch, claims := t.claims, led :=
        t.led, hostq := t.hostq, tinker := t.tinker, power := t.power, radios := t.radios, twin := t.twin, time := t.time, planClosed :=
        t.planClosed, steward := t.steward, mac := t.mac, ost := t.ost, lock := t.lock, entering := t.entering, carter := t.carter, switch :=
        t.switch, miller := t.miller, dram := t.dram })

/-! ### Resets, BOOT's image, and rules of their own -/

/-- What a reset of the package keeps (R25, R439, R440, R473, R506): PORST_N, the loss of the input, an over-voltage and a fault of the 12 V output each
leave the backup domain, the flash and the plan store as they were, but for the registers named, and everything else starts again. -/
def Obligations.ResetsKeepWhatIsHeld : Prop :=
  (∀ s : State, s.power.inputOn = true →
    Completes .porstAssert s fun t => t.boot.inReset = true ∧ StartsAgain t ∧ HeldOver s t [O.v12_state]) ∧
  (∀ s : State, (s.power.inputOn = true ∨ s.power.overVoltage = true) →
    Completes .vinCollapse s fun t => packageMode t = (if s.power.vbak then 2 else 1) ∧ StartsAgain t ∧ HeldOver s t [O.v12_state, O.last_loss_cause]) ∧
  (∀ s : State, s.power.inputOn = true →
    Completes .vinOvervoltage s fun t => packageMode t = (if s.power.vbak then 2 else 1) ∧ StartsAgain t ∧
      HeldOver s t [O.v12_state, O.last_loss_cause]) ∧
  (∀ (s : State) (c : V12Cause), rd s O.v12_state = 2 →
    Completes (.v12Fault c) s fun t => packageMode t = 2 ∧ StartsAgain t ∧ HeldOver s t [O.v12_state, O.last_loss_cause, O.v12_faults])

/-- R520: BOOT_SRC, bits 9:8 of the strap word, gives the slots in their order; the first that passes is run, with its revision shown; after one that
fails the next is tried; and where none is left BOOT halts. -/
def Obligations.BootRunsTheFirstSlotThatPasses : Prop :=
  (∀ s : State, hubOn s = true → packageMode s = 4 → s.boot.step = 0 → s.boot.halted = false → rd s O.ref_state = 2 →
    Completes .bootStart s fun t =>
      (bit s.boot.straps 9 = false → bit s.boot.straps 8 = false → t.boot.slots = [0, 1]) ∧
      (bit s.boot.straps 9 = false → bit s.boot.straps 8 = true → t.boot.slots = [1, 0]) ∧
      (bit s.boot.straps 9 = true → bit s.boot.straps 8 = false → t.boot.slots = [0]) ∧
      (bit s.boot.straps 9 = true → bit s.boot.straps 8 = true → t.boot.slots = [1])) ∧
  (∀ (s : State) (v a : Nat) (l : List Nat), hubOn s = true → s.boot.step = 1 → s.boot.halted = false → s.boot.slots = a :: l → v < 4294967296 →
    Completes (.imageCheckDone 0 v) s fun t => t.boot.step = 2 ∧ t.boot.halted = false ∧ rd t O.firmware_rev = v) ∧
  (∀ (s : State) (f : Fin 5) (v a b : Nat) (l : List Nat), hubOn s = true → s.boot.step = 1 → s.boot.halted = false → s.boot.slots = a :: b :: l → f ≠ 0 →
    Completes (.imageCheckDone f v) s fun t => t.boot.step = 1 ∧ t.boot.halted = false ∧ t.boot.slots = b :: l) ∧
  (∀ (s : State) (f : Fin 5) (v a : Nat), hubOn s = true → s.boot.step = 1 → s.boot.halted = false → s.boot.slots = [a] → f ≠ 0 →
    Completes (.imageCheckDone f v) s fun t => t.boot.halted = true ∧ t.boot.slots = [] ∧ rd t O.firmware_rev = 0)

/-- R208: where the part has paired transmission, each bit of `pair_suspend_cause`, worked out anew, says whether its condition holds, and bits 7:6 are
zero. -/
def Obligations.PairSuspendCauseBits : Prop :=
  ∀ s : State, pairedFitted s.fuse.part = true →
    let v := rd (pairRefresh s) O.pair_suspend_cause
    (bit v 0 = true ↔ rd s O.pair_enable = 0) ∧ (bit v 1 = true ↔ twinState s ≠ 3) ∧ (bit v 2 = true ↔ lanesUp s < 3) ∧
    (bit v 3 = true ↔ s.twin.alignedAt = none ∨ s.twin.alignAged = true) ∧ (bit v 4 = true ↔ rd s O.align_limit < rd s O.align_residual) ∧
    (bit v 5 = true ↔ pairReadyBit s = false) ∧ bit v 6 = false ∧ bit v 7 = false

/-- R37: of an object that is defined and fitted, sub-index 0 reads the highest sub-index and refuses a write with DENIED, and any access above the count is
ABSENT. -/
def Obligations.SubIndexesOfAnObject : Prop :=
  ∀ (s : State) (index n : Nat), index < 65536 → subCount index = some n → objFitted s.fuse.part index = true →
    (∀ o : Octets, writeObject s index 0 o = .answered .denied [] s) ∧
    (indexInCount s index = true → crossing s index = .reached → readObject s index 0 = .answered .ok [BitVec.ofNat 8 n] s) ∧
    (∀ (sub : Nat) (o : Octets), n < sub → sub < 256 →
      writeObject s index sub o = .answered .absent [] s ∧ readObject s index sub = .answered .absent [] s)

/-- The hub die is not reset by itself (R24): with `reset_target` naming its die level or a unit of its region 15, the command is answered DENIED and
leaves the module as it was but for its status and what had waited at the domains. -/
def Obligations.HubDieResetDenied : Prop :=
  ∀ s : State, Reaches s O.reset_cmd → hidMalformed (rd s O.reset_target) = false → hidOwn s (rd s O.reset_target) = true →
    hidDie (rd s O.reset_target) = 0 → hidRegion (rd s O.reset_target) = 15 → hidFitted s (rd s O.reset_target) = true → s.led.hung = [] →
    Completes .resetCmd s fun t => t.status = .denied ∧ t.regs = s.regs ∧ t.boot = s.boot
end

