-- ==== Sys2Proof/Laws/Tables.lean ====
section
/-! SUPPORT. Laws of tables: what a table reads after an entry is set or taken away, and that the canonical form stays. -/

namespace Sys2Proof

variable {α : Type}

/-- What a table reads after entry `k` is set. -/
theorem Tab.look_put (t : Tab α) (k : Nat) (v : α) (j : Nat) : (t.put k v).look j = if j = k then some v else t.look j := by
  induction t with
  | nil => simp [Tab.put, Tab.look, eq_comm]
  | cons x t ih =>
    obtain ⟨i, w⟩ := x
    unfold Tab.put
    split
    · by_cases h : j = k
      · simp [Tab.look, h]
      · simp [Tab.look, h, Ne.symm h]
    · split
      · rename_i h; subst h
        by_cases h : j = k
        · simp [Tab.look, h]
        · simp [Tab.look, h, Ne.symm h]
      · simp only [Tab.look, ih]
        by_cases h : i = j
        · have : j ≠ k := by omega
          simp [h, this]
        · simp [h]

/-- A set entry is the one read. -/
@[simp] theorem Tab.look_put_self (t : Tab α) (k : Nat) (v : α) : (t.put k v).look k = some v := by simp [Tab.look_put]

/-- Setting one entry leaves the others. -/
theorem Tab.look_put_ne (t : Tab α) (k : Nat) (v : α) (j : Nat) (h : j ≠ k) : (t.put k v).look j = t.look j := by
  simp [Tab.look_put, h]

/-- A set entry is the one read, with any default. -/
@[simp] theorem Tab.getD_put_self (t : Tab α) (k : Nat) (v d : α) : (t.put k v).getD k d = v := by simp [Tab.getD]

/-- What a table reads, with a default, after entry `k` is set. -/
theorem Tab.getD_put (t : Tab α) (k : Nat) (v : α) (j : Nat) (d : α) :
    (t.put k v).getD j d = if j = k then v else t.getD j d := by
  unfold Tab.getD; rw [Tab.look_put]; split <;> rfl

/-- What a table reads after entry `k` is taken away. -/
theorem Tab.look_del (t : Tab α) (k : Nat) (j : Nat) : (t.del k).look j = if j = k then none else t.look j := by
  induction t with
  | nil => simp [Tab.del, Tab.look]
  | cons x t ih =>
    obtain ⟨i, w⟩ := x
    unfold Tab.del
    by_cases hk : i = k
    · subst hk
      by_cases h : j = i
      · subst h; simp [ih]
      · simp [Tab.look, ih, h, Ne.symm h]
    · by_cases h : i = j
      · subst h; simp [Tab.look, hk]
      · simp [Tab.look, hk, h, ih]

/-- An entry taken away is not found. -/
@[simp] theorem Tab.look_del_self (t : Tab α) (k : Nat) : (t.del k).look k = none := by simp [Tab.look_del]

/-- The first number of a table's canonical form after an entry is set. -/
theorem Tab.sorted_cons_put (j : Nat) (w : α) (t : Tab α) (k : Nat) (v : α) (h : Tab.sorted ((j, w) :: t) = true) (hj : j < k) :
    Tab.sorted ((j, w) :: t.put k v) = true := by
  induction t generalizing j w with
  | nil => simp [Tab.put, Tab.sorted, hj]
  | cons x t ih =>
    obtain ⟨i, u⟩ := x
    simp only [Tab.sorted, Bool.and_eq_true, decide_eq_true_eq] at h
    unfold Tab.put
    split
    · rename_i hk; simp [Tab.sorted, hj, hk, h.2]
    · split
      · rename_i hk; subst hk
        cases t with
        | nil => simp [Tab.sorted, hj]
        | cons y t => obtain ⟨l, z⟩ := y; simpa [Tab.sorted, hj] using h.2
      · rename_i h1 h2
        have : i < k := by omega
        simp only [Tab.sorted, Bool.and_eq_true, decide_eq_true_eq]
        exact ⟨h.1, ih i u h.2 this⟩

/-- Setting an entry keeps the canonical form. -/
theorem Tab.sorted_put (t : Tab α) (k : Nat) (v : α) (h : t.sorted = true) : (t.put k v).sorted = true := by
  cases t with
  | nil => rfl
  | cons x t =>
    obtain ⟨j, w⟩ := x
    unfold Tab.put
    split
    · rename_i hk; simp [Tab.sorted, hk, h]
    · split
      · rename_i hk; subst hk
        cases t with
        | nil => rfl
        | cons y t => obtain ⟨l, z⟩ := y; simpa [Tab.sorted] using h
      · exact Tab.sorted_cons_put j w t k v h (by omega)

end Sys2Proof
end

