-- ==== Sys2Proof/Laws/State.lean ====
section
/-! SUPPORT. What each field of the state is after each named update, and what a register reads after it: every lemma holds by
computing, and later proofs unfold no record update. -/

namespace Sys2Proof.Machine

/-- The parts of the state that the default of an object comes from: the fuses, the straps and the `system` field (R42, R43, R10). -/
def defaultBase (f : Fuses) (straps system : Nat) : State := { fuse := f, boot := { straps := straps }, system := system }

/-- An object's default comes from those parts alone. -/
theorem defaultOf_eq (s : State) (k : Nat) : defaultOf s k = defaultOf (defaultBase s.fuse s.boot.straps s.system) k := rfl

/-- What a register reads: its entry, else its default. -/
theorem rd_eq (s : State) (k : Nat) : rd s k = (s.regs.look k).getD (defaultOf (defaultBase s.fuse s.boot.straps s.system) k) := by
  unfold rd; rw [defaultOf_eq]; cases s.regs.look k <;> rfl

/-- Two states with the same registers, fuses, straps and `system` field read the same register values. -/
theorem rd_congr (s t : State) (k : Nat) (h : t.regs.look k = s.regs.look k) (hf : t.fuse = s.fuse) (hb : t.boot.straps = s.boot.straps)
    (hs : t.system = s.system) : rd t k = rd s k := by
  rw [rd_eq, rd_eq, h, hf, hb, hs]

/-- An entry of the register store is what the register reads. -/
theorem rd_of_look (s : State) (k v : Nat) (h : s.regs.look k = some v) : rd s k = v := by simp [rd_eq, h]

/-- The fields of the state after `wr`. -/
@[simp] theorem wr_fields (s : State) (k v : Nat) :
    (wr s k v).pending = s.pending ∧ (wr s k v).fuse = s.fuse ∧ (wr s k v).regs = s.regs.put k v ∧
    (wr s k v).blobs = s.blobs ∧ (wr s k v).staged = s.staged ∧ (wr s k v).stagedBlobs = s.stagedBlobs ∧
    (wr s k v).status = s.status ∧ (wr s k v).out = s.out ∧ (wr s k v).free = s.free ∧ (wr s k v).now = s.now ∧
    (wr s k v).tb = s.tb ∧ (wr s k v).system = s.system ∧ (wr s k v).boot = s.boot ∧ (wr s k v).epoch = s.epoch ∧
    (wr s k v).claims = s.claims ∧ (wr s k v).led = s.led ∧ (wr s k v).hostq = s.hostq ∧ (wr s k v).tinker = s.tinker ∧
    (wr s k v).power = s.power ∧ (wr s k v).radios = s.radios ∧ (wr s k v).txReports = s.txReports ∧
    (wr s k v).twin = s.twin ∧ (wr s k v).lastRead = s.lastRead ∧ (wr s k v).time = s.time ∧ (wr s k v).move = s.move ∧
    (wr s k v).watch = s.watch ∧ (wr s k v).refSince = s.refSince ∧ (wr s k v).planClosed = s.planClosed ∧
    (wr s k v).steward = s.steward ∧ (wr s k v).survey = s.survey ∧ (wr s k v).mac = s.mac ∧ (wr s k v).ost = s.ost ∧
    (wr s k v).lock = s.lock ∧ (wr s k v).entering = s.entering ∧ (wr s k v).carter = s.carter ∧
    (wr s k v).graph = s.graph ∧ (wr s k v).rules = s.rules ∧ (wr s k v).switch = s.switch ∧ (wr s k v).miller = s.miller ∧
    (wr s k v).dram = s.dram := by
  repeat' constructor

/-- The fields of the state after `wrB`. -/
@[simp] theorem wrB_fields (s : State) (k : Nat) (v : Octets) :
    (wrB s k v).pending = s.pending ∧ (wrB s k v).fuse = s.fuse ∧ (wrB s k v).regs = s.regs ∧
    (wrB s k v).blobs = s.blobs.put k v ∧ (wrB s k v).staged = s.staged ∧ (wrB s k v).stagedBlobs = s.stagedBlobs ∧
    (wrB s k v).status = s.status ∧ (wrB s k v).out = s.out ∧ (wrB s k v).free = s.free ∧ (wrB s k v).now = s.now ∧
    (wrB s k v).tb = s.tb ∧ (wrB s k v).system = s.system ∧ (wrB s k v).boot = s.boot ∧ (wrB s k v).epoch = s.epoch ∧
    (wrB s k v).claims = s.claims ∧ (wrB s k v).led = s.led ∧ (wrB s k v).hostq = s.hostq ∧ (wrB s k v).tinker = s.tinker ∧
    (wrB s k v).power = s.power ∧ (wrB s k v).radios = s.radios ∧ (wrB s k v).txReports = s.txReports ∧
    (wrB s k v).twin = s.twin ∧ (wrB s k v).lastRead = s.lastRead ∧ (wrB s k v).time = s.time ∧ (wrB s k v).move = s.move ∧
    (wrB s k v).watch = s.watch ∧ (wrB s k v).refSince = s.refSince ∧ (wrB s k v).planClosed = s.planClosed ∧
    (wrB s k v).steward = s.steward ∧ (wrB s k v).survey = s.survey ∧ (wrB s k v).mac = s.mac ∧ (wrB s k v).ost = s.ost ∧
    (wrB s k v).lock = s.lock ∧ (wrB s k v).entering = s.entering ∧ (wrB s k v).carter = s.carter ∧
    (wrB s k v).graph = s.graph ∧ (wrB s k v).rules = s.rules ∧ (wrB s k v).switch = s.switch ∧
    (wrB s k v).miller = s.miller ∧ (wrB s k v).dram = s.dram := by
  repeat' constructor

/-- The fields of the state after `send`. -/
@[simp] theorem send_fields (s : State) (o : Out) :
    (send s o).pending = s.pending ∧ (send s o).fuse = s.fuse ∧ (send s o).regs = s.regs ∧ (send s o).blobs = s.blobs ∧
    (send s o).staged = s.staged ∧ (send s o).stagedBlobs = s.stagedBlobs ∧ (send s o).status = s.status ∧
    (send s o).out = s.out ++ [o] ∧ (send s o).free = s.free ∧ (send s o).now = s.now ∧ (send s o).tb = s.tb ∧
    (send s o).system = s.system ∧ (send s o).boot = s.boot ∧ (send s o).epoch = s.epoch ∧ (send s o).claims = s.claims ∧
    (send s o).led = s.led ∧ (send s o).hostq = s.hostq ∧ (send s o).tinker = s.tinker ∧ (send s o).power = s.power ∧
    (send s o).radios = s.radios ∧ (send s o).txReports = s.txReports ∧ (send s o).twin = s.twin ∧
    (send s o).lastRead = s.lastRead ∧ (send s o).time = s.time ∧ (send s o).move = s.move ∧ (send s o).watch = s.watch ∧
    (send s o).refSince = s.refSince ∧ (send s o).planClosed = s.planClosed ∧ (send s o).steward = s.steward ∧
    (send s o).survey = s.survey ∧ (send s o).mac = s.mac ∧ (send s o).ost = s.ost ∧ (send s o).lock = s.lock ∧
    (send s o).entering = s.entering ∧ (send s o).carter = s.carter ∧ (send s o).graph = s.graph ∧
    (send s o).rules = s.rules ∧ (send s o).switch = s.switch ∧ (send s o).miller = s.miller ∧ (send s o).dram = s.dram := by
  repeat' constructor

/-- The fields of the state after `ret`. -/
@[simp] theorem ret_fields (s : State) (st : Status) :
    (ret s st).pending = s.pending ∧ (ret s st).fuse = s.fuse ∧ (ret s st).regs = s.regs ∧ (ret s st).blobs = s.blobs ∧
    (ret s st).staged = s.staged ∧ (ret s st).stagedBlobs = s.stagedBlobs ∧ (ret s st).status = st ∧
    (ret s st).out = s.out ∧ (ret s st).free = s.free ∧ (ret s st).now = s.now ∧ (ret s st).tb = s.tb ∧
    (ret s st).system = s.system ∧ (ret s st).boot = s.boot ∧ (ret s st).epoch = s.epoch ∧ (ret s st).claims = s.claims ∧
    (ret s st).led = s.led ∧ (ret s st).hostq = s.hostq ∧ (ret s st).tinker = s.tinker ∧ (ret s st).power = s.power ∧
    (ret s st).radios = s.radios ∧ (ret s st).txReports = s.txReports ∧ (ret s st).twin = s.twin ∧
    (ret s st).lastRead = s.lastRead ∧ (ret s st).time = s.time ∧ (ret s st).move = s.move ∧ (ret s st).watch = s.watch ∧
    (ret s st).refSince = s.refSince ∧ (ret s st).planClosed = s.planClosed ∧ (ret s st).steward = s.steward ∧
    (ret s st).survey = s.survey ∧ (ret s st).mac = s.mac ∧ (ret s st).ost = s.ost ∧ (ret s st).lock = s.lock ∧
    (ret s st).entering = s.entering ∧ (ret s st).carter = s.carter ∧ (ret s st).graph = s.graph ∧
    (ret s st).rules = s.rules ∧ (ret s st).switch = s.switch ∧ (ret s st).miller = s.miller ∧ (ret s st).dram = s.dram := by
  repeat' constructor

/-- The fields of the state after `setRadio`. -/
@[simp] theorem setRadio_fields (s : State) (r : Nat) (x : Radio) :
    (setRadio s r x).pending = s.pending ∧ (setRadio s r x).fuse = s.fuse ∧ (setRadio s r x).regs = s.regs ∧
    (setRadio s r x).blobs = s.blobs ∧ (setRadio s r x).staged = s.staged ∧ (setRadio s r x).stagedBlobs = s.stagedBlobs ∧
    (setRadio s r x).status = s.status ∧ (setRadio s r x).out = s.out ∧ (setRadio s r x).free = s.free ∧
    (setRadio s r x).now = s.now ∧ (setRadio s r x).tb = s.tb ∧ (setRadio s r x).system = s.system ∧
    (setRadio s r x).boot = s.boot ∧ (setRadio s r x).epoch = s.epoch ∧ (setRadio s r x).claims = s.claims ∧
    (setRadio s r x).led = s.led ∧ (setRadio s r x).hostq = s.hostq ∧ (setRadio s r x).tinker = s.tinker ∧
    (setRadio s r x).power = s.power ∧ (setRadio s r x).radios = s.radios.put r x ∧
    (setRadio s r x).txReports = s.txReports ∧ (setRadio s r x).twin = s.twin ∧ (setRadio s r x).lastRead = s.lastRead ∧
    (setRadio s r x).time = s.time ∧ (setRadio s r x).move = s.move ∧ (setRadio s r x).watch = s.watch ∧
    (setRadio s r x).refSince = s.refSince ∧ (setRadio s r x).planClosed = s.planClosed ∧
    (setRadio s r x).steward = s.steward ∧ (setRadio s r x).survey = s.survey ∧ (setRadio s r x).mac = s.mac ∧
    (setRadio s r x).ost = s.ost ∧ (setRadio s r x).lock = s.lock ∧ (setRadio s r x).entering = s.entering ∧
    (setRadio s r x).carter = s.carter ∧ (setRadio s r x).graph = s.graph ∧ (setRadio s r x).rules = s.rules ∧
    (setRadio s r x).switch = s.switch ∧ (setRadio s r x).miller = s.miller ∧ (setRadio s r x).dram = s.dram := by
  repeat' constructor

/-- The fields of the state after `setHq`. -/
@[simp] theorem setHq_fields (s : State) (q : Nat) (x : HostQueue) :
    (setHq s q x).pending = s.pending ∧ (setHq s q x).fuse = s.fuse ∧ (setHq s q x).regs = s.regs ∧
    (setHq s q x).blobs = s.blobs ∧ (setHq s q x).staged = s.staged ∧ (setHq s q x).stagedBlobs = s.stagedBlobs ∧
    (setHq s q x).status = s.status ∧ (setHq s q x).out = s.out ∧ (setHq s q x).free = s.free ∧ (setHq s q x).now = s.now ∧
    (setHq s q x).tb = s.tb ∧ (setHq s q x).system = s.system ∧ (setHq s q x).boot = s.boot ∧
    (setHq s q x).epoch = s.epoch ∧ (setHq s q x).claims = s.claims ∧ (setHq s q x).led = s.led ∧
    (setHq s q x).hostq = s.hostq.put q x ∧ (setHq s q x).tinker = s.tinker ∧ (setHq s q x).power = s.power ∧
    (setHq s q x).radios = s.radios ∧ (setHq s q x).txReports = s.txReports ∧ (setHq s q x).twin = s.twin ∧
    (setHq s q x).lastRead = s.lastRead ∧ (setHq s q x).time = s.time ∧ (setHq s q x).move = s.move ∧
    (setHq s q x).watch = s.watch ∧ (setHq s q x).refSince = s.refSince ∧ (setHq s q x).planClosed = s.planClosed ∧
    (setHq s q x).steward = s.steward ∧ (setHq s q x).survey = s.survey ∧ (setHq s q x).mac = s.mac ∧
    (setHq s q x).ost = s.ost ∧ (setHq s q x).lock = s.lock ∧ (setHq s q x).entering = s.entering ∧
    (setHq s q x).carter = s.carter ∧ (setHq s q x).graph = s.graph ∧ (setHq s q x).rules = s.rules ∧
    (setHq s q x).switch = s.switch ∧ (setHq s q x).miller = s.miller ∧ (setHq s q x).dram = s.dram := by
  repeat' constructor

/-- The fields of the state after `freeNext`. -/
@[simp] theorem freeNext_fields (s : State)  :
    (freeNext s).pending = s.pending ∧ (freeNext s).fuse = s.fuse ∧ (freeNext s).regs = s.regs ∧
    (freeNext s).blobs = s.blobs ∧ (freeNext s).staged = s.staged ∧ (freeNext s).stagedBlobs = s.stagedBlobs ∧
    (freeNext s).status = s.status ∧ (freeNext s).out = s.out ∧ (freeNext s).free = s.free + 1 ∧ (freeNext s).now = s.now ∧
    (freeNext s).tb = s.tb ∧ (freeNext s).system = s.system ∧ (freeNext s).boot = s.boot ∧ (freeNext s).epoch = s.epoch ∧
    (freeNext s).claims = s.claims ∧ (freeNext s).led = s.led ∧ (freeNext s).hostq = s.hostq ∧
    (freeNext s).tinker = s.tinker ∧ (freeNext s).power = s.power ∧ (freeNext s).radios = s.radios ∧
    (freeNext s).txReports = s.txReports ∧ (freeNext s).twin = s.twin ∧ (freeNext s).lastRead = s.lastRead ∧
    (freeNext s).time = s.time ∧ (freeNext s).move = s.move ∧ (freeNext s).watch = s.watch ∧
    (freeNext s).refSince = s.refSince ∧ (freeNext s).planClosed = s.planClosed ∧ (freeNext s).steward = s.steward ∧
    (freeNext s).survey = s.survey ∧ (freeNext s).mac = s.mac ∧ (freeNext s).ost = s.ost ∧ (freeNext s).lock = s.lock ∧
    (freeNext s).entering = s.entering ∧ (freeNext s).carter = s.carter ∧ (freeNext s).graph = s.graph ∧
    (freeNext s).rules = s.rules ∧ (freeNext s).switch = s.switch ∧ (freeNext s).miller = s.miller ∧
    (freeNext s).dram = s.dram := by
  repeat' constructor

/-- The fields of the state after `setMac`. -/
@[simp] theorem setMac_fields (s : State) (x : Mac) :
    (setMac s x).pending = s.pending ∧ (setMac s x).fuse = s.fuse ∧ (setMac s x).regs = s.regs ∧
    (setMac s x).blobs = s.blobs ∧ (setMac s x).staged = s.staged ∧ (setMac s x).stagedBlobs = s.stagedBlobs ∧
    (setMac s x).status = s.status ∧ (setMac s x).out = s.out ∧ (setMac s x).free = s.free ∧ (setMac s x).now = s.now ∧
    (setMac s x).tb = s.tb ∧ (setMac s x).system = s.system ∧ (setMac s x).boot = s.boot ∧ (setMac s x).epoch = s.epoch ∧
    (setMac s x).claims = s.claims ∧ (setMac s x).led = s.led ∧ (setMac s x).hostq = s.hostq ∧
    (setMac s x).tinker = s.tinker ∧ (setMac s x).power = s.power ∧ (setMac s x).radios = s.radios ∧
    (setMac s x).txReports = s.txReports ∧ (setMac s x).twin = s.twin ∧ (setMac s x).lastRead = s.lastRead ∧
    (setMac s x).time = s.time ∧ (setMac s x).move = s.move ∧ (setMac s x).watch = s.watch ∧
    (setMac s x).refSince = s.refSince ∧ (setMac s x).planClosed = s.planClosed ∧ (setMac s x).steward = s.steward ∧
    (setMac s x).survey = s.survey ∧ (setMac s x).mac = x ∧ (setMac s x).ost = s.ost ∧ (setMac s x).lock = s.lock ∧
    (setMac s x).entering = s.entering ∧ (setMac s x).carter = s.carter ∧ (setMac s x).graph = s.graph ∧
    (setMac s x).rules = s.rules ∧ (setMac s x).switch = s.switch ∧ (setMac s x).miller = s.miller ∧
    (setMac s x).dram = s.dram := by
  repeat' constructor

/-- The fields of the state after `setOst`. -/
@[simp] theorem setOst_fields (s : State) (x : Ostler) :
    (setOst s x).pending = s.pending ∧ (setOst s x).fuse = s.fuse ∧ (setOst s x).regs = s.regs ∧
    (setOst s x).blobs = s.blobs ∧ (setOst s x).staged = s.staged ∧ (setOst s x).stagedBlobs = s.stagedBlobs ∧
    (setOst s x).status = s.status ∧ (setOst s x).out = s.out ∧ (setOst s x).free = s.free ∧ (setOst s x).now = s.now ∧
    (setOst s x).tb = s.tb ∧ (setOst s x).system = s.system ∧ (setOst s x).boot = s.boot ∧ (setOst s x).epoch = s.epoch ∧
    (setOst s x).claims = s.claims ∧ (setOst s x).led = s.led ∧ (setOst s x).hostq = s.hostq ∧
    (setOst s x).tinker = s.tinker ∧ (setOst s x).power = s.power ∧ (setOst s x).radios = s.radios ∧
    (setOst s x).txReports = s.txReports ∧ (setOst s x).twin = s.twin ∧ (setOst s x).lastRead = s.lastRead ∧
    (setOst s x).time = s.time ∧ (setOst s x).move = s.move ∧ (setOst s x).watch = s.watch ∧
    (setOst s x).refSince = s.refSince ∧ (setOst s x).planClosed = s.planClosed ∧ (setOst s x).steward = s.steward ∧
    (setOst s x).survey = s.survey ∧ (setOst s x).mac = s.mac ∧ (setOst s x).ost = x ∧ (setOst s x).lock = s.lock ∧
    (setOst s x).entering = s.entering ∧ (setOst s x).carter = s.carter ∧ (setOst s x).graph = s.graph ∧
    (setOst s x).rules = s.rules ∧ (setOst s x).switch = s.switch ∧ (setOst s x).miller = s.miller ∧
    (setOst s x).dram = s.dram := by
  repeat' constructor

/-- The fields of the state after `setLock`. -/
@[simp] theorem setLock_fields (s : State) (x : Locksmith) :
    (setLock s x).pending = s.pending ∧ (setLock s x).fuse = s.fuse ∧ (setLock s x).regs = s.regs ∧
    (setLock s x).blobs = s.blobs ∧ (setLock s x).staged = s.staged ∧ (setLock s x).stagedBlobs = s.stagedBlobs ∧
    (setLock s x).status = s.status ∧ (setLock s x).out = s.out ∧ (setLock s x).free = s.free ∧ (setLock s x).now = s.now ∧
    (setLock s x).tb = s.tb ∧ (setLock s x).system = s.system ∧ (setLock s x).boot = s.boot ∧
    (setLock s x).epoch = s.epoch ∧ (setLock s x).claims = s.claims ∧ (setLock s x).led = s.led ∧
    (setLock s x).hostq = s.hostq ∧ (setLock s x).tinker = s.tinker ∧ (setLock s x).power = s.power ∧
    (setLock s x).radios = s.radios ∧ (setLock s x).txReports = s.txReports ∧ (setLock s x).twin = s.twin ∧
    (setLock s x).lastRead = s.lastRead ∧ (setLock s x).time = s.time ∧ (setLock s x).move = s.move ∧
    (setLock s x).watch = s.watch ∧ (setLock s x).refSince = s.refSince ∧ (setLock s x).planClosed = s.planClosed ∧
    (setLock s x).steward = s.steward ∧ (setLock s x).survey = s.survey ∧ (setLock s x).mac = s.mac ∧
    (setLock s x).ost = s.ost ∧ (setLock s x).lock = x ∧ (setLock s x).entering = s.entering ∧
    (setLock s x).carter = s.carter ∧ (setLock s x).graph = s.graph ∧ (setLock s x).rules = s.rules ∧
    (setLock s x).switch = s.switch ∧ (setLock s x).miller = s.miller ∧ (setLock s x).dram = s.dram := by
  repeat' constructor

/-- The fields of the state after `setCarter`. -/
@[simp] theorem setCarter_fields (s : State) (x : Carter) :
    (setCarter s x).pending = s.pending ∧ (setCarter s x).fuse = s.fuse ∧ (setCarter s x).regs = s.regs ∧
    (setCarter s x).blobs = s.blobs ∧ (setCarter s x).staged = s.staged ∧ (setCarter s x).stagedBlobs = s.stagedBlobs ∧
    (setCarter s x).status = s.status ∧ (setCarter s x).out = s.out ∧ (setCarter s x).free = s.free ∧
    (setCarter s x).now = s.now ∧ (setCarter s x).tb = s.tb ∧ (setCarter s x).system = s.system ∧
    (setCarter s x).boot = s.boot ∧ (setCarter s x).epoch = s.epoch ∧ (setCarter s x).claims = s.claims ∧
    (setCarter s x).led = s.led ∧ (setCarter s x).hostq = s.hostq ∧ (setCarter s x).tinker = s.tinker ∧
    (setCarter s x).power = s.power ∧ (setCarter s x).radios = s.radios ∧ (setCarter s x).txReports = s.txReports ∧
    (setCarter s x).twin = s.twin ∧ (setCarter s x).lastRead = s.lastRead ∧ (setCarter s x).time = s.time ∧
    (setCarter s x).move = s.move ∧ (setCarter s x).watch = s.watch ∧ (setCarter s x).refSince = s.refSince ∧
    (setCarter s x).planClosed = s.planClosed ∧ (setCarter s x).steward = s.steward ∧ (setCarter s x).survey = s.survey ∧
    (setCarter s x).mac = s.mac ∧ (setCarter s x).ost = s.ost ∧ (setCarter s x).lock = s.lock ∧
    (setCarter s x).entering = s.entering ∧ (setCarter s x).carter = x ∧ (setCarter s x).graph = s.graph ∧
    (setCarter s x).rules = s.rules ∧ (setCarter s x).switch = s.switch ∧ (setCarter s x).miller = s.miller ∧
    (setCarter s x).dram = s.dram := by
  repeat' constructor

/-- The fields of the state after `setGraph`. -/
@[simp] theorem setGraph_fields (s : State) (x : Graph) :
    (setGraph s x).pending = s.pending ∧ (setGraph s x).fuse = s.fuse ∧ (setGraph s x).regs = s.regs ∧
    (setGraph s x).blobs = s.blobs ∧ (setGraph s x).staged = s.staged ∧ (setGraph s x).stagedBlobs = s.stagedBlobs ∧
    (setGraph s x).status = s.status ∧ (setGraph s x).out = s.out ∧ (setGraph s x).free = s.free ∧
    (setGraph s x).now = s.now ∧ (setGraph s x).tb = s.tb ∧ (setGraph s x).system = s.system ∧
    (setGraph s x).boot = s.boot ∧ (setGraph s x).epoch = s.epoch ∧ (setGraph s x).claims = s.claims ∧
    (setGraph s x).led = s.led ∧ (setGraph s x).hostq = s.hostq ∧ (setGraph s x).tinker = s.tinker ∧
    (setGraph s x).power = s.power ∧ (setGraph s x).radios = s.radios ∧ (setGraph s x).txReports = s.txReports ∧
    (setGraph s x).twin = s.twin ∧ (setGraph s x).lastRead = s.lastRead ∧ (setGraph s x).time = s.time ∧
    (setGraph s x).move = s.move ∧ (setGraph s x).watch = s.watch ∧ (setGraph s x).refSince = s.refSince ∧
    (setGraph s x).planClosed = s.planClosed ∧ (setGraph s x).steward = s.steward ∧ (setGraph s x).survey = s.survey ∧
    (setGraph s x).mac = s.mac ∧ (setGraph s x).ost = s.ost ∧ (setGraph s x).lock = s.lock ∧
    (setGraph s x).entering = s.entering ∧ (setGraph s x).carter = s.carter ∧ (setGraph s x).graph = x ∧
    (setGraph s x).rules = s.rules ∧ (setGraph s x).switch = s.switch ∧ (setGraph s x).miller = s.miller ∧
    (setGraph s x).dram = s.dram := by
  repeat' constructor

/-- The fields of the state after `setRules`. -/
@[simp] theorem setRules_fields (s : State) (x : Rules) :
    (setRules s x).pending = s.pending ∧ (setRules s x).fuse = s.fuse ∧ (setRules s x).regs = s.regs ∧
    (setRules s x).blobs = s.blobs ∧ (setRules s x).staged = s.staged ∧ (setRules s x).stagedBlobs = s.stagedBlobs ∧
    (setRules s x).status = s.status ∧ (setRules s x).out = s.out ∧ (setRules s x).free = s.free ∧
    (setRules s x).now = s.now ∧ (setRules s x).tb = s.tb ∧ (setRules s x).system = s.system ∧
    (setRules s x).boot = s.boot ∧ (setRules s x).epoch = s.epoch ∧ (setRules s x).claims = s.claims ∧
    (setRules s x).led = s.led ∧ (setRules s x).hostq = s.hostq ∧ (setRules s x).tinker = s.tinker ∧
    (setRules s x).power = s.power ∧ (setRules s x).radios = s.radios ∧ (setRules s x).txReports = s.txReports ∧
    (setRules s x).twin = s.twin ∧ (setRules s x).lastRead = s.lastRead ∧ (setRules s x).time = s.time ∧
    (setRules s x).move = s.move ∧ (setRules s x).watch = s.watch ∧ (setRules s x).refSince = s.refSince ∧
    (setRules s x).planClosed = s.planClosed ∧ (setRules s x).steward = s.steward ∧ (setRules s x).survey = s.survey ∧
    (setRules s x).mac = s.mac ∧ (setRules s x).ost = s.ost ∧ (setRules s x).lock = s.lock ∧
    (setRules s x).entering = s.entering ∧ (setRules s x).carter = s.carter ∧ (setRules s x).graph = s.graph ∧
    (setRules s x).rules = x ∧ (setRules s x).switch = s.switch ∧ (setRules s x).miller = s.miller ∧
    (setRules s x).dram = s.dram := by
  repeat' constructor

/-- The fields of the state after `setSwitch`. -/
@[simp] theorem setSwitch_fields (s : State) (x : Switch) :
    (setSwitch s x).pending = s.pending ∧ (setSwitch s x).fuse = s.fuse ∧ (setSwitch s x).regs = s.regs ∧
    (setSwitch s x).blobs = s.blobs ∧ (setSwitch s x).staged = s.staged ∧ (setSwitch s x).stagedBlobs = s.stagedBlobs ∧
    (setSwitch s x).status = s.status ∧ (setSwitch s x).out = s.out ∧ (setSwitch s x).free = s.free ∧
    (setSwitch s x).now = s.now ∧ (setSwitch s x).tb = s.tb ∧ (setSwitch s x).system = s.system ∧
    (setSwitch s x).boot = s.boot ∧ (setSwitch s x).epoch = s.epoch ∧ (setSwitch s x).claims = s.claims ∧
    (setSwitch s x).led = s.led ∧ (setSwitch s x).hostq = s.hostq ∧ (setSwitch s x).tinker = s.tinker ∧
    (setSwitch s x).power = s.power ∧ (setSwitch s x).radios = s.radios ∧ (setSwitch s x).txReports = s.txReports ∧
    (setSwitch s x).twin = s.twin ∧ (setSwitch s x).lastRead = s.lastRead ∧ (setSwitch s x).time = s.time ∧
    (setSwitch s x).move = s.move ∧ (setSwitch s x).watch = s.watch ∧ (setSwitch s x).refSince = s.refSince ∧
    (setSwitch s x).planClosed = s.planClosed ∧ (setSwitch s x).steward = s.steward ∧ (setSwitch s x).survey = s.survey ∧
    (setSwitch s x).mac = s.mac ∧ (setSwitch s x).ost = s.ost ∧ (setSwitch s x).lock = s.lock ∧
    (setSwitch s x).entering = s.entering ∧ (setSwitch s x).carter = s.carter ∧ (setSwitch s x).graph = s.graph ∧
    (setSwitch s x).rules = s.rules ∧ (setSwitch s x).switch = x ∧ (setSwitch s x).miller = s.miller ∧
    (setSwitch s x).dram = s.dram := by
  repeat' constructor

/-- The fields of the state after `setMiller`. -/
@[simp] theorem setMiller_fields (s : State) (x : Miller) :
    (setMiller s x).pending = s.pending ∧ (setMiller s x).fuse = s.fuse ∧ (setMiller s x).regs = s.regs ∧
    (setMiller s x).blobs = s.blobs ∧ (setMiller s x).staged = s.staged ∧ (setMiller s x).stagedBlobs = s.stagedBlobs ∧
    (setMiller s x).status = s.status ∧ (setMiller s x).out = s.out ∧ (setMiller s x).free = s.free ∧
    (setMiller s x).now = s.now ∧ (setMiller s x).tb = s.tb ∧ (setMiller s x).system = s.system ∧
    (setMiller s x).boot = s.boot ∧ (setMiller s x).epoch = s.epoch ∧ (setMiller s x).claims = s.claims ∧
    (setMiller s x).led = s.led ∧ (setMiller s x).hostq = s.hostq ∧ (setMiller s x).tinker = s.tinker ∧
    (setMiller s x).power = s.power ∧ (setMiller s x).radios = s.radios ∧ (setMiller s x).txReports = s.txReports ∧
    (setMiller s x).twin = s.twin ∧ (setMiller s x).lastRead = s.lastRead ∧ (setMiller s x).time = s.time ∧
    (setMiller s x).move = s.move ∧ (setMiller s x).watch = s.watch ∧ (setMiller s x).refSince = s.refSince ∧
    (setMiller s x).planClosed = s.planClosed ∧ (setMiller s x).steward = s.steward ∧ (setMiller s x).survey = s.survey ∧
    (setMiller s x).mac = s.mac ∧ (setMiller s x).ost = s.ost ∧ (setMiller s x).lock = s.lock ∧
    (setMiller s x).entering = s.entering ∧ (setMiller s x).carter = s.carter ∧ (setMiller s x).graph = s.graph ∧
    (setMiller s x).rules = s.rules ∧ (setMiller s x).switch = s.switch ∧ (setMiller s x).miller = x ∧
    (setMiller s x).dram = s.dram := by
  repeat' constructor

/-- The fields of the state after `setDram`. -/
@[simp] theorem setDram_fields (s : State) (x : Cellarer) :
    (setDram s x).pending = s.pending ∧ (setDram s x).fuse = s.fuse ∧ (setDram s x).regs = s.regs ∧
    (setDram s x).blobs = s.blobs ∧ (setDram s x).staged = s.staged ∧ (setDram s x).stagedBlobs = s.stagedBlobs ∧
    (setDram s x).status = s.status ∧ (setDram s x).out = s.out ∧ (setDram s x).free = s.free ∧ (setDram s x).now = s.now ∧
    (setDram s x).tb = s.tb ∧ (setDram s x).system = s.system ∧ (setDram s x).boot = s.boot ∧
    (setDram s x).epoch = s.epoch ∧ (setDram s x).claims = s.claims ∧ (setDram s x).led = s.led ∧
    (setDram s x).hostq = s.hostq ∧ (setDram s x).tinker = s.tinker ∧ (setDram s x).power = s.power ∧
    (setDram s x).radios = s.radios ∧ (setDram s x).txReports = s.txReports ∧ (setDram s x).twin = s.twin ∧
    (setDram s x).lastRead = s.lastRead ∧ (setDram s x).time = s.time ∧ (setDram s x).move = s.move ∧
    (setDram s x).watch = s.watch ∧ (setDram s x).refSince = s.refSince ∧ (setDram s x).planClosed = s.planClosed ∧
    (setDram s x).steward = s.steward ∧ (setDram s x).survey = s.survey ∧ (setDram s x).mac = s.mac ∧
    (setDram s x).ost = s.ost ∧ (setDram s x).lock = s.lock ∧ (setDram s x).entering = s.entering ∧
    (setDram s x).carter = s.carter ∧ (setDram s x).graph = s.graph ∧ (setDram s x).rules = s.rules ∧
    (setDram s x).switch = s.switch ∧ (setDram s x).miller = s.miller ∧ (setDram s x).dram = x := by
  repeat' constructor

/-- The fields of the state after `setTwin`. -/
@[simp] theorem setTwin_fields (s : State) (x : Twin) :
    (setTwin s x).pending = s.pending ∧ (setTwin s x).fuse = s.fuse ∧ (setTwin s x).regs = s.regs ∧
    (setTwin s x).blobs = s.blobs ∧ (setTwin s x).staged = s.staged ∧ (setTwin s x).stagedBlobs = s.stagedBlobs ∧
    (setTwin s x).status = s.status ∧ (setTwin s x).out = s.out ∧ (setTwin s x).free = s.free ∧ (setTwin s x).now = s.now ∧
    (setTwin s x).tb = s.tb ∧ (setTwin s x).system = s.system ∧ (setTwin s x).boot = s.boot ∧
    (setTwin s x).epoch = s.epoch ∧ (setTwin s x).claims = s.claims ∧ (setTwin s x).led = s.led ∧
    (setTwin s x).hostq = s.hostq ∧ (setTwin s x).tinker = s.tinker ∧ (setTwin s x).power = s.power ∧
    (setTwin s x).radios = s.radios ∧ (setTwin s x).txReports = s.txReports ∧ (setTwin s x).twin = x ∧
    (setTwin s x).lastRead = s.lastRead ∧ (setTwin s x).time = s.time ∧ (setTwin s x).move = s.move ∧
    (setTwin s x).watch = s.watch ∧ (setTwin s x).refSince = s.refSince ∧ (setTwin s x).planClosed = s.planClosed ∧
    (setTwin s x).steward = s.steward ∧ (setTwin s x).survey = s.survey ∧ (setTwin s x).mac = s.mac ∧
    (setTwin s x).ost = s.ost ∧ (setTwin s x).lock = s.lock ∧ (setTwin s x).entering = s.entering ∧
    (setTwin s x).carter = s.carter ∧ (setTwin s x).graph = s.graph ∧ (setTwin s x).rules = s.rules ∧
    (setTwin s x).switch = s.switch ∧ (setTwin s x).miller = s.miller ∧ (setTwin s x).dram = s.dram := by
  repeat' constructor

/-- The fields of the state after `setTinker`. -/
@[simp] theorem setTinker_fields (s : State) (x : Tinker) :
    (setTinker s x).pending = s.pending ∧ (setTinker s x).fuse = s.fuse ∧ (setTinker s x).regs = s.regs ∧
    (setTinker s x).blobs = s.blobs ∧ (setTinker s x).staged = s.staged ∧ (setTinker s x).stagedBlobs = s.stagedBlobs ∧
    (setTinker s x).status = s.status ∧ (setTinker s x).out = s.out ∧ (setTinker s x).free = s.free ∧
    (setTinker s x).now = s.now ∧ (setTinker s x).tb = s.tb ∧ (setTinker s x).system = s.system ∧
    (setTinker s x).boot = s.boot ∧ (setTinker s x).epoch = s.epoch ∧ (setTinker s x).claims = s.claims ∧
    (setTinker s x).led = s.led ∧ (setTinker s x).hostq = s.hostq ∧ (setTinker s x).tinker = x ∧
    (setTinker s x).power = s.power ∧ (setTinker s x).radios = s.radios ∧ (setTinker s x).txReports = s.txReports ∧
    (setTinker s x).twin = s.twin ∧ (setTinker s x).lastRead = s.lastRead ∧ (setTinker s x).time = s.time ∧
    (setTinker s x).move = s.move ∧ (setTinker s x).watch = s.watch ∧ (setTinker s x).refSince = s.refSince ∧
    (setTinker s x).planClosed = s.planClosed ∧ (setTinker s x).steward = s.steward ∧ (setTinker s x).survey = s.survey ∧
    (setTinker s x).mac = s.mac ∧ (setTinker s x).ost = s.ost ∧ (setTinker s x).lock = s.lock ∧
    (setTinker s x).entering = s.entering ∧ (setTinker s x).carter = s.carter ∧ (setTinker s x).graph = s.graph ∧
    (setTinker s x).rules = s.rules ∧ (setTinker s x).switch = s.switch ∧ (setTinker s x).miller = s.miller ∧
    (setTinker s x).dram = s.dram := by
  repeat' constructor

/-- The fields of the state after `setTime`. -/
@[simp] theorem setTime_fields (s : State) (x : TimeBase) :
    (setTime s x).pending = s.pending ∧ (setTime s x).fuse = s.fuse ∧ (setTime s x).regs = s.regs ∧
    (setTime s x).blobs = s.blobs ∧ (setTime s x).staged = s.staged ∧ (setTime s x).stagedBlobs = s.stagedBlobs ∧
    (setTime s x).status = s.status ∧ (setTime s x).out = s.out ∧ (setTime s x).free = s.free ∧ (setTime s x).now = s.now ∧
    (setTime s x).tb = s.tb ∧ (setTime s x).system = s.system ∧ (setTime s x).boot = s.boot ∧
    (setTime s x).epoch = s.epoch ∧ (setTime s x).claims = s.claims ∧ (setTime s x).led = s.led ∧
    (setTime s x).hostq = s.hostq ∧ (setTime s x).tinker = s.tinker ∧ (setTime s x).power = s.power ∧
    (setTime s x).radios = s.radios ∧ (setTime s x).txReports = s.txReports ∧ (setTime s x).twin = s.twin ∧
    (setTime s x).lastRead = s.lastRead ∧ (setTime s x).time = x ∧ (setTime s x).move = s.move ∧
    (setTime s x).watch = s.watch ∧ (setTime s x).refSince = s.refSince ∧ (setTime s x).planClosed = s.planClosed ∧
    (setTime s x).steward = s.steward ∧ (setTime s x).survey = s.survey ∧ (setTime s x).mac = s.mac ∧
    (setTime s x).ost = s.ost ∧ (setTime s x).lock = s.lock ∧ (setTime s x).entering = s.entering ∧
    (setTime s x).carter = s.carter ∧ (setTime s x).graph = s.graph ∧ (setTime s x).rules = s.rules ∧
    (setTime s x).switch = s.switch ∧ (setTime s x).miller = s.miller ∧ (setTime s x).dram = s.dram := by
  repeat' constructor

/-- The fields of the state after `setEpoch`. -/
@[simp] theorem setEpoch_fields (s : State) (x : Epoch) :
    (setEpoch s x).pending = s.pending ∧ (setEpoch s x).fuse = s.fuse ∧ (setEpoch s x).regs = s.regs ∧
    (setEpoch s x).blobs = s.blobs ∧ (setEpoch s x).staged = s.staged ∧ (setEpoch s x).stagedBlobs = s.stagedBlobs ∧
    (setEpoch s x).status = s.status ∧ (setEpoch s x).out = s.out ∧ (setEpoch s x).free = s.free ∧
    (setEpoch s x).now = s.now ∧ (setEpoch s x).tb = s.tb ∧ (setEpoch s x).system = s.system ∧
    (setEpoch s x).boot = s.boot ∧ (setEpoch s x).epoch = x ∧ (setEpoch s x).claims = s.claims ∧
    (setEpoch s x).led = s.led ∧ (setEpoch s x).hostq = s.hostq ∧ (setEpoch s x).tinker = s.tinker ∧
    (setEpoch s x).power = s.power ∧ (setEpoch s x).radios = s.radios ∧ (setEpoch s x).txReports = s.txReports ∧
    (setEpoch s x).twin = s.twin ∧ (setEpoch s x).lastRead = s.lastRead ∧ (setEpoch s x).time = s.time ∧
    (setEpoch s x).move = s.move ∧ (setEpoch s x).watch = s.watch ∧ (setEpoch s x).refSince = s.refSince ∧
    (setEpoch s x).planClosed = s.planClosed ∧ (setEpoch s x).steward = s.steward ∧ (setEpoch s x).survey = s.survey ∧
    (setEpoch s x).mac = s.mac ∧ (setEpoch s x).ost = s.ost ∧ (setEpoch s x).lock = s.lock ∧
    (setEpoch s x).entering = s.entering ∧ (setEpoch s x).carter = s.carter ∧ (setEpoch s x).graph = s.graph ∧
    (setEpoch s x).rules = s.rules ∧ (setEpoch s x).switch = s.switch ∧ (setEpoch s x).miller = s.miller ∧
    (setEpoch s x).dram = s.dram := by
  repeat' constructor

/-- The fields of the state after `setLed`. -/
@[simp] theorem setLed_fields (s : State) (x : Ledger) :
    (setLed s x).pending = s.pending ∧ (setLed s x).fuse = s.fuse ∧ (setLed s x).regs = s.regs ∧
    (setLed s x).blobs = s.blobs ∧ (setLed s x).staged = s.staged ∧ (setLed s x).stagedBlobs = s.stagedBlobs ∧
    (setLed s x).status = s.status ∧ (setLed s x).out = s.out ∧ (setLed s x).free = s.free ∧ (setLed s x).now = s.now ∧
    (setLed s x).tb = s.tb ∧ (setLed s x).system = s.system ∧ (setLed s x).boot = s.boot ∧ (setLed s x).epoch = s.epoch ∧
    (setLed s x).claims = s.claims ∧ (setLed s x).led = x ∧ (setLed s x).hostq = s.hostq ∧ (setLed s x).tinker = s.tinker ∧
    (setLed s x).power = s.power ∧ (setLed s x).radios = s.radios ∧ (setLed s x).txReports = s.txReports ∧
    (setLed s x).twin = s.twin ∧ (setLed s x).lastRead = s.lastRead ∧ (setLed s x).time = s.time ∧
    (setLed s x).move = s.move ∧ (setLed s x).watch = s.watch ∧ (setLed s x).refSince = s.refSince ∧
    (setLed s x).planClosed = s.planClosed ∧ (setLed s x).steward = s.steward ∧ (setLed s x).survey = s.survey ∧
    (setLed s x).mac = s.mac ∧ (setLed s x).ost = s.ost ∧ (setLed s x).lock = s.lock ∧ (setLed s x).entering = s.entering ∧
    (setLed s x).carter = s.carter ∧ (setLed s x).graph = s.graph ∧ (setLed s x).rules = s.rules ∧
    (setLed s x).switch = s.switch ∧ (setLed s x).miller = s.miller ∧ (setLed s x).dram = s.dram := by
  repeat' constructor

/-- The fields of the state after `setPowerState`. -/
@[simp] theorem setPowerState_fields (s : State) (x : Power) :
    (setPowerState s x).pending = s.pending ∧ (setPowerState s x).fuse = s.fuse ∧ (setPowerState s x).regs = s.regs ∧
    (setPowerState s x).blobs = s.blobs ∧ (setPowerState s x).staged = s.staged ∧
    (setPowerState s x).stagedBlobs = s.stagedBlobs ∧ (setPowerState s x).status = s.status ∧
    (setPowerState s x).out = s.out ∧ (setPowerState s x).free = s.free ∧ (setPowerState s x).now = s.now ∧
    (setPowerState s x).tb = s.tb ∧ (setPowerState s x).system = s.system ∧ (setPowerState s x).boot = s.boot ∧
    (setPowerState s x).epoch = s.epoch ∧ (setPowerState s x).claims = s.claims ∧ (setPowerState s x).led = s.led ∧
    (setPowerState s x).hostq = s.hostq ∧ (setPowerState s x).tinker = s.tinker ∧ (setPowerState s x).power = x ∧
    (setPowerState s x).radios = s.radios ∧ (setPowerState s x).txReports = s.txReports ∧
    (setPowerState s x).twin = s.twin ∧ (setPowerState s x).lastRead = s.lastRead ∧ (setPowerState s x).time = s.time ∧
    (setPowerState s x).move = s.move ∧ (setPowerState s x).watch = s.watch ∧ (setPowerState s x).refSince = s.refSince ∧
    (setPowerState s x).planClosed = s.planClosed ∧ (setPowerState s x).steward = s.steward ∧
    (setPowerState s x).survey = s.survey ∧ (setPowerState s x).mac = s.mac ∧ (setPowerState s x).ost = s.ost ∧
    (setPowerState s x).lock = s.lock ∧ (setPowerState s x).entering = s.entering ∧ (setPowerState s x).carter = s.carter ∧
    (setPowerState s x).graph = s.graph ∧ (setPowerState s x).rules = s.rules ∧ (setPowerState s x).switch = s.switch ∧
    (setPowerState s x).miller = s.miller ∧ (setPowerState s x).dram = s.dram := by
  repeat' constructor

/-- A register just set reads its value. -/
@[simp] theorem rd_wr_self (s : State) (k v : Nat) : rd (wr s k v) k = v := rd_of_look _ _ _ (by simp)

/-- What a register reads after another is set. -/
theorem rd_wr (s : State) (k v j : Nat) : rd (wr s k v) j = if j = k then v else rd s j := by
  simp only [rd_eq, wr_fields, Tab.look_put]; split <;> rfl

/-- Setting one register leaves the others. -/
theorem rd_wr_ne (s : State) (k v j : Nat) (h : j ≠ k) : rd (wr s k v) j = rd s j := by simp [rd_wr, h]

@[simp] theorem rd_wrB (s : State) (k : Nat) (v : Octets) (j : Nat) : rd (wrB s k v) j = rd s j := by
  simp [rd_eq]
@[simp] theorem rd_send (s : State) (o : Out) (j : Nat) : rd (send s o) j = rd s j := by
  simp [rd_eq]
@[simp] theorem rd_ret (s : State) (st : Status) (j : Nat) : rd (ret s st) j = rd s j := by
  simp [rd_eq]
@[simp] theorem rd_setRadio (s : State) (r : Nat) (x : Radio) (j : Nat) : rd (setRadio s r x) j = rd s j := by
  simp [rd_eq]
@[simp] theorem rd_setHq (s : State) (q : Nat) (x : HostQueue) (j : Nat) : rd (setHq s q x) j = rd s j := by
  simp [rd_eq]
@[simp] theorem rd_freeNext (s : State)  (j : Nat) : rd (freeNext s) j = rd s j := by
  simp [rd_eq]
@[simp] theorem rd_setMac (s : State) (x : Mac) (j : Nat) : rd (setMac s x) j = rd s j := by
  simp [rd_eq]
@[simp] theorem rd_setOst (s : State) (x : Ostler) (j : Nat) : rd (setOst s x) j = rd s j := by
  simp [rd_eq]
@[simp] theorem rd_setLock (s : State) (x : Locksmith) (j : Nat) : rd (setLock s x) j = rd s j := by
  simp [rd_eq]
@[simp] theorem rd_setCarter (s : State) (x : Carter) (j : Nat) : rd (setCarter s x) j = rd s j := by
  simp [rd_eq]
@[simp] theorem rd_setGraph (s : State) (x : Graph) (j : Nat) : rd (setGraph s x) j = rd s j := by
  simp [rd_eq]
@[simp] theorem rd_setRules (s : State) (x : Rules) (j : Nat) : rd (setRules s x) j = rd s j := by
  simp [rd_eq]
@[simp] theorem rd_setSwitch (s : State) (x : Switch) (j : Nat) : rd (setSwitch s x) j = rd s j := by
  simp [rd_eq]
@[simp] theorem rd_setMiller (s : State) (x : Miller) (j : Nat) : rd (setMiller s x) j = rd s j := by
  simp [rd_eq]
@[simp] theorem rd_setDram (s : State) (x : Cellarer) (j : Nat) : rd (setDram s x) j = rd s j := by
  simp [rd_eq]
@[simp] theorem rd_setTwin (s : State) (x : Twin) (j : Nat) : rd (setTwin s x) j = rd s j := by
  simp [rd_eq]
@[simp] theorem rd_setTinker (s : State) (x : Tinker) (j : Nat) : rd (setTinker s x) j = rd s j := by
  simp [rd_eq]
@[simp] theorem rd_setTime (s : State) (x : TimeBase) (j : Nat) : rd (setTime s x) j = rd s j := by
  simp [rd_eq]
@[simp] theorem rd_setEpoch (s : State) (x : Epoch) (j : Nat) : rd (setEpoch s x) j = rd s j := by
  simp [rd_eq]
@[simp] theorem rd_setLed (s : State) (x : Ledger) (j : Nat) : rd (setLed s x) j = rd s j := by
  simp [rd_eq]
@[simp] theorem rd_setPowerState (s : State) (x : Power) (j : Nat) : rd (setPowerState s x) j = rd s j := by
  simp [rd_eq]

end Sys2Proof.Machine
end

