-- ==== Sys2Proof/Laws/Operations.lean ====
section
/-! SUPPORT. One lemma for each shared operation that says once what it can do: the outcome of a command, counters, messages to the
Tinker, what the Varlan link sends, a command's checks. -/

namespace Sys2Proof.Machine

/-! ### The outcome of a command -/

/-- The state a command answers with: the effect's, with the queue, the fuses, the `system` field and real time as they were. -/
def sealed (s t : State) : State := { t with pending := s.pending, fuse := s.fuse, system := s.system, now := s.now }

/-- `done` answers the sealed state. -/
theorem done_eq (s t : State) : done s t = .next (sealed s t) := rfl

/-- A state that keeps those four parts is sealed already. -/
theorem sealed_of_kept (s t : State) (h1 : t.pending = s.pending) (h2 : t.fuse = s.fuse) (h3 : t.system = s.system)
    (h4 : t.now = s.now) : sealed s t = t := by
  simp [sealed, ← h1, ← h2, ← h3, ← h4]

/-- The fields of a sealed state. -/
@[simp] theorem sealed_fields (s t : State) :
    (sealed s t).pending = s.pending ∧ (sealed s t).fuse = s.fuse ∧ (sealed s t).regs = t.regs ∧
    (sealed s t).blobs = t.blobs ∧ (sealed s t).staged = t.staged ∧ (sealed s t).stagedBlobs = t.stagedBlobs ∧
    (sealed s t).status = t.status ∧ (sealed s t).out = t.out ∧ (sealed s t).free = t.free ∧ (sealed s t).now = s.now ∧
    (sealed s t).tb = t.tb ∧ (sealed s t).system = s.system ∧ (sealed s t).boot = t.boot ∧ (sealed s t).epoch = t.epoch ∧
    (sealed s t).claims = t.claims ∧ (sealed s t).led = t.led ∧ (sealed s t).hostq = t.hostq ∧
    (sealed s t).tinker = t.tinker ∧ (sealed s t).power = t.power ∧ (sealed s t).radios = t.radios ∧
    (sealed s t).txReports = t.txReports ∧ (sealed s t).twin = t.twin ∧ (sealed s t).lastRead = t.lastRead ∧
    (sealed s t).time = t.time ∧ (sealed s t).move = t.move ∧ (sealed s t).watch = t.watch ∧
    (sealed s t).refSince = t.refSince ∧ (sealed s t).planClosed = t.planClosed ∧ (sealed s t).steward = t.steward ∧
    (sealed s t).survey = t.survey ∧ (sealed s t).mac = t.mac ∧ (sealed s t).ost = t.ost ∧ (sealed s t).lock = t.lock ∧
    (sealed s t).entering = t.entering ∧ (sealed s t).carter = t.carter ∧ (sealed s t).graph = t.graph ∧
    (sealed s t).rules = t.rules ∧ (sealed s t).switch = t.switch ∧ (sealed s t).miller = t.miller ∧
    (sealed s t).dram = t.dram := by
  repeat' constructor

@[simp] theorem sealed_self (s : State) : sealed s s = s := rfl

/-- A register of a sealed state whose fuses and `system` field the effect kept. -/
@[simp] theorem rd_sealed (s t : State) (k : Nat) (h1 : t.fuse = s.fuse) (h2 : t.system = s.system) : rd (sealed s t) k = rd t k := by
  simp [rd_eq, h1, h2]

/-- What a register of a state written out field by field reads. -/
theorem rd_mk (vpending vfuse vregs vblobs vstaged vstagedBlobs vstatus vout vfree vnow vtb vsystem vboot vepoch vclaims vled vhostq vtinker vpower vradios vtxReports vtwin vlastRead vtime vmove vwatch vrefSince vplanClosed vsteward vsurvey vmac vost vlock ventering vcarter vgraph vrules vswitch vmiller vdram) (k : Nat) :
    rd (State.mk vpending vfuse vregs vblobs vstaged vstagedBlobs vstatus vout vfree vnow vtb vsystem vboot vepoch vclaims vled vhostq vtinker vpower vradios vtxReports vtwin vlastRead vtime vmove vwatch vrefSince vplanClosed vsteward vsurvey vmac vost vlock ventering vcarter vgraph vrules vswitch vmiller vdram) k =
      (vregs.look k).getD (defaultOf (defaultBase vfuse vboot.straps vsystem) k) := by
  rw [rd_eq]

/-- The same, folded back where the parts are those of one state. -/
theorem rd_fold (s : State) (k : Nat) :
    (s.regs.look k).getD (defaultOf (defaultBase s.fuse s.boot.straps s.system) k) = rd s k := (rd_eq s k).symm

/-- An effect on a working hub die. -/
theorem act_on (s : State) (op : State → State) (h : hubOn s = true) : act s op = .next (sealed s (op s)) := by
  simp [act, done_eq, h]

/-- An effect on a hub die that does not work changes nothing. -/
theorem act_off (s : State) (op : State → State) (h : hubOn s = false) : act s op = .next s := by
  simp [act, done_eq, h]

end Sys2Proof.Machine
end

