-- ==== Sys2Proof/Laws/Effects.lean ====
section
/-! SUPPORT. What the shared effects can do: counters, messages to the Tinker, what the Varlan link sends, and a command's checks. Each
lemma says it once, so that no later proof unfolds the operation. -/

namespace Sys2Proof.Machine

/-! ### Counters -/

/-- A counter raised reads its value raised and saturated. -/
@[simp] theorem rd_bumpBy_self (s : State) (k n : Nat) : rd (bumpBy s k n) k = min (rd s k + n) (topOf k) := by
  simp [bumpBy, satAdd]

/-- A counter raised leaves the others. -/
theorem rd_bumpBy (s : State) (k n j : Nat) : rd (bumpBy s k n) j = if j = k then min (rd s k + n) (topOf k) else rd s j := by
  simp [bumpBy, satAdd, rd_wr]

/-- The fields of the state after a counter is raised. -/
@[simp] theorem bumpBy_fields (s : State) (k n : Nat) :
    (bumpBy s k n).pending = s.pending ∧ (bumpBy s k n).fuse = s.fuse ∧ (bumpBy s k n).blobs = s.blobs ∧
    (bumpBy s k n).staged = s.staged ∧ (bumpBy s k n).stagedBlobs = s.stagedBlobs ∧ (bumpBy s k n).status = s.status ∧
    (bumpBy s k n).out = s.out ∧ (bumpBy s k n).free = s.free ∧ (bumpBy s k n).now = s.now ∧ (bumpBy s k n).tb = s.tb ∧
    (bumpBy s k n).system = s.system ∧ (bumpBy s k n).boot = s.boot ∧ (bumpBy s k n).epoch = s.epoch ∧
    (bumpBy s k n).claims = s.claims ∧ (bumpBy s k n).led = s.led ∧ (bumpBy s k n).hostq = s.hostq ∧
    (bumpBy s k n).tinker = s.tinker ∧ (bumpBy s k n).power = s.power ∧ (bumpBy s k n).radios = s.radios ∧
    (bumpBy s k n).txReports = s.txReports ∧ (bumpBy s k n).twin = s.twin ∧ (bumpBy s k n).lastRead = s.lastRead ∧
    (bumpBy s k n).time = s.time ∧ (bumpBy s k n).move = s.move ∧ (bumpBy s k n).watch = s.watch ∧
    (bumpBy s k n).refSince = s.refSince ∧ (bumpBy s k n).planClosed = s.planClosed ∧ (bumpBy s k n).steward = s.steward ∧
    (bumpBy s k n).survey = s.survey ∧ (bumpBy s k n).mac = s.mac ∧ (bumpBy s k n).ost = s.ost ∧
    (bumpBy s k n).lock = s.lock ∧ (bumpBy s k n).entering = s.entering ∧ (bumpBy s k n).carter = s.carter ∧
    (bumpBy s k n).graph = s.graph ∧ (bumpBy s k n).rules = s.rules ∧ (bumpBy s k n).switch = s.switch ∧
    (bumpBy s k n).miller = s.miller ∧ (bumpBy s k n).dram = s.dram := by
  repeat' constructor

/-- A counter raised by one reads its value raised and saturated. -/
@[simp] theorem rd_bump_self (s : State) (k : Nat) : rd (bump s k) k = min (rd s k + 1) (topOf k) := by simp [bump]

/-- A counter raised by one leaves the others. -/
theorem rd_bump (s : State) (k j : Nat) : rd (bump s k) j = if j = k then min (rd s k + 1) (topOf k) else rd s j := by
  simp [bump, rd_bumpBy]

/-- The fields of the state after a counter is raised by one. -/
@[simp] theorem bump_fields (s : State) (k : Nat) :
    (bump s k).pending = s.pending ∧ (bump s k).fuse = s.fuse ∧ (bump s k).blobs = s.blobs ∧ (bump s k).staged = s.staged ∧
    (bump s k).stagedBlobs = s.stagedBlobs ∧ (bump s k).status = s.status ∧ (bump s k).out = s.out ∧
    (bump s k).free = s.free ∧ (bump s k).now = s.now ∧ (bump s k).tb = s.tb ∧ (bump s k).system = s.system ∧
    (bump s k).boot = s.boot ∧ (bump s k).epoch = s.epoch ∧ (bump s k).claims = s.claims ∧ (bump s k).led = s.led ∧
    (bump s k).hostq = s.hostq ∧ (bump s k).tinker = s.tinker ∧ (bump s k).power = s.power ∧ (bump s k).radios = s.radios ∧
    (bump s k).txReports = s.txReports ∧ (bump s k).twin = s.twin ∧ (bump s k).lastRead = s.lastRead ∧
    (bump s k).time = s.time ∧ (bump s k).move = s.move ∧ (bump s k).watch = s.watch ∧ (bump s k).refSince = s.refSince ∧
    (bump s k).planClosed = s.planClosed ∧ (bump s k).steward = s.steward ∧ (bump s k).survey = s.survey ∧
    (bump s k).mac = s.mac ∧ (bump s k).ost = s.ost ∧ (bump s k).lock = s.lock ∧ (bump s k).entering = s.entering ∧
    (bump s k).carter = s.carter ∧ (bump s k).graph = s.graph ∧ (bump s k).rules = s.rules ∧ (bump s k).switch = s.switch ∧
    (bump s k).miller = s.miller ∧ (bump s k).dram = s.dram := by
  repeat' constructor

/-! ### Messages to the Tinker (R464, R466) -/

/-- A message put among those waiting is one of them. -/
theorem mem_insertMsg (m : FaultMsg) (l : List FaultMsg) : m ∈ insertMsg m l := by
  induction l with
  | nil => simp [insertMsg]
  | cons x t ih => unfold insertMsg; split <;> simp [ih]

/-- The fields that the collector leaves. -/
@[simp] theorem collect_fields (s : State) (m : FaultMsg) :
    (collect s m).pending = s.pending ∧ (collect s m).fuse = s.fuse ∧ (collect s m).blobs = s.blobs ∧
    (collect s m).staged = s.staged ∧ (collect s m).stagedBlobs = s.stagedBlobs ∧ (collect s m).status = s.status ∧
    (collect s m).out = s.out ∧ (collect s m).free = s.free ∧ (collect s m).now = s.now ∧ (collect s m).tb = s.tb ∧
    (collect s m).system = s.system ∧ (collect s m).boot = s.boot ∧ (collect s m).epoch = s.epoch ∧
    (collect s m).claims = s.claims ∧ (collect s m).led = s.led ∧ (collect s m).hostq = s.hostq ∧
    (collect s m).power = s.power ∧ (collect s m).radios = s.radios ∧ (collect s m).txReports = s.txReports ∧
    (collect s m).twin = s.twin ∧ (collect s m).lastRead = s.lastRead ∧ (collect s m).time = s.time ∧
    (collect s m).move = s.move ∧ (collect s m).watch = s.watch ∧ (collect s m).refSince = s.refSince ∧
    (collect s m).planClosed = s.planClosed ∧ (collect s m).steward = s.steward ∧ (collect s m).survey = s.survey ∧
    (collect s m).mac = s.mac ∧ (collect s m).ost = s.ost ∧ (collect s m).lock = s.lock ∧
    (collect s m).entering = s.entering ∧ (collect s m).carter = s.carter ∧ (collect s m).graph = s.graph ∧
    (collect s m).rules = s.rules ∧ (collect s m).switch = s.switch ∧ (collect s m).miller = s.miller ∧
    (collect s m).dram = s.dram := by
  unfold collect
  dsimp only
  split
  · repeat' constructor
  · split <;> repeat' constructor

/-- The collector writes no register but the count of lost messages. -/
theorem rd_collect (s : State) (m : FaultMsg) (k : Nat) (h : k ≠ O.msgs_dropped) : rd (collect s m) k = rd s k := by
  unfold collect
  dsimp only
  split
  · simp [rd_eq]
  · split
    · simp [rd_eq]
    · rw [rd_bump, if_neg h]; simp [rd_eq]

/-- The collector leaves the sequence numbers. -/
@[simp] theorem collect_seqs (s : State) (m : FaultMsg) : (collect s m).tinker.seqs = s.tinker.seqs := by
  unfold collect
  dsimp only
  split
  · rfl
  · split <;> rfl

/-- A message collected waits, or is counted among the lost. -/
theorem collect_raised (s : State) (m : FaultMsg) :
    (∃ x ∈ (collect s m).tinker.queue, x.kind = m.kind ∧ x.source = m.source) ∨ (collect s m).tinker.fullOwed = true := by
  unfold collect
  dsimp only
  split
  · left
    exact ⟨{ m with since := s.now }, by simp [mem_insertMsg], rfl, rfl⟩
  · split
    · left
      exact ⟨{ m with since := s.now }, by simp [mem_insertMsg], rfl, rfl⟩
    · right; rfl

/-- The fields that a report leaves. -/
@[simp] theorem reportWith_fields (s : State) (k v d h a : Nat) :
    (reportWith s k v d h a).pending = s.pending ∧ (reportWith s k v d h a).fuse = s.fuse ∧
    (reportWith s k v d h a).blobs = s.blobs ∧ (reportWith s k v d h a).staged = s.staged ∧
    (reportWith s k v d h a).stagedBlobs = s.stagedBlobs ∧ (reportWith s k v d h a).status = s.status ∧
    (reportWith s k v d h a).out = s.out ∧ (reportWith s k v d h a).free = s.free ∧ (reportWith s k v d h a).now = s.now ∧
    (reportWith s k v d h a).tb = s.tb ∧ (reportWith s k v d h a).system = s.system ∧
    (reportWith s k v d h a).boot = s.boot ∧ (reportWith s k v d h a).epoch = s.epoch ∧
    (reportWith s k v d h a).claims = s.claims ∧ (reportWith s k v d h a).led = s.led ∧
    (reportWith s k v d h a).hostq = s.hostq ∧ (reportWith s k v d h a).power = s.power ∧
    (reportWith s k v d h a).radios = s.radios ∧ (reportWith s k v d h a).txReports = s.txReports ∧
    (reportWith s k v d h a).twin = s.twin ∧ (reportWith s k v d h a).lastRead = s.lastRead ∧
    (reportWith s k v d h a).time = s.time ∧ (reportWith s k v d h a).move = s.move ∧
    (reportWith s k v d h a).watch = s.watch ∧ (reportWith s k v d h a).refSince = s.refSince ∧
    (reportWith s k v d h a).planClosed = s.planClosed ∧ (reportWith s k v d h a).steward = s.steward ∧
    (reportWith s k v d h a).survey = s.survey ∧ (reportWith s k v d h a).mac = s.mac ∧
    (reportWith s k v d h a).ost = s.ost ∧ (reportWith s k v d h a).lock = s.lock ∧
    (reportWith s k v d h a).entering = s.entering ∧ (reportWith s k v d h a).carter = s.carter ∧
    (reportWith s k v d h a).graph = s.graph ∧ (reportWith s k v d h a).rules = s.rules ∧
    (reportWith s k v d h a).switch = s.switch ∧ (reportWith s k v d h a).miller = s.miller ∧
    (reportWith s k v d h a).dram = s.dram := by
  unfold reportWith
  simp

/-- A report writes no register but the count of lost messages. -/
theorem rd_reportWith (s : State) (k v d h a j : Nat) (hj : j ≠ O.msgs_dropped) : rd (reportWith s k v d h a) j = rd s j := by
  unfold reportWith
  rw [rd_collect _ _ _ hj]; simp [rd_eq]

/-- A report raises its message. -/
theorem reportWith_raised (s : State) (k v d h a : Nat) : Raised s (reportWith s k v d h a) k h := by
  refine ⟨?_, ?_⟩
  · simp [reportWith, nextSequence]
  · exact collect_raised _ _

/-- The fields that a report leaves. -/
@[simp] theorem report_fields (s : State) (k h a : Nat) :
    (report s k h a).pending = s.pending ∧ (report s k h a).fuse = s.fuse ∧ (report s k h a).blobs = s.blobs ∧
    (report s k h a).staged = s.staged ∧ (report s k h a).stagedBlobs = s.stagedBlobs ∧
    (report s k h a).status = s.status ∧ (report s k h a).out = s.out ∧ (report s k h a).free = s.free ∧
    (report s k h a).now = s.now ∧ (report s k h a).tb = s.tb ∧ (report s k h a).system = s.system ∧
    (report s k h a).boot = s.boot ∧ (report s k h a).epoch = s.epoch ∧ (report s k h a).claims = s.claims ∧
    (report s k h a).led = s.led ∧ (report s k h a).hostq = s.hostq ∧ (report s k h a).power = s.power ∧
    (report s k h a).radios = s.radios ∧ (report s k h a).txReports = s.txReports ∧ (report s k h a).twin = s.twin ∧
    (report s k h a).lastRead = s.lastRead ∧ (report s k h a).time = s.time ∧ (report s k h a).move = s.move ∧
    (report s k h a).watch = s.watch ∧ (report s k h a).refSince = s.refSince ∧
    (report s k h a).planClosed = s.planClosed ∧ (report s k h a).steward = s.steward ∧
    (report s k h a).survey = s.survey ∧ (report s k h a).mac = s.mac ∧ (report s k h a).ost = s.ost ∧
    (report s k h a).lock = s.lock ∧ (report s k h a).entering = s.entering ∧ (report s k h a).carter = s.carter ∧
    (report s k h a).graph = s.graph ∧ (report s k h a).rules = s.rules ∧ (report s k h a).switch = s.switch ∧
    (report s k h a).miller = s.miller ∧ (report s k h a).dram = s.dram := by
  unfold report
  simp

/-- A report writes no register but the count of lost messages. -/
theorem rd_report (s : State) (k h a j : Nat) (hj : j ≠ O.msgs_dropped) : rd (report s k h a) j = rd s j := rd_reportWith s _ _ _ _ _ j hj

/-- A report raises its message. -/
theorem report_raised (s : State) (k h a : Nat) : Raised s (report s k h a) k h := reportWith_raised s _ _ _ _ _

/-- What is raised depends on the Tinker's part of the state alone. -/
theorem Raised.congr {s t : State} {k h : Nat} (s' t' : State) (r : Raised s t k h) (hs : s'.tinker = s.tinker) (ht : t'.tinker = t.tinker) :
    Raised s' t' k h := by
  unfold Raised at *; rw [hs, ht]; exact r

/-- A report raises its message from any state with the same Tinker. -/
@[simp] theorem raised_report (s u : State) (k h a : Nat) (hu : u.tinker = s.tinker) : Raised s (report u k h a) k h :=
  Raised.congr s _ (report_raised u k h a) hu.symm rfl

/-- The same for a message with a severity of its own. -/
@[simp] theorem raised_reportWith (s u : State) (k v d h a : Nat) (hu : u.tinker = s.tinker) : Raised s (reportWith u k v d h a) k h :=
  Raised.congr s _ (reportWith_raised u k v d h a) hu.symm rfl

/-- Sealing a state keeps what was raised. -/
@[simp] theorem raised_sealed (s u t : State) (k h : Nat) : Raised s (sealed u t) k h ↔ Raised s t k h := Iff.rfl

/-- Setting a register keeps what was raised. -/
@[simp] theorem raised_wr (s t : State) (i v k h : Nat) : Raised s (wr t i v) k h ↔ Raised s t k h := Iff.rfl

/-- Raising a counter keeps what was raised. -/
@[simp] theorem raised_bump (s t : State) (i k h : Nat) : Raised s (bump t i) k h ↔ Raised s t k h := Iff.rfl

/-! ### The Varlan link (R186 to R192) -/

/-- The fields that a Varlan message sent leaves. -/
@[simp] theorem varlanSend_fields (s : State) (c : Nat) (m : VMsg) :
    (varlanSend s c m).pending = s.pending ∧ (varlanSend s c m).fuse = s.fuse ∧ (varlanSend s c m).regs = s.regs ∧
    (varlanSend s c m).blobs = s.blobs ∧ (varlanSend s c m).staged = s.staged ∧
    (varlanSend s c m).stagedBlobs = s.stagedBlobs ∧ (varlanSend s c m).status = s.status ∧
    (varlanSend s c m).free = s.free ∧ (varlanSend s c m).now = s.now ∧ (varlanSend s c m).tb = s.tb ∧
    (varlanSend s c m).system = s.system ∧ (varlanSend s c m).boot = s.boot ∧ (varlanSend s c m).epoch = s.epoch ∧
    (varlanSend s c m).claims = s.claims ∧ (varlanSend s c m).led = s.led ∧ (varlanSend s c m).hostq = s.hostq ∧
    (varlanSend s c m).tinker = s.tinker ∧ (varlanSend s c m).power = s.power ∧ (varlanSend s c m).radios = s.radios ∧
    (varlanSend s c m).txReports = s.txReports ∧ (varlanSend s c m).lastRead = s.lastRead ∧
    (varlanSend s c m).time = s.time ∧ (varlanSend s c m).move = s.move ∧ (varlanSend s c m).watch = s.watch ∧
    (varlanSend s c m).refSince = s.refSince ∧ (varlanSend s c m).planClosed = s.planClosed ∧
    (varlanSend s c m).steward = s.steward ∧ (varlanSend s c m).survey = s.survey ∧ (varlanSend s c m).mac = s.mac ∧
    (varlanSend s c m).ost = s.ost ∧ (varlanSend s c m).lock = s.lock ∧ (varlanSend s c m).entering = s.entering ∧
    (varlanSend s c m).carter = s.carter ∧ (varlanSend s c m).graph = s.graph ∧ (varlanSend s c m).rules = s.rules ∧
    (varlanSend s c m).switch = s.switch ∧ (varlanSend s c m).miller = s.miller ∧ (varlanSend s c m).dram = s.dram := by
  unfold varlanSend
  split
  · repeat' constructor
  · repeat' constructor

/-- A Varlan message sent leaves every register. -/
@[simp] theorem rd_varlanSend (s : State) (c : Nat) (m : VMsg) (k : Nat) : rd (varlanSend s c m) k = rd s k := by simp [rd_eq]

/-- A message leaves on the Varlan link while a lane is up and `boot_count` has not saturated (R186, R189). -/
theorem varlanSend_out (s : State) (c : Nat) (m : VMsg) (h1 : lanesUp s ≠ 0) (h2 : rd s O.boot_count ≠ 0xFFFF) :
    (varlanSend s c m).out = s.out ++ [.varlan c (s.twin.tx.getD c 0 + 1) m] := by
  simp [varlanSend, h1, h2]

/-- The fields that a forwarded write leaves. -/
@[simp] theorem forwardWrite_fields (s : State) (k v : Nat) (o : Octets) (b : Bool) :
    (forwardWrite s k v o b).pending = s.pending ∧ (forwardWrite s k v o b).fuse = s.fuse ∧
    (forwardWrite s k v o b).regs = s.regs ∧ (forwardWrite s k v o b).blobs = s.blobs ∧
    (forwardWrite s k v o b).staged = s.staged ∧ (forwardWrite s k v o b).stagedBlobs = s.stagedBlobs ∧
    (forwardWrite s k v o b).status = s.status ∧ (forwardWrite s k v o b).free = s.free ∧
    (forwardWrite s k v o b).now = s.now ∧ (forwardWrite s k v o b).tb = s.tb ∧
    (forwardWrite s k v o b).system = s.system ∧ (forwardWrite s k v o b).boot = s.boot ∧
    (forwardWrite s k v o b).epoch = s.epoch ∧ (forwardWrite s k v o b).claims = s.claims ∧
    (forwardWrite s k v o b).led = s.led ∧ (forwardWrite s k v o b).hostq = s.hostq ∧
    (forwardWrite s k v o b).tinker = s.tinker ∧ (forwardWrite s k v o b).power = s.power ∧
    (forwardWrite s k v o b).radios = s.radios ∧ (forwardWrite s k v o b).txReports = s.txReports ∧
    (forwardWrite s k v o b).lastRead = s.lastRead ∧ (forwardWrite s k v o b).time = s.time ∧
    (forwardWrite s k v o b).move = s.move ∧ (forwardWrite s k v o b).watch = s.watch ∧
    (forwardWrite s k v o b).refSince = s.refSince ∧ (forwardWrite s k v o b).planClosed = s.planClosed ∧
    (forwardWrite s k v o b).steward = s.steward ∧ (forwardWrite s k v o b).survey = s.survey ∧
    (forwardWrite s k v o b).mac = s.mac ∧ (forwardWrite s k v o b).ost = s.ost ∧ (forwardWrite s k v o b).lock = s.lock ∧
    (forwardWrite s k v o b).entering = s.entering ∧ (forwardWrite s k v o b).carter = s.carter ∧
    (forwardWrite s k v o b).graph = s.graph ∧ (forwardWrite s k v o b).rules = s.rules ∧
    (forwardWrite s k v o b).switch = s.switch ∧ (forwardWrite s k v o b).miller = s.miller ∧
    (forwardWrite s k v o b).dram = s.dram := by
  unfold forwardWrite
  split
  · simp
  · repeat' constructor

/-- The fields that a forwarded command leaves. -/
@[simp] theorem forwardCommand_fields (s : State) (k : Nat) (o : Octets) :
    (forwardCommand s k o).pending = s.pending ∧ (forwardCommand s k o).fuse = s.fuse ∧
    (forwardCommand s k o).regs = s.regs ∧ (forwardCommand s k o).blobs = s.blobs ∧
    (forwardCommand s k o).staged = s.staged ∧ (forwardCommand s k o).stagedBlobs = s.stagedBlobs ∧
    (forwardCommand s k o).status = s.status ∧ (forwardCommand s k o).free = s.free ∧ (forwardCommand s k o).now = s.now ∧
    (forwardCommand s k o).tb = s.tb ∧ (forwardCommand s k o).system = s.system ∧ (forwardCommand s k o).boot = s.boot ∧
    (forwardCommand s k o).epoch = s.epoch ∧ (forwardCommand s k o).claims = s.claims ∧
    (forwardCommand s k o).led = s.led ∧ (forwardCommand s k o).hostq = s.hostq ∧
    (forwardCommand s k o).tinker = s.tinker ∧ (forwardCommand s k o).power = s.power ∧
    (forwardCommand s k o).radios = s.radios ∧ (forwardCommand s k o).txReports = s.txReports ∧
    (forwardCommand s k o).lastRead = s.lastRead ∧ (forwardCommand s k o).time = s.time ∧
    (forwardCommand s k o).move = s.move ∧ (forwardCommand s k o).watch = s.watch ∧
    (forwardCommand s k o).refSince = s.refSince ∧ (forwardCommand s k o).planClosed = s.planClosed ∧
    (forwardCommand s k o).steward = s.steward ∧ (forwardCommand s k o).survey = s.survey ∧
    (forwardCommand s k o).mac = s.mac ∧ (forwardCommand s k o).ost = s.ost ∧ (forwardCommand s k o).lock = s.lock ∧
    (forwardCommand s k o).entering = s.entering ∧ (forwardCommand s k o).carter = s.carter ∧
    (forwardCommand s k o).graph = s.graph ∧ (forwardCommand s k o).rules = s.rules ∧
    (forwardCommand s k o).switch = s.switch ∧ (forwardCommand s k o).miller = s.miller ∧
    (forwardCommand s k o).dram = s.dram := by
  unfold forwardCommand
  split
  · simp
  · repeat' constructor

/-- A forwarded command leaves every register. -/
@[simp] theorem rd_forwardCommand (s : State) (k : Nat) (o : Octets) (j : Nat) : rd (forwardCommand s k o) j = rd s j := by simp [rd_eq]

/-! ### A command written to its object (R40, R192, R534) -/

/-- The state that a command written to its object leaves. -/
def commanded (k : Nat) (o : Octets) (r : Status × State) : State :=
  ret (if accepted r.1 then forwardCommand r.2 k o else r.2) r.1

/-- A value that reaches its object has the effect of its command. -/
theorem commandWith_reaches (s : State) (k : Nat) (o : Octets) (op : State → Status × State) (h : Reaches s k) :
    commandWith s k o op = commanded k o (op s) := by
  obtain ⟨-, h1, h2, h3⟩ := h
  simp [commandWith, commanded, h1, h2, h3]

/-- The same for a value given as a number. -/
theorem command_reaches (s : State) (k v : Nat) (op : State → Status × State) (h : Reaches s k) :
    command s k v op = commanded k (valueOctets k v) (op s) := commandWith_reaches s k _ op h

/-- A command leaves its status. -/
@[simp] theorem commanded_status (k : Nat) (o : Octets) (r : Status × State) : (commanded k o r).status = r.1 := by
  simp [commanded]

/-- The registers are those its effect leaves. -/
@[simp] theorem rd_commanded (k : Nat) (o : Octets) (r : Status × State) (j : Nat) : rd (commanded k o r) j = rd r.2 j := by
  unfold commanded; split <;> simp

/-- The fields that its effect leaves. -/
@[simp] theorem commanded_fields (k : Nat) (o : Octets) (r : Status × State) :
    (commanded k o r).pending = r.2.pending ∧ (commanded k o r).fuse = r.2.fuse ∧ (commanded k o r).regs = r.2.regs ∧
    (commanded k o r).blobs = r.2.blobs ∧ (commanded k o r).staged = r.2.staged ∧
    (commanded k o r).stagedBlobs = r.2.stagedBlobs ∧ (commanded k o r).free = r.2.free ∧
    (commanded k o r).now = r.2.now ∧ (commanded k o r).tb = r.2.tb ∧ (commanded k o r).system = r.2.system ∧
    (commanded k o r).boot = r.2.boot ∧ (commanded k o r).epoch = r.2.epoch ∧ (commanded k o r).claims = r.2.claims ∧
    (commanded k o r).led = r.2.led ∧ (commanded k o r).hostq = r.2.hostq ∧ (commanded k o r).tinker = r.2.tinker ∧
    (commanded k o r).power = r.2.power ∧ (commanded k o r).radios = r.2.radios ∧
    (commanded k o r).txReports = r.2.txReports ∧ (commanded k o r).lastRead = r.2.lastRead ∧
    (commanded k o r).time = r.2.time ∧ (commanded k o r).move = r.2.move ∧ (commanded k o r).watch = r.2.watch ∧
    (commanded k o r).refSince = r.2.refSince ∧ (commanded k o r).planClosed = r.2.planClosed ∧
    (commanded k o r).steward = r.2.steward ∧ (commanded k o r).survey = r.2.survey ∧
    (commanded k o r).mac = r.2.mac ∧ (commanded k o r).ost = r.2.ost ∧ (commanded k o r).lock = r.2.lock ∧
    (commanded k o r).entering = r.2.entering ∧ (commanded k o r).carter = r.2.carter ∧
    (commanded k o r).graph = r.2.graph ∧ (commanded k o r).rules = r.2.rules ∧
    (commanded k o r).switch = r.2.switch ∧ (commanded k o r).miller = r.2.miller ∧ (commanded k o r).dram = r.2.dram := by
  unfold commanded; split <;> simp

/-! ### A Varlan message heard (R188) -/

/-- The state once a message is accepted: its counter is the highest of its class and boot. -/
def heardState (s : State) (c : Nat) (v : VHead) : State :=
  { s with twin := { s.twin with rx := { s.twin.rx with boot := v.boot, counts := s.twin.rx.counts.put (v.boot * 8 + c) v.count } } }

/-- A message that passes its tag and counter has its effect. -/
theorem onMessage_heard (s : State) (c : Nat) (v : VHead) (op : State → State) (h : Heard s c v) :
    onMessage s c v op = op (heardState s c v) := by
  obtain ⟨-, h1, h2, h3⟩ := h
  simp [onMessage, varlanAccept, heardState, h1, h2, Nat.not_le.mpr h3]

/-- A message heard leaves every register. -/
@[simp] theorem rd_heardState (s : State) (c : Nat) (v : VHead) (k : Nat) : rd (heardState s c v) k = rd s k := by simp [heardState, rd_eq]

/-- The fields that a message heard leaves. -/
@[simp] theorem heardState_fields (s : State) (c : Nat) (v : VHead) :
    (heardState s c v).pending = s.pending ∧ (heardState s c v).fuse = s.fuse ∧ (heardState s c v).regs = s.regs ∧
    (heardState s c v).blobs = s.blobs ∧ (heardState s c v).staged = s.staged ∧
    (heardState s c v).stagedBlobs = s.stagedBlobs ∧ (heardState s c v).status = s.status ∧
    (heardState s c v).out = s.out ∧ (heardState s c v).free = s.free ∧ (heardState s c v).now = s.now ∧
    (heardState s c v).tb = s.tb ∧ (heardState s c v).system = s.system ∧ (heardState s c v).boot = s.boot ∧
    (heardState s c v).epoch = s.epoch ∧ (heardState s c v).claims = s.claims ∧ (heardState s c v).led = s.led ∧
    (heardState s c v).hostq = s.hostq ∧ (heardState s c v).tinker = s.tinker ∧ (heardState s c v).power = s.power ∧
    (heardState s c v).radios = s.radios ∧ (heardState s c v).txReports = s.txReports ∧
    (heardState s c v).lastRead = s.lastRead ∧ (heardState s c v).time = s.time ∧ (heardState s c v).move = s.move ∧
    (heardState s c v).watch = s.watch ∧ (heardState s c v).refSince = s.refSince ∧
    (heardState s c v).planClosed = s.planClosed ∧ (heardState s c v).steward = s.steward ∧
    (heardState s c v).survey = s.survey ∧ (heardState s c v).mac = s.mac ∧ (heardState s c v).ost = s.ost ∧
    (heardState s c v).lock = s.lock ∧ (heardState s c v).entering = s.entering ∧ (heardState s c v).carter = s.carter ∧
    (heardState s c v).graph = s.graph ∧ (heardState s c v).rules = s.rules ∧ (heardState s c v).switch = s.switch ∧
    (heardState s c v).miller = s.miller ∧ (heardState s c v).dram = s.dram := by
  repeat' constructor

end Sys2Proof.Machine
end

