-- ==== Sys2Proof/Laws/Modes.lean ====
section
/-! SUPPORT. What a change of the package mode can do: of all that follows it (clocks, radios, the DRAM, maintenance, pairing), nothing sets the mode
again, and the fuses, the boot sequence and the `system` field stay. -/

namespace Sys2Proof.Machine

/-- The package mode, the fuses, the boot sequence and the `system` field are kept. -/
def ModeKept (s t : State) : Prop := t.fuse = s.fuse ∧ t.boot = s.boot ∧ t.system = s.system ∧ packageMode t = packageMode s

theorem ModeKept.refl (s : State) : ModeKept s s := ⟨rfl, rfl, rfl, rfl⟩

theorem ModeKept.trans {s t u : State} (h : ModeKept s t) (g : ModeKept t u) : ModeKept s u :=
  ⟨g.1.trans h.1, g.2.1.trans h.2.1, g.2.2.1.trans h.2.2.1, g.2.2.2.trans h.2.2.2⟩

/-- A state that keeps the registers and those parts keeps the mode. -/
theorem ModeKept.fields {s t : State} (h1 : t.regs = s.regs) (h2 : t.fuse = s.fuse) (h3 : t.boot = s.boot) (h4 : t.system = s.system) :
    ModeKept s t := ⟨h2, h3, h4, rd_congr s t _ (by rw [h1]) h2 (by rw [h3]) h4⟩

/-- A step that keeps the mode keeps it over a list. -/
theorem ModeKept.foldl {α : Type} (f : State → α → State) (h : ∀ s a, ModeKept s (f s a)) (l : List α) (s : State) :
    ModeKept s (l.foldl f s) := by
  induction l generalizing s with
  | nil => exact .refl s
  | cons a l ih => exact (h s a).trans (ih _)

theorem modeKept_wr (s : State) (k v : Nat) (h : O.package_mode ≠ k) : ModeKept s (wr s k v) :=
  ⟨rfl, rfl, rfl, rd_wr_ne s k v _ h⟩

theorem modeKept_bump (s : State) (k : Nat) (h : O.package_mode ≠ k) : ModeKept s (bump s k) := modeKept_wr s k _ h

theorem modeKept_bumpBy (s : State) (k n : Nat) (h : O.package_mode ≠ k) : ModeKept s (bumpBy s k n) := modeKept_wr s k _ h

theorem modeKept_setRadio (s : State) (r : Nat) (x : Radio) : ModeKept s (setRadio s r x) := .fields rfl rfl rfl rfl

theorem modeKept_send (s : State) (o : Out) : ModeKept s (send s o) := .fields rfl rfl rfl rfl

theorem modeKept_varlanSend (s : State) (c : Nat) (m : VMsg) : ModeKept s (varlanSend s c m) := .fields (by simp) (by simp) (by simp) (by simp)

theorem modeKept_report (s : State) (k h a : Nat) : ModeKept s (report s k h a) :=
  ⟨by simp, by simp, by simp, rd_report s k h a _ (by decide)⟩

theorem modeKept_setRState (s : State) (r v : Nat) : ModeKept s (setRState s r v) := by
  unfold setRState
  refine ModeKept.trans (modeKept_setRadio s r _) (modeKept_wr _ _ _ ?_)
  simp only [O.radio_state, O.package_mode, objKey]
  omega

theorem modeKept_setLocked (s : State) (r : Nat) (b : Bool) : ModeKept s (setLocked s r b) := by
  unfold setLocked setFlag
  refine modeKept_wr s _ _ ?_
  simp only [O.synth_locked, O.package_mode, objKey]
  omega

/-! ### Radios -/

theorem modeKept_follow (s : State) (r : Nat) : ModeKept s (follow s r) := by
  have h1 : ∀ x v b, ModeKept s (setLocked (setRState (setRadio s r x) r v) r b) := fun x v b =>
    ((modeKept_setRadio s r x).trans (modeKept_setRState _ r v)).trans (modeKept_setLocked _ r b)
  have h2 : ∀ x v, ModeKept s (setRState (setRadio s r x) r v) := fun x v =>
    (modeKept_setRadio s r x).trans (modeKept_setRState _ r v)
  unfold follow
  extract_lets t st x
  split
  · exact .refl s
  split
  · exact modeKept_setRadio s r _
  split
  · split
    · exact .refl s
    · exact h1 _ _ _
  split
  · split
    · exact modeKept_setRadio s r _
    · exact h1 _ _ _
  split
  · exact h2 _ _
  split
  · split
    · exact .refl s
    · exact h1 _ _ _
  split
  · exact modeKept_setRState s r _
  · exact .refl s

theorem modeKept_followAll (s : State) : ModeKept s (followAll s) :=
  ((modeKept_follow s 0).trans (modeKept_follow _ 1)).trans (modeKept_follow _ 2)

theorem modeKept_ppduOver (s : State) (r : Nat) : ModeKept s (ppduOver s r) := by
  unfold ppduOver
  dsimp only
  have h := (modeKept_setRadio s r { radio s r with onAir := none, afterPpdu := none, readyAt := s.now + 4000 }).trans (modeKept_setRState _ r 4)
  split
  · exact ((h.trans (modeKept_setRState _ r 3)).trans (modeKept_setLocked _ r _)).trans (modeKept_follow _ r)
  · exact h.trans (modeKept_follow _ r)

theorem modeKept_cutPpdu (s : State) (r : Nat) : ModeKept s (cutPpdu s r) := by
  unfold cutPpdu
  split
  · exact (modeKept_setRadio s r _).trans (modeKept_send _ _)
  · exact .refl s

theorem modeKept_muteRadio (s : State) (r : Nat) : ModeKept s (muteRadio s r) := by
  unfold muteRadio
  split
  · exact (modeKept_cutPpdu s r).trans (modeKept_ppduOver _ r)
  · exact .refl s

/-! ### Clocks and the DRAM -/

theorem modeKept_setClk (s : State) (d v : Nat) : ModeKept s (setClk s d v) := by
  unfold setClk
  exact (modeKept_wr s _ _ (by simp only [O.clk_state, O.package_mode, objKey]; omega)).trans
    (modeKept_wr _ _ _ (by simp only [O.clk_rate, O.package_mode, objKey]; omega))

theorem modeKept_retime (s : State) : ModeKept s (retime s) := by
  refine ModeKept.foldl _ (fun t d => ?_) _ s
  unfold retimeOne
  dsimp only
  repeat' split
  all_goals first | exact .refl t | exact modeKept_setClk t d _

theorem modeKept_retrainStop (s : State) : ModeKept s (retrainStop s) := by
  unfold retrainStop
  split
  · exact (modeKept_wr s _ _ (by decide)).trans (modeKept_wr _ _ _ (by decide))
  · exact .refl s

theorem modeKept_dramComplete (s : State) : ModeKept s (dramComplete s) := by
  unfold dramComplete
  refine ModeKept.trans (ModeKept.foldl _ (fun t q => ?_) _ s) (.fields rfl rfl rfl rfl)
  exact modeKept_bumpBy t _ _ (by simp only [O.dp_bytes, O.package_mode, objKey]; omega)

theorem modeKept_dramMode (s : State) (m : Nat) : ModeKept s (dramMode s m) := by
  unfold dramMode
  dsimp only
  repeat' split
  · exact (modeKept_wr s _ _ (by decide)).trans (modeKept_wr _ _ _ (by decide))
  · exact ((modeKept_retrainStop s).trans (modeKept_dramComplete _)).trans (modeKept_wr _ _ _ (by decide))
  · exact .refl s
  · exact modeKept_wr s _ _ (by decide)
  · exact .refl s

/-! ### Maintenance and pairing -/

theorem modeKept_recordEnd (s : State) (e : Activity) (st : Status) : ModeKept s (recordEnd s e st) := by
  have h := (modeKept_wr s (O.act_last_result e.activity) st.code (by simp only [O.act_last_result, O.package_mode, objKey]; omega)).trans
    (modeKept_wr _ (O.act_last_end e.activity) (now80 s) (by simp only [O.act_last_end, O.package_mode, objKey]; omega))
  unfold recordEnd
  dsimp only
  split
  · exact h.trans (modeKept_wr _ _ _ (by simp only [O.cal_result, O.package_mode, objKey]; omega))
  · exact h

theorem modeKept_stopEngine (s : State) (e : Activity) : ModeKept s (stopEngine s e) := by
  unfold stopEngine
  dsimp only
  repeat' split
  · exact ((modeKept_setRadio s _ _).trans (modeKept_setRState _ _ _)).trans (modeKept_follow _ _)
  · exact modeKept_setRadio s _ _
  · exact modeKept_retrainStop s
  · exact .refl s

theorem modeKept_abortActivity (s : State) (e : Activity) : ModeKept s (abortActivity s e) := by
  unfold abortActivity
  have h : ModeKept s (dropRunning s e.activity e.target) := .fields rfl rfl rfl rfl
  exact ((h.trans (modeKept_bump _ _ (by decide))).trans (modeKept_stopEngine _ e)).trans (modeKept_recordEnd _ e _)

theorem modeKept_abortOutside (s : State) : ModeKept s (abortOutside s) := by
  unfold abortOutside
  dsimp only
  have h := fun l => ModeKept.foldl abortActivity modeKept_abortActivity l s
  split
  · exact (h _).trans (.fields rfl rfl rfl rfl)
  · exact h _

theorem modeKept_startActivity (s : State) (e : Activity) : ModeKept s (startActivity s e) := by
  have h : ModeKept s (bump s (O.act_runs e.activity)) :=
    modeKept_bump s _ (by simp only [O.act_runs, O.package_mode, objKey]; omega)
  unfold startActivity
  dsimp only
  repeat' split
  · exact (h.trans (modeKept_setRadio _ _ _)).trans (modeKept_setRState _ _ _)
  · exact h.trans (modeKept_setRadio _ _ _)
  · exact h.trans (modeKept_setRadio _ _ _)
  · exact (h.trans (modeKept_setRadio _ _ _)).trans (modeKept_setRState _ _ _)
  · exact h.trans (modeKept_setRadio _ _ _)
  · refine h.trans ?_
    unfold retrainStart
    exact ((ModeKept.fields rfl rfl rfl rfl).trans (modeKept_wr _ _ _ (by decide))).trans (modeKept_wr _ _ _ (by decide))
  · exact h

theorem modeKept_enterRunning (s : State) (e : Activity) : ModeKept s (enterRunning s e) := by
  have h : ModeKept s (bump s O.maint_admitted) := modeKept_bump s _ (by decide)
  unfold enterRunning
  dsimp only
  split
  · exact h.trans (.fields rfl rfl rfl rfl)
  · refine ModeKept.trans ?_ (modeKept_startActivity _ e)
    exact h.trans (.fields rfl rfl rfl rfl)

theorem modeKept_admitActivity (s : State) (e : Activity) : ModeKept s (admitActivity s e) := by
  unfold admitActivity
  split
  · exact .fields (by simp) (by simp) (by simp) (by simp)
  · exact modeKept_enterRunning s e

theorem modeKept_reserveAlign (s : State) : ModeKept s (reserveAlign s) := by
  unfold reserveAlign
  dsimp only
  refine ModeKept.trans ?_ (modeKept_varlanSend _ _ _)
  refine ModeKept.trans ?_ (modeKept_enterRunning _ _)
  exact .fields rfl rfl rfl rfl

theorem modeKept_scanFrom (s : State) (kept l : List Activity) : ModeKept s (scanFrom s kept l) := by
  induction l generalizing s kept with
  | nil => exact .fields rfl rfl rfl rfl
  | cons e l ih =>
    unfold scanFrom
    split
    · exact (modeKept_admitActivity s e).trans (ih _ _)
    · exact ih _ _

theorem modeKept_scanQueue (s : State) : ModeKept s (scanQueue s) := by
  unfold scanQueue
  dsimp only
  split
  · exact (modeKept_scanFrom s _ _).trans (modeKept_reserveAlign _)
  · exact modeKept_scanFrom s _ _

theorem modeKept_pairRefresh (s : State) : ModeKept s (pairRefresh s) := by
  unfold pairRefresh
  dsimp only
  have h : ∀ c, ModeKept s (wr s O.pair_suspend_cause c) := fun c => modeKept_wr s _ _ (by decide)
  repeat' split
  · exact .refl s
  · exact (h _).trans (modeKept_wr _ _ _ (by decide))
  · exact (h _).trans (modeKept_wr _ _ _ (by decide))
  · exact h _
  · exact ((h _).trans (modeKept_wr _ _ _ (by decide))).trans (modeKept_report _ _ _ _)

/-! ### The change of mode -/

/-- All that follows a change of the package mode keeps it. -/
theorem setMode_kept (s : State) (m : Nat) : ModeKept (wr (serviceRole s (packageMode s) m) O.package_mode m) (setMode s m) := by
  unfold setMode
  dsimp only
  have h := (modeKept_dramMode (wr (serviceRole s (packageMode s) m) O.package_mode m) m).trans (modeKept_abortOutside _)
  split
  · exact ((((((h.trans (modeKept_muteRadio _ 0)).trans (modeKept_muteRadio _ 1)).trans (modeKept_muteRadio _ 2)).trans
      (modeKept_retime _)).trans (modeKept_followAll _)).trans (modeKept_scanQueue _)).trans (modeKept_pairRefresh _)
  · exact (((h.trans (modeKept_retime _)).trans (modeKept_followAll _)).trans (modeKept_scanQueue _)).trans (modeKept_pairRefresh _)

/-- What `setMode` does to the mode and to what no mode touches. -/
theorem setMode_mode (s : State) (m : Nat) :
    packageMode (setMode s m) = m ∧ (setMode s m).fuse = s.fuse ∧ (setMode s m).boot = s.boot ∧ (setMode s m).system = s.system := by
  obtain ⟨h1, h2, h3, h4⟩ := setMode_kept s m
  have g : ∀ o, (serviceRole s o m).fuse = s.fuse ∧ (serviceRole s o m).boot = s.boot ∧ (serviceRole s o m).system = s.system := by
    intro o; unfold serviceRole; repeat' split
    all_goals simp
  refine ⟨?_, ?_, ?_, ?_⟩
  · rw [h4]; simp [packageMode]
  · rw [h1]; simp [g]
  · rw [h2]; simp [g]
  · rw [h3]; simp [g]

end Sys2Proof.Machine
end

