-- ==== Sys2Proof/WellFormed.lean ====
section
/-! DEFINITION. Which commands are well formed: the widths of the operands that the outside gives. -/

namespace Sys2Proof

/-- A HID has 24 bits (R10). -/
def hidOk (h : Nat) : Bool := decide (h < 16777216)

/-- A Ledger object's number: an index of 16 bits and a sub-index of 8 (R37). -/
def objectOk (index sub : Nat) : Bool := decide (index < 65536) && decide (sub < 256)

/-- A write's target and value (R40, R58): an object takes up to 1,024 octets, BAR0 takes the octets of the access. -/
def writeOk (t : WriteTarget) (v : Octets) : Bool :=
  match t with
  | .object index sub => objectOk index sub && decide (v.length ≤ 1024)
  | .bar0 _ size => decide (v.length = size)

/-- An address of an 802.11 frame has 6 octets. -/
def addrOk (a : Octets) : Bool := decide (a.length = 6)

/-- A received MPDU's fields have their widths (R116). -/
def mpduOk (m : RxMpdu) : Bool :=
  addrOk m.ra && addrOk m.ta && addrOk m.addr3 && decide (m.sn < 4096) && decide (m.frag < 16) && decide (m.pn < 2 ^ 48) &&
  decide (m.keyId < 8)

/-- A value of I32 (R39). -/
def i32Ok (v : Int) : Bool := decide (-2147483648 ≤ v) && decide (v ≤ 2147483647)

/-- A station and a traffic identifier. -/
def tidOk (station tid : Nat) : Bool := decide (station < 4096) && decide (tid < 16)

/-- A command is well formed when its operands have the widths the spec gives them; a command with none always is. -/
def Instr.wellFormed : Instr → Bool
  | .ledgerWrite t v => writeOk t v
  | .mgmtDatagram _ vid a p b => decide (vid < 4096) && decide (a.length = 16) && decide (p < 65536) && decide (b.length ≤ 65527)
  | .unitPrepared h _ => hidOk h
  | .unitApplied h => hidOk h
  | .unitRestored h => hidOk h
  | .selfTestDone l => l.all hidOk
  | .tailWrite _ v => decide (v < 4294967296)
  | .bakSecondsWrite v => decide (v < 18446744073709551616)
  | .bakTrimWrite v => i32Ok v
  | .mpduReceived _ m _ => mpduOk m
  | .mpduUnacked i t n => tidOk i t && decide (n < 4096)
  | .reorderTimeout i t => tidOk i t
  | .joinReceived _ serial => decide (serial.length = 18)
  | .imageCheckDone _ revision => decide (revision < 4294967296)
  | .wakeSource source banks => decide (source < 8) && decide (banks < 128)
  | .porstRelease l => decide (l.length = 3) && l.all (fun v => decide (v < 4096))
  | .planClose e => e.csi.all (fun i => decide (i < 4096)) && e.rates.all (fun i => decide (i < 4096))
  | _ => true

end Sys2Proof
end

