-- ==== Sys2Proof/Tests/Slice0.lean ====
section
/-! SUPPORT. Tests: a term that each check of WellFormed refuses, values worked out from the spec's own examples and formulas, and for every
statement with hypotheses a state and operands that meet them together. -/

set_option linter.unusedVariables false

namespace Sys2Proof.Tests

open Machine

/-- A module past BOOT in a package mode, every clock running, with the given registers. -/
def hub (mode : Nat) (l : Tab Nat) : State :=
  { boot := { step := 4 }, power := { inputOn := true },
    regs := putAll ((List.range 18).foldl (fun t d => t.put (O.clk_state d) 1) [(O.package_mode, mode)]) l }

/-- A module without its hub die: the given registers alone. -/
def bare (l : Tab Nat) : State := { regs := putAll [] l }

/-- A record that hangs at a domain. -/
def hungAt (d : Nat) : Hung :=
  { transport := none, arrival := none, done := [], doneCount := 0, index := 0x5810, sub := 1, write := false, value := [], rest := [],
    domain := d, since := 0, reported := false }

/-- The same past its join: the peer's key is stored, and the Varlan lanes are up. -/
def twin (mode : Nat) (l : Tab Nat) : State :=
  let s := hub mode (putAll (putAll [] [(O.varlan_lanes, 15), (O.twin_state, 3), (O.boot_count, 1)]) l)
  { s with led := { peerKey := some (zeros 16) } }

/-- The head of a Varlan message that passes. -/
def goodHead : VHead := { boot := 1, count := 1, tagOk := true }

/-- A descriptor for 60 bytes that name no direct target, a host frame of 60 bytes, and one log entry. -/
def aDescriptor : Descriptor := { bufAddr := 0x1000, length := 60, flags := 0, cookie := 7, port := 0x3000, tid := 0 }
def aFrame : OutFrame :=
  { buf := 0, bytes := List.replicate 60 1, tag := none, source := 0, tid := 0, reason := 0, info := 0, stamp := 0, session := none }
def oneEntry : LogEntry :=
  { msg := { source := 0, kind := 1, severity := 1, forced := false, dry := false, detail := 0, sequence := 1, address := 0, late := false },
    time := 0, written := 0, repeats := 0, reaction := 1, eth := false, pcie := false }

/-- A request with one record that reads `part_number` (R48, R49): version 1, kind 1, node 0, one record, 40 bytes, counter 1 of boot 1. -/
def readPart : Arrival :=
  let m : Octets := [1, 1, 0, 1, 40, 0, 0, 0, 1, 0, 0, 0, 0, 0, 1, 0, 0, 0, 1, 1, 0, 0, 0, 0]
  { transport := .eth, order := 0, since := 0, port := 0, vid := 1, srcAddr := zeros 16, srcPort := 4117,
    bytes := m ++ cmacOctets (scrivenerKey (hub 4 [])) m }

/-- A transmit command of the Ostler for subchannel 0 on chain 0. -/
def aCommand : TxCmd :=
  { issuer := .ostler, tag := 1, start := some 100000, deadline := 900000, preamble := 0, duration := 100000, subchannels := [0], chains := 1,
    power := 40, held := false, content := .bytes [] }

/-- Radio 0 past TRAIN with the given state. -/
def onRadio (x : Radio) (l : Tab Nat) : State := { hub 7 (putAll [(O.pd_state 6, 2), (O.radio_target 0, 3)] l) with radios := [(0, x)] }


/-- A data MPDU of 100 bytes for an address no BSS has, an exchange of one frame of the module's own, and a module whose mode and role are `m`, past its join. -/
def aMpdu : RxMpdu :=
  { kind := .data, fcsOk := true, length := 100, ra := [2, 0, 0, 0, 0, 9], ta := [2, 0, 0, 0, 0, 8], addr3 := zeros 6, addr4 := zeros 6, toDs := true,
    fromDs := false, duration := 0, retry := false, powerSave := false, endOfService := false, isProtected := true, extIv := true, header := 1, keyId := 0,
    pn := 1, mme := none, sn := 5, frag := 0, tid := some 0, noAck := false, form := .single, last := false, amsdu := false, body := zeros 60, bsr := none,
    rssi := -40 }
def anExchange : Exchange :=
  { kind := .management, ac := 3, users := [], content := some (.bytes []), start := 0, preamble := 0, ppdu := 100, length := 200, opens := true,
    windowEnd := none, paired := false, subchannels := [0], chains := 1, bss := 0, tag := 9 }
def anAirFrame : AirFrame :=
  { buf := 7, bytes := zeros 60, tid := 0, link := none, since := 0, eapol := false, radio := some 0, sn := some 5, pn := none, slot := none, sends := 0 }
/-- A station entry in use: entry 3, authorised, on link 0. -/
def withStation (s : State) : State :=
  { s with regs := putAll s.regs [(winKey 3 O.sta_state, 2), (winKey 3 O.sta_links, 1), (winKey 3 O.sta_aid, 4)], mac := { s.mac with stations := [(3, {})] } }

/-- A heartbeat of a LEAD in SYNCED, and data of a copy with nothing in it. -/
def aHeartbeat : HbMsg :=
  { mode := 8, twinState := 3, fault := false, pairReady := true, epoch := 0, frame := 0, txTime := 0, echoTx := 0, echoRx := 0, mirrorAck := 5, lanes := 15,
    phase := 0, hears := false, authorized := 0 }
def noCopy : CopyData :=
  { regs := [], blobs := [], staged := [], stagedBlobs := [], origin := 0, phase := 0, items := [], serial := zeros 16, templates := [], shadows := [],
    graph := [], graphStaged := [], rules := [], ruleWidth := 0, ruleMiss := 0, ruleLog := [], logWidth := none, logMiss := none, routes := [] }
/-- A group MPDU that presents no frame, by its number 1, that waits for the follower's acknowledgement of token 4. -/
def heldVerdict (s : State) : State :=
  { s with twin := { s.twin with rxpnHeld := [(4, 1)] },
           mac := { s.mac with arrived := [(1, { radio := 0, mpdu := { aMpdu with kind := .nullData }, station := none, stamp := 0, buf := 0 })] } }
/-- A module in BOOT's wait, and one with a takeover in progress. -/
def waiting : State := { hub 4 [(O.twin_state, 1)] with boot := { step := 4, waiting := true } }

/-- A key slot 3 of station 3, in use; an association; a frame, its token and a record of a flow. -/
def withSlot (s : State) : State :=
  { s with regs := putAll s.regs [(winKey 3 O.key_state, 1), (winKey 3 O.key_owner, 3), (winKey 3 O.key_cipher, 1), (winKey 3 O.key_id, 0)],
           lock := { s.lock with slots := [(3, {})] } }
def aFlight : InFlight := { id := 1, slot := 3, counter := 0, pn := 9, macsec := false, len := 100, refused := false }
def arrivedMpdu (m : RxMpdu) : Arrived := { radio := 0, mpdu := m, station := some 3, stamp := 0, buf := 0 }
def withArrived (s : State) (m : RxMpdu) : State := { s with mac := { s.mac with arrived := [(1, arrivedMpdu m)] } }
def aFrameIn : Frame :=
  { buf := 1, bytes := zeros 60, source := 0, tid := 0xF0, bss := 0, isProtected := false, subframe := false, stamp := 0, colour := 0, awaits := none,
    toHost := none, cls := 0 }
def aToken : Token :=
  { id := 1, frame := aFrameIn, walk := noWalk aFrameIn, key := zeros 76, tag := 0, since := 0, verdict := false, fate := none, version := 0, commit := 0,
    holds := true, toLook := true, bucket := none, row := none, action := 0 }
def aRecord : FlowRec :=
  { key := zeros 40, state := 1, fin := false, rst := false, cls := 0, pin := 0, pinGen := 0, lastSeen := 0, packets := 0, bytes := 0, fresh := 0, young := false }
def aRoute : Route := { vrf := 0, prefixBytes := [10, 0, 0, 0], len := 8, nexthop := 4 }
/-- A staged route 10.0.0.0/8 in VRF 0 over next hop 4. -/
def staging (s : State) : State :=
  { s with regs := putAll s.regs [(O.rt_len, 8), (O.rt_nexthop, 4), (winKey 4 O.nh_kind, 1)], blobs := [(O.rt_prefix, [10, 0, 0, 0])] }

/-- A frame in a queue of a port, a task of a drop, and a request to the DRAM. -/
def aQueued : OutFrame := { aFrame with buf := 77 }
def aTask : Task := { token := { aToken with fate := some (.forced false) }, leg := none, since := 0, urgent := false, blocked := false, held := false }
def aRequest : DramReq := { port := 0, bank := 1, row := 2, block := 0, write := false, since := 0 }
/-- Port 1 up with one frame in its queue 256 + 255, and a module whose DRAM is in the given state. -/
def onPort (s : State) (f : OutFrame) : State :=
  { s with regs := putAll s.regs [(O.port_state 1, 2), (O.tc_strict 1, 1)], miller := { wired := [(256, { frames := [f] })] } }
def dram (n : Nat) (d : Cellarer) : State := { hub 7 [(O.dram_state, n), (O.region_status, 15)] with dram := d }

/-- A PTP message for domain 0, a fault message, and a running activity of the survey. -/
def aPtp (k : PtpKind) : PtpMsg :=
  { kind := k, wellFormed := true, domain := 0, source := 5, sourcePort := 1, sequence := 1, origin := 0, correction := 0, twoStep := true, stamp := 9,
    dataset := { identity := 5, priority1 := 128, clockClass := 6, accuracy := 32, variance := 0, priority2 := 128, steps := 0 } }
def aFault : FaultMsg :=
  { source := 1, kind := 1, severity := 1, forced := false, dry := false, detail := 0, sequence := 1, address := 0, late := false }
def anActivity (a target : Nat) : Activity := { activity := a, target := target, requester := 0, kind := 0, state := 3, since := 0, late := false }
/-- A module in QUARANTINE that left SOLO. -/
def quiet (k : Tinker) : State := { hub 12 [] with tinker := { k with modeLeft := 7, roleLeft := 7, quiet := true } }

/-! ### A term that each check of WellFormed refuses -/

theorem test_write_refuses_a_wide_index : (Instr.ledgerWrite (.object 65536 1) []).wellFormed = false := by decide
theorem test_write_refuses_a_wide_sub : (Instr.ledgerWrite (.object 0 256) []).wellFormed = false := by decide
theorem test_write_refuses_a_long_value : (Instr.ledgerWrite (.object 0 1) (List.replicate 1025 0)).wellFormed = false := by
  rw [Instr.wellFormed, writeOk, List.length_replicate]; decide
theorem test_write_refuses_a_size_that_differs : (Instr.ledgerWrite (.bar0 0 4) (zeros 8)).wellFormed = false := by decide
theorem test_datagram_refuses_a_wide_vid : (Instr.mgmtDatagram 0 4096 (zeros 16) 1 []).wellFormed = false := by decide
theorem test_datagram_refuses_a_short_address : (Instr.mgmtDatagram 0 1 (zeros 4) 1 []).wellFormed = false := by decide
theorem test_datagram_refuses_a_wide_port : (Instr.mgmtDatagram 0 1 (zeros 16) 65536 []).wellFormed = false := by decide
theorem test_prepared_refuses_a_wide_hid : (Instr.unitPrepared 16777216 true).wellFormed = false := by decide
theorem test_applied_refuses_a_wide_hid : (Instr.unitApplied 16777216).wellFormed = false := by decide
theorem test_restored_refuses_a_wide_hid : (Instr.unitRestored 16777216).wellFormed = false := by decide
theorem test_self_test_refuses_a_wide_hid : (Instr.selfTestDone [0, 16777216]).wellFormed = false := by decide
theorem test_tail_refuses_a_wide_value : (Instr.tailWrite 0 4294967296).wellFormed = false := by decide
theorem test_seconds_refuses_a_wide_value : (Instr.bakSecondsWrite 18446744073709551616).wellFormed = false := by decide
theorem test_trim_refuses_a_wide_value : (Instr.bakTrimWrite 2147483648).wellFormed = false := by decide
theorem test_mpdu_refuses_a_short_address : (Instr.mpduReceived 0 { aMpdu with ra := [] } .none).wellFormed = false := by decide
theorem test_mpdu_refuses_a_wide_sequence : (Instr.mpduReceived 0 { aMpdu with sn := 4096 } .none).wellFormed = false := by decide
theorem test_mpdu_refuses_a_wide_fragment : (Instr.mpduReceived 0 { aMpdu with frag := 16 } .none).wellFormed = false := by decide
theorem test_mpdu_refuses_a_wide_pn : (Instr.mpduReceived 0 { aMpdu with pn := 2 ^ 48 } .none).wellFormed = false := by decide
theorem test_mpdu_refuses_a_wide_key : (Instr.mpduReceived 0 { aMpdu with keyId := 8 } .none).wellFormed = false := by decide
theorem test_unacked_refuses_a_wide_station : (Instr.mpduUnacked 4096 0 0).wellFormed = false := by decide
theorem test_unacked_refuses_a_wide_sequence : (Instr.mpduUnacked 0 0 4096).wellFormed = false := by decide
theorem test_reorder_refuses_a_wide_tid : (Instr.reorderTimeout 0 16).wellFormed = false := by decide
theorem test_join_refuses_a_short_serial : (Instr.joinReceived goodHead []).wellFormed = false := by decide
theorem test_image_refuses_a_wide_revision : (Instr.imageCheckDone 0 4294967296).wellFormed = false := by decide
theorem test_wake_refuses_a_wide_source : (Instr.wakeSource 8 0).wellFormed = false := by decide
theorem test_wake_refuses_wide_banks : (Instr.wakeSource 0 128).wellFormed = false := by decide
theorem test_release_refuses_two_samples : (Instr.porstRelease [0, 0]).wellFormed = false := by decide
theorem test_release_refuses_a_wide_sample : (Instr.porstRelease [0, 0, 4096]).wellFormed = false := by decide
theorem test_plan_refuses_a_wide_station : (Instr.planClose { plans := [], csi := [4096], rates := [] }).wellFormed = false := by decide

/-! ### Values from the spec's examples -/

/-- The table gives no row any bits, so no word spells a command. -/
theorem test_no_word_is_a_command : decodeTableWord 32 0x12345678 = none := by decide

/-- HID 0.1.3.2.05.11 is 0x2C_850B ("Example: reading a HID"). -/
theorem test_hid_fields : hidDie 0x2C850B = 3 ∧ hidRegion 0x2C850B = 2 ∧ hidCluster 0x2C850B = 5 ∧ hidUnit 0x2C850B = 11 := by decide

/-- Block 72,709: channel 5, row 40, bank 1, column 2 ("Example: where a flow bucket lies"). -/
theorem test_block_place : blockChannel 72709 = 5 ∧ blockRow 72709 = 40 ∧ blockBank 72709 = 1 ∧ blockColumn 72709 = 2 := by decide

/-- The fifth frame of "Example: a single-rate meter": 4 bytes of the committed bucket and none of the excess, red; the third: yellow. -/
theorem test_meter_red : (meterMark 1 0 (1500 * 256) { c := 4 * 256, x := 0, filled := 0 }).1 = 2 := by decide
theorem test_meter_yellow : (meterMark 1 0 (1500 * 256) { c := 2 * 256, x := 3000 * 256, filled := 0 }).1 = 1 := by decide

/-- Second 1,734,571,489 with an offset of 37 s is Thursday 2024-12-19 01:24:12 UTC ("Example: a read across a roll-over"). -/
theorem test_calendar : calendarOf 1734571489 37 = [0xE8, 0x07, 0x0C, 0x13, 0x01, 0x18, 0x0C, 0x04] := by decide

/-- The prescaler 32,760 is 999,755,859 ns of the second (the same example). -/
theorem test_prescaler : prescalerNs 32760 = 999755859 := by decide

/-- The strap word 0x0956 gives slot 1, then slot 0 ("Example: fitting the straps for module B"; R520). -/
theorem test_slots : bootSlots 0x0956 = [1, 0] := by decide

/-- An hour of ticks with the crystal 12 ppm fast is 3,599.956_800_518 s ("Example: waking from an hour in DORMANT"). -/
theorem test_wake_time :
    rebuiltTb (bare [(O.bak_ticks, 117964800), (O.bak_rate_ppb, 12000)]) { tb := 0, origin := 0, ticks := 0, tbState := 3, uncertainty := 0 } / 65536 =
      3599956800518 := by decide

/-- The first period of "Example: learning a slow station clock": r 2 µs, d 8 µs. -/
theorem test_twt_learned :
    let x := twtLearned (bare [(O.twt_drift_gain, 2), (O.twt_resync, 500)])
      { station := 3, flow := 0, radio := 0, interval := 200000, duration := 1000, wake := 0, announced := false, d := 0, r := 0, reported := false,
        heard := none, ended := none } 8000
    x.r = 2000 ∧ x.d = 8000 := by decide

/-- A write to an RO object of radio A with a value out of range ("Example: status precedence"): DENIED where the radio is fitted, ABSENT where it is not. -/
theorem test_status_fitted : storeWrite (hub 7 []) 0x2003 1 (zeros 9) = some .denied := by decide
theorem test_status_absent : storeWrite { hub 7 [] with fuse := { resetFuses with part := .dr9212 } } 0x2003 1 (zeros 9) = some .absent := by decide

/-- A read of `bak_seconds` within a message gives the seconds (R428). -/
theorem test_seconds_read : (readInUnit (hub 7 [(O.bak_seconds, 0x1234)]) 0x1401 1).2.1 = [0x34, 0x12, 0, 0, 0, 0, 0, 0] := by decide

/-! ### States and operands for the statements over all commands, and one command of each frame that answers -/

theorem witness_IdleStep : ∃ s : State, s.pending = [] ∧ clkState s 12 ≠ 1 := ⟨bare [], by decide⟩
theorem witness_IdleStep_runs : ∃ s : State, s.pending = [] ∧ clkState s 12 = 1 ∧ s.time.slewLeft = 0 ∧ s.time.freq = 0 ∧ s.time.acc < 1000000000000 :=
  ⟨hub 7 [], by decide⟩
theorem witness_EveryCommandAnswers : NeverStops .forget ∧ NeverStops (.ledgerWrite (.bar0 67108863 1) [0]) :=
  ⟨trivial, by show 67108863 < 67108864; decide⟩
theorem witness_RunNeverStops : RunInv { bare [] with pending := [.forget, .save] } := by
  intro c h
  simp only [List.mem_cons, List.not_mem_nil, or_false] at h
  rcases h with rfl | rfl <;> trivial
theorem witness_CapabilitiesNeverChange : ∃ t, exec .forget (hub 7 []) = .next t := ⟨_, rfl⟩
theorem witness_PairSuspendCauseBits : ∃ s : State, pairedFitted s.fuse.part = true := ⟨bare [], by decide⟩
theorem witness_SubIndexesOfAnObject : ∃ (s : State) (n : Nat), subCount 0x1182 = some n ∧ objFitted s.fuse.part 0x1182 = true ∧
    indexInCount s 0x1182 = true ∧ crossing s 0x1182 = .reached ∧ n < 3 := ⟨hub 7 [], 2, by decide⟩

theorem witness_BackupAndClocksFrame : ∃ t, exec .pwronRelease (hub 7 []) = .next t := ⟨_, rfl⟩
theorem witness_PowerFrame : ∃ t, exec .v12Started (hub 7 []) = .next t := ⟨_, rfl⟩
theorem witness_LedgerAndHostFrame : ∃ t, exec .save (hub 7 []) = .next t := ⟨_, rfl⟩
theorem witness_EpochAndRadioFrame : ∃ t, exec .epochDiscard (hub 7 []) = .next t := ⟨_, rfl⟩
theorem witness_AirFrame : ∃ t, exec .staAdd (hub 7 []) = .next t := ⟨_, rfl⟩
theorem witness_PairFrame : ∃ t, exec .heartbeatSend (hub 7 []) = .next t := ⟨_, rfl⟩
theorem witness_LocksmithAndRulesFrame : ∃ t, exec .keyInstall (hub 7 []) = .next t := ⟨_, rfl⟩
theorem witness_SwitchAndMillerFrame : ∃ t, exec .routeAdd (hub 7 []) = .next t := ⟨_, rfl⟩
theorem witness_DramFrame : ∃ t, exec .regionEnable (hub 7 []) = .next t := ⟨_, rfl⟩
theorem witness_TimeFrame : ∃ t, exec .tbSet (hub 7 []) = .next t := ⟨_, rfl⟩
theorem witness_MaintenanceFrame : ∃ t, exec .force (hub 7 []) = .next t := ⟨_, rfl⟩
theorem witness_ControlFrame : ∃ t, exec .epochCommit (hub 7 []) = .next t := ⟨_, rfl⟩
theorem witness_DataPathFrame : ∃ t, exec .grantRequest (hub 7 []) = .next t := ⟨_, rfl⟩
theorem witness_LongPathFrame : ∃ t, exec .qEnter (hub 7 []) = .next t := ⟨_, rfl⟩

/-! ### A state and operands that meet the hypotheses of each clause -/

theorem witness_refLoss : ∃ (s : State), hubOn s = true ∧ rd s O.ref_state = 2 :=
  ⟨hub 4 [(O.ref_state, 2)], by decide⟩
theorem witness_refAcquired : ∃ (s : State), rd s O.ref_state = 1 :=
  ⟨hub 4 [(O.ref_state, 1)], by decide⟩
theorem witness_refRestored : ∃ (s : State), hubOn s = true ∧ rd s O.ref_state = 3 :=
  ⟨{ hub 4 [(O.ref_state, 3)] with now := 5000000000 }, by decide⟩
theorem witness_domainQuiesceDone : ∃ (s : State) (d : Fin 18), clkState s d = 3 :=
  ⟨hub 4 [(O.clk_state 17, 3)], 17, by decide⟩
theorem witness_domainClockStart : ∃ (s : State) (d : Fin 18), clkState s d = 0 ∧ domainWanted s d = true ∧ s.led.hung = [] :=
  ⟨hub 7 [(O.clk_state 6, 0)], 6, by decide⟩
theorem witness_crossingStall : ∃ (s : State) (i : Nat) (h : Hung), hubOn s = true ∧ s.led.hung[i]? = some h ∧ h.reported = false :=
  ⟨{ hub 4 [] with led := { hung := [hungAt 6] } }, 0, hungAt 6, by decide⟩
theorem witness_pllUnlock : ∃ (s : State) (p : Pll) (d : Nat), hubOn s = true ∧ d ∈ pllDomains p ∧ (clkState s d = 1 ∨ clkState s d = 3) :=
  ⟨hub 7 [(O.clk_state 9, 3)], .core, 9, by decide⟩
theorem witness_internalRailLow : ∃ (s : State), packageMode s ≠ 1 ∧ rd s O.bak_supply = 0 :=
  ⟨bare [(O.package_mode, 2), (O.bak_supply, 0)], by decide⟩
theorem witness_internalRailRestored : ∃ (s : State), packageMode s ≠ 1 ∧ rd s O.bak_supply = 1 :=
  ⟨bare [(O.package_mode, 2), (O.bak_supply, 1)], by decide⟩
theorem witness_vbakMeasure : ∃ (s : State) (mv : Nat), packageMode s ≠ 1 :=
  ⟨hub 4 [(O.vbak_warn, 2500)], 2499, by decide⟩
theorem witness_backupPor : ∃ (s : State), True :=
  ⟨bare [(O.package_mode, 2), (O.bak_seconds, 7)], by decide⟩
theorem witness_bakReset : ∃ (s : State), Reaches s O.bak_cmd :=
  ⟨hub 4 [(O.bak_seconds, 7)], by decide⟩
theorem witness_xtalStop : ∃ (s : State), packageMode s ≠ 1 ∧ s.watch.stopped = false :=
  ⟨hub 3 [], by decide⟩
theorem witness_xtalResume : ∃ (s : State), packageMode s ≠ 1 :=
  ⟨{ hub 3 [] with watch := { stopped := true } }, by decide⟩
theorem witness_secondBoundary : ∃ (s : State), packageMode s ≠ 1 ∧ s.watch.stopped = false :=
  ⟨hub 3 [(O.bak_seconds, 281474976710655)], by decide⟩
theorem witness_bakSecondsWrite : ∃ (s : State) (v : Nat), Reaches s O.bak_seconds ∧ v < 281474976710656 ∧ ((flag s O.bak_sync = false ∨ rd s O.tb_state ≠ 3)) :=
  ⟨hub 4 [], 281474976710655, by decide⟩
theorem witness_bakSyncWrite : ∃ (s : State), hubOn s = true ∧ flag s O.bak_sync = true ∧ rd s O.tb_state = 3 :=
  ⟨hub 7 [(O.bak_sync, 1), (O.tb_state, 3)], by decide⟩
theorem witness_bakTrimWrite : ∃ (s : State) (v : Int), Reaches s O.bak_trim ∧ -30000 ≤ v ∧ v ≤ 30000 :=
  ⟨hub 4 [], -30000, by decide⟩
theorem witness_backupTimeRead : ∃ (s : State) (i : Fin 5), hubOn s = true ∧ ledgerServes s = true ∧ crossing s 0x1401 = .reached :=
  ⟨hub 4 [(O.bak_seconds, 86400)], 4, by decide⟩
theorem witness_alarmArm : ∃ (s : State) (a : Fin 2), Reaches s (O.al_cmd a) ∧ flag s O.bak_valid = true ∧ rd s O.bak_seconds < rd s (O.al_seconds a) :=
  ⟨hub 4 [(O.bak_valid, 1), (O.al_seconds 1, 1)], 1, by decide⟩
theorem witness_alarmDisarm : ∃ (s : State) (a : Fin 2), Reaches s (O.al_cmd a) :=
  ⟨hub 4 [(O.al_state 0, 1)], 0, by decide⟩
theorem witness_pwronRelease : ∃ (s : State), Reaches s O.pwron_cmd ∧ rd s O.pwron_state = 0 :=
  ⟨hub 4 [], by decide⟩
theorem witness_pwronCancel : ∃ (s : State), Reaches s O.pwron_cmd :=
  ⟨hub 4 [(O.pwron_state, 2)], by decide⟩
theorem witness_pwronDelayExpire : ∃ (s : State), packageMode s ≠ 1 ∧ rd s O.pwron_state = 1 :=
  ⟨hub 3 [(O.pwron_state, 1)], by decide⟩
theorem witness_scratchWrite : ∃ (s : State) (b : Octets), Reaches s O.scratch ∧ b.length = 32 :=
  ⟨hub 4 [], List.replicate 32 7, by decide⟩
theorem witness_vinRise : ∃ (s : State), s.power.inputOn = false :=
  ⟨bare [(O.package_mode, 2)], by decide⟩
theorem witness_vinWarn : ∃ (s : State) (mv : Nat), s.power.inputOn = true ∧ mv < rd s O.vin_warn :=
  ⟨hub 4 [(O.vin_warn, 36000)], 35999, by decide⟩
theorem witness_vinLowClear : ∃ (s : State) (mv : Nat), rd s O.vin_warn + 1000 < mv :=
  ⟨hub 4 [(O.vin_warn, 36000), (O.vin_low, 1)], 37001, by decide⟩
theorem witness_powerFailWarning : ∃ (s : State), s.power.inputOn = true :=
  ⟨hub 4 [], by decide⟩
theorem witness_vinCollapse : ∃ (s : State), s.power.inputOn = true :=
  ⟨hub 7 [], by decide⟩
theorem witness_vinOvervoltage : ∃ (s : State), s.power.inputOn = true :=
  ⟨hub 7 [], by decide⟩
theorem witness_vinOvRecover : ∃ (s : State), s.power.overVoltage = true :=
  ⟨{ bare [(O.package_mode, 1)] with power := { overVoltage := true } }, by decide⟩
theorem witness_vbakApplied : ∃ (s : State), True :=
  ⟨bare [(O.package_mode, 1)], by decide⟩
theorem witness_v12Started : ∃ (s : State), rd s O.v12_state = 1 :=
  ⟨bare [(O.v12_state, 1)], by decide⟩
theorem witness_v12StartFail : ∃ (s : State), rd s O.v12_state = 1 :=
  ⟨bare [(O.v12_state, 1)], by decide⟩
theorem witness_v12Fault : ∃ (s : State) (c : V12Cause), rd s O.v12_state = 2 :=
  ⟨hub 7 [(O.v12_state, 2)], .underVoltage, by decide⟩
theorem witness_converterHot : ∃ (s : State) (c : Int), True :=
  ⟨hub 4 [], 126, by decide⟩
theorem witness_avsRequest : ∃ (s : State) (a : Fin 4), hubOn s = true ∧ s.power.avsPending = true ∧ rd s O.avs_state ≠ 1 ∧ rd s O.avs_state ≠ 2 :=
  ⟨{ hub 4 [] with power := { inputOn := true, avsPending := true } }, 1, by decide⟩
theorem witness_avsRetry : ∃ (s : State) (a : Fin 4) (v : Nat), hubOn s = true ∧ s.power.avsTarget = some v ∧ rd s O.avs_state = 1 :=
  ⟨{ hub 4 [(O.avs_state, 1)] with power := { inputOn := true, avsTarget := some 700, avsRetries := 2 } }, 3, 700, by decide⟩
theorem witness_avsStatusPoll : ∃ (s : State) (d : Bool) (mv v : Nat), hubOn s = true ∧ s.power.avsTarget = some v ∧ rd s O.avs_state = 2 :=
  ⟨{ hub 4 [(O.avs_state, 2)] with power := { inputOn := true, avsTarget := some 700 } }, true, 715, 700, by decide⟩
theorem witness_avsSettleTimeout : ∃ (s : State), hubOn s = true ∧ rd s O.avs_state = 2 :=
  ⟨hub 4 [(O.avs_state, 2)], by decide⟩
theorem witness_vcoreFault : ∃ (s : State) (mv : Nat), hubOn s = true ∧ rd s O.vcore_target ≠ 0 ∧ rd s O.avs_state ≠ 1 ∧ rd s O.avs_state ≠ 2 ∧ vcoreBad (rd s O.vcore_target) mv = true :=
  ⟨hub 4 [(O.vcore_target, 750)], 600, by decide⟩
theorem witness_padRelease : ∃ (s : State) (v : BitVec 8), Reaches s O.pad_release ∧ v.toNat < 32 ∧ ((∀ g ∈ [0, 1, 2, 3, 4], bit v.toNat g = true → padFitted s g = true → bit (rd s O.pad_latched) g = true → rd s (O.pd_state (padDomain g)) = 2)) :=
  ⟨hub 4 [(O.pad_latched, 31), (O.pd_state 4, 2), (O.pd_state 6, 2), (O.pd_state 7, 2), (O.pd_state 8, 2)], 31, by decide⟩
theorem witness_dormantEnter : ∃ (s : State), Reaches s O.dormant_cmd ∧ enterCheck s = none :=
  ⟨hub 4 [(O.wake_enable, 1)], by decide⟩
theorem witness_dormantEntryDone : ∃ (s : State), packageMode s = 3 ∧ s.power.entryStep ≠ 0 ∧ s.power.wakePending = 0 :=
  ⟨{ hub 3 [(O.dormant_entries, 5)] with power := { inputOn := true, entryStep := 5 } }, by decide⟩
theorem witness_wakeSource : ∃ (s : State) (i b : Nat), packageMode s = 3 ∧ s.power.inputOn = true ∧ wakeEnabled s i = true ∧ s.power.entryStep ≠ 0 ∧ b < 128 :=
  ⟨{ hub 3 [(O.wake_enable, 2)] with power := { inputOn := true, entryStep := 5 } }, 1, 127, by decide⟩
theorem witness_wakeSource_1 : ∃ (s : State) (i b : Nat), packageMode s = 3 ∧ s.power.inputOn = true ∧ wakeEnabled s i = true ∧ s.power.entryStep = 0 :=
  ⟨hub 3 [(O.wake_enable, 1)], 0, 0, by decide⟩
theorem witness_porstAssert : ∃ (s : State), s.power.inputOn = true :=
  ⟨hub 7 [(O.epoch_phase, 1), (O.ref_state, 2)], by decide⟩
theorem witness_porstRelease : ∃ (s : State) (a b c : Nat), s.boot.inReset = true ∧ s.power.inputOn = true ∧ rd s O.v12_state = 2 :=
  ⟨{ bare [(O.v12_state, 2)] with boot := { inReset := true }, power := { inputOn := true } }, 0x401, 0x400, 0xFFF, by decide⟩
theorem witness_resetCmd : ∃ (s : State), Reaches s O.reset_cmd ∧ hidMalformed (rd s O.reset_target) = false ∧ hidOwn s (rd s O.reset_target) = true ∧ hidDie (rd s O.reset_target) = 7 :=
  ⟨hub 7 [(O.reset_target, 0x1FFFFF)], by decide⟩
theorem witness_perst : ∃ (s : State) (b : Bool), hubOn s = true :=
  ⟨hub 7 [], true, by decide⟩
theorem witness_pcieLinkTrained : ∃ (s : State), hubOn s = true ∧ s.boot.perst = false ∧ 1 ≤ s.boot.step :=
  ⟨hub 5 [], by decide⟩
theorem witness_bootStart : ∃ (s : State), hubOn s = true ∧ packageMode s = 4 ∧ s.boot.step = 0 ∧ s.boot.halted = false ∧ rd s O.ref_state = 2 :=
  ⟨{ hub 4 [(O.ref_state, 2)] with boot := {} }, by decide⟩
theorem witness_imageCheckDone : ∃ (s : State) (v : Nat), hubOn s = true ∧ s.boot.step = 1 ∧ s.boot.halted = false ∧ s.boot.slots ≠ [] ∧ v < 4294967296 :=
  ⟨{ hub 5 [] with boot := { step := 1, slots := [0, 1] } }, 4294967295, by decide⟩
theorem witness_imageCheckDone_1 : ∃ (s : State) (f : Fin 5) (v slot : Nat) (rest : List Nat), hubOn s = true ∧ s.boot.step = 1 ∧ s.boot.halted = false ∧ s.boot.slots = slot :: rest ∧ f ≠ 0 :=
  ⟨{ hub 5 [] with boot := { step := 1, slots := [1] } }, 4, 0, 1, [], by decide⟩
theorem witness_selfTestDone : ∃ (s : State) (l : List Nat), hubOn s = true ∧ s.boot.step = 2 ∧ s.boot.halted = false :=
  ⟨{ hub 5 [] with boot := { step := 2 } }, [], by decide⟩
theorem witness_bootEnd : ∃ (s : State), hubOn s = true ∧ s.boot.step = 3 ∧ s.boot.halted = false :=
  ⟨{ hub 5 [] with boot := { step := 3 } }, by decide⟩
theorem witness_trainEnd : ∃ (s : State), hubOn s = true ∧ packageMode s = 6 ∧ rd s O.dram_state = 3 ∧ s.boot.fulls = [] ∧ s.boot.waiting = false ∧ s.boot.chosen = none :=
  ⟨hub 6 [(O.dram_state, 3)], by decide⟩
theorem witness_epochCommit : ∃ (s : State), Reaches s O.epoch_cmd ∧ ((rd s O.epoch_scope ≠ 1 ∨ roleMode s ≠ 9)) ∧ rd s O.q_state ≠ 2 ∧ rd s O.epoch_phase = 0 ∧ s.epoch.peerPhase = 0 ∧ packageMode s ∉ [5, 6, 10, 12] ∧ anyStaged s = true :=
  ⟨{ hub 4 [] with staged := [(O.fit_query, 1)] }, by decide⟩
theorem witness_epochCommit_1 : ∃ (s : State), Reaches s O.epoch_cmd ∧ ((rd s O.epoch_scope ≠ 1 ∨ roleMode s ≠ 9)) ∧ rd s O.q_state ≠ 2 ∧ rd s O.epoch_phase = 0 ∧ s.epoch.peerPhase = 0 ∧ packageMode s ∉ [5, 6, 10, 12] ∧ anyStaged s = false ∧ rd s O.target_mode_a = 0 ∧ rd s O.target_mode_b = 0 :=
  ⟨hub 7 [], by decide⟩
theorem witness_epochDiscard : ∃ (s : State), Reaches s O.epoch_cmd ∧ rd s O.epoch_phase = 0 ∧ s.epoch.peerPhase = 0 :=
  ⟨{ hub 12 [(O.target_mode_a, 7)] with staged := [(O.fit_query, 1)] }, by decide⟩
theorem witness_unitPrepared : ∃ (s : State) (h : Nat), h < 16777216 ∧ hubOn s = true ∧ rd s O.epoch_phase = 1 ∧ ackCounts s h = true ∧ ((hidOwn s h = false ∨ (unitWaits s h = false ∧ unitRefuses s h = false))) ∧ s.epoch.waiting.filter (fun x => x ≠ h) ≠ [] :=
  ⟨{ hub 7 [(O.epoch_phase, 1)] with epoch := { waiting := [0, 1] } }, 0, by decide⟩
theorem witness_unitPrepared_1 : ∃ (s : State) (h : Nat), h < 16777216 ∧ hubOn s = true ∧ rd s O.epoch_phase = 1 ∧ ackCounts s h = true ∧ ((hidOwn s h = false ∨ (unitWaits s h = false ∧ unitRefuses s h = false))) ∧ s.epoch.waiting.filter (fun x => x ≠ h) = [] :=
  ⟨{ hub 7 [(O.epoch_phase, 1)] with epoch := { waiting := [1] } }, 1, by decide⟩
theorem witness_unitPrepared_2 : ∃ (s : State) (h : Nat), h < 16777216 ∧ hubOn s = true ∧ rd s O.epoch_phase = 1 ∧ ackCounts s h = true :=
  ⟨{ hub 7 [(O.epoch_phase, 1)] with epoch := { waiting := [0, 1] } }, 1, by decide⟩
theorem witness_prepareTimeout : ∃ (s : State), hubOn s = true ∧ rd s O.epoch_phase = 1 :=
  ⟨{ hub 7 [(O.epoch_phase, 1)] with epoch := { waiting := [0, 1] } }, by decide⟩
theorem witness_autoCommit : ∃ (s : State) (a b : Nat), hubOn s = true ∧ s.epoch.autoWaiting = some (a, b) ∧ rd s O.epoch_phase = 0 ∧ s.epoch.peerPhase = 0 ∧ packageMode s ∈ [7, 8, 9, 11] ∧ roleMode s = 8 ∧ a ≠ 8 ∧ b ≠ 8 :=
  ⟨{ twin 8 [] with epoch := { autoWaiting := some (7, 9) } }, 7, 9, by decide⟩
theorem witness_unitApplied : ∃ (s : State) (h : Nat), h < 16777216 ∧ hubOn s = true ∧ rd s O.epoch_phase = 2 ∧ s.epoch.switched = true ∧ ackCounts s h = true ∧ ((s.epoch.waiting.filter (fun x => x ≠ h) ≠ [] ∨ s.epoch.lost ≠ [])) :=
  ⟨{ hub 7 [(O.epoch_phase, 2)] with epoch := { waiting := [0, 1], switched := true } }, 0, by decide⟩
theorem witness_unitApplied_1 : ∃ (s : State) (h : Nat), h < 16777216 ∧ hubOn s = true ∧ rd s O.epoch_phase = 2 ∧ s.epoch.switched = true ∧ ackCounts s h = true ∧ s.epoch.waiting.filter (fun x => x ≠ h) = [] ∧ s.epoch.lost = [] :=
  ⟨{ hub 7 [(O.epoch_phase, 2)] with epoch := { waiting := [1], switched := true } }, 1, by decide⟩
theorem witness_applyTimeout : ∃ (s : State), hubOn s = true ∧ rd s O.epoch_phase = 2 ∧ s.epoch.switched = true :=
  ⟨{ hub 7 [(O.epoch_phase, 2)] with epoch := { waiting := [1], switched := true } }, by decide⟩
theorem witness_unitRestored : ∃ (s : State) (h : Nat), h < 16777216 ∧ hubOn s = true ∧ rd s O.epoch_phase = 3 ∧ s.epoch.switched = true ∧ ackCounts s h = true :=
  ⟨{ hub 7 [(O.epoch_phase, 3)] with epoch := { waiting := [1], switched := true } }, 1, by decide⟩
theorem witness_restoreTimeout : ∃ (s : State), hubOn s = true ∧ rd s O.epoch_phase = 3 ∧ s.epoch.switched = true :=
  ⟨{ hub 7 [(O.epoch_phase, 3)] with epoch := { waiting := [1], switched := true } }, by decide⟩
theorem witness_peerDoneTimeout : ∃ (s : State), hubOn s = true ∧ s.epoch.peerPhase ≠ 0 :=
  ⟨{ twin 9 [] with epoch := { peerPhase := 3 } }, by decide⟩
theorem witness_epochMessageReceived : ∃ (s : State) (v : VHead) (n : Nat), Heard s 1 v ∧ s.epoch.peerPhase = 1 :=
  ⟨{ twin 9 [] with epoch := { peerPhase := 1 } }, goodHead, 5, by decide⟩
theorem witness_epochMessageReceived_1 : ∃ (s : State) (v : VHead), Heard s 1 v ∧ s.epoch.peerPhase = 0 ∧ rd s O.epoch_phase = 0 :=
  ⟨twin 9 [], goodHead, by decide⟩
theorem witness_epochMessageReceived_2 : ∃ (s : State) (v : VHead), Heard s 1 v ∧ s.epoch.peerPhase = 1 :=
  ⟨{ twin 9 [] with epoch := { peerPhase := 1 } }, goodHead, by decide⟩
theorem witness_epochMessageReceived_3 : ∃ (s : State) (v : VHead), Heard s 1 v ∧ s.epoch.peerPhase = 3 :=
  ⟨{ twin 9 [] with epoch := { peerPhase := 3 } }, goodHead, by decide⟩
theorem witness_epochMessageReceived_4 : ∃ (s : State) (v : VHead) (n : Nat), Heard s 1 v ∧ s.epoch.peerPhase = 3 :=
  ⟨{ twin 9 [] with epoch := { peerPhase := 3 } }, goodHead, 7, by decide⟩
theorem witness_frameBoundary : ∃ (s : State), hubOn s = true ∧ s.epoch.earliest = none :=
  ⟨hub 7 [(O.frame_count, 3)], by decide⟩
theorem witness_ledgerWrite : ∃ (s : State) (v : Octets), hubOn s = true ∧ ledgerServes s = true ∧ s.led.hung = [] ∧ v.length = 3 ∧ hidMalformed (leNat v) = false ∧ hidOwn s (leNat v) = true :=
  ⟨hub 4 [], [0xFF, 0xFF, 0x1F], by decide⟩
theorem witness_ledgerWrite_1 : ∃ (s : State) (v : Octets), hubOn s = true ∧ bar0Up s = true ∧ v.length = 4 ∧ 1 ≤ bits (leNat v) 10 0 ∧ bits (leNat v) 10 0 ≤ 1280 ∧ bit s.led.mbStatus 0 = false ∧ bit s.led.mbStatus 1 = false :=
  ⟨{ hub 4 [] with boot := { step := 4, pcieUp := true } }, [0x00, 0x05, 0, 0], by decide⟩
theorem witness_mbDoorbell : ∃ (s : State) (v : BitVec 32), hubOn s = true ∧ bar0Up s = true ∧ 1 ≤ bits v.toNat 10 0 ∧ bits v.toNat 10 0 ≤ 1280 ∧ bit s.led.mbStatus 0 = false ∧ bit s.led.mbStatus 1 = false :=
  ⟨{ hub 4 [] with boot := { step := 4, pcieUp := true } }, 0x500, by decide⟩
theorem witness_spiRequest : ∃ (s : State) (b : Octets), hubOn s = true ∧ s.boot.step ≠ 0 ∧ (s.led.spiState = 2 ∨ s.led.spiState = 3) :=
  ⟨{ hub 4 [] with led := { spiState := 3 } }, [1, 2], by decide⟩
theorem witness_spiResponseRead : ∃ (s : State) (n : Nat), hubOn s = true ∧ s.led.spiState = 1 ∧ s.led.spiResp.length ≤ n :=
  ⟨{ hub 4 [] with led := { spiState := 1, spiResp := [7, 8] } }, 2, by decide⟩
theorem witness_mgmtDatagram : ∃ (s : State) (p : Fin 8) (vid udp : Nat) (a b : Octets), hubOn s = true ∧ portUp s p = true ∧ vid = rd s O.mgmt_vid ∧ (s.led.arrivals.filter (fun x => decide (x.transport = .eth))).length < 16 :=
  ⟨hub 7 [(O.port_state 0, 2), (O.mgmt_vid, 5)], 0, 5, 4117, zeros 16, [1], by decide⟩
theorem witness_messageRun : ∃ (s : State) (a : Arrival), hubOn s = true ∧ ledgerServes s = true ∧ s.led.hung = [] ∧ s.led.arrivals.head? = some a ∧ a.transport = .eth ∧ discards s a = false ∧ authentic s a = true ∧ requestRecords a.bytes = some [{ index := 0, sub := 1, op := 1, value := [] }] :=
  ⟨{ hub 4 [(O.boot_count, 1), (O.accepted_eth, 3)] with led := { enabled := 7, arrivals := [readPart] } }, readPart, by decide +kernel⟩
theorem witness_notifySend : ∃ (s : State), hubOn s = true ∧ ledgerServes s = true ∧ bar0Up s = true ∧ bit (rd s O.notify_transports) 0 = false ∧ bit (rd s O.notify_transports) 1 = true ∧ owedEntries s (fun e => e.pcie) ≠ [] ∧ gapOver s s.tinker.lastPcie = true :=
  ⟨{ hub 4 [(O.notify_transports, 2)] with boot := { step := 4, pcieUp := true }, tinker := { log := [(0, oneEntry)] } }, by decide⟩
theorem witness_notifySend_1 : ∃ (s : State) (p : Nat), hubOn s = true ∧ ledgerServes s = true ∧ bit (rd s O.notify_transports) 0 = true ∧ bit (rd s O.notify_transports) 1 = false ∧ notifyPort s = some p ∧ owedEntries s (fun e => e.eth) ≠ [] ∧ gapOver s s.tinker.lastEth = true :=
  ⟨{ hub 7 [(O.notify_transports, 1), (O.port_state 0, 2), (O.mgmt_vid, 1)] with tinker := { log := [(0, oneEntry)] } }, 0, by decide⟩
theorem witness_save : ∃ (s : State), Reaches s O.save_cmd ∧ s.led.saveOp = none :=
  ⟨hub 4 [], by decide⟩
theorem witness_clearSaved : ∃ (s : State), Reaches s O.save_cmd ∧ s.led.saveOp = none :=
  ⟨hub 4 [], by decide⟩
theorem witness_saveComplete : ∃ (s : State) (r : Tab Nat) (b : Tab Octets), hubOn s = true ∧ s.led.saveOp = some (.save r b) :=
  ⟨{ hub 4 [] with led := { saveOp := some (.save [] []) } }, [], [], by decide⟩
theorem witness_saveComplete_1 : ∃ (s : State), hubOn s = true ∧ s.led.saveOp = some .clear :=
  ⟨{ hub 4 [] with led := { saveOp := some .clear } }, by decide⟩
theorem witness_saveTimeout : ∃ (s : State), hubOn s = true ∧ s.led.saveOp.isSome = true :=
  ⟨{ hub 4 [] with led := { saveOp := some .clear } }, by decide⟩
theorem witness_claim : ∃ (s : State), Reaches s O.claim_cmd ∧ s.claims.look (rd s O.claim_resource) = none :=
  ⟨hub 4 [(O.claim_resource, 0x1000)], by decide⟩
theorem witness_release : ∃ (s : State), Reaches s O.claim_cmd ∧ s.claims.look (rd s O.claim_resource) = some (rd s O.claim_owner) :=
  ⟨{ hub 4 [(O.claim_resource, 0x1000), (O.claim_owner, 0x200)] with claims := [(0x1000, 0x200)] }, by decide⟩
theorem witness_tailWrite : ∃ (s : State) (q : Fin 64) (v : Nat), hubOn s = true ∧ bar0Up s = true :=
  ⟨{ hub 4 [(O.ring_log2 63, 16)] with boot := { step := 4, pcieUp := true } }, 63, 65535, by decide⟩
theorem witness_queueEnable : ∃ (s : State) (q : Fin 64), Reaches s (O.enable q) ∧ flag s (O.enable q) = false :=
  ⟨hub 4 [], 63, by decide⟩
theorem witness_queueDisable : ∃ (s : State) (q : Fin 64), Reaches s (O.enable q) ∧ flag s (O.enable q) = true :=
  ⟨hub 4 [(O.enable 0, 1)], 0, by decide⟩
theorem witness_descriptorFetch : ∃ (s : State) (q : Fin 64) (d : Descriptor), hubOn s = true ∧ ringsMove s q = true ∧ postedOf s q ≠ 0 ∧ 32 ≤ q.val ∧ (hq s q).inHand = none ∧ (hq s q).held.length < postedOf s q :=
  ⟨{ hub 7 [(O.enable 32, 1), (O.ring_log2 32, 4)] with boot := { step := 4, pcieUp := true }, hostq := [(32, { tail := 1 })] }, 32, aDescriptor, by decide⟩
theorem witness_descriptorFetch_1 : ∃ (s : State) (q : Fin 64) (d : Descriptor) (f : OutFrame) (l : List OutFrame), hubOn s = true ∧ ringsMove s q = true ∧ postedOf s q ≠ 0 ∧ q.val < 32 ∧ hostDirect s q = f :: l ∧ badLength d.length = false ∧ f.bytes.length ≤ d.length :=
  ⟨{ hub 7 [(O.enable 0, 1), (O.ring_log2 0, 4)] with boot := { step := 4, pcieUp := true }, hostq := [(0, { tail := 1 })], miller := { host := [(0, [aFrame])] } }, 0, aDescriptor, aFrame, [], by decide⟩
theorem witness_fromHostTakeIn : ∃ (s : State) (q : Fin 64) (d : Descriptor) (b : Octets), hubOn s = true ∧ bar0Up s = true ∧ packageMode s ≠ 4 ∧ (hq s q).inHand = some d ∧ badLength d.length = false ∧ b.length = d.length ∧ hostPath s d b = .forwarding ∧ (placeCells s (cellsFor b.length) (reservedBytes s b 0)).isSome = true :=
  ⟨{ hub 7 [] with boot := { step := 4, pcieUp := true }, hostq := [(33, { inHand := some aDescriptor })] }, 33, aDescriptor, List.replicate 60 1, by decide⟩
theorem witness_dmaError : ∃ (s : State) (q : Fin 64) (w : Bool), hubOn s = true ∧ ringsMove s q = true ∧ postedOf s q ≠ 0 :=
  ⟨{ hub 7 [(O.enable 32, 1), (O.ring_log2 32, 4)] with boot := { step := 4, pcieUp := true }, hostq := [(32, { tail := 1 })] }, 32, true, by decide⟩
theorem witness_irqTimeExpire : ∃ (s : State) (q : Fin 64), hubOn s = true ∧ (hq s q).irqTimer = true :=
  ⟨{ hub 4 [] with hostq := [(5, { irqTimer := true, unsignalled := 2 })] }, 5, by decide⟩
theorem witness_bar0BadAccess : ∃ (s : State) (o n : Nat) (w : Bool), hubOn s = true ∧ bar0Up s = true ∧ (¬((n = 4 ∨ n = 8) ∧ o % n = 0)) :=
  ⟨{ hub 4 [] with boot := { step := 4, pcieUp := true } }, 2, 4, false, by decide⟩
theorem witness_tsSnapshotRead : ∃ (s : State) (w : Bool), hubOn s = true ∧ s.boot.perst = false :=
  ⟨{ hub 4 [] with tb := 65536 * 5000000007 }, true, by decide⟩
theorem witness_crystalStable : ∃ (s : State) (r : Fin 3), hubOn s = true ∧ rState s r = 1 ∧ (radio s r).crystal = true :=
  ⟨onRadio { crystal := true } [(O.radio_state 0, 1)], 0, by decide⟩
theorem witness_synthLock : ∃ (s : State) (r : Fin 3), hubOn s = true ∧ rState s r = 3 :=
  ⟨onRadio {} [(O.radio_state 0, 3)], 0, by decide⟩
theorem witness_settleTimeout : ∃ (s : State) (r : Fin 3), hubOn s = true ∧ rState s r = 3 :=
  ⟨onRadio {} [(O.radio_state 0, 3)], 0, by decide⟩
theorem witness_lockLost : ∃ (s : State) (r : Fin 3), hubOn s = true ∧ (rState s r = 4 ∨ rState s r = 5 ∨ rState s r = 6) :=
  ⟨onRadio {} [(O.radio_state 0, 4)], 0, by decide⟩
theorem witness_transmitCommand : ∃ (s : State) (r : Fin 3) (c : TxCmd), hubOn s = true ∧ radioFitted s.fuse.part r = true ∧ c.held = false ∧ earlyChecks s r c = none :=
  ⟨onRadio {} [(O.radio_state 0, 4)], 0, aCommand, by decide⟩
theorem witness_commandStart : ∃ (s : State) (r : Fin 3) (c : TxCmd) (l : List TxCmd), hubOn s = true ∧ (radio s r).cmds = c :: l ∧ earlyChecks (setRadio s r { radio s r with cmds := l }) r c = none ∧ rState s r = 4 ∧ (radio s r).cal = none ∧ earliestStart c (readyInstant s r 0) ≤ latestStart c :=
  ⟨onRadio { cmds := [aCommand] } [(O.radio_state 0, 4)], 0, aCommand, [], by decide⟩
theorem witness_heldCommandAbort : ∃ (s : State) (r : Fin 3) (c : TxCmd) (l : List TxCmd), hubOn s = true ∧ (radio s r).cmds = c :: l ∧ c.held = true ∧ rState s r = 3 :=
  ⟨onRadio { cmds := [{ aCommand with held := true }] } [(O.radio_state 0, 3)], 0, { aCommand with held := true }, [], by decide⟩
theorem witness_ppduEnd : ∃ (s : State) (r : Fin 3) (c : TxCmd) (l : List Nat), hubOn s = true ∧ (radio s r).onAir = some c ∧ rState s r = 5 :=
  ⟨onRadio { onAir := some aCommand } [(O.radio_state 0, 5)], 0, aCommand, [40], by decide⟩
theorem witness_txResult : ∃ (s : State) (x : TxReport) (l : List TxReport), hubOn s = true ∧ s.txReports = x :: l :=
  ⟨{ onRadio {} [] with txReports := [{ radio := 0, cmd := aCommand, result := .sent }] }, { radio := 0, cmd := aCommand, result := .sent }, [], by decide⟩
theorem witness_txMute : ∃ (s : State) (r : Fin 3) (b : Bool), Reaches s (O.tx_mute r) :=
  ⟨onRadio {} [], 0, true, by decide⟩
theorem witness_vfemLow : ∃ (s : State) (r : Fin 3) (k : Nat), hubOn s = true ∧ rd s (O.pd_state (6 + r)) = 2 ∧ k ∈ enabledChains s r :=
  ⟨onRadio {} [], 0, 1, by decide⟩
theorem witness_calCmd : ∃ (s : State) (r : Fin 3), Reaches s (O.cal_cmd r) :=
  ⟨onRadio {} [(O.radio_state 0, 2), (O.cal_kind 0, 6), (O.cal_chain 0, 1)], 0, by decide⟩
theorem witness_predistortTempRaise : ∃ (s : State) (r : Fin 3) (k : Fin 16) (c : Int), hubOn s = true ∧ k.val < chainsOf s.fuse.part r :=
  ⟨onRadio {} [], 0, 1, 60, by decide⟩
theorem witness_calResume : ∃ (s : State) (r : Fin 3) (k : CalRun), hubOn s = true ∧ (radio s r).cal = some k ∧ k.yielded = true ∧ (radio s r).cmds = [] ∧ (radio s r).onAir = none :=
  ⟨onRadio { cal := some { kind := 6, chains := [1], step := 0, started := 0, yielded := true } } [], 0, { kind := 6, chains := [1], step := 0, started := 0, yielded := true }, by decide⟩
theorem witness_calLimitTimeout : ∃ (s : State) (r : Fin 3) (k : CalRun), hubOn s = true ∧ (radio s r).cal = some k ∧ 3 ≤ k.kind :=
  ⟨onRadio { cal := some { kind := 6, chains := [1], step := 0, started := 0, yielded := true } } [], 0, { kind := 6, chains := [1], step := 0, started := 0, yielded := true }, by decide⟩
theorem witness_calEnd : ∃ (s : State) (r : Fin 3) (k : CalRun) (c : Nat) (l : List Nat), hubOn s = true ∧ (radio s r).cal = some k ∧ (radio s r).trainFull = false ∧ 3 ≤ k.kind ∧ k.chains = c :: l :=
  ⟨onRadio { cal := some { kind := 6, chains := [1], step := 0, started := 0, yielded := false } } [(O.radio_state 0, 4)], 0, { kind := 6, chains := [1], step := 0, started := 0, yielded := false }, 1, [], by decide⟩
theorem witness_calEnd_1 : ∃ (s : State) (r : Fin 3) (k : CalRun), hubOn s = true ∧ (radio s r).cal = some k ∧ (radio s r).trainFull = false ∧ k.kind = 1 :=
  ⟨onRadio { cal := some { kind := 1, chains := [], step := 0, started := 0, yielded := false } } [(O.radio_state 0, 6)], 0, { kind := 1, chains := [], step := 0, started := 0, yielded := false }, by decide⟩
theorem witness_pdetOvershoot : ∃ (s : State) (r : Fin 3) (k : Fin 16) (v : Nat), hubOn s = true ∧ (radio s r).onAir.isSome = true ∧ chainLimitEff s r k + 2 < (v : Int) :=
  ⟨onRadio { onAir := some aCommand } [(O.radio_state 0, 5)], 0, 1, 255, by decide⟩
theorem witness_grantInstall : ∃ (s : State) (r : Fin 3) (g : Fin 16), Reaches s (O.grant_cmd r g) ∧ grantInstallCheck s r g = .ok :=
  ⟨onRadio {} [(O.tb_state, 2), (O.grant_expiry 0 2, 0xFFFFFFFFFFFFFFFFFFFF)], 0, 2, by decide⟩
theorem witness_grantRevoke : ∃ (s : State) (r : Fin 3) (g : Fin 16), Reaches s (O.grant_cmd r g) ∧ rd s (O.grant_state r g) = 1 :=
  ⟨onRadio {} [(O.grant_state 0 2, 1)], 0, 2, by decide⟩
theorem witness_grantExpiry : ∃ (s : State) (r : Fin 3) (g : Fin 16) (x : Grant), hubOn s = true ∧ (radio s r).grants.look g = some x ∧ rd s (O.grant_state r g) = 1 ∧ x.expiry ≤ tbNs s :=
  ⟨onRadio { grants := [(2, { first := 0, last := 0, power := 40, expiry := 0 })] } [(O.grant_state 0 2, 1)], 0, 2, { first := 0, last := 0, power := 40, expiry := 0 }, by decide⟩
theorem witness_thermalDerateUpdate : ∃ (s : State) (r : Fin 3) (c : Int), hubOn s = true ∧ radioFitted s.fuse.part r = true :=
  ⟨onRadio {} [], 0, 50, by decide⟩
theorem witness_mpduReceived : ∃ (s : State) (r : Fin 3) (m : RxMpdu) (e : LookupError), hubOn s = true ∧ rState s r = 4 ∧ m.fcsOk = false ∧ m.last = false :=
  ⟨onRadio {} [(O.radio_state 0, 4)], 0, { aMpdu with fcsOk := false }, .none, by decide⟩
theorem witness_mpduReceived_1 : ∃ (s : State) (r : Fin 3) (m : RxMpdu), hubOn s = true ∧ rState s r = 4 ∧ m.fcsOk = true ∧ m.last = false ∧ m.kind ≠ .beacon ∧ 11454 < m.length :=
  ⟨onRadio {} [(O.radio_state 0, 4)], 0, { aMpdu with length := 11455 }, by decide⟩
theorem witness_mpduReceived_2 : ∃ (s : State) (r : Fin 3) (m : RxMpdu), hubOn s = true ∧ rState s r = 4 ∧ m.fcsOk = true ∧ m.last = false ∧ m.kind ≠ .beacon ∧ m.length ≤ 11454 ∧ addressCheck s r m.ra = 0 :=
  ⟨onRadio {} [(O.radio_state 0, 4)], 0, aMpdu, by decide⟩
theorem witness_staAdd : ∃ (s : State), Reaches s O.sta_cmd ∧ staState s (rd s O.sta_select) = 0 ∧ staAddOk s = true :=
  ⟨hub 7 [(O.sta_select, 3), (winKey staStage O.sta_links, 1), (winKey staStage O.sta_aid, 4), (winKey staStage O.sta_tid_map, 0x249249), (O.bss_count 0, 1)], by decide⟩
theorem witness_staRemove : ∃ (s : State), Reaches s O.sta_cmd ∧ staState s (rd s O.sta_select) ≠ 0 :=
  ⟨{ withStation (hub 7 [(O.sta_select, 3)]) with out := [] }, by decide⟩
theorem witness_staAuthorize : ∃ (s : State), Reaches s O.sta_cmd ∧ staState s (rd s O.sta_select) = 1 :=
  ⟨hub 7 [(O.sta_select, 3), (winKey 3 O.sta_state, 1)], by decide⟩
theorem witness_staDeauthorize : ∃ (s : State), Reaches s O.sta_cmd ∧ staState s (rd s O.sta_select) = 2 :=
  ⟨withStation (hub 7 [(O.sta_select, 3)]), by decide⟩
theorem witness_reorderTimeout : ∃ (s : State) (i tid : Nat) (h : Held) (x : Arrived), hubOn s = true ∧ (board s i tid).held = [h] ∧ (board s i tid).marked = [h.sn] ∧ h.sn < 4096 ∧ snBefore (board s i tid).start h.sn = false ∧ s.mac.arrived.look h.mpdu = some x ∧ x.mpdu.kind = .data ∧ x.mpdu.isProtected = true ∧ x.radio < 3 :=
  ⟨{ hub 7 [] with mac := { stations := [(3, { boards := [(0, { window := 64, start := 4, marked := [6], held := [{ sn := 6, mpdu := 1, since := 0 }] })] })], arrived := [(1, { radio := 0, mpdu := aMpdu, station := some 3, stamp := 0, buf := 0 })] } }, 3, 0, { sn := 6, mpdu := 1, since := 0 }, { radio := 0, mpdu := aMpdu, station := some 3, stamp := 0, buf := 0 }, by decide⟩
theorem witness_mpduUnacked : ∃ (s : State) (i tid sn : Nat) (u : Unacked), hubOn s = true ∧ s.ost.sent.find? (fun v => decide (v.station = i ∧ v.frame.tid = tid ∧ v.frame.sn = some sn)) = some u ∧ u.radio < 3 ∧ u.frame.sends < rd s O.retry_limit :=
  ⟨{ withStation (hub 7 [(O.retry_limit, 7)]) with ost := { sent := [{ station := 3, ac := 0, radio := 0, tag := 1, frame := anAirFrame }] } }, 3, 0, 5, { station := 3, ac := 0, radio := 0, tag := 1, frame := anAirFrame }, by decide⟩
theorem witness_twtTeardown : ∃ (s : State) (x : Twt), Reaches s O.twt_cmd ∧ s.mac.twt.look (rd s O.twt_select) = some x :=
  ⟨{ hub 7 [(O.twt_select, 2)] with mac := { twt := [(2, { station := 3, flow := 0, radio := 0, interval := 100, duration := 10, wake := 0, announced := false, d := 0, r := 0, reported := false, heard := none, ended := none })] } }, { station := 3, flow := 0, radio := 0, interval := 100, duration := 10, wake := 0, announced := false, d := 0, r := 0, reported := false, heard := none, ended := none }, by decide⟩
theorem witness_tbtt : ∃ (s : State) (r : Fin 3), hubOn s = true ∧ ownsLinks s = true ∧ radioFitted s.fuse.part r = true ∧ rd s (O.bss_count r) ≠ 0 ∧ planBarred (swapTemplates s r) r = false :=
  ⟨onRadio {} [(O.radio_state 0, 4), (O.bss_count 0, 1)], 0, by decide⟩
theorem witness_beaconWaitExpire : ∃ (s : State) (r : Fin 3), hubOn s = true ∧ roleMode s = 9 ∧ flag s (O.monitor_lead r) = true ∧ (s.mac.missed.getD r 0 + 1) % 3 ≠ 0 :=
  ⟨hub 9 [(O.monitor_lead 0, 1)], 0, by decide⟩
theorem witness_beaconWaitExpire_1 : ∃ (s : State) (r : Fin 3), hubOn s = true ∧ bhLink s r = true ∧ 2 ≤ s.mac.missed.getD (3 + r) 0 ∧ bit (rd s O.bh_link_state) r = true :=
  ⟨{ hub 7 [(O.bh_enable, 1), (O.bh_links, 1), (O.bh_link_state, 1)] with mac := { missed := [(3, 2)] } }, 0, by decide⟩
theorem witness_planClose : ∃ (s : State) (e : PlanErrors), hubOn s = true ∧ s.planClosed = false ∧ 7 ≤ packageMode s :=
  ⟨{ hub 7 [] with ost := { grants := [{ queue := 12, bytes := 60 }] } }, { plans := [0], csi := [], rates := [] }, by decide⟩
theorem witness_grantRequest : ∃ (s u : State) (a : Nat), hubOn s = true ∧ s.planClosed = false ∧ nextListed s = (some a, u) ∧ airEligible (ageQueue u a) a = true :=
  ⟨{ withStation (onRadio {} [(O.radio_state 0, 4)]) with miller := { air := [(12, { frames := [{ anAirFrame with radio := none }] })], airSched := { list := [12] } } }, { withStation (onRadio {} [(O.radio_state 0, 4)]) with miller := { air := [(12, { frames := [{ anAirFrame with radio := none }] })], airSched := { list := [12] } } }, 12, by decide⟩
theorem witness_syncInEdge : ∃ (s : State), hubOn s = true ∧ roleMode s = 9 :=
  ⟨hub 9 [], by decide⟩
theorem witness_syncInEdge_1 : ∃ (s : State), hubOn s = true ∧ roleMode s ≠ 9 ∧ rd s O.sync_mode ≠ 0 ∧ s.move.edgeSeen = false ∧ rd s O.sync_state ≠ 3 ∧ (syncError s).natAbs ≤ rd s O.sync_step_max * 1000 :=
  ⟨hub 7 [(O.sync_mode, 1), (O.sync_step_max, 10)], by decide⟩
theorem witness_syncInEdge_2 : ∃ (s : State), hubOn s = true ∧ roleMode s ≠ 9 ∧ rd s O.sync_mode ≠ 0 ∧ s.move.edgeSeen = false ∧ rd s O.sync_state ≠ 3 ∧ rd s O.sync_step_max * 1000 < (syncError s).natAbs :=
  ⟨{ hub 7 [(O.sync_mode, 1), (O.sync_step_max, 10)] with tb := 100000 * 65536 }, by decide⟩
theorem witness_syncTimeout : ∃ (s : State), hubOn s = true ∧ rd s O.sync_mode = 1 ∧ rd s O.sync_state ≠ 4 :=
  ⟨hub 7 [(O.sync_mode, 1), (O.sync_state, 2)], by decide⟩
theorem witness_txopAccessComplete : ∃ (s : State) (r : Fin 3) (e : Exchange), hubOn s = true ∧ s.ost.beacons.find? (fun b => decide (b.1 = (r : Nat))) = none ∧ (radioPlan s r).running = [e] ∧ e.kind ≠ .beacon ∧ e.users = [] ∧ e.content ≠ none ∧ e.paired = false ∧ e.start ≤ tbNs s - s.ost.beganTb ∧ tbNs s - s.ost.beganTb ≤ e.start + (radioPlan s r).slip + rd s (O.slip_max r) * 1000 ∧ e.ppdu ≤ e.length ∧ fitsAt s [] e (tbNs s - s.ost.beganTb) = true :=
  ⟨{ onRadio {} [(O.radio_state 0, 4)] with ost := { plans := [(0, { running := [anExchange] })] } }, 0, anExchange, by decide⟩
theorem witness_txopAccessComplete_1 : ∃ (s : State) (r : Fin 3) (c : Nat × TxContent), hubOn s = true ∧ s.ost.beacons.find? (fun b => decide (b.1 = (r : Nat))) = some c :=
  ⟨{ onRadio {} [(O.radio_state 0, 4)] with ost := { beacons := [(0, .bytes [])] } }, 0, (0, .bytes []), by decide⟩
theorem witness_accessDeadline : ∃ (s : State) (r : Fin 3) (e : Exchange) (l : List Exchange), hubOn s = true ∧ (radioPlan s r).running = e :: l ∧ e.kind ≠ .beacon :=
  ⟨{ onRadio {} [(O.radio_state 0, 4)] with ost := { plans := [(0, { running := [anExchange] })] } }, 0, anExchange, [], by decide⟩
theorem witness_tbPpduMissing : ∃ (s : State) (r : Fin 3) (i : Nat), hubOn s = true ∧ s.ost.triggered.any (fun e => decide (e.1 = (r : Nat)) && decide (e.2.1 = i)) = true :=
  ⟨{ hub 7 [] with ost := { triggered := [(0, 3, 100)] } }, 0, 3, by decide⟩
theorem witness_followerCsiReceived : ∃ (s : State) (v : VHead) (i : Nat) (l : List (Nat × Nat)), Heard s 4 v ∧ staState s i ≠ 0 ∧ roleMode s = 8 :=
  ⟨withStation (twin 8 []), goodHead, 3, [(4, 10)], by decide⟩
theorem witness_heartbeatSend : ∃ (s : State), hubOn s = true ∧ twinState s ≠ 0 ∧ lanesUp s ≠ 0 ∧ rd s O.boot_count ≠ 0xFFFF :=
  ⟨twin 8 [], by decide⟩
theorem witness_heartbeatReceived : ∃ (s : State) (v : VHead) (h : HbMsg), Heard s 0 v ∧ h.fault = false ∧ twinState s = 3 ∧ roleMode s = 8 :=
  ⟨{ twin 8 [] with fuse := resetFuses }, goodHead, aHeartbeat, by decide⟩
theorem witness_heartbeatReceived_1 : ∃ (s : State) (v : VHead) (h : HbMsg), Heard s 0 v ∧ h.fault = false ∧ h.hears = false ∧ twinState s = 4 ∧ roleMode s = 9 :=
  ⟨twin 9 [(O.twin_state, 4)], goodHead, aHeartbeat, by decide⟩
theorem witness_heartbeatMissed : ∃ (s : State), hubOn s = true ∧ twinState s ≠ 0 :=
  ⟨twin 8 [], by decide⟩
theorem witness_heartbeatStale : ∃ (s : State), hubOn s = true ∧ s.twin.aliveFresh = true ∧ followsPair s = false ∧ roleMode s ≠ 9 :=
  ⟨{ twin 7 [(O.twin_state, 1)] with twin := { aliveFresh := true } }, by decide⟩
theorem witness_heartbeatStale_1 : ∃ (s : State), hubOn s = true ∧ s.twin.aliveFresh = false ∧ followsPair s = false ∧ leadsPair s = true ∧ s.twin.rxpnHeld = [] :=
  ⟨twin 8 [], by decide⟩
theorem witness_aliveEdgeSend : ∃ (s : State), hubOn s = true ∧ twinRole s ≠ 0 :=
  ⟨{ twin 8 [] with boot := { step := 4, straps := 0x400 } }, by decide⟩
theorem witness_aliveEdgeReceived : ∃ (s : State), hubOn s = true ∧ twinRole s ≠ 0 :=
  ⟨{ twin 8 [] with boot := { step := 4, straps := 0x400 } }, by decide⟩
theorem witness_aliveSilent : ∃ (s : State), hubOn s = true ∧ twinRole s ≠ 0 ∧ s.twin.hbFresh = true :=
  ⟨{ twin 8 [] with boot := { step := 4, straps := 0x400 }, twin := { hbFresh := true } }, by decide⟩
theorem witness_laneDown : ∃ (s : State) (l : Fin 4), hubOn s = true ∧ bit (rd s O.varlan_lanes) l = true ∧ 2 ≤ lanesUp s :=
  ⟨twin 8 [], 1, by decide⟩
theorem witness_laneUp : ∃ (s : State) (l : Fin 4), hubOn s = true ∧ bit s.twin.training l = true ∧ s.miller.varlan = [] :=
  ⟨{ twin 8 [(O.varlan_lanes, 13)] with twin := { training := 2 } }, 1, by decide⟩
theorem witness_peerKeyWrite : ∃ (s : State) (k : Octets), Reaches s O.peer_key ∧ k.length = 16 :=
  ⟨twin 7 [], zeros 16, by decide⟩
theorem witness_forget : ∃ (s : State), Reaches s O.peer_key_cmd :=
  ⟨twin 7 [], by decide⟩
theorem witness_mirrorRecordReceived : ∃ (s : State) (v : VHead) (i tid n : Nat), Heard s 3 v ∧ roleMode s = 9 ∧ twinState s = 3 ∧ staState s i ≠ 0 ∧ lanesUp s ≠ 0 ∧ rd s O.boot_count ≠ 0xFFFF :=
  ⟨withStation (twin 9 []), goodHead, 3, 0, 77, by decide⟩
theorem witness_mirrorRecordReceived_1 : ∃ (s : State) (v : VHead) (i tid n : Nat), Heard s 3 v ∧ twinState s = 2 ∧ s.twin.copy = some .joiner :=
  ⟨{ twin 9 [(O.twin_state, 2)] with twin := { copy := some .joiner } }, goodHead, 3, 0, 77, by decide⟩
theorem witness_mirrorRecordReceived_2 : ∃ (s : State) (v : VHead) (token k c pn : Nat), Heard s 2 v ∧ roleMode s = 9 ∧ twinState s = 3 ∧ s.lock.slots.has k = true ∧ lanesUp s ≠ 0 ∧ rd s O.boot_count ≠ 0xFFFF :=
  ⟨{ twin 9 [] with lock := { slots := [(5, {})] } }, goodHead, 4, 5, 0, 100, by decide⟩
theorem witness_mirrorAck : ∃ (s : State) (v : VHead) (n : Nat), Heard s 3 v :=
  ⟨{ twin 8 [] with twin := { unacked := [(1, .txPn 5 7), (2, .txPn 5 8)] } }, goodHead, 1, by decide⟩
theorem witness_mirrorAckTimeout : ∃ (s : State), hubOn s = true ∧ roleMode s = 8 ∧ s.twin.unacked ≠ [] ∧ twinState s = 3 ∧ s.twin.rxpnHeld = [] :=
  ⟨{ twin 8 [] with twin := { unacked := [(1, .txPn 5 7)] } }, by decide⟩
theorem witness_rxpnAck : ∃ (s : State) (v : VHead) (token m : Nat) (x : Arrived), Heard s 2 v ∧ s.twin.rxpnHeld.find? (fun e => e.1 = token) = some (token, m) ∧ s.mac.arrived.look m = some x ∧ presents s m x = false ∧ macHandles x.mpdu.kind = false :=
  ⟨heldVerdict (twin 8 []), goodHead, 4, 1, { radio := 0, mpdu := { aMpdu with kind := .nullData }, station := none, stamp := 0, buf := 0 }, by decide⟩
theorem witness_rxpnWaitExpire : ∃ (s : State) (token m : Nat) (x : Arrived), hubOn s = true ∧ twinState s = 4 ∧ s.twin.rxpnHeld.find? (fun e => e.1 = token) = some (token, m) ∧ s.mac.arrived.look m = some x ∧ presents s m x = false ∧ macHandles x.mpdu.kind = false :=
  ⟨heldVerdict (twin 8 [(O.twin_state, 4)]), 4, 1, { radio := 0, mpdu := { aMpdu with kind := .nullData }, station := none, stamp := 0, buf := 0 }, by decide⟩
theorem witness_pairTxReceived : ∃ (s : State) (v : VHead) (c : TxCmd), Heard s 4 v ∧ roleMode s = 9 :=
  ⟨twin 9 [], goodHead, aCommand, by decide⟩
theorem witness_pairGoReceived : ∃ (s : State) (v : VHead) (c : TxCmd) (tag start : Nat), Heard s 4 v ∧ roleMode s = 9 ∧ s.twin.pairTx.look tag = some c ∧ rState s 2 = 3 ∧ earlyChecks s 2 { c with issuer := .pair, start := some start, deadline := start, chains := goodChains s 2 } = none :=
  ⟨{ twin 9 [(O.pd_state 8, 2), (O.radio_state 2, 3)] with twin := { pairTx := [(1, { aCommand with subchannels := [64] })] } }, goodHead, { aCommand with subchannels := [64] }, 1, 200000, by decide⟩
theorem witness_pairResultReceived : ∃ (s : State) (v : VHead) (tag : Nat), Heard s 4 v ∧ s.twin.pairFallen.has tag = false :=
  ⟨twin 8 [], goodHead, 6, by decide⟩
theorem witness_pairCancelReceived : ∃ (s : State) (v : VHead) (tag : Nat), Heard s 4 v :=
  ⟨{ twin 9 [] with twin := { pairTx := [(1, aCommand)] } }, goodHead, 1, by decide⟩
theorem witness_joinReceived : ∃ (s : State) (v : VHead) (serial : Octets), Heard s 1 v ∧ twinState s = 1 ∧ servingMode (packageMode s) = true ∧ s.twin.handedOver = false :=
  ⟨twin 7 [(O.twin_state, 1)], goodHead, zeros 16, by decide⟩
theorem witness_handoverReceived : ∃ (s : State) (v : VHead), Heard s 1 v ∧ followsPair s = true :=
  ⟨twin 9 [], goodHead, by decide⟩
theorem witness_takeoverForce : ∃ (s : State), Reaches s O.takeover_cmd ∧ roleMode s ≠ 8 ∧ twinState s = 3 :=
  ⟨twin 9 [], by decide⟩
theorem witness_takeoverForce_1 : ∃ (s : State), Reaches s O.takeover_cmd ∧ roleMode s = 8 :=
  ⟨twin 8 [], by decide⟩
theorem witness_standDownReceived : ∃ (s : State) (v : VHead), Heard s 1 v ∧ roleMode s = 8 ∧ twinState s = 3 :=
  ⟨twin 8 [], goodHead, by decide⟩
theorem witness_standDownAnswer : ∃ (s : State) (v : VHead), Heard s 1 v ∧ s.twin.standDown = true ∧ followsPair s = true :=
  ⟨{ twin 9 [] with twin := { standDown := true } }, goodHead, by decide⟩
theorem witness_standDownTimeout : ∃ (s : State), hubOn s = true ∧ s.twin.standDown = true :=
  ⟨{ twin 9 [] with twin := { standDown := true } }, by decide⟩
theorem witness_forwardedWrite : ∃ (s : State) (v : VHead) (n : Nat), Heard s 1 v ∧ roleMode s = 9 ∧ lanesUp s ≠ 0 ∧ rd s O.boot_count ≠ 0xFFFF ∧ storeWrite s 0x5810 6 (leBytes 2 n) = none ∧ n < 65536 :=
  ⟨twin 9 [], goodHead, 300, by decide⟩
theorem witness_forwardAckTimeout : ∃ (s : State), hubOn s = true ∧ s.twin.forwarding.isSome = true ∧ twinState s = 3 ∧ s.twin.rxpnHeld = [] :=
  ⟨{ twin 8 [] with twin := { forwarding := some 0 } }, by decide⟩
theorem witness_copyComplete : ∃ (s : State) (v : VHead), Heard s 1 v ∧ twinState s = 2 ∧ s.twin.copyDone = false ∧ s.twin.copy = some .source ∧ s.twin.waitingRecs = [] :=
  ⟨{ twin 8 [(O.twin_state, 2)] with twin := { copy := some .source, resync := true } }, goodHead, by decide⟩
theorem witness_copyComplete_1 : ∃ (s : State) (v : VHead) (d : CopyData), Heard s 1 v ∧ twinState s = 2 ∧ s.twin.copyDone = false ∧ s.twin.copy = some .joiner ∧ s.twin.resync = true :=
  ⟨{ twin 9 [(O.twin_state, 2)] with twin := { copy := some .joiner, resync := true } }, goodHead, noCopy, by decide⟩
theorem witness_copyTimeout : ∃ (s : State), hubOn s = true ∧ twinState s = 2 ∧ s.twin.copyDone = false ∧ s.twin.resync = true ∧ roleMode s ≠ 8 :=
  ⟨{ twin 9 [(O.twin_state, 2)] with twin := { copy := some .joiner, resync := true } }, by decide⟩
theorem witness_copyTimeout_1 : ∃ (s : State), hubOn s = true ∧ twinState s = 2 ∧ s.twin.copyDone = false ∧ s.twin.resync = false ∧ s.twin.copy = some .source :=
  ⟨{ twin 7 [(O.twin_state, 2)] with twin := { copy := some .source } }, by decide⟩
theorem witness_joinRetry : ∃ (s : State), hubOn s = true ∧ twinState s = 2 ∧ s.twin.copyDone = true ∧ s.twin.copy = some .source ∧ s.twin.retryAuto = true :=
  ⟨{ twin 7 [(O.twin_state, 2)] with twin := { copy := some .source, copyDone := true, retryAuto := true } }, by decide⟩
theorem witness_searchTimeout : ∃ (s : State), hubOn s = true ∧ s.boot.waiting = true ∧ twinState s = 1 ∧ s.twin.hbFresh = false :=
  ⟨waiting, by decide⟩
theorem witness_takeoverEnd : ∃ (s : State), hubOn s = true ∧ packageMode s = 10 ∧ s.tinker.deferred = none :=
  ⟨twin 10 [(O.twin_state, 5)], by decide⟩
theorem witness_keyInstall : ∃ (s : State), Reaches s O.key_cmd ∧ slotState s (rd s O.key_select) = 0 ∧ installCheck s = .ok :=
  ⟨{ withStation (hub 7 [(O.key_select, 3), (winKey keyStage O.key_owner, 3), (winKey keyStage O.key_cipher, 2)]) with lock := { keyValue := zeros 32 } }, by decide⟩
theorem witness_keyInstall_1 : ∃ (s : State), Reaches s O.key_cmd ∧ slotState s (rd s O.key_select) ≠ 0 :=
  ⟨withSlot (hub 7 [(O.key_select, 3)]), by decide⟩
theorem witness_keyClear : ∃ (s : State), Reaches s O.key_cmd ∧ slotState s (rd s O.key_select) ≠ 0 :=
  ⟨withSlot (hub 7 [(O.key_select, 3)]), by decide⟩
theorem witness_setTx : ∃ (s : State), Reaches s O.key_cmd ∧ slotState s (rd s O.key_select) = 1 ∧ (slotsInUse s).contains (rd s O.key_select) = true :=
  ⟨withSlot (hub 7 [(O.key_select, 3)]), by decide⟩
theorem witness_mpduDecrypt : ∃ (s : State) (m : Nat) (l : List Nat) (x : Arrived), hubOn s = true ∧ s.lock.input = m :: l ∧ s.mac.arrived.look m = some x ∧ x.mpdu.isProtected = true ∧ x.mpdu.extIv = true ∧ (x.mpdu.header = 1 ∨ x.mpdu.header = 2) ∧ rxSlot s 0 (x.station.getD 0) x.mpdu.keyId = none ∧ waitingFor s m = [] :=
  ⟨{ withArrived (withStation (hub 7 [])) aMpdu with lock := { input := [1] } }, 1, [], arrivedMpdu aMpdu, by decide⟩
theorem witness_mpduDecrypt_1 : ∃ (s : State) (m k : Nat) (l : List Nat) (x : Arrived), hubOn s = true ∧ s.lock.input = m :: l ∧ s.mac.arrived.look m = some x ∧ x.mpdu.isProtected = true ∧ x.mpdu.extIv = true ∧ rxSlot s 0 (x.station.getD 0) x.mpdu.keyId = some k ∧ s.mac.coldBss = [] ∧ headerOf (slotVal s k O.key_cipher) = x.mpdu.header ∧ (x.mpdu.header = 1 ∨ x.mpdu.header = 2) ∧ replayC s k (replayCounter x.mpdu) < x.mpdu.pn ∧ s.lock.flight = [] :=
  ⟨{ withArrived (withSlot (withStation (hub 7 []))) aMpdu with lock := { input := [1], slots := [(3, {})] } }, 1, 3, [], arrivedMpdu aMpdu, by decide⟩
theorem witness_tagVerdict : ∃ (s : State) (m : Nat) (f : InFlight) (x : Arrived), hubOn s = true ∧ s.lock.flight = [f] ∧ f.id = m ∧ f.macsec = false ∧ s.lock.waiting = [] ∧ s.lock.slots.has f.slot = true ∧ s.mac.arrived.look m = some x ∧ presents s m x = false ∧ macHandles x.mpdu.kind = false ∧ roleMode s ≠ 8 :=
  ⟨{ withArrived (withStation (hub 7 [])) { aMpdu with kind := .nullData } with lock := { flight := [aFlight], slots := [(3, {})] } }, 1, aFlight, arrivedMpdu { aMpdu with kind := .nullData }, by decide⟩
theorem witness_tagVerdict_1 : ∃ (s : State) (m : Nat) (f : InFlight) (x : Arrived), hubOn s = true ∧ s.lock.flight = [f] ∧ f.id = m ∧ f.macsec = false ∧ s.lock.waiting = [] ∧ s.mac.arrived.look m = some x ∧ presents s m x = false :=
  ⟨{ withArrived (withStation (hub 7 [])) { aMpdu with kind := .nullData } with lock := { flight := [aFlight], slots := [(3, {})] } }, 1, aFlight, arrivedMpdu { aMpdu with kind := .nullData }, by decide⟩
theorem witness_verdictTimeout : ∃ (s : State) (m : Nat) (f : InFlight) (x : Arrived), hubOn s = true ∧ s.lock.flight = [f] ∧ f.id = m ∧ f.macsec = false ∧ s.lock.waiting = [] ∧ s.mac.arrived.look m = some x ∧ presents s m x = false :=
  ⟨{ withArrived (withStation (hub 7 [])) { aMpdu with kind := .nullData } with lock := { flight := [aFlight], slots := [(3, {})] } }, 1, aFlight, arrivedMpdu { aMpdu with kind := .nullData }, by decide⟩
theorem witness_saInstall : ∃ (s : State) (k x : Octets), Reaches s O.sa_cmd ∧ assoc s (saNamed s) = none ∧ s.lock.saKey = some k ∧ s.lock.saSalt = some x :=
  ⟨{ hub 7 [(O.sa_pn, 5)] with lock := { saKey := some (zeros 16), saSalt := some (zeros 12) } }, zeros 16, zeros 12, by decide⟩
theorem witness_saClear : ∃ (s : State) (a : SecAssoc), Reaches s O.sa_cmd ∧ assoc s (saNamed s) = some a :=
  ⟨{ hub 7 [] with lock := { assocs := [(0, { key := zeros 16, salt := zeros 12, ssci := 0, state := 1, pn := 1, passed := 0, warned := false })] } }, { key := zeros 16, salt := zeros 12, ssci := 0, state := 1, pn := 1, passed := 0, warned := false }, by decide⟩
theorem witness_parseWalk : ∃ (s : State) (f : Frame) (l : List Frame), hubOn s = true ∧ s.entering = f :: l ∧ s.carter.tokens.length < 16384 ∧ (walkToken { s with entering := l } f (walkOf { s with entering := l } f none)).fate = none ∧ s.carter.tokens.all (fun x => decide (x.id ≠ s.carter.next)) = true :=
  ⟨{ hub 7 [] with entering := [aFrameIn] }, aFrameIn, [], by decide +kernel⟩
theorem witness_graphCheck : ∃ (s : State), Reaches s O.graph_check_cmd :=
  ⟨hub 7 [], by decide⟩
theorem witness_graphDefault : ∃ (s : State), Reaches s O.graph_default_cmd ∧ s.graph.copying = false :=
  ⟨hub 7 [], by decide⟩
theorem witness_shadowCopyDone : ∃ (s : State), hubOn s = true ∧ s.graph.copying = true :=
  ⟨{ hub 7 [] with graph := { copying := true } }, by decide⟩
theorem witness_ruleStageWrite : ∃ (s : State) (b : Bool), Reaches s O.rule_valid ∧ wideBlock (stagedWidth s) (rd s O.rule_select) = false ∧ logUsed (setRules s { s.rules with logRows := s.rules.logRows.put (rd s O.rule_select) { rowStaged s (rd s O.rule_select) with valid := b } }) ≤ 1024 :=
  ⟨hub 7 [(O.rule_select, 4)], true, by decide⟩
theorem witness_ruleStageWrite_1 : ∃ (s : State) (a : Nat), Reaches s O.rule_action ∧ wideBlock (stagedWidth s) (rd s O.rule_select) = false ∧ actionWord s a = .ok ∧ logUsed (setRules s { s.rules with logRows := s.rules.logRows.put (rd s O.rule_select) { rowStaged s (rd s O.rule_select) with action := a } }) ≤ 1024 :=
  ⟨hub 7 [(O.rule_select, 4)], 0x40000000, by decide⟩
theorem witness_ruleCommit : ∃ (s : State), Reaches s O.rule_cmd ∧ logEmpty s.rules = false ∧ rd s O.rule_state = 0 :=
  ⟨{ hub 7 [] with rules := { logMiss := some 0 } }, by decide⟩
theorem witness_ruleDiscard : ∃ (s : State), Reaches s O.rule_cmd :=
  ⟨{ hub 7 [] with rules := { logMiss := some 0 } }, by decide⟩
theorem witness_ruleLookup : ∃ (s : State) (k : Token) (row a : Nat), hubOn s = true ∧ s.carter.tokens = [k] ∧ k.toLook = true ∧ k.verdict = false ∧ lookupBank s (bankOf s k.version) k.key = .hit row a ∧ (bits a 31 30 = 0 ∨ bits a 29 27 ≠ 0) :=
  ⟨{ hub 7 [] with carter := { tokens := [aToken] }, rules := { current := { rows := [(2, { value := zeros 76, mask := zeros 76, action := 0 })] } } }, aToken, 2, 0, by decide⟩
theorem witness_drainLimitExpire : ∃ (s : State), hubOn s = true ∧ rd s O.rule_state = 1 ∧ s.carter.tokens.all (fun k => !k.verdict) = true :=
  ⟨{ hub 7 [(O.rule_state, 1)] with carter := { tokens := [aToken] } }, by decide⟩
theorem witness_catchUpDone : ∃ (s : State), hubOn s = true ∧ rd s O.rule_state = 2 :=
  ⟨hub 7 [(O.rule_state, 2)], by decide⟩
theorem witness_ruleScrub : ∃ (s : State) (e : RowError), hubOn s = true ∧ e.correctable = true :=
  ⟨hub 7 [], { current := true, row := 5, correctable := true, storeBad := false }, by decide⟩
theorem witness_ruleScrub_1 : ∃ (s : State) (e : RowError), hubOn s = true ∧ e.correctable = false ∧ e.current = true ∧ e.storeBad = true :=
  ⟨hub 7 [], { current := true, row := 5, correctable := false, storeBad := true }, by decide⟩
theorem witness_uplinkFrameRx : ∃ (s : State) (p : Fin 8) (f : UplinkFrame), hubOn s = true ∧ portUp s p = true ∧ packageMode s ≠ 4 ∧ f.fcsOk = false :=
  ⟨hub 7 [(O.port_state 1, 2)], 1, { fcsOk := false, bytes := zeros 60, secTag := none }, by decide⟩
theorem witness_uplinkFrameRx_1 : ∃ (s : State) (p : Fin 8) (f : UplinkFrame), hubOn s = true ∧ portUp s p = true ∧ packageMode s ≠ 4 ∧ f.fcsOk = true ∧ rd s (O.port_mtu p) < f.bytes.length :=
  ⟨hub 7 [(O.port_state 1, 2)], 1, { fcsOk := true, bytes := zeros 20000, secTag := none }, by decide +kernel⟩
theorem witness_uplinkFrameRx_2 : ∃ (s : State) (p : Fin 8) (f : UplinkFrame), hubOn s = true ∧ portUp s p = true ∧ packageMode s = 4 :=
  ⟨hub 4 [(O.port_state 1, 2)], 1, { fcsOk := true, bytes := zeros 60, secTag := none }, by decide⟩
theorem witness_uplinkFrameRx_3 : ∃ (s : State) (p : Fin 8) (f : UplinkFrame), hubOn s = true ∧ portUp s p = true ∧ packageMode s ≠ 4 ∧ f.fcsOk = true ∧ f.bytes.length ≤ rd s (O.port_mtu p) ∧ msRuns s p = false ∧ portAccepts s p f.bytes = true ∧ placeCells s (cellsFor f.bytes.length) (reservedBytes s f.bytes (tagPrio f.bytes)) ≠ none :=
  ⟨hub 7 [(O.port_state 1, 2), (O.cells_free, 40000)], 1, { fcsOk := true, bytes := zeros 60, secTag := none }, by decide⟩
theorem witness_varlanFrameRx : ∃ (s : State) (b : Octets), hubOn s = true ∧ lanesUp s ≠ 0 ∧ packageMode s ≠ 4 ∧ placeCells s (cellsFor b.length) (reservedBytes s b (tagPrio b)) ≠ none :=
  ⟨twin 8 [(O.cells_free, 40000)], zeros 60, by decide⟩
theorem witness_portUp : ∃ (s : State) (p : Fin 8), hubOn s = true ∧ p < portCount s ∧ flag s (O.port_enable p) = true :=
  ⟨hub 7 [(O.port_enable 1, 1)], 1, by decide⟩
theorem witness_portDown : ∃ (s : State) (p : Fin 8) (n : Nat), hubOn s = true ∧ p < portCount s ∧ rd s (O.port_state p) = 2 :=
  ⟨hub 7 [(O.port_state 1, 2)], 1, 5, by decide⟩
theorem witness_flowBucketArrival : ∃ (s : State) (b : Nat) (k : Token), hubOn s = true ∧ s.switch.slots.contains b = true ∧ s.carter.tokens = [k] ∧ k.bucket = some b ∧ k.verdict = false :=
  ⟨{ hub 7 [] with switch := { slots := [9] }, carter := { tokens := [{ aToken with bucket := some 9, toLook := false }] } }, 9, { aToken with bucket := some 9, toLook := false }, by decide⟩
theorem witness_routeAdd : ∃ (s : State), Reaches s O.rt_cmd ∧ rtTyped s = true ∧ rd s O.rt_len ≤ (if rtV6 s then 128 else 32) ∧ zeroBeyond (rd s O.rt_len) (rdB s O.rt_prefix) = true ∧ rd s (winKey (rd s O.rt_nexthop) O.nh_kind) ≠ 0 ∧ (routesOf s (rtV6 s)).any (isRoute s) = false ∧ (routesOf s (rtV6 s)).length < (if rtV6 s then 32768 else 131072) :=
  ⟨staging (hub 7 []), by decide⟩
theorem witness_routeDelete : ∃ (s : State), Reaches s O.rt_cmd ∧ rtTyped s = true ∧ (routesOf s (rtV6 s)).any (isRoute s) = true :=
  ⟨{ staging (hub 7 []) with switch := { v4 := [aRoute] } }, by decide⟩
theorem witness_routeLookup : ∃ (s : State) (r : Route), Reaches s O.rt_cmd ∧ rtTyped s = true ∧ longest (routesOf s (rtV6 s)) (rd s O.rt_vrf) (rdB s O.rt_prefix) = some r :=
  ⟨{ staging (hub 7 []) with switch := { v4 := [aRoute] } }, aRoute, by decide⟩
theorem witness_flowDelete : ∃ (s : State), Reaches s O.flow_cmd ∧ s.switch.flows.has (rd s O.flow_select) = true :=
  ⟨{ hub 7 [(O.flow_select, 6)] with switch := { flows := [(6, aRecord)] } }, by decide⟩
theorem witness_flowFlush : ∃ (s : State), Reaches s O.flow_cmd ∧ s.switch.flushed = none :=
  ⟨{ hub 7 [] with switch := { flows := [(6, aRecord)] } }, by decide⟩
theorem witness_flowFlushDone : ∃ (s : State), hubOn s = true ∧ s.switch.flushed.isSome = true :=
  ⟨{ hub 7 [] with switch := { flows := [(6, aRecord)], flushed := some 0 } }, by decide⟩
theorem witness_ageScan : ∃ (s : State), hubOn s = true ∧ s.switch.flows.any (fun e => idleOut s e.2) = true :=
  ⟨{ hub 7 [] with tb := 200000000000000 * 65536, switch := { flows := [(6, aRecord)] } }, by decide⟩
theorem witness_fdbAgeExpire : ∃ (s : State), hubOn s = true :=
  ⟨{ hub 7 [] with switch := { fdb := [{ vid := 1, addr := zeros 6, where_ := 0, seen := 0 }] } }, by decide⟩
theorem witness_announceFrame : ∃ (s : State) (v p : Nat) (a : Octets) (l : List (Nat × Octets × Nat)), hubOn s = true ∧ nextAnnounce s s.switch.announce = (some (v, a, p), l) ∧ placeCells s (cellsFor (rarpFrame a).length) false ≠ none :=
  ⟨{ hub 7 [(O.port_state 1, 2), (winKey 1 O.vid_members, 0x2), (O.cells_free, 40000)] with switch := { announce := [(1, zeros 6, 255)] } }, 1, 1, zeros 6, [(1, zeros 6, 0xFC)], by decide⟩
theorem witness_spill : ∃ (s : State) (b : Nat) (l : List Nat) (x : Buf), hubOn s = true ∧ overflowUp s = true ∧ rd s O.cells_free < rd s O.spill_on + 8192 ∧ spillOrder s = b :: l ∧ bufOf s b = some x ∧ x.onDie ≤ overflowFree s :=
  ⟨{ withStation (hub 7 [(O.overflow_enable, 1), (O.region_status, 15), (O.overflow_cells, 1000), (O.cells_free, 100), (winKey 3 O.sta_ps, 1)]) with miller := { air := [(12, { frames := [anAirFrame] })], bufs := [(7, { onDie := 2, spilled := 0, reserved := false, held := false, legs := 1, stampFor := none })] } }, 7, [], { onDie := 2, spilled := 0, reserved := false, held := false, legs := 1, stampFor := none }, by decide⟩
theorem witness_fetch : ∃ (s : State) (b : Nat) (l : List Nat) (x : Buf), hubOn s = true ∧ overflowUp s = true ∧ fetchOrder s = b :: l ∧ bufOf s b = some x ∧ x.bad = false ∧ x.spilled ≤ rd s O.cells_free :=
  ⟨{ withStation (hub 7 [(O.overflow_enable, 1), (O.region_status, 15), (O.overflow_cells, 1000), (O.overflow_used, 2), (O.cells_free, 100), (O.spill_depth, 4096)]) with miller := { air := [(12, { frames := [anAirFrame] })], bufs := [(7, { onDie := 0, spilled := 2, reserved := false, held := false, legs := 1, stampFor := none })] } }, 7, [], { onDie := 0, spilled := 2, reserved := false, held := false, legs := 1, stampFor := none }, by decide⟩
theorem witness_overflowUnavailable : ∃ (s : State), hubOn s = true ∧ bit (rd s O.region_status) 2 = false ∧ s.miller.noOverflow = false :=
  ⟨hub 7 [(O.region_status, 3)], by decide⟩
theorem witness_airAgeSweep : ∃ (s : State) (a : Nat) (q : AirQueue), hubOn s = true ∧ s.miller.air = [(a, q)] :=
  ⟨{ withStation (hub 7 [(O.air_lifetime_be, 10)]) with now := 100000000000, miller := { air := [(12, { frames := [anAirFrame] })] } }, 12, { frames := [anAirFrame] }, by decide⟩
theorem witness_wiredDequeue : ∃ (s u : State) (p : Fin 8) (w : Nat) (f : OutFrame) (l : List OutFrame), hubOn s = true ∧ portUp s p = true ∧ pickWired s p = (some w, u) ∧ (wiredQ u w).frames = f :: l ∧ msRuns u p = false ∧ bufOf u f.buf = none :=
  ⟨onPort (hub 7 []) aQueued, onPort (hub 7 []) aQueued, 1, 256, aQueued, [], by decide⟩
theorem witness_wiredDequeue_1 : ∃ (s u : State) (p : Fin 8) (w : Nat) (f : OutFrame) (l : List OutFrame), hubOn s = true ∧ portUp s p = true ∧ pickWired s p = (some w, u) ∧ (wiredQ u w).frames = f :: l :=
  ⟨onPort (hub 7 []) aQueued, onPort (hub 7 []) aQueued, 1, 256, aQueued, [], by decide⟩
theorem witness_auditReclaim : ∃ (s : State), hubOn s = true :=
  ⟨{ hub 7 [] with miller := { unowned := 3 } }, by decide⟩
theorem witness_taskDispatch : ∃ (s u : State) (k : Task), hubOn s = true ∧ s.carter.service.length < 32 ∧ takeTask s = (some k, u) ∧ k.leg = none ∧ k.token.fate = some (.forced false) :=
  ⟨{ hub 7 [(O.urgent_burst, 8)] with carter := { normal := [aTask], tokens := [aTask.token] } }, (takeTask { hub 7 [(O.urgent_burst, 8)] with carter := { normal := [aTask], tokens := [aTask.token] } }).2, aTask, by decide⟩
theorem witness_taskDispatch_1 : ∃ (s u : State) (k : Task), hubOn s = true ∧ s.carter.service.length < 32 ∧ takeTask s = (some k, u) :=
  ⟨{ hub 7 [(O.urgent_burst, 8)] with carter := { normal := [aTask], tokens := [aTask.token] } }, (takeTask { hub 7 [(O.urgent_burst, 8)] with carter := { normal := [aTask], tokens := [aTask.token] } }).2, aTask, by decide⟩
theorem witness_taskLeaveService : ∃ (s : State) (i : Nat) (k : Task), hubOn s = true ∧ s.carter.service[i]? = some k ∧ k.leg = none :=
  ⟨{ hub 7 [] with carter := { service := [aTask], normal := [{ aTask with blocked := true }] } }, 0, aTask, by decide⟩
theorem witness_taskAgeTimeout : ∃ (s : State) (i : Nat), hubOn s = true ∧ tokenFound s i = true :=
  ⟨{ hub 7 [] with carter := { normal := [aTask] } }, 1, by decide⟩
theorem witness_ringRefill : ∃ (s : State), hubOn s = true ∧ bit (rd s O.region_status) 1 = true :=
  ⟨{ hub 7 [(O.region_status, 15)] with carter := { ringUrgent := [aTask] } }, by decide⟩
theorem witness_ringRefill_1 : ∃ (s : State), hubOn s = true ∧ bit (rd s O.region_status) 1 = true :=
  ⟨{ hub 7 [(O.region_status, 15)] with carter := { ringNormal := [aTask] } }, by decide⟩
theorem witness_trackerRewriteDone : ∃ (s : State), hubOn s = true ∧ s.carter.tokens.all (fun k => !(k.verdict && k.fate.isSome)) = true :=
  ⟨{ hub 7 [] with carter := { quiesced := true, tokens := [aToken] } }, by decide⟩
theorem witness_dramTrainDone : ∃ (s : State), hubOn s = true ∧ rd s O.dram_state = 1 ∧ (List.range 8).all (fun ch => decide (s.dram.attempts.getD ch 0 ≠ 3)) = true :=
  ⟨dram 1 {}, by decide⟩
theorem witness_dramTrainDone_1 : ∃ (s : State) (ch : Nat), hubOn s = true ∧ rd s O.dram_state = 1 ∧ inTraining s = [ch] ∧ ch < 8 ∧ s.dram.attempts.getD ch 0 = 2 :=
  ⟨dram 1 { attempts := [(0, 4), (5, 2)] }, 5, by decide⟩
theorem witness_dramInitDone : ∃ (s : State), hubOn s = true ∧ rd s O.dram_state = 2 :=
  ⟨dram 2 {}, by decide⟩
theorem witness_retrainEnd : ∃ (s : State), hubOn s = true ∧ rd s O.dram_state = 5 :=
  ⟨dram 5 {}, by decide⟩
theorem witness_retrainEnd_1 : ∃ (s : State) (ch : Fin 8), hubOn s = true ∧ rd s O.dram_state = 5 :=
  ⟨dram 5 {}, 3, by decide⟩
theorem witness_refreshDue : ∃ (s : State) (ch : Fin 8) (b : Fin 16), hubOn s = true ∧ rd s O.dram_state = 3 :=
  ⟨dram 3 {}, 2, 5, by decide⟩
theorem witness_channelCommand : ∃ (s : State) (ch : Fin 8), hubOn s = true ∧ rd s O.dram_state = 3 ∧ owing (channel s ch) 8 ≠ [] :=
  ⟨dram 3 { channels := [(2, { owed := [(5, 8)] })] }, 2, by decide⟩
theorem witness_channelCommand_1 : ∃ (s : State) (ch : Fin 8) (q : DramReq), hubOn s = true ∧ rd s O.dram_state = 3 ∧ owing (channel s ch) 8 = [] ∧ urgentReq s (channel s ch) = some q :=
  ⟨dram 3 { channels := [(2, { reqs := [aRequest], openRow := [(1, 2)] })] }, 2, aRequest, by decide⟩
theorem witness_mr4Read : ∃ (s : State) (l : List Nat) (c : List Int), hubOn s = true ∧ rd s O.dram_state = 3 :=
  ⟨dram 3 {}, [4, 1], [-5, 60], by decide⟩
theorem witness_wckTracking : ∃ (s : State) (ch : Fin 8) (x : Int), hubOn s = true ∧ rd s O.dram_state = 3 ∧ 7 ≤ packageMode s :=
  ⟨dram 3 {}, 2, -4, by decide⟩
theorem witness_patrolScrub : ∃ (s : State), hubOn s = true ∧ rd s O.dram_state = 3 :=
  ⟨dram 3 {}, by decide⟩
theorem witness_patrolScrub_1 : ∃ (s : State), hubOn s = true ∧ rd s O.dram_state = 3 :=
  ⟨dram 3 {}, by decide⟩
theorem witness_patrolScrub_2 : ∃ (s : State), hubOn s = true ∧ rd s O.dram_state = 3 ∧ dramRegion s.dram.patrol = 2 :=
  ⟨dram 3 { patrol := 0x8000000 }, by decide⟩
theorem witness_regionEnable : ∃ (s : State), Reaches s O.region_cmd ∧ rd s O.dram_state = 5 :=
  ⟨dram 5 {}, by decide⟩
theorem witness_regionEnable_1 : ∃ (s : State), Reaches s O.region_cmd ∧ rd s O.dram_state ≠ 5 :=
  ⟨dram 3 { disabled := [0] }, by decide⟩
theorem witness_regionEnableDone : ∃ (s : State), hubOn s = true ∧ s.dram.enabling = true :=
  ⟨dram 3 { disabled := [0], enabling := true }, by decide⟩
theorem witness_tbSet : ∃ (s : State), Reaches s O.tb_cmd ∧ tbCmdCheck s false = none :=
  ⟨hub 7 [(O.tb_set, 5)], by decide⟩
theorem witness_tbAdjust : ∃ (s : State), Reaches s O.tb_cmd ∧ tbCmdCheck s false = none :=
  ⟨{ hub 7 [(O.tb_adjust, 1000)] with tb := 6553600 }, by decide⟩
theorem witness_tbSlew : ∃ (s : State), Reaches s O.tb_cmd ∧ tbCmdCheck s true = none :=
  ⟨hub 7 [(O.tb_adjust, 1000)], by decide⟩
theorem witness_tbSourceWrite : ∃ (s : State) (v : Fin 3), Reaches s O.tb_source :=
  ⟨hub 7 [(O.tb_state, 3)], 1, by decide⟩
theorem witness_ptpMessageRx : ∃ (s : State) (p : Fin 8) (m : PtpMsg), hubOn s = true ∧ m.wellFormed = false :=
  ⟨hub 7 [], 1, { aPtp .sync with wellFormed := false }, by decide⟩
theorem witness_ptpMessageRx_1 : ∃ (s : State) (p : Fin 8) (m : PtpMsg), hubOn s = true ∧ m.wellFormed = true ∧ ptpRuns s p = true ∧ m.domain = (if rd s O.ptp_mode = 3 then 0 else rd s O.ptp_domain) ∧ m.kind = .pdelayReq :=
  ⟨hub 7 [(O.ptp_mode, 1), (O.pp_enable 1, 1), (O.port_state 1, 2)], 1, aPtp .pdelayReq, by decide⟩
theorem witness_ptpMessageRx_2 : ∃ (s : State) (p : Fin 8) (m : PtpMsg), hubOn s = true ∧ m.wellFormed = true ∧ ptpRuns s p = true ∧ m.domain = (if rd s O.ptp_mode = 3 then 0 else rd s O.ptp_domain) ∧ m.kind = .sync ∧ m.twoStep = true ∧ ptpState s p = 9 :=
  ⟨hub 7 [(O.ptp_mode, 1), (O.pp_enable 1, 1), (O.port_state 1, 2), (O.pp_state 1, 9)], 1, aPtp .sync, by decide⟩
theorem witness_ptpMessageTx : ∃ (s : State) (p : Fin 8), hubOn s = true ∧ ptpRuns s p = true ∧ ptpState s p = 6 :=
  ⟨hub 7 [(O.ptp_mode, 1), (O.pp_enable 1, 1), (O.port_state 1, 2), (O.pp_state 1, 6)], 1, by decide⟩
theorem witness_ptpMessageTx_1 : ∃ (s : State) (p : Fin 8), hubOn s = true ∧ ptpRuns s p = true ∧ ptpState s p = 9 ∧ rd s O.ptp_mode = 1 ∧ rd s (O.pp_delay_mech p) ≠ 2 :=
  ⟨hub 7 [(O.ptp_mode, 1), (O.pp_enable 1, 1), (O.port_state 1, 2), (O.pp_state 1, 9), (O.pp_delay_mech 1, 1)], 1, by decide⟩
theorem witness_ptpAnnounceTimeout : ∃ (s : State) (p : Fin 8), hubOn s = true ∧ ptpRuns s p = true :=
  ⟨hub 7 [(O.ptp_mode, 1), (O.pp_enable 1, 1), (O.port_state 1, 2), (O.pp_state 1, 9)], 1, by decide⟩
theorem witness_ppsInEdge : ∃ (s : State), hubOn s = true ∧ flag s O.pps_in_enable = true ∧ clkState s 12 = 1 ∧ rd s O.tb_source ≠ 2 :=
  ⟨hub 7 [(O.pps_in_enable, 1)], by decide⟩
theorem witness_ppsInEdge_1 : ∃ (s : State), hubOn s = true ∧ flag s O.pps_in_enable = true ∧ clkState s 12 = 1 ∧ rd s O.tb_source = 2 ∧ roleMode s ≠ 9 ∧ rd s O.tb_state = 3 ∧ 1000 < (ppsOffset s).natAbs ∧ s.time.ppsRun < 3 :=
  ⟨{ hub 7 [(O.pps_in_enable, 1), (O.tb_source, 2), (O.tb_state, 3)] with tb := 5000 * 65536 }, by decide⟩
theorem witness_ppsInTimeout : ∃ (s : State), hubOn s = true ∧ rd s O.tb_source = 2 ∧ roleMode s ≠ 9 ∧ (rd s O.tb_state = 2 ∨ rd s O.tb_state = 3) :=
  ⟨hub 7 [(O.tb_source, 2), (O.tb_state, 3)], by decide⟩
theorem witness_ppsOutRise : ∃ (s : State), hubOn s = true ∧ rd s O.pps_out_mode = 2 ∧ 4 ≤ packageMode s ∧ s.time.lastPps = none ∧ bit (rd s O.pad_latched) 1 = false :=
  ⟨hub 7 [(O.pps_out_mode, 2)], by decide⟩
theorem witness_synceLost : ∃ (s : State), hubOn s = true ∧ rd s O.synce_port ≠ 0xFF ∧ rd s O.synce_state ≠ 2 :=
  ⟨hub 7 [(O.synce_port, 1)], by decide⟩
theorem witness_synceLocked : ∃ (s : State), hubOn s = true ∧ rd s O.synce_port ≠ 0xFF :=
  ⟨hub 7 [(O.synce_port, 1)], by decide⟩
theorem witness_bakRateWindow : ∃ (s : State) (x : Int), hubOn s = true ∧ clkState s 12 = 1 :=
  ⟨hub 7 [(O.trim_auto, 1), (O.tb_state, 3)], -40000, by decide⟩
theorem witness_gtArm : ∃ (s : State) (k : Fin 32), Reaches s (O.gt_cmd k) :=
  ⟨hub 7 [(O.gt_mode 3, 3)], 3, by decide⟩
theorem witness_gtDisarm : ∃ (s : State) (k : Fin 32), Reaches s (O.gt_cmd k) :=
  ⟨hub 7 [(O.gt_state 3, 1)], 3, by decide⟩
theorem witness_gtInstant : ∃ (s : State) (k : Fin 32), hubOn s = true ∧ rd s (O.gt_state k) = 1 ∧ 4 ≤ packageMode s :=
  ⟨hub 7 [(O.gt_state 3, 1)], 3, by decide⟩
theorem witness_gtCaptureEdge : ∃ (s : State) (k : Fin 32), hubOn s = true ∧ rd s (O.gt_state k) = 3 ∧ bit (rd s (O.gt_flags k)) 2 = true ∧ (gfpTimer s k).lastEdge = none ∧ 4 ≤ packageMode s ∧ bit (rd s O.pad_latched) 0 = false ∧ (gfpTimer s k).captures.length < 64 :=
  ⟨hub 7 [(O.gt_state 3, 3), (O.gt_flags 3, 4)], 3, by decide⟩
theorem witness_gtCapRead : ∃ (s : State) (k : Fin 32) (c : Nat) (l : List Nat), hubOn s = true ∧ ledgerServes s = true ∧ objFitted s.fuse.part (O.gt_cap_read k / 256) = true ∧ crossing s (O.gt_cap_read k / 256) = .reached ∧ (gfpTimer s k).captures = c :: l :=
  ⟨{ hub 7 [] with time := { timers := [(3, { captures := [77] })] } }, 3, 77, [], by decide⟩
theorem witness_faultMessage : ∃ (s : State) (x : FaultMsg) (l : List FaultMsg), hubOn s = true ∧ s.tinker.queue = x :: l ∧ coalesces s x = none ∧ effectiveReaction s x < 2 ∧ s.tinker.fullOwed = false :=
  ⟨{ hub 7 [] with tinker := { queue := [aFault] } }, aFault, [], by decide⟩
theorem witness_quietExpire : ∃ (s : State), hubOn s = true ∧ packageMode s = 12 ∧ s.tinker.quiet = true ∧ s.tinker.latched = false ∧ 7 ≤ (recentRecoveries s).length :=
  ⟨quiet { history := [0, 0, 0, 0, 0, 0, 0] }, by decide⟩
theorem witness_quietExpire_1 : ∃ (s : State), hubOn s = true ∧ packageMode s = 12 ∧ s.tinker.quiet = true ∧ s.tinker.latched = false ∧ (recentRecoveries s).length < 7 ∧ twinState s ≠ 1 :=
  ⟨quiet {}, by decide⟩
theorem witness_qEnter : ∃ (s : State), Reaches s O.q_cmd ∧ (packageMode s = 7 ∨ packageMode s = 8 ∨ packageMode s = 9 ∨ packageMode s = 11) :=
  ⟨hub 7 [], by decide⟩
theorem witness_qExit : ∃ (s : State), Reaches s O.q_cmd ∧ packageMode s = 12 ∧ s.tinker.latched = true :=
  ⟨quiet { latched := true }, by decide⟩
theorem witness_qExit_1 : ∃ (s : State), Reaches s O.q_cmd ∧ packageMode s = 12 ∧ s.tinker.latched = false ∧ twinState s ≠ 1 :=
  ⟨quiet {}, by decide⟩
theorem witness_clearLatch : ∃ (s : State), Reaches s O.q_cmd ∧ packageMode s ≠ 12 :=
  ⟨hub 7 [], by decide⟩
theorem witness_force : ∃ (s : State), Reaches s O.force_cmd ∧ hidMalformed (rd s O.force_source) = false ∧ hidIsUnit (rd s O.force_source) = true ∧ hidOwn s (rd s O.force_source) = true ∧ rd s O.force_source / 4194304 = s.system ∧ hidFitted s (rd s O.force_source) = true ∧ sourceListed (rd s O.force_kind) (rd s O.force_source) = true ∧ s.tinker.forceBits.contains (rd s O.force_source) = false ∧ s.tinker.queue = [] :=
  ⟨hub 7 [(O.force_kind, 0x6D), (O.force_source, hidOf (hub 7 []) 0 10 1 0)], by decide⟩
theorem witness_maintRequest : ∃ (s : State), Reaches s O.mreq_cmd :=
  ⟨hub 7 [(O.mreq_activity, 6), (O.mreq_target, packageHid (hub 7 []))], by decide⟩
theorem witness_maintRequest_1 : ∃ (s : State) (x : MaintRaise), hubOn s = true ∧ (stewardRequest s x.activity x.target x.requester x.kind).1 = .range :=
  ⟨hub 7 [], { activity := 6, target := hidOf (hub 7 []) 0 12 0 0, requester := 0, kind := 0 }, by decide⟩
theorem witness_maintCancel : ∃ (s : State) (e : Activity), Reaches s O.mreq_cmd ∧ (runningNow s).any (fun o => decide (o.activity = rd s O.mreq_activity ∧ o.target = rd s O.mreq_target)) = false ∧ s.steward.queue.find? (fun o => decide (o.activity = rd s O.mreq_activity ∧ o.target = rd s O.mreq_target)) = some e :=
  ⟨{ hub 7 [(O.mreq_activity, 6), (O.mreq_target, 9)] with steward := { queue := [anActivity 6 9] } }, anActivity 6 9, by decide⟩
theorem witness_activityEnd : ∃ (s : State) (e : Activity) (r : ActivityReport), hubOn s = true ∧ s.steward.running = [e] ∧ s.steward.queue = [] ∧ s.steward.waitingPeer = false ∧ engineDone s e = true ∧ e.activity ≠ 4 ∧ e.activity ≠ 6 :=
  ⟨{ hub 7 [] with steward := { running := [anActivity 7 9] } }, anActivity 7 9, { ok := true, residual := 0, phase := 0, failed := [], slacks := [], margins := [], weak := 2 }, by decide⟩
theorem witness_activityBound : ∃ (s : State) (e : Activity), hubOn s = true ∧ s.steward.running = [e] ∧ s.steward.queue = [] ∧ s.steward.waitingPeer = false ∧ e.state = 3 ∧ e.activity ≠ 3 :=
  ⟨{ hub 7 [] with steward := { running := [anActivity 6 9] } }, anActivity 6 9, by decide⟩
theorem witness_queueLimitExpire : ∃ (s : State) (i : Fin 32) (e : Activity), hubOn s = true ∧ s.steward.queue[(i : Nat)]? = some e :=
  ⟨{ hub 7 [] with steward := { queue := [anActivity 6 9] } }, 0, anActivity 6 9, by decide⟩
theorem witness_alignAnswer : ∃ (s : State) (v : VHead) (e : Activity), Heard s 1 v ∧ s.steward.inflight = some e :=
  ⟨{ twin 8 [] with steward := { inflight := some (anActivity 4 9) } }, goodHead, anActivity 4 9, by decide⟩
theorem witness_alignAnswer_1 : ∃ (s : State) (v : VHead) (e : Activity), Heard s 1 v ∧ s.steward.inflight = some e :=
  ⟨{ twin 8 [] with steward := { inflight := some (anActivity 4 9) } }, goodHead, anActivity 4 9, by decide⟩
theorem witness_alignAnswerTimeout : ∃ (s : State) (e : Activity), hubOn s = true ∧ s.steward.inflight = some e ∧ s.steward.answeredWait = false :=
  ⟨{ twin 8 [] with steward := { inflight := some (anActivity 4 9) } }, anActivity 4 9, by decide⟩
theorem witness_alignTimer : ∃ (s : State), hubOn s = true ∧ pairedFitted s.fuse.part = true ∧ roleMode s = 8 ∧ twinState s = 3 ∧ (stewardRequest s 4 (hidOf s 3 15 63 255) (hidOf s 0 11 8 0) 0).1 = .ok :=
  ⟨twin 8 [(O.radio_wide_max, 1)], by decide +kernel⟩
theorem witness_surveyTimer : ∃ (s : State), hubOn s = true ∧ (stewardRequest s 6 (packageHid s) (hidOf s 0 12 0 0) 0).1 = .ok :=
  ⟨hub 7 [], by decide⟩
theorem witness_memSurveyTimer : ∃ (s : State) (g : Nat), hubOn s = true ∧ [1, 2, 3, 4, 5, 6, 7, 9, 12].filter (fun g => decide (regionMode s 0 g = 11)) = [g] ∧ (stewardRequest s 7 (hidOf s 0 g 63 255) (hidOf s 0 12 0 0) 0).1 = .ok :=
  ⟨hub 7 [(winKey (regionInst 0 1) O.rm_target, 11)], 1, by decide +kernel⟩
theorem witness_dailyMean : ∃ (s : State), hubOn s = true :=
  ⟨{ hub 7 [] with survey := { items := [(3, { sum := 10, count := 2 })] } }, by decide⟩
theorem witness_alignAgeExpire : ∃ (s : State), hubOn s = true ∧ s.twin.alignedAt.isSome = true :=
  ⟨{ hub 7 [] with twin := { alignedAt := some 4 } }, by decide⟩
theorem witness_alignRequestReceived : ∃ (s : State) (v : VHead), Heard s 1 v ∧ roleMode s = 9 ∧ alignFits s = true :=
  ⟨twin 9 [(O.radio_wide_max, 1)], goodHead, by decide⟩
theorem witness_alignRequestReceived_1 : ∃ (s : State) (v : VHead), Heard s 1 v ∧ roleMode s = 9 ∧ alignFits s = false :=
  ⟨{ twin 9 [(O.radio_wide_max, 1)] with steward := { running := [anActivity 2 9] } }, goodHead, by decide⟩
theorem witness_porstAssert_1 : ∃ (s : State), s.power.inputOn = true :=
  ⟨hub 7 [(O.bak_seconds, 77), (O.uplink_mode, 1)], by decide⟩
theorem witness_vinCollapse_1 : ∃ (s : State), ((s.power.inputOn = true ∨ s.power.overVoltage = true)) :=
  ⟨{ hub 7 [(O.bak_seconds, 77)] with power := { inputOn := true, vbak := true } }, by decide⟩
theorem witness_vinOvervoltage_1 : ∃ (s : State), s.power.inputOn = true :=
  ⟨hub 7 [(O.bak_seconds, 77)], by decide⟩
theorem witness_v12Fault_1 : ∃ (s : State) (c : V12Cause), rd s O.v12_state = 2 :=
  ⟨hub 7 [(O.v12_state, 2), (O.bak_seconds, 77)], .underVoltage, by decide⟩
theorem witness_bootStart_1 : ∃ (s : State), hubOn s = true ∧ packageMode s = 4 ∧ s.boot.step = 0 ∧ s.boot.halted = false ∧ rd s O.ref_state = 2 :=
  ⟨{ hub 4 [(O.ref_state, 2)] with boot := { straps := 0x100 } }, by decide⟩
theorem witness_imageCheckDone_2 : ∃ (s : State) (v a : Nat) (l : List Nat), hubOn s = true ∧ s.boot.step = 1 ∧ s.boot.halted = false ∧ s.boot.slots = a :: l ∧ v < 4294967296 :=
  ⟨{ hub 5 [] with boot := { step := 1, slots := [0, 1] } }, 4294967295, 0, [1], by decide⟩
theorem witness_imageCheckDone_3 : ∃ (s : State) (f : Fin 5) (v a b : Nat) (l : List Nat), hubOn s = true ∧ s.boot.step = 1 ∧ s.boot.halted = false ∧ s.boot.slots = a :: b :: l ∧ f ≠ 0 :=
  ⟨{ hub 5 [] with boot := { step := 1, slots := [0, 1] } }, 4, 0, 0, 1, [], by decide⟩
theorem witness_imageCheckDone_4 : ∃ (s : State) (f : Fin 5) (v a : Nat), hubOn s = true ∧ s.boot.step = 1 ∧ s.boot.halted = false ∧ s.boot.slots = [a] ∧ f ≠ 0 :=
  ⟨{ hub 5 [] with boot := { step := 1, slots := [1] } }, 1, 5, 1, by decide⟩

end Sys2Proof.Tests
end

section
/-! SUPPORT. What a command leaves unchanged, part by part. A view is any function of the state. It does not show a part when setting that
part never changes what the view gives. A lemma `view_f` includes one hypothesis for each part that the operation `f` may set: a view that
shows none of them gives the same before and after `f`. -/

namespace Sys2Proof.Machine

/-- What each step of a fold keeps, the fold keeps. -/
theorem foldl_view {σ β γ : Type} (view : σ → γ) {f : σ → β → σ} (h : ∀ s b, view (f s b) = view s) (l : List β) (s : σ) :
    view (l.foldl f s) = view s := by
  induction l generalizing s with
  | nil => rfl
  | cons b l ih => exact (ih _).trans (h s b)

section

variable {α : Type} {view : State → α}
  (hseal : ∀ s t, view t = view s → view (sealed s t) = view s)
  (hregs : ∀ s x, view { s with regs := x } = view s)
  (hblobs : ∀ s x, view { s with blobs := x } = view s)
  (hstaged : ∀ s x, view { s with staged := x } = view s)
  (hstagedBlobs : ∀ s x, view { s with stagedBlobs := x } = view s)
  (hstatus : ∀ s x, view { s with status := x } = view s)
  (hout : ∀ s x, view { s with out := x } = view s)
  (hfree : ∀ s x, view { s with free := x } = view s)
  (htb : ∀ s x, view { s with tb := x } = view s)
  (hboot : ∀ s x, view { s with boot := x } = view s)
  (hepoch : ∀ s x, view { s with epoch := x } = view s)
  (hclaims : ∀ s x, view { s with claims := x } = view s)
  (hled : ∀ s x, view { s with led := x } = view s)
  (htinker : ∀ s x, view { s with tinker := x } = view s)
  (hpower : ∀ s x, view { s with power := x } = view s)
  (hradios : ∀ s x, view { s with radios := x } = view s)
  (htwin : ∀ s x, view { s with twin := x } = view s)
  (htime : ∀ s x, view { s with time := x } = view s)
  (hmove : ∀ s x, view { s with move := x } = view s)
  (hwatch : ∀ s x, view { s with watch := x } = view s)
  (hsteward : ∀ s x, view { s with steward := x } = view s)
  (hsurvey : ∀ s x, view { s with survey := x } = view s)
  (hmac : ∀ s x, view { s with mac := x } = view s)
  (hostler : ∀ s x, view { s with ost := x } = view s)
  (hgraph : ∀ s x, view { s with graph := x } = view s)
  (hdram : ∀ s x, view { s with dram := x } = view s)

/-- A view that shows no step of a fold does not show the fold. -/
theorem view_foldl {β : Type} {f : State → β → State} (h : ∀ s b, view (f s b) = view s) (l : List β) (s : State) :
    view (l.foldl f s) = view s :=
  foldl_view view h l s

include hseal in
/-- The outcome of a command is its effect's, to a view that does not show the sealing. -/
theorem view_done {s u t : State} (hu : view u = view s) (h : done s u = .next t) : view t = view s := by
  rw [done_eq] at h
  cases h
  exact hseal s u hu

include hseal in
/-- The same for an effect of the hub die, which may not work. -/
theorem view_act {s t : State} {op : State → State} (hop : view (op s) = view s) (h : act s op = .next t) : view t = view s := by
  refine view_done hseal ?_ h
  split
  · exact hop
  · rfl

/-! ### Registers, messages and the parts that have one setter -/

section
include hregs

theorem view_wr (s : State) (k v : Nat) : view (wr s k v) = view s := hregs s _

theorem view_wrI (s : State) (k : Nat) (v : Int) : view (wrI s k v) = view s := view_wr hregs s k _

theorem view_bumpBy (s : State) (k n : Nat) : view (bumpBy s k n) = view s := view_wr hregs s k _

theorem view_bump (s : State) (k : Nat) : view (bump s k) = view s := view_bumpBy hregs s k 1

theorem view_setFlag (s : State) (k : Nat) (b : Bool) : view (setFlag s k b) = view s := view_wr hregs s k _

theorem view_setClk (s : State) (d v : Nat) : view (setClk s d v) = view s := (view_wr hregs _ _ _).trans (view_wr hregs s _ _)

theorem view_setPower (s : State) (pd v : Nat) : view (setPower s pd v) = view s := by
  unfold setPower
  dsimp only
  split
  · exact (view_bump hregs _ _).trans (view_wr hregs s _ _)
  · exact view_wr hregs s _ _

theorem view_checkStaged (s : State) : view (checkStaged s).2 = view s := (view_wr hregs _ _ _).trans (view_wr hregs s _ _)

theorem view_unitChecked (s : State) (h : Nat) : view (unitChecked s h) = view s := by
  unfold unitChecked
  split
  · exact view_checkStaged hregs s
  · rfl

theorem view_recordLaggards (s : State) (l : List Nat) :
    view (recordLaggards s l) = view s :=
  (view_wr hregs _ _ _).trans (view_wr hregs s _ _)

theorem view_recordEnd (s : State) (e : Activity) (st : Status) : view (recordEnd s e st) = view s := by
  simp only [recordEnd, apply_ite view, view_wr hregs, ite_self]

theorem view_retrainStop (s : State) : view (retrainStop s) = view s := by
  simp only [retrainStop, apply_ite view, view_wr hregs, ite_self]

theorem view_retimeOne (s : State) (d : Nat) : view (retimeOne s d) = view s := by
  simp only [retimeOne, apply_ite view, view_setClk hregs, ite_self]

theorem view_retime (s : State) : view (retime s) = view s := view_foldl (view_retimeOne hregs) _ s

theorem view_latchPads (s : State) (groups : List Nat) :
    view (latchPads s groups) = view s :=
  view_foldl (fun _ _ => (view_bump hregs _ _).trans (view_wr hregs _ _ _)) _ s

theorem view_serviceRole (s : State) (old m : Nat) : view (serviceRole s old m) = view s := by
  simp only [serviceRole, apply_ite view, view_wr hregs, ite_self]

theorem view_showSlots (s : State) : view (showSlots s) = view s := (view_setFlag hregs _ _ _).trans (view_wr hregs s _ _)

theorem view_bootFlash (s : State) : view (bootFlash s) = view s := (view_setFlag hregs _ _ _).trans (view_showSlots hregs s)

end

include hblobs in
theorem view_wrB (s : State) (k : Nat) (v : Octets) : view (wrB s k v) = view s := hblobs s _

include hstatus in
theorem view_ret (s : State) (st : Status) : view (ret s st) = view s := hstatus s _

include hout in
theorem view_send (s : State) (o : Out) : view (send s o) = view s := hout s _

include hfree in
theorem view_freeNext (s : State) : view (freeNext s) = view s := hfree s _

section
include hepoch

theorem view_setEpoch (s : State) (e : Epoch) : view (setEpoch s e) = view s := hepoch s e

theorem view_clearEpoch (s : State) : view (clearEpoch s) = view s := view_setEpoch hepoch s _

theorem view_dropWaiting (s : State) (h : Nat) : view (dropWaiting s h) = view s := view_setEpoch hepoch s _

end

section
include hled

theorem view_setLed (s : State) (l : Ledger) : view (setLed s l) = view s := hled s l

theorem view_hangAlone (s : State) (index sub : Nat) (write : Bool) (value : Octets) (d : Nat) :
    view (hangAlone s index sub write value d) = view s :=
  hled s _

end

include hpower in
theorem view_setPowerState (s : State) (p : Power) : view (setPowerState s p) = view s := hpower s p

section
include hradios

theorem view_setRadio (s : State) (r : Nat) (x : Radio) : view (setRadio s r x) = view s := hradios s _

theorem view_loseCoefficients (s : State) (r : Nat) : view (loseCoefficients s r) = view s := view_setRadio hradios s r _

end

include htwin in
theorem view_setTwin (s : State) (t : Twin) : view (setTwin s t) = view s := htwin s t

section
include htime

theorem view_setTime (s : State) (t : TimeBase) : view (setTime s t) = view s := htime s t

theorem view_setUncertainty (s : State) (u : Nat) : view (setUncertainty s u) = view s := view_setTime htime s _

theorem view_setGfpTimer (s : State) (t : Nat) (x : GfpTimer) : view (setGfpTimer s t x) = view s := view_setTime htime s _

theorem view_setPtpPort (s : State) (p : Nat) (x : PtpPort) : view (setPtpPort s p x) = view s := view_setTime htime s _

end

include hmove in
theorem view_startMove (s : State) (e : Int) (sync : Bool) : view (startMove s e sync) = view s := by
  unfold startMove
  split
  · exact hmove s _
  · exact hmove s _

include hsteward in
theorem view_dropRunning (s : State) (a target : Nat) : view (dropRunning s a target) = view s := hsteward s _

include hsurvey in
theorem view_setItem (s : State) (i : Nat) (m : MarginItem) : view (setItem s i m) = view s := hsurvey s _

/-! ### Several parts set at once -/

include htb htime in
theorem view_tb_time (s : State) (n : Nat) (b : TimeBase) :
    view { s with tb := n, time := b } = view s :=
  (htime { s with tb := n } b).trans <|
  htb s n

include hboot hpower in
theorem view_boot_power (s : State) (b : Boot) (p : Power) :
    view { s with boot := b, power := p } = view s :=
  (hpower { s with boot := b } p).trans <|
  hboot s b

include hepoch hpower in
theorem view_power_epoch (s : State) (p : Power) (e : Epoch) :
    view { s with power := p, epoch := e } = view s :=
  (hepoch { s with power := p } e).trans <|
  hpower s p

include hpower hsurvey in
theorem view_power_survey (s : State) (p : Power) (y : Survey) :
    view { s with power := p, survey := y } = view s :=
  (hsurvey { s with power := p } y).trans <|
  hpower s p

include htb hepoch htime hmac hostler in
theorem view_tb_time_epoch_ost_mac (s : State) (n : Nat) (b : TimeBase) (e : Epoch) (o : Ostler) (m : Mac) :
    view { s with tb := n, time := b, epoch := e, ost := o, mac := m } = view s :=
  (hmac { s with tb := n, time := b, epoch := e, ost := o } m).trans <|
  (hostler { s with tb := n, time := b, epoch := e } o).trans <|
  (hepoch { s with tb := n, time := b } e).trans <|
  (htime { s with tb := n } b).trans <|
  htb s n

include hstaged hstagedBlobs hgraph in
theorem view_staged_stagedBlobs_graph (s : State) (r : Tab Nat) (o : Tab Octets) (g : Graph) :
    view { s with staged := r, stagedBlobs := o, graph := g } = view s :=
  (hgraph { s with staged := r, stagedBlobs := o } g).trans <|
  (hstagedBlobs { s with staged := r } o).trans <|
  hstaged s r

include hregs hblobs htinker hpower hwatch in
theorem view_regs_blobs_watch_power_tinker (s : State) (r : Tab Nat) (o : Tab Octets) (w : Watchman) (p : Power) (k : Tinker) :
    view { s with regs := r, blobs := o, watch := w, power := p, tinker := k } = view s :=
  (htinker { s with regs := r, blobs := o, watch := w, power := p } k).trans <|
  (hpower { s with regs := r, blobs := o, watch := w } p).trans <|
  (hwatch { s with regs := r, blobs := o } w).trans <|
  (hblobs { s with regs := r } o).trans <|
  hregs s r

/-! ### Messages to the Tinker and to the other module (R186 to R192, R464 to R470) -/

section
include hregs htinker

theorem view_collect (s : State) (m : FaultMsg) : view (collect s m) = view s := by
  unfold collect
  dsimp only
  split
  · exact htinker s _
  · split
    · exact htinker s _
    · exact (view_bump hregs _ _).trans (htinker s _)

theorem view_reportWith (s : State) (k v d h a : Nat) :
    view (reportWith s k v d h a) = view s :=
  (view_collect hregs htinker _ _).trans (htinker s _)

theorem view_report (s : State) (k h a : Nat) : view (report s k h a) = view s := view_reportWith hregs htinker s k _ 0 h a

theorem view_reportHeldOver (s : State) (m : FaultMsg) :
    view (reportHeldOver s m) = view s :=
  (view_collect hregs htinker _ _).trans (htinker s _)

end

section
include hout htwin

theorem view_varlanSend (s : State) (cls : Nat) (m : VMsg) : view (varlanSend s cls m) = view s := by
  unfold varlanSend
  split
  · rfl
  · exact (view_send hout _ _).trans (htwin s _)

theorem view_forwardWrite (s : State) (k v : Nat) (o : Octets) (b : Bool) : view (forwardWrite s k v o b) = view s := by
  unfold forwardWrite
  split
  · exact (view_varlanSend hout htwin _ _ _).trans (htwin s _)
  · rfl

theorem view_forwardCommand (s : State) (k : Nat) (o : Octets) : view (forwardCommand s k o) = view s := by
  unfold forwardCommand
  split
  · exact view_forwardWrite hout htwin s k _ o false
  · rfl

end

section
include hregs htinker htwin

theorem view_varlanReject (s : State) : view (varlanReject s) = view s := by
  simp only [varlanReject, apply_ite view, view_report hregs htinker, htwin, view_bump hregs, ite_self]

theorem view_varlanAccept (s : State) (cls : Nat) (v : VHead) : view (varlanAccept s cls v).2 = view s := by
  unfold varlanAccept
  dsimp only
  split
  · exact view_varlanReject hregs htinker htwin s
  · split
    · simp only [apply_ite view, view_varlanReject hregs htinker htwin, ite_self]
    · exact htwin s _

theorem view_onMessage (s : State) (cls : Nat) (v : VHead) (op : State → State) (hop : ∀ t, view (op t) = view t) :
    view (onMessage s cls v op) = view s := by
  have h := view_varlanAccept hregs htinker htwin s cls v
  unfold onMessage
  split
  next t heq => rw [heq] at h; exact (hop t).trans h
  next t heq => rw [heq] at h; exact h

end

section
include hstatus hout hled htwin

theorem view_commandWith (s : State) (k : Nat) (o : Octets) (op : State → Status × State) (hop : view (op s).2 = view s) :
    view (commandWith s k o op) = view s := by
  unfold commandWith
  dsimp only
  split
  · rfl
  split
  · exact view_ret hstatus s _
  split
  · exact view_hangAlone hled s _ _ _ _ _
  · simp only [view_ret hstatus, apply_ite view, view_forwardCommand hout htwin, hop, ite_self]

theorem view_command (s : State) (k v : Nat) (op : State → Status × State) (hop : view (op s).2 = view s) :
    view (command s k v op) = view s :=
  view_commandWith hstatus hout hled htwin s k _ op hop

end

/-! ### Radios and calibration (R80 to R95) -/

include hregs in
theorem view_setLocked (s : State) (r : Nat) (b : Bool) : view (setLocked s r b) = view s := view_setFlag hregs s _ b

section
include hregs hradios

theorem view_setRState (s : State) (r v : Nat) :
    view (setRState s r v) = view s :=
  (view_wr hregs _ _ _).trans (view_setRadio hradios s r _)

theorem view_follow (s : State) (r : Nat) : view (follow s r) = view s := by
  simp only [follow, apply_ite view, view_setLocked hregs, view_setRState hregs hradios, view_setRadio hradios, ite_self]

theorem view_followAll (s : State) : view (followAll s) = view s := by simp only [followAll, view_follow hregs hradios]

theorem view_ppduOver (s : State) (r : Nat) : view (ppduOver s r) = view s := by
  simp only [ppduOver, view_follow hregs hradios, apply_ite view, view_setLocked hregs, view_setRState hregs hradios,
    view_setRadio hradios, ite_self]

theorem view_stopEngine (s : State) (e : Activity) : view (stopEngine s e) = view s := by
  simp only [stopEngine, apply_ite view, view_follow hregs hradios, view_setRState hregs hradios, view_setRadio hradios,
    view_retrainStop hregs, ite_self]

end

include hout hradios in
theorem view_cutPpdu (s : State) (r : Nat) : view (cutPpdu s r) = view s := by
  unfold cutPpdu
  split
  · exact (view_send hout _ _).trans (view_setRadio hradios s r _)
  · rfl

section
include hregs hout hradios

theorem view_muteRadio (s : State) (r : Nat) : view (muteRadio s r) = view s := by
  simp only [muteRadio, apply_ite view, view_ppduOver hregs hradios, view_cutPpdu hout hradios, ite_self]

theorem view_radioUnpowered (s : State) (r : Nat) : view (radioUnpowered s r) = view s := by
  simp only [radioUnpowered, view_setLocked hregs, view_setRState hregs hradios, view_setRadio hradios, view_cutPpdu hout hradios]

end

include hregs htinker in
theorem view_calFailed (s : State) (r region cluster unit : Nat) :
    view (calFailed s r region cluster unit) = view s :=
  (view_report hregs htinker _ _ _ _).trans (view_bump hregs s _)

section
include hregs htinker hradios

theorem view_chainFault (s : State) (r k : Nat) : view (chainFault s r k) = view s := by
  simp only [chainFault, apply_ite view, view_report hregs htinker, view_bump hregs, view_setRadio hradios, ite_self]

theorem view_chainCalEnd (s : State) (r : Nat) (k : CalRun) (chain : Nat) (ok : Bool) : view (chainCalEnd s r k chain ok) = view s := by
  simp only [chainCalEnd, apply_ite view, view_wr hregs, view_setRadio hradios, view_calFailed hregs htinker, ite_self]

theorem view_fullEnd (s : State) (r : Nat) (failed : List Nat) : view (fullEnd s r failed) = view s := by
  refine (view_wr hregs _ _ _).trans ((view_setRadio hradios _ r _).trans (view_foldl (fun t k => ?_) failed s))
  simp only [apply_ite view, view_chainFault hregs htinker hradios, view_calFailed hregs htinker, ite_self]

end

/-! ### Maintenance and the change of mode (R375, R478 to R487) -/

include hregs htinker in
theorem view_pairRefresh (s : State) : view (pairRefresh s) = view s := by
  simp only [pairRefresh, apply_ite view, view_report hregs htinker, view_wr hregs, ite_self]

section
include hregs hsteward

theorem view_retrainStart (s : State) : view (retrainStart s) = view s := by
  simp only [retrainStart, view_wr hregs, hsteward]

theorem view_alignBack (s : State) : view (alignBack s) = view s := by
  unfold alignBack
  split
  · exact (view_bump hregs _ _).trans (hsteward s _)
  · rfl

end

section
include hregs hradios hsteward

theorem view_startActivity (s : State) (e : Activity) : view (startActivity s e) = view s := by
  simp only [startActivity, apply_ite view, view_setRState hregs hradios, view_setRadio hradios, view_retrainStart hregs hsteward,
    view_bump hregs, ite_self]

theorem view_enterRunning (s : State) (e : Activity) : view (enterRunning s e) = view s := by
  simp only [enterRunning, apply_ite view, view_startActivity hregs hradios hsteward, hsteward, view_bump hregs, ite_self]

theorem view_abortActivity (s : State) (e : Activity) : view (abortActivity s e) = view s := by
  simp only [abortActivity, view_recordEnd hregs, view_stopEngine hregs hradios, view_bump hregs, view_dropRunning hsteward]

theorem view_abortOutside (s : State) : view (abortOutside s) = view s := by
  simp only [abortOutside, apply_ite view, hsteward, view_foldl (view_abortActivity hregs hradios hsteward), ite_self]

end

section
include hregs hout hradios htwin hsteward

theorem view_admitActivity (s : State) (e : Activity) : view (admitActivity s e) = view s := by
  simp only [admitActivity, apply_ite view, view_varlanSend hout htwin, hsteward, view_enterRunning hregs hradios hsteward, ite_self]

theorem view_scanFrom (s : State) (kept l : List Activity) : view (scanFrom s kept l) = view s := by
  induction l generalizing s kept with
  | nil => exact hsteward s _
  | cons e rest ih => simp only [scanFrom, apply_ite view, ih, view_admitActivity hregs hout hradios htwin hsteward, ite_self]

theorem view_reserveAlign (s : State) : view (reserveAlign s) = view s := by
  simp only [reserveAlign, view_varlanSend hout htwin, view_enterRunning hregs hradios hsteward, hsteward]

theorem view_scanQueue (s : State) : view (scanQueue s) = view s := by
  simp only [scanQueue, apply_ite view, view_reserveAlign hregs hout hradios htwin hsteward,
    view_scanFrom hregs hout hradios htwin hsteward, ite_self]

end

section
include hregs hdram

theorem view_dramComplete (s : State) : view (dramComplete s) = view s := by
  simp only [dramComplete, hdram]
  exact view_foldl (fun t q => view_bumpBy hregs t _ _) _ s

theorem view_dramMode (s : State) (m : Nat) : view (dramMode s m) = view s := by
  simp only [dramMode, apply_ite view, view_wr hregs, view_dramComplete hregs hdram, view_retrainStop hregs, ite_self]

end

include hregs hout htinker hradios htwin hsteward hdram in
theorem view_setMode (s : State) (m : Nat) : view (setMode s m) = view s := by
  simp only [setMode, view_pairRefresh hregs htinker, view_scanQueue hregs hout hradios htwin hsteward, view_followAll hregs hradios,
    view_retime hregs, apply_ite view, view_muteRadio hregs hout hradios, view_abortOutside hregs hradios hsteward,
    view_dramMode hregs hdram, view_wr hregs,
    view_serviceRole hregs, ite_self]

/-! ### The Surveyor's samples and the ends of activities (R483 to R488) -/

include hregs hpower hsurvey in
theorem view_planStep (s : State) (i : Nat) : view (planStep s i) = view s := by
  simp only [planStep, apply_ite view, hpower, view_wr hregs, view_bump hregs, hsurvey, view_setItem hsurvey, ite_self]

section
include hregs htinker hpower hsurvey

theorem view_planSample (s : State) (i : Nat) (margin : Int) : view (planSample s i margin) = view s := by
  simp only [planSample, apply_ite view, view_report hregs htinker, view_planStep hregs hpower hsurvey, view_setItem hsurvey,
    view_wr hregs, view_wrI hregs, ite_self]

theorem view_surveySample (s : State) (r : ActivityReport) : view (surveySample s r) = view s := by
  refine (view_foldl (fun t j => ?_) _ _).trans ?_
  · split
    · simp only [apply_ite view, view_planSample hregs htinker hpower hsurvey, ite_self]
    · rfl
  · dsimp only
    split
    · simp only [view_planSample hregs htinker hpower hsurvey, apply_ite view, view_power_survey hpower hsurvey, ite_self]
    · simp only [apply_ite view, view_power_survey hpower hsurvey, ite_self]

end

include hregs htinker hradios htwin in
theorem view_alignEnd (s : State) (r : ActivityReport) : view (alignEnd s r) = view s := by
  simp only [alignEnd, apply_ite view, view_pairRefresh hregs htinker, htwin, view_bump hregs, view_wr hregs, view_follow hregs hradios,
    view_setRState hregs hradios, ite_self]

/-! ### The time base, its timers and its sources (R391 to R413) -/

section
include hregs htime

theorem view_setTbState (s : State) (st : Nat) : view (setTbState s st) = view s := by
  simp only [setTbState, view_wr hregs, view_setTime htime, view_setUncertainty htime]

theorem view_setFreq (s : State) (f : Int) : view (setFreq s f) = view s := (view_wrI hregs _ _ _).trans (view_setTime htime s _)

theorem view_sourceQualifies (s : State) (who : Nat) : view (sourceQualifies s who) = view s := by
  simp only [sourceQualifies, apply_ite view, view_wr hregs, view_setTbState hregs htime, ite_self]

theorem view_lockCount (s : State) (off : Int) : view (lockCount s off) = view s := by
  simp only [lockCount, apply_ite view, view_setTbState hregs htime, view_setTime htime, ite_self]

theorem view_gtAt (s : State) (t k : Nat) : view (gtAt s t k) = view s := by
  unfold gtAt
  dsimp only
  split
  · simp only [apply_ite view, view_wr hregs, view_setGfpTimer htime, ite_self]
  · exact view_setGfpTimer htime s t _

end

include hregs hfree htime in
theorem view_servoFreq (s : State) (ppm : Nat) :
    view (servoFreq s ppm) = view s :=
  (view_setFreq hregs htime _ _).trans (view_freeNext hfree s)

section
include hregs htinker htime

theorem view_sourceLost (s : State) : view (sourceLost s) = view s := by
  simp only [sourceLost, apply_ite view, view_report hregs htinker, view_wr hregs, view_setFreq hregs htime, view_setTbState hregs htime,
    ite_self]

theorem view_gtSkip (s : State) (t n : Nat) : view (gtSkip s t n) = view s := by
  simp only [gtSkip, apply_ite view, view_report hregs htinker, view_setTime htime, view_bumpBy hregs, ite_self]

end

include hout htime in
theorem view_driveGfp (s : State) (t : Nat) (active : Bool) : view (driveGfp s t active) = view s := by
  simp only [driveGfp, apply_ite view, view_send hout, view_setGfpTimer htime, ite_self]

include hregs hout htime in
theorem view_gtEdge (s : State) (t : Nat) : view (gtEdge s t) = view s := by
  simp only [gtEdge, apply_ite view, view_driveGfp hout htime, view_bump hregs, ite_self]

section
include hregs hout htinker htime

theorem view_gtPassed (s : State) (t : Nat) : view (gtPassed s t) = view s := by
  simp only [gtPassed, apply_ite view, view_gtSkip hregs htinker htime, view_gtEdge hregs hout htime, view_gtAt hregs htime, ite_self]

theorem view_gtAllPassed (s : State) : view (gtAllPassed s) = view s := view_foldl (view_gtPassed hregs hout htinker htime) _ s

end

section
include hregs hout htb hepoch htinker hradios htime hmove hmac hostler

theorem view_stepTb (s : State) (d : Int) : view (stepTb s d) = view s := by
  simp only [stepTb, view_report hregs htinker, apply_ite view, view_gtAllPassed hregs hout htinker htime, view_wrI hregs, view_bump hregs,
    view_startMove hmove, view_tb_time_epoch_ost_mac htb hepoch htime hmac hostler, ite_self]
  exact view_foldl (fun t r => view_setRadio hradios t r _) _ s

theorem view_copyStep (s : State) : view (copyStep s) = view s := by
  unfold copyStep
  split
  · simp only [apply_ite view, view_stepTb hregs hout htb hepoch htinker hradios htime hmove hmac hostler, ite_self]
  · rfl

end

section
include hregs hout hfree htb hepoch htinker hradios htime hmove hmac hostler

theorem view_measure (s : State) (off : Int) (who : Nat) : view (measure s off who) = view s := by
  simp only [measure, apply_ite view, view_setUncertainty htime, view_wr hregs, view_setTbState hregs htime,
    view_stepTb hregs hout htb hepoch htinker hradios htime hmove hmac hostler, view_lockCount hregs htime,
    view_servoFreq hregs hfree htime, view_sourceQualifies hregs htime, ite_self]

theorem view_ppsMeasure (s : State) : view (ppsMeasure s) = view s := by
  simp only [ppsMeasure, apply_ite view, view_measure hregs hout hfree htb hepoch htinker hradios htime hmove hmac hostler,
    view_report hregs htinker, view_bump hregs, view_setTime htime, view_wr hregs, ite_self]

theorem view_ptpOffset (s : State) (p : Nat) (m : PtpMsg) (corr : Int) (origin : Nat) : view (ptpOffset s p m corr origin) = view s := by
  simp only [ptpOffset, apply_ite view, view_measure hregs hout hfree htb hepoch htinker hradios htime hmove hmac hostler, view_wrI hregs,
    view_setPtpPort htime, ite_self]

end

include hregs hblobs htinker htime in
theorem view_ptpDecide (s : State) : view (ptpDecide s) = view s := by
  have hports := fun best => view_foldl (view := view) (f := fun t p => if ptpRuns s p then wr t (O.pp_state p) (decidePort s best p) else t)
    (fun t p => by simp only [apply_ite view, view_wr hregs, ite_self]) (List.range 8) s
  unfold ptpDecide
  dsimp only
  split
  · simp only [apply_ite view, view_sourceQualifies hregs htime, view_wr hregs, view_wrB hblobs, hports, ite_self]
  · simp only [apply_ite view, view_sourceLost hregs htinker htime, view_wr hregs, hports, ite_self]

include hregs hblobs hout hfree htb hepoch htinker hradios htime hmove hmac hostler in
theorem view_ptpTake (s : State) (p : Nat) (m : PtpMsg) : view (ptpTake s p m) = view s := by
  unfold ptpTake
  dsimp only
  cases m.kind with
  | announce => simp only [apply_ite view, view_ptpDecide hregs hblobs htinker htime, view_setPtpPort htime, ite_self]
  | sync => simp only [apply_ite view, view_setPtpPort htime,
      view_ptpOffset hregs hout hfree htb hepoch htinker hradios htime hmove hmac hostler, ite_self]
  | followUp =>
    dsimp only
    split
    · simp only [apply_ite view, view_ptpOffset hregs hout hfree htb hepoch htinker hradios htime hmove hmac hostler, ite_self]
    · rfl
  | delayReq => simp only [apply_ite view, view_bump hregs, view_send hout, ite_self]
  | delayResp =>
    dsimp only
    split
    · simp only [apply_ite view, view_wr hregs, view_setPtpPort htime, ite_self]
    · rfl
  | pdelayReq => simp only [view_bump hregs, view_send hout]
  | pdelayResp =>
    dsimp only
    split
    · simp only [apply_ite view, view_setFlag hregs, view_wr hregs, view_setPtpPort htime, ite_self]
    · rfl
  | pdelayRespFollowUp =>
    dsimp only
    split
    · simp only [view_setFlag hregs, view_wr hregs, view_setPtpPort htime]
    · rfl
  | signaling => rfl
  | management => rfl

/-! ### The backup domain (R423 to R427) -/

include hregs hout in
theorem view_setPwron (s : State) (st : Nat) : view (setPwron s st) = view s := by
  simp only [setPwron, apply_ite view, view_send hout, view_wr hregs, ite_self]

include hregs hblobs hout htinker hpower hwatch in
theorem view_backupReset (s : State) (por : Bool) : view (backupReset s por) = view s := by
  simp only [backupReset, apply_ite view, view_wr hregs, view_setFlag hregs,
    view_regs_blobs_watch_power_tinker hregs hblobs htinker hpower hwatch, view_setPwron hregs hout, ite_self]

/-! ### The state of the pair (R183, R184) -/

include hregs htinker hsteward in
theorem view_twinTo (s : State) (v : Nat) : view (twinTo s v) = view s := by
  simp only [twinTo, view_pairRefresh hregs htinker, apply_ite view, view_alignBack hregs hsteward, view_wr hregs, ite_self]

section
include hregs htinker htwin hsteward

theorem view_enterSynced (s : State) :
    view (enterSynced s) = view s :=
  (view_twinTo hregs htinker hsteward _ 3).trans (view_setTwin htwin s _)

theorem view_beginCopy (s : State) (role : CopyRole) (resync : Bool) :
    view (beginCopy s role resync) = view s :=
  (view_twinTo hregs htinker hsteward _ 2).trans (view_setTwin htwin s _)

end

include hregs hout htb hepoch htinker hradios htwin htime hmove hsteward hmac hostler in
theorem view_sendJoin (s : State) : view (sendJoin s) = view s := by
  simp only [sendJoin, view_copyStep hregs hout htb hepoch htinker hradios htime hmove hmac hostler,
    view_beginCopy hregs htinker htwin hsteward, view_varlanSend hout htwin]

include hregs hboot htinker htwin in
theorem view_waitToSolo (s : State) : view (waitToSolo s) = view s := by
  simp only [waitToSolo, apply_ite view, view_report hregs htinker, view_setTwin htwin, hboot, ite_self]

/-! ### The epoch commit (R29 to R36) -/

include hregs htinker hpower in
theorem view_bankFailed (s : State) (b : Nat) : view (bankFailed s b) = view s := by
  simp only [bankFailed, view_report hregs htinker, hpower, view_bump hregs, view_wr hregs]

include hregs hfree htinker hpower hradios in
theorem view_dieUp (x : State × List Nat) (r : Nat) : view (dieUp x r).1 = view x.1 := by
  simp only [dieUp, view_follow hregs hradios, apply_ite view, view_loseCoefficients hradios, view_bankFailed hregs htinker hpower,
    view_freeNext hfree, view_setPower hregs, ite_self]

include hregs hout hpower hradios in
theorem view_dieDown (s : State) (r : Nat) : view (dieDown s r) = view s := by
  simp only [dieDown, view_setPower hregs, view_radioUnpowered hregs hout hradios, view_latchPads hregs, apply_ite view, view_wr hregs,
    hpower, view_loseCoefficients hradios, ite_self]

include hregs hfree hepoch htinker hpower hradios in
theorem view_prepareOwn (s : State) : view (prepareOwn s) = view s := by
  simp only [prepareOwn, view_retime hregs, view_power_epoch hepoch hpower]
  exact foldl_view (fun x : State × List Nat => view x.1) (view_dieUp hregs hfree htinker hpower hradios) _ (s, [])

include hregs hout hepoch hpower hradios in
theorem view_abortOwn (s : State) : view (abortOwn s) = view s := by
  simp only [abortOwn, view_retime hregs, view_power_epoch hepoch hpower]
  exact view_foldl (fun t r => (view_setPower hregs _ _ _).trans (view_radioUnpowered hregs hout hradios t r)) _ s

include hregs hstaged hstagedBlobs hout htinker hpower hradios htwin hsteward hgraph in
theorem view_finishOwn (s : State) : view (finishOwn s) = view s := by
  simp only [finishOwn, apply_ite view, view_enterSynced hregs htinker htwin hsteward, view_setPowerState hpower,
    view_foldl (view_dieDown hregs hout hpower hradios), view_wr hregs, view_staged_stagedBlobs_graph hstaged hstagedBlobs hgraph, ite_self]

include hregs hepoch htwin in
theorem view_rolledBack (s : State) : view (rolledBack s) = view s := by
  simp only [rolledBack, view_clearEpoch hepoch, view_wr hregs, apply_ite view, view_setTwin htwin, ite_self]

include hregs hout hepoch hpower hradios htwin in
theorem view_abortCommit (s : State) (l : List Nat) : view (abortCommit s l) = view s := by
  simp only [abortCommit, view_rolledBack hregs hepoch htwin, apply_ite view, view_varlanSend hout htwin, view_recordLaggards hregs,
    view_abortOwn hregs hout hepoch hpower hradios, ite_self]

section
include hregs hout hfree hepoch htinker hpower hradios htwin

theorem view_startCommit (s : State) (kind : CommitKind) (peer : Bool) : view (startCommit s kind peer) = view s := by
  simp only [startCommit, view_prepareOwn hregs hfree hepoch htinker hpower hradios, view_wr hregs, apply_ite view,
    view_varlanSend hout htwin, view_setEpoch hepoch, ite_self]

theorem view_epochCommit (s : State) : view (epochCommit s).2 = view s := by
  simp only [epochCommit, apply_ite Prod.snd, apply_ite view, view_startCommit hregs hout hfree hepoch htinker hpower hradios htwin,
    ite_self]

end

section
include hregs hout hepoch htwin

theorem view_allPrepared (s : State) : view (allPrepared s) = view s := by
  simp only [allPrepared, apply_ite view, view_varlanSend hout htwin, view_setEpoch hepoch, view_wr hregs, ite_self]

theorem view_peerPrepared (s : State) (h : Nat) (agrees : Bool) : view (peerPrepared s h agrees) = view s := by
  simp only [peerPrepared, apply_ite view, view_varlanSend hout htwin, view_dropWaiting hepoch, view_unitChecked hregs, ite_self]

end

include hregs hout hepoch hpower hradios htwin in
theorem view_coordPrepared (s : State) (h : Nat) (agrees : Bool) : view (coordPrepared s h agrees) = view s := by
  simp only [coordPrepared, apply_ite view, view_abortCommit hregs hout hepoch hpower hradios htwin,
    view_allPrepared hregs hout hepoch htwin, view_dropWaiting hepoch, view_unitChecked hregs, ite_self]

include hregs hstaged hstagedBlobs hout hepoch htinker hpower hradios htwin hsteward hgraph in
theorem view_allApplied (s : State) : view (allApplied s) = view s := by
  simp only [allApplied, view_clearEpoch hepoch, view_wr hregs,
    view_finishOwn hregs hstaged hstagedBlobs hout htinker hpower hradios htwin hsteward hgraph, apply_ite view,
    view_varlanSend hout htwin, ite_self]

include hregs hstaged hstagedBlobs hout hfree hepoch htinker hpower hradios htwin hsteward hgraph in
theorem view_epochMessage (s : State) (m : EpochMsg) : view (epochMessage s m) = view s := by
  cases m with
  | prepare auto => simp only [epochMessage, apply_ite view, view_prepareOwn hregs hfree hepoch htinker hpower hradios,
      view_setEpoch hepoch, ite_self]
  | applyAt t => simp only [epochMessage, apply_ite view, view_setEpoch hepoch, ite_self]
  | done => simp only [epochMessage, apply_ite view, view_clearEpoch hepoch,
      view_finishOwn hregs hstaged hstagedBlobs hout htinker hpower hradios htwin hsteward hgraph, ite_self]
  | abort => simp only [epochMessage, apply_ite view, view_clearEpoch hepoch, view_abortOwn hregs hout hepoch hpower hradios, ite_self]
  | rollbackAt t => simp only [epochMessage, apply_ite view, view_setEpoch hepoch, view_clearEpoch hepoch,
      view_abortOwn hregs hout hepoch hpower hradios, ite_self]

/-! ### Start-up and the wake from DORMANT (R449 to R454, R519 to R525) -/

include hregs hradios in
theorem view_hubStart (s : State) : view (hubStart s) = view s := by
  simp only [hubStart, view_followAll hregs hradios, view_foldl fun t d => view_setClk hregs t d 1,
    view_foldl fun t d => view_setPower hregs t d 2, view_wr hregs]

section
include hregs hclaims

theorem view_claimFor (s : State) (owner r : Nat) : view (claimFor s owner r).2 = view s := by
  unfold claimFor
  split
  · exact hclaims s _
  · split
    · rfl
    · exact view_bump hregs s _

theorem view_claimAlive (s : State) : view (claimAlive s) = view s := by
  simp only [claimAlive, apply_ite view, view_claimFor hregs hclaims, ite_self]

end

include hregs hboot hclaims hled hradios in
theorem view_leaveReset (s : State) : view (leaveReset s) = view s := by
  simp only [leaveReset, view_claimAlive hregs hclaims, view_setLed hled, view_hubStart hregs hradios, hboot, apply_ite view,
    view_wr hregs, ite_self]

section
include hregs htb htime

theorem view_rebuildTime (s : State) : view (rebuildTime s) = view s := by
  unfold rebuildTime
  split
  · exact htb s 0
  · simp only [htime, view_wr hregs, htb]

theorem view_bootTime (s : State) : view (bootTime s) = view s := by
  simp only [bootTime, apply_ite view, view_setUncertainty htime, view_setTbState hregs htime, view_tb_time htb htime, ite_self]

end

include hradios htwin in
theorem view_restoreRadio (s : State) (r : Nat) : view (restoreRadio s r) = view s := by
  unfold restoreRadio
  split
  · simp only [apply_ite view, view_setTwin htwin, view_setRadio hradios, ite_self]
  · rfl

include hregs htb hboot hclaims hled htinker hpower hradios htwin htime in
theorem view_wake (s : State) (banksOk : Nat) : view (wake s banksOk) = view s := by
  simp only [wake, view_claimAlive hregs hclaims, view_foldl (view_restoreRadio hradios htwin),
    view_foldl (view_bankFailed hregs htinker hpower), view_setLed hled, view_rebuildTime hregs htb htime, view_hubStart hregs hradios,
    view_wr hregs, view_boot_power hboot hpower]

include hregs htinker hpower in
theorem view_bootKinds (s : State) : view (bootKinds s) = view s := by
  simp only [bootKinds, apply_ite view, view_report hregs htinker, view_foldl (view_reportHeldOver hregs htinker), hpower, ite_self]

include hregs hpower in
theorem view_bootPlan (s : State) : view (bootPlan s) = view s := by
  refine ((view_setPowerState hpower _ _).trans (view_setFlag hregs _ _ _)).trans ?_
  refine (view_foldl (fun t r => view_wr hregs t _ _) _ _).trans ((view_wr hregs _ _ _).trans (view_foldl (fun t i => ?_) _ s))
  split
  · exact view_wr hregs t _ _
  · rfl

include hregs hout htb hboot hled htinker hpower hradios htwin htime hsteward hdram in
theorem view_bootBegin (s : State) : view (bootBegin s) = view s := by
  simp only [bootBegin, view_bootKinds hregs htinker hpower, view_bootPlan hregs hpower, view_bootFlash hregs, apply_ite view,
    view_wr hregs, view_setPowerState hpower, view_bootTime hregs htb htime, view_setMode hregs hout htinker hradios htwin hsteward hdram,
    hboot, view_setLed hled,
    ite_self]

include hregs hout htb hboot hepoch htinker hradios htwin htime hmove hsteward hmac hostler in
theorem view_trainChoice (s : State) : view (trainChoice s) = view s := by
  simp only [trainChoice, apply_ite view, hboot,
    view_sendJoin hregs hout htb hepoch htinker hradios htwin htime hmove hsteward hmac hostler, view_waitToSolo hregs hboot htinker htwin,
    ite_self]

/-! ### The commands -/

include hseal hregs hstatus hout hfree hepoch hled htinker hpower hradios htwin in
theorem view_execEpochCommit (s t : State) (h : execEpochCommit s = .next t) : view t = view s :=
  view_act hseal (view_command hstatus hout hled htwin s _ _ _ (view_epochCommit hregs hout hfree hepoch htinker hpower hradios htwin s)) h

section
include hseal hregs hout hepoch hpower hradios htwin

theorem view_execUnitPrepared (hid : BitVec 24) (agrees : Bool) (s t : State) (h : execUnitPrepared hid agrees s = .next t) :
    view t = view s := by
  refine view_act hseal ?_ h
  simp only [apply_ite view, view_coordPrepared hregs hout hepoch hpower hradios htwin, view_peerPrepared hregs hout hepoch htwin, ite_self]

theorem view_execPrepareTimeout (s t : State) (h : execPrepareTimeout s = .next t) : view t = view s := by
  refine view_act hseal ?_ h
  simp only [apply_ite view, view_abortCommit hregs hout hepoch hpower hradios htwin, ite_self]

end

include hseal hregs hstaged hstagedBlobs hout hepoch htinker hpower hradios htwin hsteward hgraph in
theorem view_execUnitApplied (hid : BitVec 24) (s t : State) (h : execUnitApplied hid s = .next t) : view t = view s := by
  refine view_act hseal ?_ h
  simp only [apply_ite view, view_allApplied hregs hstaged hstagedBlobs hout hepoch htinker hpower hradios htwin hsteward hgraph,
    view_varlanSend hout htwin, view_setEpoch hepoch, view_dropWaiting hepoch, ite_self]

include hseal hregs hout hfree hepoch htinker hpower hradios htwin in
theorem view_execAutoCommit (s t : State) (h : execAutoCommit s = .next t) : view t = view s := by
  refine view_act hseal ?_ h
  dsimp only
  split
  · rfl
  · simp only [apply_ite view, view_startCommit hregs hout hfree hepoch htinker hpower hradios htwin, view_setEpoch hepoch, ite_self]

include hseal hregs hstaged hstagedBlobs hout hfree hepoch htinker hpower hradios htwin hsteward hgraph in
theorem view_execEpochMessageReceived (v : VHead) (m : EpochMsg) (s t : State) (h : execEpochMessageReceived v m s = .next t) : view t = view s :=
  view_act hseal (view_onMessage hregs htinker htwin s 1 v _ fun u =>
    view_epochMessage hregs hstaged hstagedBlobs hout hfree hepoch htinker hpower hradios htwin hsteward hgraph u m) h

section
include hseal hregs hblobs hout htinker hpower hwatch

theorem view_execBackupPor (s t : State) (h : execBackupPor s = .next t) : view t = view s := by
  refine view_done hseal ?_ h
  simp only [apply_ite view, view_setClk hregs, view_wr hregs, hpower, view_backupReset hregs hblobs hout htinker hpower hwatch, ite_self]

theorem view_execVbakApplied (s t : State) (h : execVbakApplied s = .next t) : view t = view s := by
  refine view_done hseal ?_ h
  simp only [apply_ite view, view_setClk hregs, view_setPower hregs, view_wr hregs,
    view_backupReset hregs hblobs hout htinker hpower hwatch, hpower, ite_self]

end

include hseal hregs hblobs hstatus hout hled htinker hpower htwin hwatch in
theorem view_execBakReset (s t : State) (h : execBakReset s = .next t) : view t = view s :=
  view_act hseal (view_command hstatus hout hled htwin s _ _ _ (view_backupReset hregs hblobs hout htinker hpower hwatch s false)) h

include hseal hregs htb hboot hclaims hled htinker hpower hradios htwin htime in
theorem view_execWakeSource (source banksOk : Nat) (s t : State) (h : execWakeSource source banksOk s = .next t) : view t = view s := by
  refine view_done hseal ?_ h
  simp only [apply_ite view, view_setPowerState hpower, view_wake hregs htb hboot hclaims hled htinker hpower hradios htwin htime,
    view_wr hregs, ite_self]

include hseal hregs hboot hclaims hled hradios in
theorem view_execPorstRelease (samples : List Nat) (s t : State) (h : execPorstRelease samples s = .next t) : view t = view s := by
  refine view_done hseal ?_ h
  simp only [apply_ite view, view_leaveReset hregs hboot hclaims hled hradios, hboot, ite_self]

include hseal hregs hout htb hboot hled htinker hpower hradios htwin htime hsteward hdram in
theorem view_execBootStart (s t : State) (h : execBootStart s = .next t) : view t = view s := by
  refine view_act hseal ?_ h
  simp only [apply_ite view, view_bootBegin hregs hout htb hboot hled htinker hpower hradios htwin htime hsteward hdram, ite_self]

include hseal hregs hout htb hboot hepoch htinker hradios htwin htime hmove hsteward hmac hostler in
theorem view_execTrainEnd (s t : State) (h : execTrainEnd s = .next t) : view t = view s := by
  refine view_act hseal ?_ h
  simp only [apply_ite view, view_trainChoice hregs hout htb hboot hepoch htinker hradios htwin htime hmove hsteward hmac hostler, ite_self]

include hseal hregs hboot htinker hradios in
theorem view_execCalEnd (r : Fin 3) (failed : List Nat) (s t : State) (h : execCalEnd r failed s = .next t) : view t = view s := by
  refine view_act hseal ?_ h
  dsimp only
  split
  · simp only [apply_ite view, view_setLocked hregs, view_setRState hregs hradios, view_follow hregs hradios, hboot,
      view_fullEnd hregs htinker hradios, view_setRadio hradios, ite_self]
  split
  · rfl
  split
  · simp only [view_follow hregs hradios, view_setRState hregs hradios, view_fullEnd hregs htinker hradios, view_setRadio hradios]
  split
  · simp only [view_follow hregs hradios, view_setRState hregs hradios, apply_ite view, view_wr hregs, view_calFailed hregs htinker,
      view_setRadio hradios, ite_self]
  split
  · exact view_setRadio hradios s _ _
  · simp only [apply_ite view, view_setRadio hradios, view_chainCalEnd hregs htinker hradios, ite_self]

include hseal hregs hout htinker hpower hradios htwin hsteward hsurvey in
theorem view_execActivityEnd (activity target : Nat) (r : ActivityReport) (s t : State) (h : execActivityEnd activity target r s = .next t) :
    view t = view s := by
  refine view_act hseal ?_ h
  dsimp only
  split
  · simp only [apply_ite view, view_scanQueue hregs hout hradios htwin hsteward, view_alignEnd hregs htinker hradios htwin, view_wr hregs,
      view_bump hregs, view_surveySample hregs htinker hpower hsurvey, hsurvey, view_dropRunning hsteward, ite_self]
  · rfl

section
include hseal hregs hout htinker hradios htwin hsteward

theorem view_execActivityBound (activity target : Nat) (s t : State) (h : execActivityBound activity target s = .next t) :
    view t = view s := by
  refine view_act hseal ?_ h
  dsimp only
  split
  · simp only [apply_ite view, view_scanQueue hregs hout hradios htwin hsteward, view_report hregs htinker, view_recordEnd hregs,
      view_stopEngine hregs hradios, view_bump hregs, view_dropRunning hsteward, ite_self]
  · rfl

theorem view_execAlignRequestReceived (v : VHead) (s t : State) (h : execAlignRequestReceived v s = .next t) : view t = view s := by
  refine view_act hseal (view_onMessage hregs htinker htwin s 1 v _ fun u => ?_) h
  simp only [apply_ite view, view_reserveAlign hregs hout hradios htwin hsteward, view_varlanSend hout htwin, hsteward, ite_self]

end

include hseal hregs htinker hradios htwin hsteward in
theorem view_execAlignAnswer (v : VHead) (admitted : Bool) (s t : State) (h : execAlignAnswer v admitted s = .next t) :
    view t = view s := by
  refine view_act hseal (view_onMessage hregs htinker htwin s 1 v _ fun u => ?_) h
  split
  · simp only [apply_ite view, view_enterRunning hregs hradios hsteward, hsteward, ite_self]
  · rfl

include hseal hregs hblobs hout hfree htb hepoch htinker hradios htime hmove hmac hostler in
theorem view_execPtpMessageRx (port : Fin 8) (m : PtpMsg) (s t : State) (h : execPtpMessageRx port m s = .next t) : view t = view s := by
  refine view_act hseal ?_ h
  simp only [apply_ite view, view_ptpTake hregs hblobs hout hfree htb hepoch htinker hradios htime hmove hmac hostler, view_bump hregs,
    ite_self]

include hseal hregs hout hfree htb hepoch htinker hradios htime hmove hmac hostler in
theorem view_execPpsInEdge (s t : State) (h : execPpsInEdge s = .next t) : view t = view s := by
  refine view_act hseal ?_ h
  simp only [apply_ite view, view_ppsMeasure hregs hout hfree htb hepoch htinker hradios htime hmove hmac hostler, view_wrI hregs,
    view_wr hregs, ite_self]

end

/-! ### The frame -/

/-- `view t s` takes the parts a clause names from `t` and all others from `s`. When the command sets nothing but named parts, no such view
shows it, and its outcome is the state it is given in all other parts. -/
theorem leaves_of_view {c : Instr} {view : State → State → State} (hself : ∀ t, view t t = t)
    (hcomm : ∀ v s t, view v (sealed s t) = sealed s (view v t))
    (h : ∀ v, (∀ s t, view v t = view v s → view v (sealed s t) = view v s) → ∀ s t, exec c s = .next t → view v t = view v s) :
    Leaves c fun s t => t = view t s := by
  intro s t e
  have hseal : ∀ s u, view t u = view t s → view t (sealed s u) = view t s := fun s u hu => by
    rw [hcomm, hu, ← hcomm, sealed_self]
  exact (hself t).symm.trans (h t hseal s t e)

/-- Settles O48: of each command, the view that takes the named parts from its outcome and the rest from the state it is given shows nothing
that the command sets. -/
theorem controlFrame : Obligations.ControlFrame := by
  unfold Obligations.ControlFrame
  refine ⟨?_, ?_, ?_, ?_, ?_, ?_, ?_, ?_, ?_, ?_, ?_, ?_, ?_, ?_, ?_, ?_, ?_, ?_, ?_, ?_⟩
  all_goals intros; refine leaves_of_view (fun _ => rfl) (fun _ _ _ => rfl) fun v hseal => ?_
  · apply view_execEpochCommit hseal <;> exact fun _ _ => rfl
  · apply view_execUnitPrepared hseal <;> exact fun _ _ => rfl
  · apply view_execPrepareTimeout hseal <;> exact fun _ _ => rfl
  · apply view_execUnitApplied hseal <;> exact fun _ _ => rfl
  · apply view_execAutoCommit hseal <;> exact fun _ _ => rfl
  · apply view_execEpochMessageReceived hseal <;> exact fun _ _ => rfl
  · apply view_execBackupPor hseal <;> exact fun _ _ => rfl
  · apply view_execBakReset hseal <;> exact fun _ _ => rfl
  · apply view_execVbakApplied hseal <;> exact fun _ _ => rfl
  · apply view_execWakeSource hseal <;> exact fun _ _ => rfl
  · apply view_execPorstRelease hseal <;> exact fun _ _ => rfl
  · apply view_execBootStart hseal <;> exact fun _ _ => rfl
  · apply view_execTrainEnd hseal <;> exact fun _ _ => rfl
  · apply view_execCalEnd hseal <;> exact fun _ _ => rfl
  · apply view_execActivityEnd hseal <;> exact fun _ _ => rfl
  · apply view_execActivityBound hseal <;> exact fun _ _ => rfl
  · apply view_execAlignAnswer hseal <;> exact fun _ _ => rfl
  · apply view_execAlignRequestReceived hseal <;> exact fun _ _ => rfl
  · apply view_execPtpMessageRx hseal <;> exact fun _ _ => rfl
  · apply view_execPpsInEdge hseal <;> exact fun _ _ => rfl

end Sys2Proof.Machine
end

section
/-! SUPPORT. Views that show registers one by one. A view hides a register when setting that register never changes what the view gives, and
hides a radio when setting that radio does not. A lemma `hidden_f` takes one hypothesis for each register, radio and part that the operation
`f` may set: a view that hides them gives the same before and after `f`. -/

namespace Sys2Proof.Machine

/-- A view hides a register. -/
abbrev Hides {α : Type} (view : State → α) (k : Nat) : Prop := ∀ s v, view (wr s k v) = view s

/-- A view hides the sealing of an outcome. -/
abbrev HidesSeal {α : Type} (view : State → α) : Prop := ∀ s t, view t = view s → view (sealed s t) = view s

/-- A view hides each register of a list. -/
abbrev HidesAll {α : Type} (view : State → α) (keys : List Nat) : Prop := ∀ k ∈ keys, Hides view k

/-- Fewer registers are hidden as well. -/
theorem HidesAll.of_subset {α : Type} {view : State → α} {keys l : List Nat} (h : HidesAll view keys) (hl : l ⊆ keys) : HidesAll view l :=
  fun k hk => h k (hl hk)

/-- A view hides a radio's own state. -/
abbrev HidesRadio {α : Type} (view : State → α) (r : Nat) : Prop := ∀ s x, view (setRadio s r x) = view s

/-- What each step of a fold over the entries of a list keeps, the fold keeps. -/
theorem foldl_view_mem {σ β γ : Type} (view : σ → γ) {f : σ → β → σ} (l : List β) (h : ∀ b ∈ l, ∀ s, view (f s b) = view s) (s : σ) :
    view (l.foldl f s) = view s := by
  induction l generalizing s with
  | nil => rfl
  | cons b l ih =>
    have hb := h b (by simp)
    exact (ih (fun c hc => h c (by simp [hc])) _).trans (hb s)

section

variable {α : Type} {view : State → α}
  (hseal : HidesSeal view)
  (hstatus : ∀ s x, view { s with status := x } = view s)
  (hout : ∀ s x, view { s with out := x } = view s)
  (hled : ∀ s x, view { s with led := x } = view s)
  (htinker : ∀ s x, view { s with tinker := x } = view s)
  (hpower : ∀ s x, view { s with power := x } = view s)
  (htwin : ∀ s x, view { s with twin := x } = view s)
  (hwatch : ∀ s x, view { s with watch := x } = view s)

include hseal in
/-- The outcome of an effect of the backup domain is the effect's, to a view that does not show the sealing. -/
theorem view_backup {s t : State} {op : State → State} (hop : view (op s) = view s) (h : backup s op = .next t) : view t = view s := by
  refine view_done hseal ?_ h
  split
  · rfl
  · exact hop

/-! ### Registers and messages -/

theorem hidden_wrI {k : Nat} (hk : Hides view k) (s : State) (v : Int) : view (wrI s k v) = view s := hk s _

theorem hidden_bumpBy {k : Nat} (hk : Hides view k) (s : State) (n : Nat) : view (bumpBy s k n) = view s := hk s _

theorem hidden_bump {k : Nat} (hk : Hides view k) (s : State) : view (bump s k) = view s := hk s _

theorem hidden_setFlag {k : Nat} (hk : Hides view k) (s : State) (b : Bool) : view (setFlag s k b) = view s := hk s _

theorem hidden_setClk {d : Nat} (hstate : Hides view (O.clk_state d)) (hrate : Hides view (O.clk_rate d)) (s : State) (v : Nat) :
    view (setClk s d v) = view s :=
  (hrate _ _).trans (hstate s v)

section
include htinker

theorem hidden_collect (hdrop : Hides view O.msgs_dropped) (s : State) (m : FaultMsg) : view (collect s m) = view s := by
  unfold collect
  dsimp only
  split
  · exact htinker s _
  · split
    · exact htinker s _
    · exact (hidden_bump hdrop _).trans (htinker s _)

theorem hidden_reportWith (hdrop : Hides view O.msgs_dropped) (s : State) (k v d h a : Nat) : view (reportWith s k v d h a) = view s :=
  (hidden_collect htinker hdrop _ _).trans (htinker s _)

theorem hidden_report (hdrop : Hides view O.msgs_dropped) (s : State) (k h a : Nat) : view (report s k h a) = view s :=
  hidden_reportWith htinker hdrop s k _ 0 h a

end

include hpower in
theorem view_reportLate (s : State) (k h a : Nat) : view (reportLate s k h a) = view s := hpower s _

include htinker hpower in
theorem hidden_reportHeld (hdrop : Hides view O.msgs_dropped) (s : State) (k h : Nat) : view (reportHeld s k h) = view s := by
  simp only [reportHeld, apply_ite view, hidden_report htinker hdrop, view_reportLate hpower, ite_self]

/-! ### Reads of an object (R40) -/

include hstatus hled in
theorem view_readWith (hread : ∀ s x, view { s with lastRead := x } = view s) (s : State) (k : Nat) (op : State → Octets × State)
    (hop : view (op s).2 = view s) : view (readWith s k op) = view s := by
  unfold readWith
  dsimp only
  split
  · rfl
  split
  · exact view_ret hstatus s _
  split
  · exact view_ret hstatus s _
  · exact view_hangAlone hled s _ _ _ _ _
  · exact (view_ret hstatus _ _).trans ((hread _ _).trans hop)

/-! ### The reference and the clock domains (R373 to R387) -/

section
include hseal

theorem hidden_execRefAcquired (hk : HidesAll view [O.ref_state]) (s t : State) (h : execRefAcquired s = .next t) : view t = view s := by
  refine view_done hseal ?_ h
  simp only [apply_ite view, hk O.ref_state (by simp), ite_self]

theorem hidden_execRefRestored (hk : HidesAll view [O.holdover_time, O.ref_state]) (s t : State) (h : execRefRestored s = .next t) :
    view t = view s := by
  refine view_act hseal ?_ h
  simp only [apply_ite view, hk O.holdover_time (by simp), hk O.ref_state (by simp), ite_self]

include htinker in
theorem hidden_execRefLoss (hsince : ∀ s x, view { s with refSince := x } = view s)
    (hk : HidesAll view [O.ref_losses, O.ref_state, O.msgs_dropped]) (s t : State) (h : execRefLoss s = .next t) : view t = view s := by
  refine view_act hseal ?_ h
  simp only [apply_ite view, hidden_report htinker (hk O.msgs_dropped (by simp)), hidden_bump (hk O.ref_losses (by simp)),
    hk O.ref_state (by simp), hsince, ite_self]

theorem hidden_execDomainQuiesceDone (d : Fin 18) (hk : HidesAll view [O.clk_state d, O.clk_rate d]) (s t : State)
    (h : execDomainQuiesceDone d s = .next t) : view t = view s := by
  refine view_done hseal ?_ h
  simp only [apply_ite view, hidden_setClk (hk (O.clk_state d) (by simp)) (hk (O.clk_rate d) (by simp)), ite_self]

end

/-- A PLL drives domains of the module. -/
theorem lt_of_mem_pllDomains {p : Pll} {d : Nat} (h : d ∈ pllDomains p) : d < 18 := by
  cases p with
  | die r => simp only [pllDomains, List.mem_singleton] at h; omega
  | _ => simp only [pllDomains, List.mem_cons, List.not_mem_nil, or_false] at h; omega

include hseal htinker in
theorem hidden_execPllUnlock (pll : Pll)
    (hk : HidesAll view ([O.msgs_dropped] ++ ((List.range 18).flatMap fun i => [O.clk_state i, O.clk_rate i, O.clk_lock_losses i])))
    (s t : State) (h : execPllUnlock pll s = .next t) : view t = view s := by
  have hd : ∀ d < 18, Hides view (O.clk_state d) ∧ Hides view (O.clk_rate d) ∧ Hides view (O.clk_lock_losses d) := fun d hd =>
    have hmem : ∀ k ∈ [O.clk_state d, O.clk_rate d, O.clk_lock_losses d], Hides view k := fun k hx =>
      hk k (List.mem_append_right _ (List.mem_flatMap.mpr ⟨d, List.mem_range.mpr hd, hx⟩))
    ⟨hmem _ (by simp), hmem _ (by simp), hmem _ (by simp)⟩
  refine view_act hseal ?_ h
  dsimp only
  split
  · rfl
  · refine (hidden_reportWith htinker (hk _ (by simp)) _ _ _ _ _ _).trans (foldl_view_mem view _ (fun d hm u => ?_) s)
    obtain ⟨hstate, hrate, hlosses⟩ := hd d (lt_of_mem_pllDomains (List.mem_of_mem_filter hm))
    exact (hidden_bump hlosses _).trans (hidden_setClk hstate hrate u 2)

include hseal htinker hled in
theorem hidden_execCrossingStall (i : Nat) (s t : State)
    (hk : HidesAll view ([O.stalls, O.last_stall_domain, O.msgs_dropped] ++ s.led.hung.map (fun h => O.clk_stalls h.domain)))
    (h : execCrossingStall i s = .next t) : view t = view s := by
  refine view_act hseal ?_ h
  dsimp only
  split
  next x hx =>
    have hdom : Hides view (O.clk_stalls x.domain) :=
      hk _ (List.mem_append_right _ (List.mem_map_of_mem (List.mem_of_getElem? hx)))
    simp only [apply_ite view, hidden_report htinker (hk O.msgs_dropped (by simp)), hk O.last_stall_domain (by simp), hidden_bump hdom,
      hidden_bump (hk O.stalls (by simp)), hled, ite_self]
  next => rfl

include hseal htinker in
theorem hidden_execBar0BadAccess (hread : ∀ s x, view { s with lastRead := x } = view s) (offset size : Nat) (write : Bool)
    (hk : HidesAll view [O.msgs_dropped]) (s t : State) (h : execBar0BadAccess offset size write s = .next t) : view t = view s := by
  refine view_act hseal ?_ h
  simp only [apply_ite view, hread, hidden_report htinker (hk O.msgs_dropped (by simp)), ite_self]

/-! ### The backup domain (R422 to R434) -/

section
include hseal

theorem hidden_execInternalRailLow (hk : HidesAll view [O.bak_supply, O.vbak_switches]) (s t : State)
    (h : execInternalRailLow s = .next t) : view t = view s := by
  refine view_backup hseal ?_ h
  simp only [apply_ite view, hidden_bump (hk O.vbak_switches (by simp)), hk O.bak_supply (by simp), ite_self]

theorem hidden_execInternalRailRestored (hk : HidesAll view [O.bak_supply]) (s t : State)
    (h : execInternalRailRestored s = .next t) : view t = view s := by
  refine view_backup hseal ?_ h
  simp only [apply_ite view, hk O.bak_supply (by simp), ite_self]

include hwatch in
theorem view_execXtalResume (s t : State) (h : execXtalResume s = .next t) : view t = view s := view_backup hseal (hwatch s _) h

include htinker hpower in
theorem hidden_execVbakMeasure (mv : Nat) (hk : HidesAll view [O.vbak_mv, O.vbak_low, O.msgs_dropped]) (s t : State)
    (h : execVbakMeasure mv s = .next t) : view t = view s := by
  refine view_backup hseal ?_ h
  simp only [apply_ite view, hidden_reportHeld htinker hpower (hk O.msgs_dropped (by simp)), hidden_setFlag (hk O.vbak_low (by simp)),
    hk O.vbak_mv (by simp), ite_self]

include htinker hpower hwatch in
theorem hidden_execXtalStop (hk : HidesAll view [O.xtal_stops, O.bak_valid, O.msgs_dropped]) (s t : State)
    (h : execXtalStop s = .next t) : view t = view s := by
  refine view_backup hseal ?_ h
  simp only [apply_ite view, hidden_reportHeld htinker hpower (hk O.msgs_dropped (by simp)), hidden_bump (hk O.xtal_stops (by simp)),
    hidden_setFlag (hk O.bak_valid (by simp)), hwatch, ite_self]

end

include hout in
theorem hidden_setPwron (hstate : Hides view O.pwron_state) (s : State) (st : Nat) : view (setPwron s st) = view s := by
  simp only [setPwron, apply_ite view, view_send hout, hstate, ite_self]

include hout in
theorem hidden_pwronHigh (hstate : Hides view O.pwron_state) (hcancels : Hides view O.pwron_cancels) (s : State) :
    view (pwronHigh s) = view s := by
  simp only [pwronHigh, apply_ite view, hidden_bump hcancels, hidden_setPwron hout hstate, ite_self]

/-- The registers that an alarm may set when it fires or is missed. -/
def alarmKeys (a : Nat) : List Nat := [O.al_state a, O.al_fired a, O.al_skipped a, O.pwron_cancels, O.pwron_state, O.msgs_dropped]

section
include hout htinker hpower

theorem hidden_alarmFire {a : Nat} (hk : HidesAll view (alarmKeys a)) (s : State) : view (alarmFire s a) = view s := by
  simp only [alarmFire, apply_ite view, hidden_pwronHigh hout (hk O.pwron_state (by simp [alarmKeys])) (hk O.pwron_cancels (by simp [alarmKeys])),
    hidden_reportHeld htinker hpower (hk O.msgs_dropped (by simp [alarmKeys])), hidden_bump (hk (O.al_fired a) (by simp [alarmKeys])),
    hk (O.al_state a) (by simp [alarmKeys]), ite_self]

theorem hidden_alarmStep {a : Nat} (hk : HidesAll view (alarmKeys a)) (s : State) : view (alarmStep s a) = view s := by
  simp only [alarmStep, apply_ite view, hidden_alarmFire hout htinker hpower hk,
    hidden_reportHeld htinker hpower (hk O.msgs_dropped (by simp [alarmKeys])), hidden_bump (hk (O.al_skipped a) (by simp [alarmKeys])),
    hk (O.al_state a) (by simp [alarmKeys]), ite_self]

theorem hidden_alarmChange {a : Nat} (hk : HidesAll view (alarmKeys a)) (s : State) (old : Nat) (b : Bool) :
    view (alarmChange s old a b) = view s := by
  simp only [alarmChange, apply_ite view, hidden_alarmFire hout htinker hpower hk, hidden_alarmStep hout htinker hpower hk, ite_self]

theorem hidden_alarmsChange (h0 : HidesAll view (alarmKeys 0)) (h1 : HidesAll view (alarmKeys 1)) (s : State) (old : Nat) (b : Bool) :
    view (alarmsChange s old b) = view s :=
  (hidden_alarmChange hout htinker hpower h1 _ _ _).trans (hidden_alarmChange hout htinker hpower h0 s _ _)

include hwatch in
theorem hidden_writeSeconds (h0 : HidesAll view (alarmKeys 0)) (h1 : HidesAll view (alarmKeys 1))
    (hk : HidesAll view [O.bak_valid, O.bak_prescaler, O.bak_seconds]) (s : State) (v : Nat) : view (writeSeconds s v) = view s := by
  simp only [writeSeconds, hidden_alarmsChange hout htinker hpower h0 h1, hwatch, hidden_setFlag (hk O.bak_valid (by simp)),
    hk O.bak_prescaler (by simp), hk O.bak_seconds (by simp)]

end

include hseal hout htinker hpower hwatch in
theorem hidden_execSecondBoundary (h0 : HidesAll view (alarmKeys 0)) (h1 : HidesAll view (alarmKeys 1))
    (hk : HidesAll view [O.trim_pending, O.bak_prescaler, O.bak_seconds, O.bak_ticks]) (s t : State)
    (h : execSecondBoundary s = .next t) : view t = view s := by
  refine view_backup hseal ?_ h
  simp only [apply_ite view, hidden_alarmsChange hout htinker hpower h0 h1, hidden_setFlag (hk O.trim_pending (by simp)), hwatch,
    hk O.bak_prescaler (by simp), hk O.bak_seconds (by simp), hk O.bak_ticks (by simp), ite_self]

include hseal hout htinker hpower hwatch in
theorem hidden_execBakSyncWrite (h0 : HidesAll view (alarmKeys 0)) (h1 : HidesAll view (alarmKeys 1))
    (hk : HidesAll view [O.bak_valid, O.bak_prescaler, O.bak_seconds]) (s t : State) (h : execBakSyncWrite s = .next t) :
    view t = view s := by
  refine view_act hseal ?_ h
  simp only [apply_ite view, hidden_writeSeconds hout htinker hpower hwatch h0 h1 hk, ite_self]

section
include hseal hstatus hout hled htwin

include htinker hpower hwatch in
theorem hidden_execBakSecondsWrite (v : Nat) (h0 : HidesAll view (alarmKeys 0)) (h1 : HidesAll view (alarmKeys 1))
    (hk : HidesAll view [O.bak_valid, O.bak_prescaler, O.bak_seconds]) (s t : State) (h : execBakSecondsWrite v s = .next t) :
    view t = view s := by
  refine view_act hseal ?_ h
  split
  · exact view_ret hstatus s _
  · refine view_command hstatus hout hled htwin s _ _ _ ?_
    simp only [bakSecondsWrite, apply_ite Prod.snd, apply_ite view, hidden_writeSeconds hout htinker hpower hwatch h0 h1 hk, ite_self]

theorem hidden_execBakTrimWrite (v : Int) (hk : HidesAll view [O.bak_trim, O.trim_pending]) (s t : State)
    (h : execBakTrimWrite v s = .next t) : view t = view s := by
  refine view_act hseal ?_ h
  split
  · exact view_ret hstatus s _
  · exact view_command hstatus hout hled htwin s _ _ _ ((hidden_setFlag (hk _ (by simp)) _ _).trans (hidden_wrI (hk _ (by simp)) s v))

include htinker hpower in
theorem hidden_execAlarmArm (a : Fin 2) (hk : HidesAll view (alarmKeys a)) (s t : State) (h : execAlarmArm a s = .next t) :
    view t = view s := by
  refine view_act hseal (view_command hstatus hout hled htwin s _ _ _ ?_) h
  simp only [alarmArm, apply_ite Prod.snd, apply_ite view, hidden_alarmStep hout htinker hpower hk,
    hk (O.al_state a) (by simp [alarmKeys]), ite_self]

theorem hidden_execAlarmDisarm (a : Fin 2) (hk : HidesAll view [O.al_state a]) (s t : State) (h : execAlarmDisarm a s = .next t) :
    view t = view s :=
  view_act hseal (view_command hstatus hout hled htwin s _ _ _ (hk _ (by simp) s 0)) h

theorem hidden_execPwronRelease (hk : HidesAll view [O.pwron_state]) (s t : State) (h : execPwronRelease s = .next t) : view t = view s := by
  refine view_act hseal (view_command hstatus hout hled htwin s _ _ _ ?_) h
  simp only [pwronRelease, apply_ite Prod.snd, apply_ite view, hk O.pwron_state (by simp), ite_self]

theorem hidden_execPwronCancel (hk : HidesAll view [O.pwron_cancels, O.pwron_state]) (s t : State) (h : execPwronCancel s = .next t) :
    view t = view s :=
  view_act hseal (view_command hstatus hout hled htwin s _ _ _
    (hidden_pwronHigh hout (hk O.pwron_state (by simp)) (hk O.pwron_cancels (by simp)) s)) h

theorem view_execScratchWrite (b : Octets) (hscratch : ∀ s v, view (wrB s O.scratch v) = view s) (s t : State)
    (h : execScratchWrite b s = .next t) : view t = view s := by
  refine view_act hseal ?_ h
  split
  · exact view_ret hstatus s _
  · exact view_commandWith hstatus hout hled htwin s _ _ _ (hscratch s b)

end

include hseal hout in
theorem hidden_execPwronDelayExpire (hk : HidesAll view [O.pwron_state]) (s t : State) (h : execPwronDelayExpire s = .next t) :
    view t = view s := by
  refine view_backup hseal ?_ h
  simp only [apply_ite view, hidden_setPwron hout (hk O.pwron_state (by simp)), ite_self]

include hseal hstatus hled in
theorem view_execBackupTimeRead (hread : ∀ s x, view { s with lastRead := x } = view s) (sub : Fin 5) (s t : State)
    (h : execBackupTimeRead sub s = .next t) : view t = view s :=
  view_act hseal (view_readWith hstatus hled hread s _ _ rfl) h

end

/-! ### The frame of a command, register by register -/

/-- What a frame shows of a state: what `parts` leaves of it, the straps that defaults come from (R43), every register but those of `keys`, and
every radio but `r`. -/
def shown (parts : State → State) (keys : List Nat) (r : Nat) (s : State) : State × Nat × (Nat → Option Nat) × (Nat → Option Radio) :=
  (parts s, s.boot.straps, fun k => if k ∈ keys then none else s.regs.look k, fun q => if q = r then none else s.radios.look q)

/-- A frame hides the registers it names. -/
theorem hidesAll_shown {parts : State → State} (hregs : ∀ s x, parts { s with regs := x } = parts s) (keys : List Nat) (r : Nat) :
    HidesAll (shown parts keys r) keys := by
  intro k hk s v
  have hother : ∀ j, (if j ∈ keys then none else (wr s k v).regs.look j) = if j ∈ keys then none else s.regs.look j := fun j => by
    by_cases hj : j ∈ keys
    · simp [hj]
    · simp [hj, Tab.look_put_ne s.regs k v j fun e => hj (e ▸ hk)]
  simp only [shown, hother]
  simp only [wr, hregs]

/-- A frame hides the radio it names. -/
theorem hidesRadio_shown {parts : State → State} (hradios : ∀ s x, parts { s with radios := x } = parts s) (keys : List Nat) (r : Nat) :
    HidesRadio (shown parts keys r) r := by
  intro s x
  have hother : ∀ q, (if q = r then none else (setRadio s r x).radios.look q) = if q = r then none else s.radios.look q := fun q => by
    by_cases hq : q = r
    · simp [hq]
    · simp [hq, setRadio, Tab.look_put_ne s.radios r x q hq]
  simp only [shown, hother]
  simp only [setRadio, hradios]

/-- `parts t s` takes some parts from `t`, and all others, the fuses and the `system` field among them, from `s`. -/
structure TakesParts (parts : State → State → State) : Prop where
  self : ∀ t, parts t t = t
  sealing : ∀ v s t, parts v (sealed s t) = sealed s (parts v t)
  fuse : ∀ v s, (parts v s).fuse = s.fuse
  system : ∀ v s, (parts v s).system = s.system

/-- A command that sets nothing but what its frame names leaves every other part, every other register and every other radio. -/
theorem leaves_of_shown {c : Instr} {parts : State → State → State} {keys : State → List Nat} (r : Nat)
    (h : ∀ v s t, HidesSeal (shown (parts v) (keys s) r) → exec c s = .next t →
      shown (parts v) (keys s) r t = shown (parts v) (keys s) r s)
    (hparts : TakesParts parts := by exact ⟨fun _ => rfl, fun _ _ _ => rfl, fun _ _ => rfl, fun _ _ => rfl⟩) :
    Leaves c fun s t => t = parts t s ∧ Only s t (keys s) ∧ ∀ q, q ≠ r → radio t q = radio s q := by
  intro s t e
  have hseal : HidesSeal (shown (parts t) (keys s) r) := fun u w hw => by
    simp only [shown, Prod.mk.injEq] at hw ⊢
    obtain ⟨hp, hs, hk, hr⟩ := hw
    exact ⟨by rw [hparts.sealing, hp, ← hparts.sealing, sealed_self], hs, hk, hr⟩
  have hshown := h t s t hseal e
  simp only [shown, Prod.mk.injEq] at hshown
  obtain ⟨hp, hs, hk, hr⟩ := hshown
  have ht : t = parts t s := (hparts.self t).symm.trans hp
  refine ⟨ht, fun k hn => rd_congr s t k ?_ ?_ hs ?_, fun q hq => ?_⟩
  · simpa [hn] using congrFun hk k
  · exact (congrArg State.fuse ht).trans (hparts.fuse t s)
  · exact (congrArg State.system ht).trans (hparts.system t s)
  · simpa [hq, radio, Tab.getD] using congrArg (fun o => Option.getD o {}) (congrFun hr q)

/-- The same where the frame names registers and no radio. -/
theorem leaves_only {c : Instr} {parts : State → State → State} {keys : State → List Nat}
    (h : ∀ v s t, HidesSeal (shown (parts v) (keys s) 0) → HidesAll (shown (parts v) (keys s) 0) (keys s) → exec c s = .next t →
      shown (parts v) (keys s) 0 t = shown (parts v) (keys s) 0 s)
    (hparts : TakesParts parts := by exact ⟨fun _ => rfl, fun _ _ _ => rfl, fun _ _ => rfl, fun _ _ => rfl⟩)
    (hregs : ∀ v s x, parts v { s with regs := x } = parts v s := by exact fun _ _ _ => rfl) :
    Leaves c fun s t => t = parts t s ∧ Only s t (keys s) := fun s t e =>
  have hl := leaves_of_shown 0 (fun v s t hseal => h v s t hseal (hidesAll_shown (hregs v) (keys s) 0)) hparts s t e
  ⟨hl.1, hl.2.1⟩

/-- The same where it names registers and one of the radios. -/
theorem leaves_radio {c : Instr} {parts : State → State → State} {keys : List Nat} {r : Fin 3}
    (h : ∀ v s t, HidesSeal (shown (parts v) keys r) → HidesAll (shown (parts v) keys r) keys → HidesRadio (shown (parts v) keys r) r →
      exec c s = .next t → shown (parts v) keys r t = shown (parts v) keys r s)
    (hparts : TakesParts parts := by exact ⟨fun _ => rfl, fun _ _ _ => rfl, fun _ _ => rfl, fun _ _ => rfl⟩)
    (hregs : ∀ v s x, parts v { s with regs := x } = parts v s := by exact fun _ _ _ => rfl)
    (hradios : ∀ v s x, parts v { s with radios := x } = parts v s := by exact fun _ _ _ => rfl) :
    Leaves c fun s t => t = parts t s ∧ Only s t keys ∧ ∀ q : Fin 3, q ≠ r → radio t q = radio s q := fun s t e =>
  have hl := leaves_of_shown (keys := fun _ => keys) r
    (fun v s t hseal => h v s t hseal (hidesAll_shown (hregs v) keys r) (hidesRadio_shown (hradios v) keys r)) hparts s t e
  ⟨hl.1, hl.2.1, fun q hq => hl.2.2 q fun e => hq (Fin.ext e)⟩

end Sys2Proof.Machine
end

section
/-! The frames of the clocks and of the backup domain (O37). -/

namespace Sys2Proof.Machine

/-- Two states with the same octet objects and fuses read the same octets. -/
theorem rdB_congr (s t : State) (k : Nat) (h : t.blobs.look k = s.blobs.look k) (hf : t.fuse = s.fuse) : rdB t k = rdB s k := by
  unfold rdB blobDefault
  rw [h, hf]

/-- SCRATCH_WRITE sets no octet object but the scratch memory (R434). -/
theorem scratchWrite_leaves (bytes : Octets) : Leaves (.scratchWrite bytes) fun s t =>
    t = { s with blobs := t.blobs, status := t.status, out := t.out, led := t.led, twin := t.twin } ∧ OnlyOctets s t [O.scratch] := by
  intro s t h
  have ht := leaves_of_view (c := .scratchWrite bytes)
    (view := fun v s => { s with blobs := v.blobs, status := v.status, out := v.out, led := v.led, twin := v.twin }) (fun _ => rfl)
    (fun _ _ _ => rfl) (fun v hseal => view_execScratchWrite hseal (fun _ _ => rfl) (fun _ _ => rfl) (fun _ _ => rfl) (fun _ _ => rfl) bytes
      fun _ _ => rfl) s t h
  refine ⟨ht, fun k hk => rdB_congr s t k ?_ ((congrArg State.fuse ht).trans rfl)⟩
  exact view_execScratchWrite (view := fun s => s.blobs.look k) (fun _ _ e => e) (fun _ _ => rfl) (fun _ _ => rfl) (fun _ _ => rfl)
    (fun _ _ => rfl) bytes (fun u v => Tab.look_put_ne u.blobs O.scratch v k fun e => hk (by simp [e])) s t h

/-- Settles O37: of each command, the view of its frame hides all that the command sets. -/
theorem backupAndClocksFrame : Obligations.BackupAndClocksFrame := by
  unfold Obligations.BackupAndClocksFrame
  refine ⟨?_, ?_, ?_, fun pll => ?_, fun d => ?_, fun n => ?_, fun offset size write => ?_, ?_, ?_, ?_, ?_, fun mv => ?_, fun value => ?_,
    fun sub => ?_, fun a => ?_, fun a => ?_, ?_, ?_, ?_, fun bytes => ?_, ?_, fun value => ?_, ?_⟩
  · exact leaves_only fun v s t hseal hk => hidden_execRefAcquired hseal hk s t
  · exact leaves_only fun v s t hseal hk => hidden_execRefRestored hseal hk s t
  · exact leaves_only fun v s t hseal hk => hidden_execRefLoss hseal (fun _ _ => rfl) (fun _ _ => rfl) hk s t
  · exact leaves_only fun v s t hseal hk => hidden_execPllUnlock hseal (fun _ _ => rfl) pll hk s t
  · exact leaves_only fun v s t hseal hk => hidden_execDomainQuiesceDone hseal d hk s t
  · exact leaves_only fun v s t hseal hk => hidden_execCrossingStall hseal (fun _ _ => rfl) (fun _ _ => rfl) n s t hk
  · exact leaves_only fun v s t hseal hk => hidden_execBar0BadAccess hseal (fun _ _ => rfl) (fun _ _ => rfl) offset size write hk s t
  · exact leaves_only fun v s t hseal hk => hidden_execInternalRailLow hseal hk s t
  · exact leaves_only fun v s t hseal hk => hidden_execInternalRailRestored hseal hk s t
  · exact leaves_only fun v s t hseal hk => hidden_execXtalStop hseal (fun _ _ => rfl) (fun _ _ => rfl) (fun _ _ => rfl) hk s t
  · exact leaves_of_view (fun _ => rfl) (fun _ _ _ => rfl) fun v hseal => view_execXtalResume hseal fun _ _ => rfl
  · exact leaves_only fun v s t hseal hk => hidden_execVbakMeasure hseal (fun _ _ => rfl) (fun _ _ => rfl) mv hk s t
  · exact leaves_only fun v s t hseal hk =>
      hidden_execBakTrimWrite hseal (fun _ _ => rfl) (fun _ _ => rfl) (fun _ _ => rfl) (fun _ _ => rfl) value hk s t
  · exact leaves_of_view (fun _ => rfl) (fun _ _ _ => rfl) fun v hseal =>
      view_execBackupTimeRead hseal (fun _ _ => rfl) (fun _ _ => rfl) (fun _ _ => rfl) sub
  · refine leaves_only fun v s t hseal hk => ?_
    apply hidden_execAlarmArm hseal _ _ _ _ _ _ a hk <;> exact fun _ _ => rfl
  · exact leaves_only fun v s t hseal hk =>
      hidden_execAlarmDisarm hseal (fun _ _ => rfl) (fun _ _ => rfl) (fun _ _ => rfl) (fun _ _ => rfl) a hk s t
  · exact leaves_only fun v s t hseal hk =>
      hidden_execPwronRelease hseal (fun _ _ => rfl) (fun _ _ => rfl) (fun _ _ => rfl) (fun _ _ => rfl) hk s t
  · exact leaves_only fun v s t hseal hk =>
      hidden_execPwronCancel hseal (fun _ _ => rfl) (fun _ _ => rfl) (fun _ _ => rfl) (fun _ _ => rfl) hk s t
  · exact leaves_only fun v s t hseal hk => hidden_execPwronDelayExpire hseal (fun _ _ => rfl) hk s t
  · exact scratchWrite_leaves bytes
  · exact leaves_only fun v s t hseal hk => hidden_execSecondBoundary hseal (fun _ _ => rfl) (fun _ _ => rfl) (fun _ _ => rfl)
      (fun _ _ => rfl) (hk.of_subset (by decide)) (hk.of_subset (by decide)) (hk.of_subset (by decide)) s t
  · refine leaves_only fun v s t hseal hk => ?_
    apply hidden_execBakSecondsWrite hseal _ _ _ _ _ _ _ value (hk.of_subset (by decide)) (hk.of_subset (by decide))
      (hk.of_subset (by decide)) <;> exact fun _ _ => rfl
  · exact leaves_only fun v s t hseal hk => hidden_execBakSyncWrite hseal (fun _ _ => rfl) (fun _ _ => rfl) (fun _ _ => rfl)
      (fun _ _ => rfl) (hk.of_subset (by decide)) (hk.of_subset (by decide)) (hk.of_subset (by decide)) s t

end Sys2Proof.Machine
end

section
/-! The frames of the supply and of BOOT's two failures (O38). -/

namespace Sys2Proof.Machine

section

variable {α : Type} {view : State → α}
  (hseal : HidesSeal view)
  (hstatus : ∀ s x, view { s with status := x } = view s)
  (hout : ∀ s x, view { s with out := x } = view s)
  (hled : ∀ s x, view { s with led := x } = view s)
  (htinker : ∀ s x, view { s with tinker := x } = view s)
  (hpower : ∀ s x, view { s with power := x } = view s)
  (htwin : ∀ s x, view { s with twin := x } = view s)
  (hsurvey : ∀ s x, view { s with survey := x } = view s)

/-! ### The input and the 12 V output (R437 to R440) -/

section
include hseal

theorem hidden_execV12Started (hk : HidesAll view [O.v12_state]) (s t : State) (h : execV12Started s = .next t) : view t = view s := by
  refine view_done hseal ?_ h
  simp only [apply_ite view, hk O.v12_state (by simp), ite_self]

include hpower in
theorem hidden_execV12StartFail (hk : HidesAll view [O.v12_faults, O.last_loss_cause, O.v12_state]) (s t : State)
    (h : execV12StartFail s = .next t) : view t = view s := by
  refine view_done hseal ?_ h
  simp only [apply_ite view, view_reportLate hpower, hk O.last_loss_cause (by simp), hidden_bump (hk O.v12_faults (by simp)),
    hk O.v12_state (by simp), ite_self]

theorem hidden_execVinLowClear (mv : Nat) (hk : HidesAll view [O.vin_low, O.vin_mv]) (s t : State)
    (h : execVinLowClear mv s = .next t) : view t = view s := by
  refine view_done hseal ?_ h
  simp only [apply_ite view, hidden_setFlag (hk O.vin_low (by simp)), hk O.vin_mv (by simp), ite_self]

section
include htinker hpower

theorem hidden_execVinWarn (mv : Nat) (hk : HidesAll view [O.vin_mv, O.vin_low, O.msgs_dropped]) (s t : State)
    (h : execVinWarn mv s = .next t) : view t = view s := by
  refine view_done hseal ?_ h
  simp only [apply_ite view, hidden_reportHeld htinker hpower (hk O.msgs_dropped (by simp)), hidden_setFlag (hk O.vin_low (by simp)),
    hk O.vin_mv (by simp), ite_self]

theorem hidden_execPowerFailWarning (hk : HidesAll view [O.pwrfail_events, O.msgs_dropped]) (s t : State)
    (h : execPowerFailWarning s = .next t) : view t = view s := by
  refine view_done hseal ?_ h
  simp only [apply_ite view, hidden_reportHeld htinker hpower (hk O.msgs_dropped (by simp)), hidden_bump (hk O.pwrfail_events (by simp)),
    ite_self]

theorem hidden_execConverterHot (c : Int) (hk : HidesAll view [O.conv_temp, O.msgs_dropped]) (s t : State)
    (h : execConverterHot c s = .next t) : view t = view s := by
  refine view_done hseal ?_ h
  simp only [apply_ite view, hidden_reportHeld htinker hpower (hk O.msgs_dropped (by simp)), hpower,
    hidden_wrI (hk O.conv_temp (by simp)), ite_self]

end

end

/-! ### VCORE and AVSBus (R441 to R444) -/

section
include htinker hpower hsurvey

theorem hidden_avsFail (hk : HidesAll view [O.avs_timeouts, O.avs_state, O.msgs_dropped]) (s : State) : view (avsFail s) = view s := by
  simp only [avsFail, hidden_report htinker (hk O.msgs_dropped (by simp)), apply_ite view, hsurvey, view_setPowerState hpower,
    hidden_bump (hk O.avs_timeouts (by simp)), hk O.avs_state (by simp), ite_self]

theorem hidden_avsAnswer (hk : HidesAll view [O.avs_nacks, O.avs_state, O.avs_timeouts, O.msgs_dropped]) (s : State) (ack : Nat) :
    view (avsAnswer s ack) = view s := by
  simp only [avsAnswer, apply_ite view, hidden_avsFail htinker hpower hsurvey (hk.of_subset (by simp)), hk O.avs_state (by simp),
    hidden_bump (hk O.avs_nacks (by simp)), ite_self]

include hseal

theorem hidden_execAvsSettleTimeout (hk : HidesAll view [O.avs_timeouts, O.avs_state, O.msgs_dropped]) (s t : State)
    (h : execAvsSettleTimeout s = .next t) : view t = view s := by
  refine view_act hseal ?_ h
  simp only [apply_ite view, hidden_avsFail htinker hpower hsurvey hk, ite_self]

include hout

theorem hidden_execAvsRequest (ack : Fin 4)
    (hk : HidesAll view [O.vcore_target, O.avs_nacks, O.avs_state, O.avs_timeouts, O.msgs_dropped]) (s t : State)
    (h : execAvsRequest ack s = .next t) : view t = view s := by
  refine view_act hseal ?_ h
  simp only [apply_ite view, hidden_avsAnswer htinker hpower hsurvey (hk.of_subset (by simp)), view_send hout,
    hk O.vcore_target (by simp), view_setPowerState hpower, ite_self]

theorem hidden_execAvsRetry (ack : Fin 4) (hk : HidesAll view [O.avs_nacks, O.avs_state, O.avs_timeouts, O.msgs_dropped]) (s t : State)
    (h : execAvsRetry ack s = .next t) : view t = view s := by
  refine view_act hseal ?_ h
  split
  · simp only [apply_ite view, hidden_avsAnswer htinker hpower hsurvey hk, view_send hout, view_setPowerState hpower, ite_self]
  · rfl

theorem hidden_execAvsStatusPoll (vdone : Bool) (mv : Nat) (hk : HidesAll view [O.avs_timeouts, O.avs_state, O.vcore_mv, O.msgs_dropped])
    (s t : State) (h : execAvsStatusPoll vdone mv s = .next t) : view t = view s := by
  refine view_act hseal ?_ h
  split
  · simp only [apply_ite view, hidden_avsFail htinker hpower hsurvey (hk.of_subset (by simp)), view_setPowerState hpower,
      hk O.avs_state (by simp), hk O.vcore_mv (by simp), view_send hout, ite_self]
  · rfl

end

include hseal htinker in
theorem hidden_execVcoreFault (mv : Nat) (hk : HidesAll view [O.vcore_faults, O.vcore_mv, O.msgs_dropped]) (s t : State)
    (h : execVcoreFault mv s = .next t) : view t = view s := by
  refine view_act hseal ?_ h
  simp only [apply_ite view, hidden_report htinker (hk O.msgs_dropped (by simp)), hidden_bump (hk O.vcore_faults (by simp)),
    hk O.vcore_mv (by simp), ite_self]

/-! ### Pads and the derating (R107, R455 to R457) -/

include hout hpower in
theorem view_releasePins (s : State) : view (releasePins s) = view s := by
  simp only [releasePins, view_setPowerState hpower]
  refine view_foldl (fun t p => ?_) _ s
  simp only [apply_ite view, view_send hout, ite_self]

include hseal hstatus hout hled hpower htwin in
theorem hidden_execPadRelease (value : BitVec 8) (hk : HidesAll view [O.pad_latched]) (s t : State)
    (h : execPadRelease value s = .next t) : view t = view s := by
  refine view_act hseal (view_command hstatus hout hled htwin s _ _ _ ?_) h
  simp only [padRelease, apply_ite Prod.snd, apply_ite view, view_releasePins hout hpower, hk O.pad_latched (by simp), ite_self]

include hseal htinker in
theorem hidden_execThermalDerateUpdate (r : Fin 3) (c : Int) (hk : HidesAll view [O.die_temp r, O.thermal_derate r, O.msgs_dropped])
    (s t : State) (h : execThermalDerateUpdate r c s = .next t) : view t = view s := by
  refine view_act hseal ?_ h
  simp only [derateDie, apply_ite view, hidden_report htinker (hk O.msgs_dropped (by simp)), hk (O.thermal_derate r) (by simp),
    hidden_wrI (hk (O.die_temp r) (by simp)), ite_self]

/-! ### BOOT's failures (R519 to R523) -/

section
variable (hboot : ∀ s x, x.straps = s.boot.straps → view { s with boot := x } = view s)
include hseal htinker hboot

omit hseal htinker in
theorem hidden_bootHalt (hrev : Hides view O.firmware_rev) (s : State) : view (bootHalt s) = view s :=
  (hrev _ 0).trans (hboot s _ rfl)

theorem hidden_execImageCheckDone (f : Fin 5) (v : Nat) (hk : HidesAll view [O.firmware_rev, O.msgs_dropped]) (s t : State)
    (h : execImageCheckDone f v s = .next t) : view t = view s := by
  refine view_act hseal ?_ h
  split
  · rfl
  · simp only [apply_ite view, hidden_bootHalt hboot (hk O.firmware_rev (by simp)), hk O.firmware_rev (by simp),
      hidden_report htinker (hk O.msgs_dropped (by simp)), hboot, ite_self]

theorem hidden_execSelfTestDone (failed : List Nat) (hk : HidesAll view [O.firmware_rev, O.msgs_dropped]) (s t : State)
    (h : execSelfTestDone failed s = .next t) : view t = view s := by
  refine view_act hseal ?_ h
  dsimp only
  split
  · rfl
  · have hreports := view_foldl (view := view) (fun u k => hidden_report htinker (hk O.msgs_dropped (by simp)) u 0x11 k k)
      (failed.filter (selfTested s)) s
    simp only [apply_ite view, hidden_bootHalt hboot (hk O.firmware_rev (by simp)), hboot, hreports, ite_self]

end

end

/-- A frame that names the boot sequence hides all of it but the straps. -/
theorem hidesBoot_shown {parts : State → State} (hparts : ∀ s x, parts { s with boot := x } = parts s) (keys : List Nat) (r : Nat)
    (s : State) (x : Boot) (hx : x.straps = s.boot.straps) : shown parts keys r { s with boot := x } = shown parts keys r s := by
  simp only [shown, hparts, hx]

/-- Settles O38: of each command, the view of its frame hides all that the command sets. -/
theorem powerFrame : Obligations.PowerFrame := by
  unfold Obligations.PowerFrame
  refine ⟨?_, ?_, fun mv => ?_, fun mv => ?_, ?_, fun c => ?_, fun ack => ?_, fun ack => ?_, fun vdone mv => ?_, ?_, fun mv => ?_,
    fun value => ?_, fun r c => ?_, fun f revision => ?_, fun failed => ?_⟩
  · exact leaves_only fun v s t hseal hk => hidden_execV12Started hseal hk s t
  · exact leaves_only fun v s t hseal hk => hidden_execV12StartFail hseal (fun _ _ => rfl) hk s t
  · exact leaves_only fun v s t hseal hk => hidden_execVinWarn hseal (fun _ _ => rfl) (fun _ _ => rfl) mv hk s t
  · exact leaves_only fun v s t hseal hk => hidden_execVinLowClear hseal mv hk s t
  · exact leaves_only fun v s t hseal hk => hidden_execPowerFailWarning hseal (fun _ _ => rfl) (fun _ _ => rfl) hk s t
  · exact leaves_only fun v s t hseal hk => hidden_execConverterHot hseal (fun _ _ => rfl) (fun _ _ => rfl) c hk s t
  · exact leaves_only fun v s t hseal hk =>
      hidden_execAvsRequest hseal (fun _ _ => rfl) (fun _ _ => rfl) (fun _ _ => rfl) (fun _ _ => rfl) ack hk s t
  · exact leaves_only fun v s t hseal hk =>
      hidden_execAvsRetry hseal (fun _ _ => rfl) (fun _ _ => rfl) (fun _ _ => rfl) (fun _ _ => rfl) ack hk s t
  · exact leaves_only fun v s t hseal hk =>
      hidden_execAvsStatusPoll hseal (fun _ _ => rfl) (fun _ _ => rfl) (fun _ _ => rfl) (fun _ _ => rfl) vdone mv hk s t
  · exact leaves_only fun v s t hseal hk =>
      hidden_execAvsSettleTimeout hseal (fun _ _ => rfl) (fun _ _ => rfl) (fun _ _ => rfl) hk s t
  · exact leaves_only fun v s t hseal hk => hidden_execVcoreFault hseal (fun _ _ => rfl) mv hk s t
  · refine leaves_only fun v s t hseal hk => ?_
    apply hidden_execPadRelease hseal _ _ _ _ _ value hk <;> exact fun _ _ => rfl
  · exact leaves_only fun v s t hseal hk => hidden_execThermalDerateUpdate hseal (fun _ _ => rfl) r c hk s t
  · exact leaves_only fun v s t hseal hk =>
      hidden_execImageCheckDone hseal (fun _ _ => rfl) (hidesBoot_shown (fun _ _ => rfl) _ _) f revision hk s t
  · exact leaves_only fun v s t hseal hk =>
      hidden_execSelfTestDone hseal (fun _ _ => rfl) (hidesBoot_shown (fun _ _ => rfl) _ _) failed hk s t

end Sys2Proof.Machine
end

section
/-! The frames of the epoch's short commands and of the radios' commands (O40). -/

namespace Sys2Proof.Machine

section

variable {α : Type} {view : State → α}
  (hseal : HidesSeal view)
  (hstaged : ∀ s x, view { s with staged := x } = view s)
  (hstagedBlobs : ∀ s x, view { s with stagedBlobs := x } = view s)
  (hstatus : ∀ s x, view { s with status := x } = view s)
  (hout : ∀ s x, view { s with out := x } = view s)
  (hepoch : ∀ s x, view { s with epoch := x } = view s)
  (hled : ∀ s x, view { s with led := x } = view s)
  (htinker : ∀ s x, view { s with tinker := x } = view s)
  (htwin : ∀ s x, view { s with twin := x } = view s)
  (hgraph : ∀ s x, view { s with graph := x } = view s)
  (hreports : ∀ s x, view { s with txReports := x } = view s)

/-! ### The epoch's short commands (R33) -/

section
include hseal

include hstaged hstagedBlobs hstatus hout hled htwin hgraph in
theorem hidden_execEpochDiscard (hk : HidesAll view [O.target_mode_a, O.target_mode_b]) (s t : State)
    (h : execEpochDiscard s = .next t) : view t = view s := by
  refine view_act hseal (view_command hstatus hout hled htwin s _ _ _ ?_) h
  unfold epochDiscard
  split
  · rfl
  · exact (hk O.target_mode_b (by simp) _ _).trans ((hk O.target_mode_a (by simp) _ _).trans
      (view_staged_stagedBlobs_graph hstaged hstagedBlobs hgraph s _ _ _))

section
include hout hepoch htwin

theorem hidden_execApplyTimeout (hk : HidesAll view [O.epoch_phase, O.first_laggard, O.laggard_count]) (s t : State)
    (h : execApplyTimeout s = .next t) : view t = view s := by
  refine view_act hseal ?_ h
  simp only [recordLaggards, apply_ite view, view_varlanSend hout htwin, view_setEpoch hepoch, hk O.epoch_phase (by simp),
    hk O.laggard_count (by simp), hk O.first_laggard (by simp), ite_self]

theorem hidden_execUnitRestored (hid : BitVec 24) (hk : HidesAll view [O.epoch_phase, O.epoch_result]) (s t : State)
    (h : execUnitRestored hid s = .next t) : view t = view s := by
  refine view_act hseal ?_ h
  simp only [rolledBack, apply_ite view, view_clearEpoch hepoch, hk O.epoch_phase (by simp), hk O.epoch_result (by simp),
    view_setTwin htwin, view_varlanSend hout htwin, view_dropWaiting hepoch, ite_self]

end

end

/-! ### The radio's state (R77 to R81) -/

section

variable {r : Nat} (hr : HidesRadio view r)
include hr

theorem hidden_setRState (hstate : Hides view (O.radio_state r)) (s : State) (v : Nat) : view (setRState s r v) = view s :=
  (hstate _ v).trans (hr s _)

include hout in
theorem hidden_cutPpdu (s : State) : view (cutPpdu s r) = view s := by
  unfold cutPpdu
  split
  · exact (view_send hout _ _).trans (hr s _)
  · rfl

section
variable (hk : HidesAll view [O.synth_locked r, O.radio_state r])
include hk

theorem hidden_follow (s : State) : view (follow s r) = view s := by
  simp only [follow, setLocked, apply_ite view, hidden_setFlag (hk (O.synth_locked r) (by simp)),
    hidden_setRState hr (hk (O.radio_state r) (by simp)), hr, ite_self]

theorem hidden_ppduOver (s : State) : view (ppduOver s r) = view s := by
  simp only [ppduOver, setLocked, hidden_follow hr hk, apply_ite view, hidden_setFlag (hk (O.synth_locked r) (by simp)),
    hidden_setRState hr (hk (O.radio_state r) (by simp)), hr, ite_self]

include hout in
theorem hidden_muteRadio (s : State) : view (muteRadio s r) = view s := by
  simp only [muteRadio, apply_ite view, hidden_ppduOver hr hk, hidden_cutPpdu hout hr, ite_self]

end

end

/-! ### Transmit commands (R82 to R91) -/

/-- The counters of the results of a radio's transmit commands (R85). -/
def resultKeys (r : Nat) : List Nat :=
  [O.tx_sent r, O.tx_muted r, O.tx_reg_blocked r, O.tx_no_grant r, O.tx_duty_limit r, O.tx_busy r, O.tx_synth_not_ready r, O.tx_late r]

/-- A result counts in one of them. -/
theorem resultCounter_mem (r : Nat) (x : TxResult) : resultCounter r x ∈ resultKeys r := by
  cases x <;> simp [resultCounter, resultKeys]

section

variable {r : Nat}
include hreports

theorem hidden_txReport (hk : HidesAll view (resultKeys r)) (s : State) (c : TxCmd) (x : TxResult) : view (txReport s r c x) = view s :=
  (hreports _ _).trans (hidden_bump (hk _ (resultCounter_mem r x)) s)

variable (hr : HidesRadio view r)
include hr

theorem hidden_abortLate (hk : HidesAll view (resultKeys r)) (s : State) : view (abortLate s r) = view s :=
  (view_foldl (fun t c => hidden_txReport hreports hk t c _) _ _).trans (hr s _)

theorem hidden_offerCommand (hk : HidesAll view (resultKeys r)) (s : State) (c : TxCmd) : view (offerCommand s r c) = view s := by
  unfold offerCommand
  split
  · exact hidden_txReport hreports hk s c _
  · simp only [apply_ite view, hidden_txReport hreports hk, hr, ite_self]

omit hreports in
theorem hidden_yieldCal (hyields : Hides view (O.cal_yields r)) (s : State) (c : TxCmd) : view (yieldCal s r c) = view s := by
  unfold yieldCal
  split
  · simp only [apply_ite view, hidden_bump hyields, hr, ite_self]
  · rfl

include hout in
theorem hidden_sendPpdu (hk : HidesAll view ([O.power_clamps r, O.tx_held r, O.radio_state r] ++ resultKeys r)) (s : State) (c : TxCmd)
    (e : Nat) : view (sendPpdu s r c e) = view s := by
  have hresults : HidesAll view (resultKeys r) := hk.of_subset (List.subset_append_right _ _)
  simp only [sendPpdu, hidden_txReport hreports hresults, view_send hout, apply_ite view,
    hidden_bump (hk (O.tx_held r) (by simp)), hidden_bump (hk (O.power_clamps r) (by simp)),
    hidden_setRState hr (hk (O.radio_state r) (by simp)), hr, ite_self]

include hout in
theorem hidden_startCommand
    (hk : HidesAll view ([O.power_clamps r, O.tx_held r, O.radio_state r, O.cal_yields r] ++ resultKeys r)) (s : State) :
    view (startCommand s r) = view s := by
  have hresults : HidesAll view (resultKeys r) := hk.of_subset (List.subset_append_right _ _)
  unfold startCommand
  split
  · rfl
  · dsimp only
    split
    · exact (hidden_txReport hreports hresults _ _ _).trans (hr s _)
    · have hsend : HidesAll view ([O.power_clamps r, O.tx_held r, O.radio_state r] ++ resultKeys r) :=
        hk.of_subset (List.append_subset.mpr ⟨by simp, List.subset_append_right _ _⟩)
      simp only [apply_ite view, hidden_sendPpdu hout hreports hr hsend,
        hidden_txReport hreports hresults, hidden_yieldCal hr (hk (O.cal_yields r) (by simp)), hr, ite_self]

end

/-! ### The events of the radio (R77 to R93) -/

section

variable {r : Fin 3} (hr : HidesRadio view r)
include hseal

section
include hr

theorem hidden_execCrystalStable (hk : HidesAll view [O.radio_state r]) (s t : State) (h : execCrystalStable r s = .next t) :
    view t = view s := by
  refine view_act hseal ?_ h
  simp only [apply_ite view, hidden_setRState hr (hk (O.radio_state r) (by simp)), hr, ite_self]

section
include hreports

theorem hidden_execSynthLock (hk : HidesAll view ([O.radio_state r, O.synth_locked r] ++ resultKeys r)) (s t : State)
    (h : execSynthLock r s = .next t) : view t = view s := by
  refine view_act hseal ?_ h
  simp only [setLocked, apply_ite view, hidden_abortLate hreports hr (hk.of_subset (by simp)),
    hidden_setFlag (hk (O.synth_locked r) (by simp)), hidden_setRState hr (hk (O.radio_state r) (by simp)), hr, ite_self]

theorem hidden_execTransmitCommand (c : TxCmd) (hk : HidesAll view (resultKeys r)) (s t : State)
    (h : execTransmitCommand r c s = .next t) : view t = view s := by
  refine view_act hseal ?_ h
  simp only [apply_ite view, hidden_offerCommand hreports hr hk, ite_self]

include hout in
theorem hidden_execCommandStart (hk : HidesAll view ([O.power_clamps r, O.tx_held r, O.radio_state r, O.cal_yields r] ++ resultKeys r))
    (s t : State) (h : execCommandStart r s = .next t) : view t = view s :=
  view_act hseal (hidden_startCommand hout hreports hr hk s) h

theorem hidden_execHeldCommandAbort (hk : HidesAll view (resultKeys r)) (s t : State) (h : execHeldCommandAbort r s = .next t) :
    view t = view s := by
  refine view_act hseal ?_ h
  split
  · simp only [apply_ite view, hidden_txReport hreports hk, hr, ite_self]
  · rfl

end

section
include hout htinker

theorem hidden_execSettleTimeout (hk : HidesAll view [O.radio_state r, O.msgs_dropped]) (s t : State)
    (h : execSettleTimeout r s = .next t) : view t = view s := by
  refine view_act hseal ?_ h
  simp only [apply_ite view, hidden_report htinker (hk O.msgs_dropped (by simp)),
    hidden_setRState hr (hk (O.radio_state r) (by simp)), hidden_cutPpdu hout hr, ite_self]

theorem hidden_execLockLost (hk : HidesAll view [O.lock_losses r, O.synth_locked r, O.radio_state r, O.msgs_dropped]) (s t : State)
    (h : execLockLost r s = .next t) : view t = view s := by
  refine view_act hseal ?_ h
  simp only [setLocked, apply_ite view, hidden_report htinker (hk O.msgs_dropped (by simp)), hidden_bump (hk (O.lock_losses r) (by simp)),
    hidden_setRState hr (hk (O.radio_state r) (by simp)), hidden_setFlag (hk (O.synth_locked r) (by simp)), hidden_cutPpdu hout hr, ite_self]

end

theorem hidden_execPpduEnd (pdet : List Nat) (hk : HidesAll view ([O.synth_locked r, O.radio_state r] ++ (List.range 16).map (O.chain_power r)))
    (s t : State) (h : execPpduEnd r pdet s = .next t) : view t = view s := by
  refine view_act hseal ?_ h
  split
  next c _ =>
    have hpowers : view (((bitList 16 c.chains).zip pdet).foldl (fun t e => wr t (O.chain_power r e.1) e.2) s) = view s := by
      refine foldl_view_mem view _ (fun e he u => hk _ ?_ u _) s
      have hchain : e.1 ∈ bitList 16 c.chains := (List.of_mem_zip he).1
      exact List.mem_append_right _ (List.mem_map_of_mem (List.mem_of_mem_filter hchain))
    simp only [apply_ite view, hidden_ppduOver hr (hk.of_subset (by simp)), hpowers, ite_self]
  next => rfl

include hstatus hout hled htwin in
theorem hidden_execTxMute (on : Bool) (hk : HidesAll view [O.tx_mute r, O.synth_locked r, O.radio_state r]) (s t : State)
    (h : execTxMute r on s = .next t) : view t = view s := by
  refine view_act hseal (view_command hstatus hout hled htwin s _ _ _ ?_) h
  simp only [apply_ite view, hidden_muteRadio hout hr (hk.of_subset (by simp)), hidden_setFlag (hk (O.tx_mute r) (by simp)), ite_self]

include htinker in
theorem hidden_execVfemLow (hk : HidesAll view ([O.msgs_dropped] ++ (List.range 16).map (O.chain_faults r))) (s t : State)
    (h : execVfemLow r s = .next t) : view t = view s := by
  refine view_act hseal ?_ h
  split
  · refine foldl_view_mem view _ (fun k hm u => ?_) s
    have hfaults : Hides view (O.chain_faults r k) :=
      hk _ (List.mem_append_right _ (List.mem_map_of_mem (List.mem_of_mem_filter (List.mem_of_mem_filter hm))))
    simp only [chainFault, apply_ite view, hidden_report htinker (hk O.msgs_dropped (by simp)), hidden_bump hfaults, hr, ite_self]
  · rfl

theorem hidden_execCalResume (s t : State) (h : execCalResume r s = .next t) : view t = view s := by
  refine view_act hseal ?_ h
  split
  · simp only [apply_ite view, hr, ite_self]
  · rfl

theorem hidden_execCalLimitTimeout (hk : HidesAll view [O.cal_result r]) (s t : State) (h : execCalLimitTimeout r s = .next t) :
    view t = view s := by
  refine view_act hseal ?_ h
  split
  · simp only [apply_ite view, hk (O.cal_result r) (by simp), hr, ite_self]
  · rfl

include htinker in
theorem hidden_execPdetOvershoot (chain : Fin 16) (reading : Nat) (hk : HidesAll view [O.power_overshoots r, O.msgs_dropped]) (s t : State)
    (h : execPdetOvershoot r chain reading s = .next t) : view t = view s := by
  refine view_act hseal ?_ h
  simp only [apply_ite view, hidden_report htinker (hk O.msgs_dropped (by simp)), hidden_bump (hk (O.power_overshoots r) (by simp)), hr,
    ite_self]

end

/-! ### Grants (R102) -/

variable (g : Fin 16)

include hr hstatus hout hled htwin in
theorem hidden_execGrantInstall (hk : HidesAll view [O.grant_state r g]) (s t : State) (h : execGrantInstall r g s = .next t) :
    view t = view s := by
  refine view_act hseal (view_command hstatus hout hled htwin s _ _ _ ?_) h
  unfold grantInstall
  split
  · exact (hk _ (by simp) _ 1).trans (hr s _)
  · rfl

omit hseal in
include htinker in
theorem hidden_grantLapse {r g : Nat} (hk : HidesAll view [O.grant_lapses r g, O.msgs_dropped]) (s u : State) :
    view (grantLapse s r g u) = view u := by
  simp only [grantLapse, apply_ite view, hidden_report htinker (hk O.msgs_dropped (by simp)), hidden_bump (hk (O.grant_lapses r g) (by simp)),
    ite_self]

include hstatus hout hled htinker htwin in
theorem hidden_execGrantRevoke (hk : HidesAll view [O.grant_state r g, O.grant_lapses r g, O.msgs_dropped]) (s t : State)
    (h : execGrantRevoke r g s = .next t) : view t = view s := by
  have hlapse : HidesAll view [O.grant_lapses r g, O.msgs_dropped] := hk.of_subset (by simp)
  refine view_act hseal (view_command hstatus hout hled htwin s _ _ _ ?_) h
  simp only [grantRevoke, apply_ite Prod.snd, apply_ite view, hidden_grantLapse htinker hlapse,
    hk (O.grant_state r g) (by simp), ite_self]

include htinker in
theorem hidden_execGrantExpiry (hk : HidesAll view [O.grant_state r g, O.grant_lapses r g, O.msgs_dropped]) (s t : State)
    (h : execGrantExpiry r g s = .next t) : view t = view s := by
  have hlapse : HidesAll view [O.grant_lapses r g, O.msgs_dropped] := hk.of_subset (by simp)
  refine view_act hseal ?_ h
  split
  · simp only [apply_ite view, hidden_grantLapse htinker hlapse, hk (O.grant_state r g) (by simp), ite_self]
  · rfl

end

end

/-- CAL_RESUME sets its radio's own state alone (R91). -/
theorem calResume_leaves (r : Fin 3) :
    Leaves (.calResume r) fun s t => t = { s with radios := t.radios } ∧ ∀ q : Fin 3, q ≠ r → radio t q = radio s q := fun s t h =>
  have hl := leaves_of_shown (c := .calResume r) (parts := fun v s => { s with radios := v.radios }) (keys := fun _ => []) r
    (fun _ s t hseal => hidden_execCalResume hseal (hidesRadio_shown (fun _ _ => rfl) _ _) s t)
    ⟨fun _ => rfl, fun _ _ _ => rfl, fun _ _ => rfl, fun _ _ => rfl⟩ s t h
  ⟨hl.1, fun q hq => hl.2.2 q fun e => hq (Fin.ext e)⟩

/-- Settles O40: of each command, the view of its frame hides all that the command sets. -/
theorem epochAndRadioFrame : Obligations.EpochAndRadioFrame := by
  unfold Obligations.EpochAndRadioFrame
  refine ⟨?_, ?_, fun hid => ?_, fun r => ?_, fun r => ?_, fun r => ?_, fun r => ?_, fun r c => ?_, fun r => ?_, fun r => ?_,
    fun r pdet => ?_, fun r on => ?_, fun r => ?_, fun r => ?_, fun r => ?_, fun r chain reading => ?_, fun r g => ?_, fun r g => ?_,
    fun r g => ?_⟩
  · refine leaves_only fun v s t hseal hk => ?_
    apply hidden_execEpochDiscard hseal _ _ _ _ _ _ _ hk <;> exact fun _ _ => rfl
  · exact leaves_only fun v s t hseal hk => hidden_execApplyTimeout hseal (fun _ _ => rfl) (fun _ _ => rfl) (fun _ _ => rfl) hk s t
  · exact leaves_only fun v s t hseal hk =>
      hidden_execUnitRestored hseal (fun _ _ => rfl) (fun _ _ => rfl) (fun _ _ => rfl) _ hk s t
  · exact leaves_radio fun v s t hseal hk hr => hidden_execCrystalStable hseal hr hk s t
  · exact leaves_radio fun v s t hseal hk hr => hidden_execSynthLock hseal (fun _ _ => rfl) hr hk s t
  · exact leaves_radio fun v s t hseal hk hr => hidden_execSettleTimeout hseal (fun _ _ => rfl) (fun _ _ => rfl) hr hk s t
  · exact leaves_radio fun v s t hseal hk hr => hidden_execLockLost hseal (fun _ _ => rfl) (fun _ _ => rfl) hr hk s t
  · exact leaves_radio fun v s t hseal hk hr => hidden_execTransmitCommand hseal (fun _ _ => rfl) hr c hk s t
  · exact leaves_radio fun v s t hseal hk hr => hidden_execCommandStart hseal (fun _ _ => rfl) (fun _ _ => rfl) hr hk s t
  · exact leaves_radio fun v s t hseal hk hr => hidden_execHeldCommandAbort hseal (fun _ _ => rfl) hr hk s t
  · exact leaves_radio fun v s t hseal hk hr => hidden_execPpduEnd hseal hr pdet hk s t
  · exact leaves_radio fun v s t hseal hk hr =>
      hidden_execTxMute hseal (fun _ _ => rfl) (fun _ _ => rfl) (fun _ _ => rfl) (fun _ _ => rfl) hr on hk s t
  · exact leaves_radio fun v s t hseal hk hr => hidden_execVfemLow hseal (fun _ _ => rfl) hr hk s t
  · exact calResume_leaves r
  · exact leaves_radio fun v s t hseal hk hr => hidden_execCalLimitTimeout hseal hr hk s t
  · exact leaves_radio fun v s t hseal hk hr => hidden_execPdetOvershoot hseal (fun _ _ => rfl) hr chain reading hk s t
  · exact leaves_radio fun v s t hseal hk hr =>
      hidden_execGrantInstall hseal (fun _ _ => rfl) (fun _ _ => rfl) (fun _ _ => rfl) (fun _ _ => rfl) hr g hk s t
  · exact leaves_only fun v s t hseal hk => hidden_execGrantRevoke hseal (fun _ _ => rfl) (fun _ _ => rfl) (fun _ _ => rfl)
      (fun _ _ => rfl) (fun _ _ => rfl) g hk s t
  · exact leaves_only fun v s t hseal hk => hidden_execGrantExpiry hseal (fun _ _ => rfl) g hk s t

end Sys2Proof.Machine
end

section
/-! What a package reset and a loss of supply keep, and what they start again (O7, O51). -/

namespace Sys2Proof

/-- What a table reads after its entries are filtered by their numbers. -/
theorem Tab.look_filter {α : Type} (t : Tab α) (p : Nat → Bool) (k : Nat) :
    Tab.look (List.filter (fun e => p e.1) t) k = if p k then Tab.look t k else none := by
  induction t with
  | nil => simp [Tab.look]
  | cons x t ih =>
    obtain ⟨j, v⟩ := x
    by_cases hj : j = k
    · subst hj
      cases hp : p j <;> simp [Tab.look, ih, hp]
    · cases hp : p j <;> simp [Tab.look, ih, hp, hj]

namespace Machine

/-- Settles O7, by evaluating the state after reset. -/
theorem resetState : Obligations.ResetState := by
  unfold Obligations.ResetState
  decide

/-! ### Commands that complete -/

/-- A command whose effect is `u` completes with what holds of `u`, sealed. -/
theorem completes_done {c : Instr} {s u : State} {P : State → Prop} (hexec : exec c s = done s u) (h : P (sealed s u)) :
    Completes c s P :=
  ⟨sealed s u, hexec.trans (done_eq s u), h⟩

/-- A command of the hub die completes with what holds of its effect, where the hub works. -/
theorem completes_act {c : Instr} {s : State} {op : State → State} {P : State → Prop} (hexec : exec c s = act s op) (hon : hubOn s = true)
    (h : P (sealed s (op s))) : Completes c s P :=
  ⟨sealed s (op s), hexec.trans (act_on s op hon), h⟩

/-! ### The package reset (R25, R506) -/

/-- A register that is held is kept. -/
theorem keptKey_of_held {k : Nat} (h : heldKey k = true) : keptKey k = true := by simp [keptKey, h]

/-- A package reset leaves a kept register. -/
theorem rd_packageReset_kept (s : State) (k : Nat) (h : keptKey k = true) : rd (packageReset s) k = rd s k :=
  rd_congr s _ k (by simp [packageReset, Tab.look_filter, h]) rfl rfl rfl

/-- A package reset takes any other register to its default. -/
theorem rd_packageReset_default (s : State) (k : Nat) (h : keptKey k = false) : rd (packageReset s) k = defaultOf s k := by
  rw [rd_eq, defaultOf_eq s k]
  simp [packageReset, Tab.look_filter, h]

/-- A package reset leaves a held octet object. -/
theorem rdB_packageReset_held (s : State) (k : Nat) (h : heldKey k = true) : rdB (packageReset s) k = rdB s k :=
  rdB_congr s _ k (by simp [packageReset, Tab.look_filter, h]) rfl

/-- The module has started again from `s`: what is held over is as it was but for the registers of `keys`, and the serving state is gone. -/
structure Restarted (s t : State) (keys : List Nat) : Prop where
  held : HeldOver s t keys
  again : StartsAgain t
  fuse : t.fuse = s.fuse
  system : t.system = s.system

/-- A package reset restarts the module. -/
theorem restarted_packageReset (s : State) (keys : List Nat) : Restarted s (packageReset s) keys where
  held := ⟨rfl, rfl, rfl, rfl, rfl, rfl, rfl, rfl, rfl, rfl, fun k hk _ =>
    ⟨rd_packageReset_kept s k (keptKey_of_held hk), rdB_packageReset_held s k hk⟩⟩
  again := by repeat' constructor
  fuse := rfl
  system := rfl

namespace Restarted

variable {s t : State} {keys : List Nat}

/-- A register that is named or not held may be set. -/
theorem wr (h : Restarted s t keys) (k v : Nat) (hk : heldKey k = false ∨ k ∈ keys) : Restarted s (wr t k v) keys where
  held := by
    obtain ⟨h1, h2, h3, h4, h5, h6, h7, h8, h9, h10, hregs⟩ := h.held
    refine ⟨h1, h2, h3, h4, h5, h6, h7, h8, h9, h10, fun j hj hn => ?_⟩
    have hne : j ≠ k := by
      rintro rfl
      rcases hk with hk | hk
      · simp [hk] at hj
      · exact hn hk
    exact ⟨(rd_wr_ne t k v j hne).trans (hregs j hj hn).1, (hregs j hj hn).2⟩
  again := h.again
  fuse := h.fuse
  system := h.system

/-- The same seen from a state in which what is held is as here. -/
theorem after {u : State} (h : Restarted s t keys) (hu : HeldOver u s keys) (hf : s.fuse = u.fuse) (hs : s.system = u.system) :
    Restarted u t keys where
  held := by
    obtain ⟨h1, h2, h3, h4, h5, h6, h7, h8, h9, h10, hregs⟩ := h.held
    obtain ⟨g1, g2, g3, g4, g5, g6, g7, g8, g9, g10, hbase⟩ := hu
    exact ⟨h1.trans g1, h2.trans g2, h3.trans g3, h4.trans g4, h5.trans g5, h6.trans g6, h7.trans g7, h8.trans g8, h9.trans g9,
      h10.trans g10, fun j hj hn => ⟨(hregs j hj hn).1.trans (hbase j hj hn).1, (hregs j hj hn).2.trans (hbase j hj hn).2⟩⟩
  again := h.again
  fuse := h.fuse.trans hf
  system := h.system.trans hs

/-- The boot sequence may be set, the straps apart. -/
theorem boot (h : Restarted s t keys) (x : Boot) (hx : x.straps = t.boot.straps) : Restarted s { t with boot := x } keys where
  held := by
    obtain ⟨h1, h2, h3, h4, h5, h6, h7, h8, h9, h10, hregs⟩ := h.held
    exact ⟨h1, h2, h3, h4, h5, h6, h7, h8, h9, h10, fun j hj hn =>
      ⟨(rd_congr t { t with boot := x } j rfl rfl hx rfl).trans (hregs j hj hn).1, (hregs j hj hn).2⟩⟩
  again := h.again
  fuse := h.fuse
  system := h.system

/-- The power machinery may be set, VBAK apart. -/
theorem power (h : Restarted s t keys) (x : Power) (hx : x.vbak = t.power.vbak) : Restarted s { t with power := x } keys where
  held := by
    obtain ⟨h1, h2, h3, h4, h5, h6, h7, h8, h9, h10, hregs⟩ := h.held
    exact ⟨h1, h2, h3, h4, h5, h6, h7, h8, h9, hx.trans h10, hregs⟩
  again := h.again
  fuse := h.fuse
  system := h.system

/-- A domain's clock may be set. -/
theorem setClk (h : Restarted s t keys) (d v : Nat) (hs : heldKey (O.clk_state d) = false) (hr : heldKey (O.clk_rate d) = false) :
    Restarted s (setClk t d v) keys :=
  (h.wr _ _ (.inl hs)).wr _ _ (.inl hr)

/-- Sealing keeps every register. -/
theorem rd_sealed (h : Restarted s t keys) (k : Nat) : rd (sealed s t) k = rd t k := Machine.rd_sealed s t k h.fuse h.system

/-- Sealing keeps it. -/
theorem sealed (h : Restarted s t keys) : StartsAgain (sealed s t) ∧ HeldOver s (sealed s t) keys := by
  obtain ⟨h1, h2, h3, h4, h5, h6, h7, h8, h9, h10, hregs⟩ := h.held
  refine ⟨h.again, h1, h2, h3, h4, h5, h6, h7, h8, h9, h10, fun j hj hn => ⟨?_, ?_⟩⟩
  · exact (h.rd_sealed j).trans (hregs j hj hn).1
  · exact (rdB_congr t (Machine.sealed s t) j rfl h.fuse.symm).trans (hregs j hj hn).2

end Restarted

/-- The power domains are not held. -/
theorem restarted_powerOff {s t : State} {keys : List Nat} (h : Restarted s t keys) : Restarted s (powerOff t) keys := by
  unfold powerOff
  simp only [List.foldl_cons, List.foldl_nil]
  exact (((((h.wr _ _ (.inl (by decide))).wr _ _ (.inl (by decide))).wr _ _ (.inl (by decide))).wr _ _ (.inl (by decide))).wr _ _
    (.inl (by decide))).wr _ _ (.inl (by decide))

/-- The rails' fall restarts the module (R439, R440). -/
theorem restarted_supplyLost (s : State) (input : Bool) (keys : List Nat) : Restarted s (supplyLost s input) keys := by
  have h1 : Restarted s (packageReset { s with power := { s.power with inputOn := input } }) keys :=
    (restarted_packageReset s keys).power _ rfl
  have h2 := ((restarted_powerOff h1).wr O.package_mode (if (input || s.power.vbak) = true then 2 else 1) (.inl (by decide))).wr
    O.ref_state 0 (.inl (by decide))
  have h13 : ∀ t v, Restarted s t keys → Restarted s (setClk { t with boot := { t.boot with inReset := false } } 13 v) keys := fun t v h =>
    (h.boot { t.boot with inReset := false } rfl).setClk 13 v (by decide) (by decide)
  unfold supplyLost
  cases input with
  | true => exact h13 _ _ h2
  | false =>
    have h3 := (h2.wr (O.pd_state 1) 0 (.inl (by decide))).wr (O.pd_state 2) 0 (.inl (by decide))
    exact ((h13 _ _ h3).wr _ _ (.inl (by decide))).setClk 17 0 (by decide) (by decide)

/-- What a domain's clock set leaves of another register. -/
theorem rd_setClk_ne (s : State) (d v k : Nat) (hs : k ≠ O.clk_state d) (hr : k ≠ O.clk_rate d) : rd (setClk s d v) k = rd s k := by
  rw [setClk, rd_wr_ne _ _ _ _ hr, rd_wr_ne _ _ _ _ hs]

/-- A domain's clock set is the state it reads. -/
theorem clkState_setClk (s : State) (d v : Nat) : clkState (setClk s d v) d = v := by
  have hne : O.clk_state d ≠ O.clk_rate d := by simp only [O.clk_state, O.clk_rate, objKey]; omega
  rw [clkState, setClk, rd_wr_ne _ _ _ _ hne, rd_wr_self]

/-- The rails' fall leaves the package in HOLD while the input or VBAK can hold the backup domain, in OFF otherwise (R439). -/
theorem packageMode_supplyLost (s : State) (input : Bool) :
    packageMode (supplyLost s input) = if input || s.power.vbak then 2 else 1 := by
  have h13 : ∀ t v, packageMode (setClk { t with boot := { t.boot with inReset := false } } 13 v) = packageMode t := fun t v =>
    (rd_setClk_ne _ 13 v _ (by decide) (by decide)).trans (rd_congr t _ _ rfl rfl rfl rfl)
  unfold supplyLost
  cases input with
  | true => exact (h13 _ _).trans ((rd_wr_ne _ _ _ _ (by decide)).trans (rd_wr_self _ _ _))
  | false =>
    refine (rd_setClk_ne _ 17 0 _ (by decide) (by decide)).trans ((rd_wr_ne _ _ _ _ (by decide)).trans ((h13 _ _).trans ?_))
    exact (rd_wr_ne _ _ _ _ (by decide)).trans ((rd_wr_ne _ _ _ _ (by decide)).trans
      ((rd_wr_ne _ _ _ _ (by decide)).trans (rd_wr_self _ _ _)))

/-- The converter's stop restarts the module (R438, R440). -/
theorem restarted_converterStop (s : State) (cause : Nat) : Restarted s (converterStop s cause) [O.v12_state, O.last_loss_cause] :=
  ((restarted_supplyLost s false _).wr O.v12_state 0 (.inr (by simp))).wr O.last_loss_cause cause (.inr (by simp))

/-- It leaves the package in HOLD while VBAK can hold the backup domain, in OFF otherwise (R439). -/
theorem packageMode_converterStop (s : State) (cause : Nat) : packageMode (converterStop s cause) = if s.power.vbak then 2 else 1 := by
  refine (rd_wr_ne _ _ _ _ (by decide)).trans ((rd_wr_ne _ _ _ _ (by decide)).trans ?_)
  exact (packageMode_supplyLost s false).trans (by simp)

/-- What a fault of the 12 V output leaves (R440): counted and kept for the next BOOT, with the output latched off. -/
def v12Latched (s : State) (cause : Nat) : State :=
  wr (wr (supplyLost (reportLate (bump s O.v12_faults) 0x7C (v12Hid s) 0) true) O.v12_state 3) O.last_loss_cause cause

/-- V12_FAULT has this effect, with the cause that it names, while the output runs. -/
theorem exec_v12Fault (s : State) (c : V12Cause) (h : rd s O.v12_state = 2) :
    ∃ cause, exec (.v12Fault c) s = done s (v12Latched s cause) :=
  ⟨_, congrArg (done s) (if_pos h)⟩

/-- It restarts the module. -/
theorem restarted_v12Latched (s : State) (cause : Nat) :
    Restarted s (v12Latched s cause) [O.v12_state, O.last_loss_cause, O.v12_faults] := by
  have hfault : HeldOver s (reportLate (bump s O.v12_faults) 0x7C (v12Hid s) 0) [O.v12_state, O.last_loss_cause, O.v12_faults] :=
    ⟨rfl, rfl, rfl, rfl, rfl, rfl, rfl, rfl, rfl, rfl, fun j _ hn => ⟨(rd_congr (bump s O.v12_faults) _ j rfl rfl rfl rfl).trans
      (rd_wr_ne s O.v12_faults _ j fun e => hn (by simp [e])), rfl⟩⟩
  have h := (restarted_supplyLost _ true _).after hfault rfl rfl
  exact (h.wr O.v12_state 3 (.inr (by simp))).wr O.last_loss_cause cause (.inr (by simp))

/-- It leaves the package in HOLD. -/
theorem packageMode_v12Latched (s : State) (cause : Nat) : packageMode (v12Latched s cause) = 2 :=
  (rd_wr_ne _ _ _ _ (by decide)).trans ((rd_wr_ne _ _ _ _ (by decide)).trans (packageMode_supplyLost _ true))

/-- What PORST_N low leaves (R25, R440, R506): a package reset, after which the 12 V output and the reference start where they were off. -/
def porstReset (s : State) : State :=
  let t := packageReset s
  let u := if rd s O.v12_state = 0 ∨ rd s O.v12_state = 3 then wr t O.v12_state 1 else t
  setClk (if rd u O.ref_state = 0 then wr u O.ref_state 1 else u) 13 1

/-- PORST_ASSERT has this effect while the input is present. -/
theorem exec_porstAssert (s : State) (h : s.power.inputOn = true) : exec .porstAssert s = done s (porstReset s) :=
  congrArg (done s) (if_pos h)

/-- It restarts the module. -/
theorem restarted_porstReset (s : State) : Restarted s (porstReset s) [O.v12_state] := by
  have h := restarted_packageReset s [O.v12_state]
  have hclk : ∀ t, Restarted s t [O.v12_state] →
      Restarted s (setClk (if rd t O.ref_state = 0 then wr t O.ref_state 1 else t) 13 1) [O.v12_state] := fun t ht => by
    split
    · exact (ht.wr O.ref_state 1 (.inl (by decide))).setClk 13 1 (by decide) (by decide)
    · exact ht.setClk 13 1 (by decide) (by decide)
  refine hclk _ ?_
  split
  · exact h.wr O.v12_state 1 (.inr (by simp))
  · exact h

/-- The boot sequence as PORST_N low leaves it. -/
theorem boot_porstReset (s : State) : (porstReset s).boot = { inReset := true, perst := s.boot.perst, straps := s.boot.straps } := by
  simp only [porstReset, setClk, wr_fields, apply_ite State.boot, ite_self]
  rfl

/-- Settles O51: each of the four is a package reset with registers set after it. -/
theorem resetsKeepWhatIsHeld : Obligations.ResetsKeepWhatIsHeld := by
  unfold Obligations.ResetsKeepWhatIsHeld
  refine ⟨fun s hin => ?_, fun s hin => ?_, fun s hin => ?_, fun s c hv => ?_⟩
  · refine completes_done (exec_porstAssert s hin) ⟨?_, (restarted_porstReset s).sealed⟩
    simp [boot_porstReset]
  · have h := restarted_converterStop s 1
    refine completes_done (congrArg (done s) (if_pos hin)) ⟨?_, h.sealed⟩
    exact (h.rd_sealed _).trans (packageMode_converterStop s 1)
  · have h := (restarted_converterStop s 2).power { (converterStop s 2).power with overVoltage := true } rfl
    refine completes_done (congrArg (done s) (if_pos hin)) ⟨?_, h.sealed⟩
    have hmode : ∀ t x, packageMode { t with power := x } = packageMode t := fun t x => rd_congr t _ _ rfl rfl rfl rfl
    exact (h.rd_sealed O.package_mode).trans ((hmode (converterStop s 2) _).trans (packageMode_converterStop s 2))
  · obtain ⟨cause, hexec⟩ := exec_v12Fault s c hv
    have h := restarted_v12Latched s cause
    exact completes_done hexec ⟨(h.rd_sealed _).trans (packageMode_v12Latched s cause), h.sealed⟩

end Machine
end Sys2Proof
end

section
/-! A commit's prepare (O17). -/

namespace Sys2Proof.Machine

/-- A command written to its object completes with what holds of its effect, where its value reaches the object. -/
theorem completes_command {c : Instr} {s : State} {k v : Nat} {op : State → Status × State} {P : State → Prop}
    (hexec : exec c s = act s fun s => command s k v op) (h : Reaches s k)
    (hP : P (sealed s (commanded k (valueOctets k v) (op s)))) : Completes c s P :=
  completes_act hexec h.1 (by simpa only [command_reaches s k v op h] using hP)

/-- The fuses and the `system` field, which the default of every register comes from beside the straps (R42). -/
def base (s : State) : Fuses × Nat := (s.fuse, s.system)

/-- Sealing keeps the registers of an effect that keeps the fuses and the `system` field. -/
theorem rd_sealed_of_base {s t : State} (h : base t = base s) (k : Nat) : rd (sealed s t) k = rd t k :=
  rd_sealed s t k (congrArg Prod.fst h) (congrArg Prod.snd h)

/-- A command's value and status leave the registers of its effect, and so does sealing. -/
theorem rd_sealed_commanded {s t : State} (h : base t = base s) (st : Status) (k : Nat) (o : Octets) (j : Nat) :
    rd (sealed s (commanded k o (st, t))) j = rd t j :=
  (rd_sealed_of_base ((by simp [base] : base (commanded k o (st, t)) = base t).trans h) j).trans (rd_commanded k o (st, t) j)

/-- A view of one register hides the others. -/
theorem hidesAll_rd {j : Nat} {keys : List Nat} (hj : j ∉ keys) : HidesAll (fun s => rd s j) keys :=
  fun k hk s v => rd_wr_ne s k v j fun e => hj (e ▸ hk)

/-! ### The prepare of this package (R30, R375, R447) -/

/-- The registers that a prepare may set. -/
def prepareKeys : List Nat :=
  [O.retain_status, O.retain_failures, O.msgs_dropped] ++
  [0, 1, 2].flatMap (fun r => [O.pd_state (6 + r), O.pd_cycles (6 + r), O.radio_state r, O.synth_locked r]) ++
  (List.range 18).flatMap (fun d => [O.clk_state d, O.clk_rate d])

section

variable {α : Type} {view : State → α}
  (hfree : ∀ s x, view { s with free := x } = view s)
  (hstarts : ∀ s a b c, view { s with epoch := { s.epoch with started := a, poweredUp := b, fulls := c } } = view s)
  (htinker : ∀ s x, view { s with tinker := x } = view s)
  (hpower : ∀ s x, view { s with power := x } = view s)
  (hradios : ∀ s x, view { s with radios := x } = view s)

include hstarts hpower in
theorem view_power_starts (s : State) (p : Power) (a b c : List Nat) :
    view { s with power := p, epoch := { s.epoch with started := a, poweredUp := b, fulls := c } } = view s :=
  (hstarts { s with power := p } a b c).trans (hpower s p)

theorem hidden_setPower {pd : Nat} (hstate : Hides view (O.pd_state pd)) (hcycles : Hides view (O.pd_cycles pd)) (s : State) (v : Nat) :
    view (setPower s pd v) = view s := by
  simp only [setPower, apply_ite view, hidden_bump hcycles, hstate, ite_self]

theorem hidden_retime (hk : ∀ d < 18, Hides view (O.clk_state d) ∧ Hides view (O.clk_rate d)) (s : State) : view (retime s) = view s := by
  refine foldl_view_mem view _ (fun d hd u => ?_) s
  obtain ⟨hstate, hrate⟩ := hk d (List.mem_range.mp hd)
  simp only [retimeOne, apply_ite view, hidden_setClk hstate hrate, ite_self]

include htinker hpower in
theorem hidden_bankFailed (hk : HidesAll view [O.retain_status, O.retain_failures, O.msgs_dropped]) (s : State) (b : Nat) :
    view (bankFailed s b) = view s := by
  simp only [bankFailed, hidden_report htinker (hk O.msgs_dropped (by simp)), hpower, hidden_bump (hk O.retain_failures (by simp)),
    hk O.retain_status (by simp)]

include hfree htinker hpower hradios

theorem hidden_dieUp (hbank : HidesAll view [O.retain_status, O.retain_failures, O.msgs_dropped]) {r : Nat}
    (hk : HidesAll view [O.pd_state (6 + r), O.pd_cycles (6 + r), O.radio_state r, O.synth_locked r]) (x : State × List Nat) :
    view (dieUp x r).1 = view x.1 := by
  have hfollow : HidesAll view [O.synth_locked r, O.radio_state r] := hk.of_subset (by simp)
  simp only [dieUp, hidden_follow (fun s _ => hradios s _) hfollow, apply_ite view, view_loseCoefficients hradios,
    hidden_bankFailed htinker hpower hbank, view_freeNext hfree,
    hidden_setPower (hk (O.pd_state (6 + r)) (by simp)) (hk (O.pd_cycles (6 + r)) (by simp)), ite_self]

/-- The dies that come up set registers of theirs alone. -/
theorem hidden_diesUp (hk : HidesAll view prepareKeys) (dies : List Nat) (hdies : ∀ r ∈ dies, r ∈ [0, 1, 2]) (x : State × List Nat) :
    view (dies.foldl dieUp x).1 = view x.1 := by
  refine foldl_view_mem (fun x : State × List Nat => view x.1) dies (fun r hr x => ?_) x
  refine hidden_dieUp hfree htinker hpower hradios (hk.of_subset (by simp [prepareKeys])) (fun k hm => hk k ?_) x
  exact List.mem_append_left _ (List.mem_append_right _ (List.mem_flatMap.mpr ⟨r, hdies r hr, hm⟩))

include hstarts in
theorem hidden_prepareOwn (hk : HidesAll view prepareKeys) (s : State) : view (prepareOwn s) = view s := by
  have hclk : ∀ d < 18, Hides view (O.clk_state d) ∧ Hides view (O.clk_rate d) := fun d hd =>
    have hmem : ∀ k ∈ [O.clk_state d, O.clk_rate d], Hides view k := fun k hm =>
      hk k (List.mem_append_right _ (List.mem_flatMap.mpr ⟨d, List.mem_range.mpr hd, hm⟩))
    ⟨hmem _ (by simp), hmem _ (by simp)⟩
  simp only [prepareOwn, hidden_retime hclk, view_power_starts hstarts hpower]
  exact hidden_diesUp hfree htinker hpower hradios hk _ (fun r hr => List.mem_of_mem_filter hr) (s, [])

end

/-- What a commit's record says of who runs it. -/
def commitOf (e : Epoch) : CommitKind × Bool × Bool × Option (Nat × Nat) × Nat := (e.kind, e.coordinator, e.peerIn, e.autoWaiting, e.peerPhase)

/-- A prepare leaves who runs the commit, the fuses, the `system` field and every register that it does not set. -/
theorem prepareOwn_keeps (s : State) :
    commitOf (prepareOwn s).epoch = commitOf s.epoch ∧ base (prepareOwn s) = base s ∧ ∀ k, k ∉ prepareKeys → rd (prepareOwn s) k = rd s k := by
  refine ⟨?_, ?_, fun k hk => ?_⟩
  · exact hidden_prepareOwn (view := fun s => commitOf s.epoch) (fun _ _ => rfl) (fun _ _ _ _ => rfl) (fun _ _ => rfl) (fun _ _ => rfl)
      (fun _ _ => rfl) (fun _ _ _ _ => rfl) s
  · exact hidden_prepareOwn (view := base) (fun _ _ => rfl) (fun _ _ _ _ => rfl) (fun _ _ => rfl) (fun _ _ => rfl) (fun _ _ => rfl)
      (fun _ _ _ _ => rfl) s
  · exact hidden_prepareOwn (view := fun s => rd s k) (fun _ _ => rd_congr _ _ _ rfl rfl rfl rfl)
      (fun _ _ _ _ => rd_congr _ _ _ rfl rfl rfl rfl) (fun _ _ => rd_congr _ _ _ rfl rfl rfl rfl)
      (fun _ _ => rd_congr _ _ _ rfl rfl rfl rfl) (fun _ _ => rd_congr _ _ _ rfl rfl rfl rfl) (hidesAll_rd hk) s

/-! ### The start of a commit (R33) -/

/-- A commit that starts is in PREPARE with no laggard, and its record says what it is. -/
theorem startCommit_starts (s : State) (kind : CommitKind) (peer : Bool) :
    let t := startCommit s kind peer
    rd t O.epoch_phase = 1 ∧ rd t O.first_laggard = 0 ∧ rd t O.laggard_count = 0 ∧ base t = base s ∧
      commitOf t.epoch = (kind, true, peer, s.epoch.autoWaiting, 0) := by
  intro t
  let e : Epoch := { kind := kind, coordinator := true, waiting := epochUnits s peer, peerIn := peer, autoWaiting := s.epoch.autoWaiting }
  obtain ⟨u, ht, hu, hepoch⟩ : ∃ u, t = prepareOwn (wr (wr (wr u O.epoch_phase 1) O.first_laggard 0) O.laggard_count 0) ∧ base u = base s ∧
      u.epoch = e := by
    refine ⟨_, rfl, ?_⟩
    split <;> simp [base, setEpoch, e]
  rw [ht]
  obtain ⟨hcommit, hbase, hregs⟩ := prepareOwn_keeps (wr (wr (wr u O.epoch_phase 1) O.first_laggard 0) O.laggard_count 0)
  refine ⟨?_, ?_, ?_, hbase.trans hu, ?_⟩
  · rw [hregs _ (by decide), rd_wr_ne _ _ _ _ (by decide), rd_wr_ne _ _ _ _ (by decide), rd_wr_self]
  · rw [hregs _ (by decide), rd_wr_ne _ _ _ _ (by decide), rd_wr_self]
  · rw [hregs _ (by decide), rd_wr_self]
  · rw [hcommit]
    simp [hepoch, commitOf, e]

/-- What lets a COMMIT start (R31, R33): no refusal, and no commit that runs. -/
structure MayCommit (s : State) : Prop where
  scope : rd s O.epoch_scope ≠ 1 ∨ roleMode s ≠ 9
  unlocked : rd s O.q_state ≠ 2
  idle : rd s O.epoch_phase = 0
  peerIdle : s.epoch.peerPhase = 0
  mode : packageMode s ∉ [5, 6, 10, 12]

/-- The three checks before a commit starts pass. -/
theorem MayCommit.checks {s : State} (h : MayCommit s) :
    ¬ (decide (rd s O.epoch_scope = 1) = true ∧ roleMode s = 9) ∧ ¬ rd s O.q_state = 2 ∧
      ¬ (rd s O.epoch_phase ≠ 0 ∨ s.epoch.peerPhase ≠ 0 ∨ packageMode s = 5 ∨ packageMode s = 6 ∨ packageMode s = 10 ∨ packageMode s = 12) := by
  obtain ⟨hscope, hlock, hidle, hpeer, hmode⟩ := h
  simp only [List.mem_cons, List.not_mem_nil, or_false, not_or] at hmode
  refine ⟨fun hd => ?_, hlock, by simp [hidle, hpeer, hmode]⟩
  exact hscope.elim (fun hs => hs (of_decide_eq_true hd.1)) (fun hr => hr hd.2)

/-- COMMIT of something staged starts a commit. -/
theorem epochCommit_staged {s : State} (h : MayCommit s) (hstaged : anyStaged s = true) :
    ∃ peer, epochCommit s = (.deferred, startCommit s .host peer) := by
  obtain ⟨hdenied, hlock, hbusy⟩ := h.checks
  refine ⟨decide (rd s O.epoch_scope = 1) && decide (roleMode s = 8) && s.twin.hbFresh, ?_⟩
  unfold epochCommit
  rw [if_neg hdenied, if_neg hlock, if_neg hbusy, if_neg (by simp [hstaged])]

/-- COMMIT with nothing staged and no target mode is over at once. -/
theorem epochCommit_empty {s : State} (h : MayCommit s) (hstaged : anyStaged s = false) (ha : rd s O.target_mode_a = 0)
    (hb : rd s O.target_mode_b = 0) : epochCommit s = (.ok, s) := by
  obtain ⟨hdenied, hlock, hbusy⟩ := h.checks
  have htargets : epochTargets (setEpoch s { s.epoch with kind := .host }) = (0, 0) := by simp [epochTargets, ha, hb]
  unfold epochCommit
  rw [if_neg hdenied, if_neg hlock, if_neg hbusy, if_pos (by simp [hstaged, ownTarget, peerTarget, htargets])]

/-- What DISCARD leaves (R33, R265). -/
def discarded (s : State) : State :=
  wr (wr { s with
    staged := [], stagedBlobs := [], graph := { s.graph with shadow := if s.graph.copying then s.graph.shadow else s.graph.active } }
    O.target_mode_a 0) O.target_mode_b 0

/-! ### What units answer (R30, R33) -/

/-- A unit's check leaves the base, the time base, the commit's record and every register but the graph's status. -/
theorem unitChecked_keeps (s : State) (h : Nat) :
    let t := unitChecked s h
    base t = base s ∧ t.tb = s.tb ∧ t.epoch = s.epoch ∧ ∀ k, k ∉ [O.graph_status, O.graph_bad_index] → rd t k = rd s k := by
  intro t
  refine ⟨view_unitChecked (view := base) (fun _ _ => rfl) s h, view_unitChecked (view := State.tb) (fun _ _ => rfl) s h,
    view_unitChecked (view := State.epoch) (fun _ _ => rfl) s h, fun k hk => ?_⟩
  have hh := hidesAll_rd hk
  simp only [t, unitChecked]
  split
  · exact (hh _ (by simp) _ _).trans (hh _ (by simp) s _)
  · rfl

/-- The end ROLLED_BACK shows in `epoch_phase` and `epoch_result`, and leaves the base and every other register (R33). -/
theorem rolledBack_ends (s : State) :
    let t := rolledBack s
    rd t O.epoch_phase = 0 ∧ rd t O.epoch_result = Status.rolledBack.code ∧ base t = base s ∧
      ∀ k, k ∉ [O.epoch_phase, O.epoch_result] → rd t k = rd s k := by
  intro t
  refine ⟨?_, ?_, view_rolledBack (view := base) (fun _ _ => rfl) (fun _ _ => rfl) (fun _ _ => rfl) s, fun k hk => ?_⟩
  · simp only [t, rolledBack, clearEpoch, rd_setEpoch, rd_wr_self]
  · simp only [t, rolledBack, clearEpoch, rd_setEpoch]
    rw [rd_wr_ne _ _ _ _ (by decide), rd_wr_self]
  · simp only [List.mem_cons, List.not_mem_nil, or_false, not_or] at hk
    simp only [t, rolledBack, clearEpoch, rd_setEpoch, rd_wr_ne _ _ _ _ hk.1, rd_wr_ne _ _ _ _ hk.2]
    split <;> simp

/-- A commit that is aborted for one unit is back in IDLE, ROLLED_BACK, with that unit its laggard (R33). -/
theorem abortCommit_one (s : State) (h : Nat) :
    let t := abortCommit s [h]
    rd t O.epoch_phase = 0 ∧ rd t O.epoch_result = Status.rolledBack.code ∧ rd t O.first_laggard = h ∧ rd t O.laggard_count = 1 := by
  intro t
  obtain ⟨u, ht, hfirst, hcount⟩ : ∃ u, t = rolledBack u ∧ rd u O.first_laggard = h ∧ rd u O.laggard_count = 1 := by
    refine ⟨_, rfl, ?_, ?_⟩
    · simp only [apply_ite (fun u => rd u O.first_laggard), rd_varlanSend, ite_self, recordLaggards]
      rw [rd_wr_ne _ _ _ _ (by decide), rd_wr_self]
      rfl
    · simp only [apply_ite (fun u => rd u O.laggard_count), rd_varlanSend, ite_self, recordLaggards, rd_wr_self]
      rfl
  obtain ⟨hphase, hresult, -, hother⟩ := rolledBack_ends u
  rw [ht]
  exact ⟨hphase, hresult, (hother _ (by decide)).trans hfirst, (hother _ (by decide)).trans hcount⟩

/-- An abort is sealed with its base, whatever its laggards. -/
theorem base_abortCommit (s : State) (l : List Nat) : base (abortCommit s l) = base s :=
  view_abortCommit (view := base) (fun _ _ => rfl) (fun _ _ => rfl) (fun _ _ => rfl) (fun _ _ => rfl) (fun _ _ => rfl) (fun _ _ => rfl) s l

/-- The registers an aborted commit ends with. -/
theorem abortCommit_ends (s : State) (l : List Nat) :
    rd (abortCommit s l) O.epoch_phase = 0 ∧ rd (abortCommit s l) O.epoch_result = Status.rolledBack.code :=
  have h := rolledBack_ends (if s.epoch.peerIn then varlanSend (recordLaggards (abortOwn s) l) 1 (.epoch .abort) else recordLaggards (abortOwn s) l)
  ⟨h.1, h.2.1⟩

/-- All units have prepared (R33): the instant of the apply is `apply_guard` from now. -/
theorem allPrepared_applies (s : State) :
    let t := allPrepared s
    rd t O.epoch_phase = 2 ∧ t.epoch.earliest = some (guardInstant s) ∧ base t = base s := by
  intro t
  refine ⟨?_, ?_, view_allPrepared (view := base) (fun _ _ => rfl) (fun _ _ => rfl) (fun _ _ => rfl) (fun _ _ => rfl) s⟩
  · simp only [t, allPrepared, apply_ite (fun u => rd u O.epoch_phase), rd_varlanSend, rd_setEpoch, rd_wr_self, ite_self]
  · simp [t, allPrepared, apply_ite State.epoch]

/-- A number of 24 bits is a HID's. -/
theorem toNat_hid {h : Nat} (hh : h < 16777216) : (BitVec.ofNat 24 h).toNat = h := Nat.mod_eq_of_lt hh

/-- The coordinator waits no longer for a unit that agrees (R33). -/
theorem coordPrepared_agrees {s : State} {h : Nat} (hcounts : ackCounts s h = true)
    (hown : hidOwn s h = false ∨ (unitWaits s h = false ∧ unitRefuses s h = false)) :
    ∃ t, t ∈ [s, unitChecked s h] ∧
      coordPrepared s h true = if (dropWaiting t h).epoch.waiting = [] then allPrepared (dropWaiting t h) else dropWaiting t h := by
  refine ⟨if hidOwn s h then unitChecked s h else s, by split <;> simp, ?_⟩
  have hwaits : ¬ (hidOwn s h && unitWaits s h && true) = true := by
    rcases hown with h0 | h0 <;> simp [h0]
  have hrefuses : ¬ (!true || (hidOwn s h && unitRefuses s h)) = true := by
    rcases hown with h0 | h0 <;> simp [h0]
  unfold coordPrepared
  rw [if_neg (by simp [hcounts]), if_neg hwaits, if_neg hrefuses]

/-- The coordinator rolls the commit back for a unit that refuses (R33). -/
theorem coordPrepared_refuses {s : State} {h : Nat} (hcounts : ackCounts s h = true) :
    ∃ t, t ∈ [s, unitChecked s h] ∧ coordPrepared s h false = abortCommit t [h] := by
  refine ⟨if hidOwn s h then unitChecked s h else s, by split <;> simp, ?_⟩
  unfold coordPrepared
  rw [if_neg (by simp [hcounts]), if_neg (by simp), if_pos (by simp)]

/-- Before it is answered, a unit's check has changed no more than the graph's status. -/
theorem keeps_of_mem {s t : State} {h : Nat} (ht : t ∈ [s, unitChecked s h]) :
    base t = base s ∧ t.tb = s.tb ∧ t.epoch = s.epoch ∧ ∀ k, k ∉ [O.graph_status, O.graph_bad_index] → rd t k = rd s k := by
  simp only [List.mem_cons, List.not_mem_nil, or_false] at ht
  rcases ht with rfl | rfl
  · exact ⟨rfl, rfl, rfl, fun _ _ => rfl⟩
  · exact unitChecked_keeps s h

/-- What the coordinator does in PREPARE with the answer of a unit (R33). -/
theorem completes_unitPrepared {s : State} {h : Nat} {agrees : Bool} {P : State → Prop} (hh : h < 16777216) (hon : hubOn s = true)
    (hphase : rd s O.epoch_phase = 1) (hP : P (sealed s (coordPrepared s h agrees))) : Completes (.unitPrepared h agrees) s P := by
  refine ⟨_, ?_, hP⟩
  show execUnitPrepared (BitVec.ofNat 24 h) agrees s = _
  unfold execUnitPrepared
  rw [act_on s _ hon]
  simp only [toNat_hid hh, if_pos hphase]

/-- An automatic commit that waits starts on a lead in a serving mode once the phase is IDLE (R184). -/
theorem autoCommit_starts {s : State} {a b : Nat} (hauto : s.epoch.autoWaiting = some (a, b)) (hidle : rd s O.epoch_phase = 0)
    (hpeer : s.epoch.peerPhase = 0) (hmode : packageMode s ∈ [7, 8, 9, 11]) (hrole : roleMode s = 8) (ha : a ≠ 8) (hb : b ≠ 8)
    (hon : hubOn s = true) :
    exec .autoCommit s = .next (sealed s (startCommit (setEpoch s { s.epoch with autoWaiting := none }) (.auto a b) false)) := by
  have hserving : servingMode (packageMode s) = true ∧ packageMode s ≠ 10 := by
    simp only [List.mem_cons, List.not_mem_nil, or_false] at hmode
    rcases hmode with h | h | h | h <;> simp [servingMode, h]
  show execAutoCommit s = _
  unfold execAutoCommit
  rw [act_on s _ hon]
  simp only [hauto, hidle, hpeer, hserving.1, hserving.2, ha, hb, hrole]
  simp

/-- Settles O17, clause by clause from what each step of a commit does. -/
theorem epochPrepareComplete : Obligations.EpochPrepareComplete := by
  unfold Obligations.EpochPrepareComplete
  refine ⟨fun s hr hscope hlock hidle hpeer hmode hstaged => ?_, fun s hr hscope hlock hidle hpeer hmode hstaged ha hb => ?_,
    fun s hr hidle hpeer => ?_, fun s h hh hon hphase hcounts hown hleft => ?_, fun s h hh hon hphase hcounts hown hlast => ?_,
    fun s h hh hon hphase hcounts => ?_, fun s hon hphase => ?_, fun s a b hon hauto hidle hpeer hmode hrole hna hnb => ?_⟩
  · obtain ⟨peer, heq⟩ := epochCommit_staged ⟨hscope, hlock, hidle, hpeer, hmode⟩ hstaged
    obtain ⟨hphase, hfirst, hcount, hbase, hcommit⟩ := startCommit_starts s .host peer
    simp only [commitOf, Prod.mk.injEq] at hcommit
    refine completes_command rfl hr ?_
    simp only [heq, rd_sealed_commanded hbase, sealed_fields, commanded_status, commanded_fields]
    exact ⟨trivial, hphase, hcount, hfirst, hcommit.2.1, hcommit.1⟩
  · refine completes_command rfl hr ?_
    rw [epochCommit_empty ⟨hscope, hlock, hidle, hpeer, hmode⟩ hstaged ha hb]
    exact ⟨by simp only [sealed_fields, commanded_status], (rd_sealed_commanded rfl _ _ _ _).trans hidle⟩
  · refine completes_command rfl hr ?_
    rw [show epochDiscard s = (.ok, discarded s) from if_neg (by simp [hidle, hpeer])]
    have ha : rd (discarded s) O.target_mode_a = 0 := (rd_wr_ne _ _ _ _ (by decide)).trans (rd_wr_self _ _ _)
    have hb : rd (discarded s) O.target_mode_b = 0 := rd_wr_self _ _ _
    refine ⟨by simp only [sealed_fields, commanded_status], by simp only [sealed_fields, commanded_fields]; rfl,
      by simp only [sealed_fields, commanded_fields]; rfl, (rd_sealed_commanded rfl _ _ _ _).trans ha, (rd_sealed_commanded rfl _ _ _ _).trans hb,
      fun hcopy => ?_⟩
    simp only [sealed_fields, commanded_fields]
    simp [discarded, hcopy]
  · obtain ⟨t, ht, heq⟩ := coordPrepared_agrees hcounts hown
    obtain ⟨hbase, -, hepoch, hregs⟩ := keeps_of_mem ht
    have hwaiting : (dropWaiting t h).epoch.waiting = s.epoch.waiting.filter (fun x => x ≠ h) := by simp [dropWaiting, setEpoch, hepoch]
    refine completes_unitPrepared hh hon hphase ?_
    rw [heq, if_neg (hwaiting ▸ hleft)]
    exact ⟨(rd_sealed_of_base hbase _).trans ((hregs _ (by decide)).trans hphase), hwaiting⟩
  · obtain ⟨t, ht, heq⟩ := coordPrepared_agrees hcounts hown
    obtain ⟨hbase, htb, hepoch, hregs⟩ := keeps_of_mem ht
    have hwaiting : (dropWaiting t h).epoch.waiting = [] := by simpa [dropWaiting, setEpoch, hepoch] using hlast
    obtain ⟨happlying, hearliest, hkept⟩ := allPrepared_applies (dropWaiting t h)
    have hguard : guardInstant (dropWaiting t h) = tbNs s + rd s O.apply_guard * 1000 :=
      congr (congrArg (fun tb x => tb + x * 1000) (show tbNs (dropWaiting t h) = tbNs s from congrArg (· / 65536) htb)) (hregs _ (by decide))
    refine completes_unitPrepared hh hon hphase ?_
    rw [heq, if_pos hwaiting]
    exact ⟨(rd_sealed_of_base (hkept.trans hbase) _).trans happlying, hearliest.trans (congrArg some hguard)⟩
  · obtain ⟨t, ht, heq⟩ := coordPrepared_refuses hcounts
    obtain ⟨hbase, -⟩ := keeps_of_mem ht
    have hkept := (base_abortCommit t [h]).trans hbase
    obtain ⟨hidle, hresult, hfirst, hcount⟩ := abortCommit_one t h
    refine completes_unitPrepared hh hon hphase ?_
    rw [heq]
    exact ⟨(rd_sealed_of_base hkept _).trans hidle, (rd_sealed_of_base hkept _).trans hresult, (rd_sealed_of_base hkept _).trans hfirst,
      (rd_sealed_of_base hkept _).trans hcount⟩
  · have hkept := base_abortCommit s (s.epoch.waiting ++ s.epoch.lost)
    obtain ⟨hidle, hresult⟩ := abortCommit_ends s (s.epoch.waiting ++ s.epoch.lost)
    refine completes_act rfl hon ?_
    rw [if_pos hphase]
    exact ⟨(rd_sealed_of_base hkept _).trans hidle, (rd_sealed_of_base hkept _).trans hresult⟩
  · refine ⟨_, autoCommit_starts hauto hidle hpeer hmode hrole hna hnb hon, ?_⟩
    obtain ⟨hphase, -, -, hbase, hcommit⟩ := startCommit_starts (setEpoch s { s.epoch with autoWaiting := none }) (.auto a b) false
    simp only [commitOf, Prod.mk.injEq] at hcommit
    have hkept : base (startCommit (setEpoch s { s.epoch with autoWaiting := none }) (.auto a b) false) = base s := hbase
    obtain ⟨-, hcoordinator, -, hauto', -⟩ := hcommit
    simp only [rd_sealed_of_base hkept, sealed_fields, hphase, hcoordinator, hauto']
    exact ⟨trivial, rfl, trivial⟩

end Sys2Proof.Machine
end

section
/-! A commit's apply and rollback, and the frame boundary (O18). -/

namespace Sys2Proof.Machine

/-! ### What a frame boundary leaves alone (R151, R170, R171) -/

/-- The commit's record, whether the next plan is closed, and the count of frames. -/
def frameOf (s : State) : Epoch × Bool × Option Nat := (s.epoch, s.planClosed, s.regs.look O.frame_count)

/-- A register of another key hides from it. -/
theorem hides_frameOf {k : Nat} (hk : k ≠ O.frame_count) : Hides frameOf k := fun s v => by
  simp [frameOf, wr, Tab.look_put_ne _ _ _ _ hk.symm]

/-- So does every register whose sub-index is not that of `frame_count`. -/
theorem hides_frameOf_sub {i j : Nat} (hj : j < 256) (hne : j ≠ 1) : Hides frameOf (objKey i j) :=
  hides_frameOf fun h => by simp only [O.frame_count, objKey] at h; omega

@[simp] theorem frameOf_steward (s : State) (x : Steward) : frameOf { s with steward := x } = frameOf s := rfl
@[simp] theorem frameOf_boot (s : State) (x : Boot) : frameOf { s with boot := x } = frameOf s := rfl
@[simp] theorem frameOf_setRadio (s : State) (r : Nat) (x : Radio) : frameOf (setRadio s r x) = frameOf s := rfl
@[simp] theorem frameOf_setPlan (s : State) (r : Nat) (x : RadioPlan) : frameOf (setPlan s r x) = frameOf s := rfl
@[simp] theorem frameOf_setMiller (s : State) (x : Miller) : frameOf (setMiller s x) = frameOf s := rfl
@[simp] theorem frameOf_setTinker (s : State) (x : Tinker) : frameOf (setTinker s x) = frameOf s := rfl

@[simp] theorem frameOf_varlanSend (s : State) (c : Nat) (m : VMsg) : frameOf (varlanSend s c m) = frameOf s := by simp [frameOf]

@[simp] theorem frameOf_setRState (s : State) (r v : Nat) : frameOf (setRState s r v) = frameOf s :=
  hidden_setRState (fun _ _ => rfl) (hides_frameOf_sub (by decide) (by decide)) s v

/-- The two registers of a radio's state hide from it. -/
theorem hidesAll_radioState (r : Nat) : HidesAll frameOf [O.synth_locked r, O.radio_state r] := by
  simp only [HidesAll, List.forall_mem_cons, List.not_mem_nil, false_implies, implies_true, and_true]
  exact ⟨hides_frameOf_sub (by decide) (by decide), hides_frameOf_sub (by decide) (by decide)⟩

@[simp] theorem frameOf_follow (s : State) (r : Nat) : frameOf (follow s r) = frameOf s :=
  hidden_follow (fun _ _ => rfl) (hidesAll_radioState r) s

@[simp] theorem frameOf_muteRadio (s : State) (r : Nat) : frameOf (muteRadio s r) = frameOf s :=
  hidden_muteRadio (fun _ _ => rfl) (fun _ _ => rfl) (hidesAll_radioState r) s

@[simp] theorem frameOf_followAll (s : State) : frameOf (followAll s) = frameOf s := by simp only [followAll, frameOf_follow]

@[simp] theorem frameOf_retime (s : State) : frameOf (retime s) = frameOf s :=
  hidden_retime (fun d hd => ⟨hides_frameOf_sub (by decide) (by decide), hides_frameOf (by simp only [O.clk_rate, O.frame_count, objKey]; omega)⟩) s

@[simp] theorem frameOf_report (s : State) (k h a : Nat) : frameOf (report s k h a) = frameOf s :=
  hidden_report (fun _ _ => rfl) (hides_frameOf (by decide)) s k h a

/-! #### A change of mode (R366, R374) -/

@[simp] theorem frameOf_serviceRole (s : State) (old m : Nat) : frameOf (serviceRole s old m) = frameOf s := by
  simp only [serviceRole, apply_ite frameOf, hides_frameOf (k := O.service_role) (by decide) s _, ite_self]

@[simp] theorem frameOf_retrainStop (s : State) : frameOf (retrainStop s) = frameOf s := by
  simp only [retrainStop, apply_ite frameOf, hides_frameOf (k := O.dram_state) (by decide) _ _,
    hides_frameOf (k := O.region_status) (by decide) _ _, ite_self]

@[simp] theorem frameOf_dramComplete (s : State) : frameOf (dramComplete s) = frameOf s :=
  foldl_view_mem frameOf _ (fun q _ t => hidden_bumpBy (hides_frameOf_sub (by decide) (by decide)) t 256) s

@[simp] theorem frameOf_dramMode (s : State) (m : Nat) : frameOf (dramMode s m) = frameOf s := by
  simp only [dramMode, apply_ite frameOf, hides_frameOf (k := O.dram_state) (by decide) _ _,
    hides_frameOf (k := O.region_status) (by decide) _ _, frameOf_dramComplete, frameOf_retrainStop, ite_self]

@[simp] theorem frameOf_recordEnd (s : State) (e : Activity) (st : Status) : frameOf (recordEnd s e st) = frameOf s := by
  have hend : Hides frameOf (O.act_last_end e.activity) := hides_frameOf_sub (by decide) (by decide)
  have hlast : Hides frameOf (O.act_last_result e.activity) := hides_frameOf_sub (by decide) (by decide)
  have hcal : Hides frameOf (O.cal_result (activityRadio e.activity e.target)) := hides_frameOf_sub (by decide) (by decide)
  simp only [recordEnd, apply_ite frameOf, hcal _ _, hend _ _, hlast _ _, ite_self]

@[simp] theorem frameOf_stopEngine (s : State) (e : Activity) : frameOf (stopEngine s e) = frameOf s := by
  simp only [stopEngine, apply_ite frameOf, frameOf_follow, frameOf_setRState, frameOf_setRadio, frameOf_retrainStop, ite_self]

@[simp] theorem frameOf_abortActivity (s : State) (e : Activity) : frameOf (abortActivity s e) = frameOf s := by
  simp only [abortActivity, frameOf_recordEnd, frameOf_stopEngine, hidden_bump (hides_frameOf (k := O.maint_aborted) (by decide))]
  rfl

@[simp] theorem frameOf_abortOutside (s : State) : frameOf (abortOutside s) = frameOf s := by
  simp only [abortOutside, apply_ite frameOf, frameOf_steward, foldl_view_mem frameOf _ (fun e _ t => frameOf_abortActivity t e), ite_self]

@[simp] theorem frameOf_retrainStart (s : State) : frameOf (retrainStart s) = frameOf s := by
  simp only [retrainStart, hides_frameOf (k := O.dram_state) (by decide) _ _, hides_frameOf (k := O.region_status) (by decide) _ _,
    frameOf_steward]

@[simp] theorem frameOf_startActivity (s : State) (e : Activity) : frameOf (startActivity s e) = frameOf s := by
  have hruns : Hides frameOf (O.act_runs e.activity) := hides_frameOf (by simp only [O.act_runs, O.frame_count, objKey]; omega)
  simp only [startActivity, apply_ite frameOf, frameOf_setRState, frameOf_setRadio, frameOf_retrainStart, hidden_bump hruns, ite_self]

@[simp] theorem frameOf_enterRunning (s : State) (e : Activity) : frameOf (enterRunning s e) = frameOf s := by
  simp only [enterRunning, apply_ite frameOf, frameOf_startActivity, frameOf_steward,
    hidden_bump (hides_frameOf (k := O.maint_admitted) (by decide)), ite_self]

@[simp] theorem frameOf_admitActivity (s : State) (e : Activity) : frameOf (admitActivity s e) = frameOf s := by
  simp only [admitActivity, apply_ite frameOf, frameOf_varlanSend, frameOf_steward, frameOf_enterRunning, ite_self]

@[simp] theorem frameOf_scanFrom (s : State) (kept rest : List Activity) : frameOf (scanFrom s kept rest) = frameOf s := by
  induction rest generalizing s kept with
  | nil => rfl
  | cons e rest ih => simp only [scanFrom, apply_ite frameOf, ih, frameOf_admitActivity, ite_self]

@[simp] theorem frameOf_scanQueue (s : State) : frameOf (scanQueue s) = frameOf s := by
  simp only [scanQueue, reserveAlign, apply_ite frameOf, frameOf_varlanSend, frameOf_enterRunning, frameOf_steward, frameOf_scanFrom, ite_self]

@[simp] theorem frameOf_pairRefresh (s : State) : frameOf (pairRefresh s) = frameOf s := by
  simp only [pairRefresh, apply_ite frameOf, frameOf_report, hides_frameOf (k := O.pair_state) (by decide) _ _,
    hides_frameOf (k := O.pair_suspend_cause) (by decide) _ _, ite_self]

@[simp] theorem frameOf_setMode (s : State) (m : Nat) : frameOf (setMode s m) = frameOf s := by
  simp only [setMode, frameOf_pairRefresh, frameOf_scanQueue, frameOf_followAll, frameOf_retime, apply_ite frameOf, frameOf_muteRadio,
    frameOf_abortOutside, frameOf_dramMode, hides_frameOf (k := O.package_mode) (by decide) _ _, frameOf_serviceRole, ite_self]

theorem frameOf_bootMode (s : State) : frameOf (bootMode s) = frameOf s := by
  unfold bootMode
  split
  · rfl
  · simp only [apply_ite frameOf, frameOf_setMode, hides_frameOf (k := O.q_state) (by decide) _ _, frameOf_setTinker, frameOf_boot, ite_self]

theorem frameOf_startAdmitted (s : State) : frameOf (startAdmitted s) = frameOf s := by
  simp only [startAdmitted, foldl_view_mem frameOf _ (fun e _ t => frameOf_startActivity t e), frameOf_steward]

/-! #### The plans and the air queues -/

theorem frameOf_giveBack (s : State) (i : Nat) (f : AirFrame) : frameOf (giveBack s i f) = frameOf s := by
  simp only [giveBack, returnFrame, setAirQ, apply_ite frameOf, frameOf_setMiller, ite_self]

theorem frameOf_giveBackUsers (s : State) (us : List ExUser) : frameOf (giveBackUsers s us) = frameOf s :=
  foldl_view_mem frameOf us (fun u _ t => foldl_view_mem frameOf _ (fun f _ v => frameOf_giveBack v u.station f) t) s

theorem frameOf_skipExchange (s : State) (r : Nat) (e : Exchange) : frameOf (skipExchange s r e) = frameOf s := by
  have hskipped : frameOf (bump (giveBackUsers s e.users) (O.ost_skipped r)) = frameOf s :=
    (hidden_bump (hides_frameOf_sub (by decide) (by decide)) _).trans (frameOf_giveBackUsers s e.users)
  unfold skipExchange
  split
  · exact hskipped
  · exact hskipped

theorem frameOf_endFrame (s : State) (r : Nat) : frameOf (endFrame s r) = frameOf s :=
  (foldl_view_mem frameOf _ (fun e _ t => frameOf_skipExchange t r e) _).trans (frameOf_setPlan s r _)

theorem frameOf_rephase (s : State) (p : Int) : frameOf (rephase s p) = frameOf s :=
  hidden_wrI (hides_frameOf (k := O.frame_phase) (by decide)) _ _

theorem frameOf_synced (s : State) (c : Prop) [Decidable c] : frameOf (if c then wr s O.sync_state 2 else s) = frameOf s := by
  simp only [apply_ite frameOf, hides_frameOf (k := O.sync_state) (by decide) _ _, ite_self]

theorem frameOf_moveStep (s : State) : frameOf (moveStep s) = frameOf s := by
  unfold moveStep
  dsimp only
  split
  · rfl
  · split
    · rfl
    · exact (frameOf_synced _ _).trans (frameOf_rephase _ _)

theorem frameOf_mirror (s : State) (x : MirrorRec) : frameOf (mirror s x) = frameOf s := by
  unfold mirror
  split
  · exact (frameOf_varlanSend _ _ _).trans (hidden_bump (hides_frameOf (k := O.mirror_records) (by decide)) _)
  · rfl

theorem frameOf_mirrorBoard (s : State) (i tid : Nat) : frameOf (mirrorBoard s i tid) = frameOf s := frameOf_mirror _ _

theorem frameOf_boundaryMirror (s : State) : frameOf (boundaryMirror s) = frameOf s := by
  unfold boundaryMirror
  split
  · exact foldl_view_mem frameOf _ (fun i _ t => (foldl_view_mem frameOf _ (fun e _ u => frameOf_mirror u _) _).trans
      (foldl_view_mem frameOf _ (fun e _ u => frameOf_mirrorBoard u i e.1) t)) s
  · rfl

theorem frameOf_airWake (s : State) (a : Nat) : frameOf (airWake s a) = frameOf s := by
  simp only [airWake, setAirQ, apply_ite frameOf, hides_frameOf (k := O.aq_active) (by decide) _ _, frameOf_setMiller, ite_self]

/-- The count of frames, from its entry: it starts at 0 (R151). -/
theorem rd_frame_count (s : State) : rd s O.frame_count = (s.regs.look O.frame_count).getD 0 := by rw [rd_eq]; rfl

/-- A state in which no switch is due passes its boundary as it is (R32). -/
theorem boundarySwitch_idle {s : State} (h : s.epoch.earliest = none) : boundarySwitch s = s := by simp [boundarySwitch, h]

/-- The frame is counted and the build of the next plan opens (R151). -/
def openFrame (s : State) : State :=
  bump { s with planClosed := false, ost := { s.ost with began := s.now, beganTb := tbNs s, frameLength := 1000000 },
                move := { s.move with edgeSeen := false } } O.frame_count

/-- The frame opens with its count one higher, up to the register's top (R57, R151). -/
theorem frameOf_openFrame (s : State) :
    frameOf (openFrame s) = (s.epoch, false, some (min (rd s O.frame_count + 1) 0xFFFFFFFFFFFFFFFF)) := by
  have htop : topOf O.frame_count = 0xFFFFFFFFFFFFFFFF := by decide
  simp only [openFrame, bump, bumpBy, frameOf, wr_fields, Tab.look_put_self, htop, satAdd]
  rfl

/-- What a boundary does before the frame opens. -/
def closeFrame (s : State) : State :=
  [0, 1, 2].foldl beginPlan (startAdmitted (bootMode (boundarySwitch ([0, 1, 2].foldl endFrame s))))

/-- What a boundary does once the frame is open. -/
def runFrame (s : State) : State :=
  let t := boundaryMirror (followAll (moveStep s))
  (t.miller.air.map (fun e => e.1)).foldl airWake t

/-- The end of a frame keeps the commit, the plan and the count, where no switch is due. -/
theorem frameOf_closeFrame {s : State} (h : s.epoch.earliest = none) : frameOf (closeFrame s) = frameOf s := by
  have hend : frameOf ([0, 1, 2].foldl endFrame s) = frameOf s := foldl_view_mem frameOf _ (fun r _ t => frameOf_endFrame t r) s
  have hnone : ([0, 1, 2].foldl endFrame s).epoch.earliest = none := (congrArg (fun x => x.1.earliest) hend).trans h
  have hplans : ∀ t, frameOf ([0, 1, 2].foldl beginPlan t) = frameOf t := fun t =>
    foldl_view_mem frameOf _ (fun r _ u => frameOf_setPlan u r _) t
  rw [closeFrame, boundarySwitch_idle hnone, hplans, frameOf_startAdmitted, frameOf_bootMode, hend]

/-- What follows the opening keeps the commit, the plan and the count. -/
theorem frameOf_runFrame (s : State) : frameOf (runFrame s) = frameOf s := by
  have hwake : ∀ (t : State) (l : List Nat), frameOf (l.foldl airWake t) = frameOf t := fun t l =>
    foldl_view_mem frameOf l (fun a _ t => frameOf_airWake t a) t
  simp only [runFrame, hwake, frameOf_boundaryMirror, frameOf_followAll, frameOf_moveStep]

/-- FRAME_BOUNDARY is the end of the frame, the opening of the next and what follows it (R151). -/
theorem exec_frameBoundary {s : State} (hon : hubOn s = true) :
    exec .frameBoundary s = .next (sealed s (runFrame (openFrame (closeFrame s)))) := by
  have hmode : ¬ packageMode s < 4 := by
    simp only [hubOn, Bool.and_eq_true, decide_eq_true_eq] at hon
    exact Nat.not_lt.mpr hon.2
  show execFrameBoundary s = _
  unfold execFrameBoundary
  rw [act_on s _ hon]
  rw [if_neg hmode]
  extract_lets s1 s2 s3 s4 s5 s6
  rw [show closeFrame s = s4 from rfl]
  clear_value s4
  rfl

/-- A register whose entry the effect has left reads it when the effect is sealed. -/
theorem rd_sealed_look (s : State) {t : State} {k v : Nat} (h : t.regs.look k = some v) : rd (sealed s t) k = v :=
  rd_of_look _ _ _ (by simpa only [sealed_fields] using h)

/-! ### What units answer in the apply and the rollback (R33) -/

/-- What the coordinator does with an acknowledgement of an apply (R33). -/
theorem completes_unitApplied {s : State} {h : Nat} {P : State → Prop} (hh : h < 16777216) (hon : hubOn s = true) (hphase : rd s O.epoch_phase = 2)
    (hswitched : s.epoch.switched = true) (hcounts : ackCounts s h = true)
    (hP : let u := setEpoch s { s.epoch with waiting := s.epoch.waiting.filter (fun x => x ≠ h), applied := s.epoch.applied ++ [h] }
      P (sealed s (if u.epoch.waiting = [] ∧ u.epoch.lost = [] then allApplied u else u))) : Completes (.unitApplied h) s P := by
  refine ⟨_, ?_, hP⟩
  show execUnitApplied (BitVec.ofNat 24 h) s = _
  unfold execUnitApplied
  rw [act_on s _ hon]
  dsimp only
  rw [toNat_hid hh, if_neg (by simp [hswitched, hcounts]), if_pos hphase]
  rfl

/-- What the coordinator does with an acknowledgement of a restore (R33). -/
theorem completes_unitRestored {s : State} {h : Nat} {P : State → Prop} (hh : h < 16777216) (hon : hubOn s = true) (hphase : rd s O.epoch_phase = 3)
    (hswitched : s.epoch.switched = true) (hcounts : ackCounts s h = true)
    (hP : P (sealed s (if s.epoch.waiting.filter (fun x => x ≠ h) = [] then rolledBack (dropWaiting s h) else dropWaiting s h))) :
    Completes (.unitRestored h) s P := by
  refine ⟨_, ?_, hP⟩
  show execUnitRestored (BitVec.ofNat 24 h) s = _
  unfold execUnitRestored
  rw [act_on s _ hon]
  dsimp only
  rw [toNat_hid hh, if_neg (by simp [hswitched, hcounts]), if_pos hphase]
  rfl

/-- A commit that ends ROLLED_BACK reads so when its end is sealed (R33). -/
theorem rolledBack_sealed (s t : State) :
    rd (sealed s (rolledBack t)) O.epoch_phase = 0 ∧ rd (sealed s (rolledBack t)) O.epoch_result = Status.rolledBack.code := by
  refine ⟨rd_sealed_look s (by simp [rolledBack, clearEpoch, setEpoch, wr]), rd_sealed_look s ?_⟩
  simp only [rolledBack, clearEpoch, setEpoch, wr]
  rw [Tab.look_put_ne _ _ _ _ (by decide), Tab.look_put_self]

/-- A commit that all units have applied reads so when its end is sealed (R33). -/
theorem allApplied_sealed (s t : State) :
    rd (sealed s (allApplied t)) O.epoch_phase = 0 ∧ rd (sealed s (allApplied t)) O.epoch_result = Status.ok.code := by
  refine ⟨rd_sealed_look s (by simp [allApplied, clearEpoch, setEpoch, wr]), rd_sealed_look s ?_⟩
  simp only [allApplied, clearEpoch, setEpoch, wr]
  rw [Tab.look_put_ne _ _ _ _ (by decide), Tab.look_put_self]

/-- A prepare keeps the phase that the peer is in, and that it takes part. -/
theorem prepareOwn_peer (s : State) :
    (prepareOwn s).epoch.peerPhase = s.epoch.peerPhase ∧ (prepareOwn s).epoch.peerIn = s.epoch.peerIn := by
  obtain ⟨hcommit, -⟩ := prepareOwn_keeps s
  simp only [commitOf, Prod.mk.injEq] at hcommit
  obtain ⟨-, -, hin, -, hphase⟩ := hcommit
  exact ⟨hphase, hin⟩

/-- A message of the coordinator that is heard has its effect (R33). -/
theorem completes_epochMessage {s : State} {v : VHead} {m : EpochMsg} {P : State → Prop} (h : Heard s 1 v)
    (hP : P (sealed s (epochMessage (heardState s 1 v) m))) : Completes (.epochMessageReceived v m) s P :=
  completes_act (show execEpochMessageReceived v m s = _ from rfl) h.1 (by rw [onMessage_heard s 1 v _ h]; exact hP)

/-- Settles O18, clause by clause from what each step of the apply and the rollback does. -/
theorem epochApplyComplete : Obligations.EpochApplyComplete := by
  unfold Obligations.EpochApplyComplete
  refine ⟨fun s h hh hon hphase hswitched hcounts hleft => ?_, fun s h hh hon hphase hswitched hcounts hlast hlost => ?_,
    fun s hon hphase hswitched => ?_, fun s h hh hon hphase hswitched hcounts => ?_, fun s hon hphase hswitched => ?_,
    fun s hon hpeer => ?_, fun s v n hheard hpeer => ?_, fun s v hheard hpeer hidle => ?_, fun s v hheard hpeer => ?_,
    fun s v hheard hpeer => ?_, fun s v n hheard hpeer => ?_, fun s hon hnone => ?_⟩
  · refine completes_unitApplied hh hon hphase hswitched hcounts ?_
    intro u
    rw [if_neg (fun h0 => hleft.elim (fun hw => hw h0.1) (fun hl => hl h0.2))]
    exact ⟨(rd_sealed_of_base rfl _).trans hphase, rfl, rfl⟩
  · refine completes_unitApplied hh hon hphase hswitched hcounts ?_
    intro u
    rw [if_pos ⟨hlast, hlost⟩]
    obtain ⟨hidle, hresult⟩ := allApplied_sealed s u
    exact ⟨hidle, hresult, rfl⟩
  · refine completes_act rfl hon ?_
    simp only [hphase, hswitched, and_self, if_true]
    refine ⟨rd_sealed_look s ?_, ?_, ?_, ?_⟩
    · simp only [apply_ite State.regs, varlanSend_fields, ite_self]
      simp [setEpoch, wr]
    all_goals simp only [sealed_fields, apply_ite State.epoch, varlanSend_fields, ite_self]; rfl
  · refine completes_unitRestored hh hon hphase hswitched hcounts ⟨fun hleft => ?_, fun hlast => ?_⟩
    · rw [if_neg hleft]
      exact ⟨(rd_sealed_of_base rfl _).trans hphase, rfl⟩
    · rw [if_pos hlast]
      exact rolledBack_sealed s _
  · refine completes_act rfl hon ?_
    simp only [hphase, hswitched, and_self, if_true]
    exact rolledBack_sealed s _
  · refine completes_act (show execPeerDoneTimeout s = _ from rfl) hon ?_
    simp only [if_neg hpeer]
    exact ⟨rfl, rd_sealed_look s (by simp [clearEpoch, setEpoch, wr])⟩
  · refine completes_epochMessage hheard ?_
    have hpeer' : (heardState s 1 v).epoch.peerPhase = 1 := hpeer
    simp only [epochMessage, if_pos hpeer']
    exact ⟨rfl, rfl, rfl⟩
  · refine completes_epochMessage hheard ?_
    have hpeer' : ¬ ((heardState s 1 v).epoch.peerPhase ≠ 0 ∨ rd (heardState s 1 v) O.epoch_phase ≠ 0) := by simp [hpeer, hidle]
    simp only [epochMessage, if_neg hpeer']
    simp only [sealed_fields, prepareOwn_peer]
    exact ⟨rfl, rfl⟩
  · refine completes_epochMessage hheard ?_
    have hpeer' : (heardState s 1 v).epoch.peerPhase = 1 := hpeer
    simp only [epochMessage, if_pos hpeer']
    rfl
  · refine completes_epochMessage hheard ?_
    have hpeer' : (heardState s 1 v).epoch.peerPhase = 3 := hpeer
    simp only [epochMessage, if_pos hpeer']
    rfl
  · refine completes_epochMessage hheard ?_
    have hpeer' : (heardState s 1 v).epoch.peerPhase = 3 := hpeer
    simp only [epochMessage, if_pos hpeer']
    exact ⟨rfl, rfl⟩
  · refine ⟨_, exec_frameBoundary hon, ?_⟩
    have hclose := frameOf_closeFrame hnone
    have hrun := frameOf_runFrame (openFrame (closeFrame s))
    have hcount : rd (closeFrame s) O.frame_count = rd s O.frame_count := by
      rw [rd_frame_count, rd_frame_count]
      exact congrArg (fun x => x.2.2.getD 0) hclose
    rw [frameOf_openFrame, hcount] at hrun
    simp only [frameOf, Prod.mk.injEq] at hrun
    obtain ⟨-, hopen, hlook⟩ := hrun
    exact ⟨by simpa only [sealed_fields] using hopen, rd_sealed_look s hlook⟩

end Sys2Proof.Machine
end

section
/-! DORMANT, the wake and the resets (O15). -/

namespace Sys2Proof.Machine

/-! ### A key slot zeroed keeps the mode (R450) -/

theorem ModeKept.ite {s t u : State} {c : Prop} [Decidable c] (ht : ModeKept s t) (hu : ModeKept s u) : ModeKept s (if c then t else u) := by
  split
  · exact ht
  · exact hu

/-- A register whose sub-index is not that of `package_mode`. -/
theorem modeKept_wr_sub (s : State) {i j : Nat} (v : Nat) (hj : j < 256) (hne : j ≠ 3) : ModeKept s (wr s (objKey i j) v) :=
  modeKept_wr s _ v fun h => by simp only [O.package_mode, objKey] at h; omega

theorem modeKept_setHq (s : State) (q : Nat) (x : HostQueue) : ModeKept s (setHq s q x) := .fields rfl rfl rfl rfl

theorem modeKept_setMiller (s : State) (x : Miller) : ModeKept s (setMiller s x) := .fields rfl rfl rfl rfl

theorem modeKept_countResult (s : State) (q : Nat) (w : WriteBack) : ModeKept s (countResult s q w) :=
  ModeKept.ite ((modeKept_wr_sub s _ (by decide) (by decide)).trans (modeKept_wr_sub _ _ (by decide) (by decide)))
    (.ite (modeKept_wr_sub s _ (by decide) (by decide)) (.ite (modeKept_wr_sub s _ (by decide) (by decide))
      (.ite (modeKept_wr_sub s _ (by decide) (by decide)) (.refl s))))

theorem modeKept_signalQueue (s : State) (q : Nat) : ModeKept s (signalQueue s q) :=
  ModeKept.ite ((modeKept_setHq s q _).trans (modeKept_send _ _)) (modeKept_setHq s q _)

theorem modeKept_writeBackNow (s : State) (q : Nat) (w : WriteBack) : ModeKept s (writeBackNow s q w) :=
  (((modeKept_send s _).trans (modeKept_setHq _ q _)).trans (modeKept_countResult _ q w)).trans (modeKept_signalQueue _ q)

theorem modeKept_flushHeld (s : State) (q : Nat) (l : List (Nat × WriteBack × Bool)) : ModeKept s (flushHeld s q l) := by
  induction l generalizing s with
  | nil => exact modeKept_setHq s q _
  | cons e l ih => exact ModeKept.ite (modeKept_setHq s q _) ((modeKept_writeBackNow s q e.2.1).trans (ih _))

theorem modeKept_stampDescriptor (s : State) (q n : Nat) (left : Option Nat) : ModeKept s (stampDescriptor s q n left) :=
  modeKept_flushHeld s q _

theorem modeKept_freeBuf (s : State) (b : Nat) (x : Buf) : ModeKept s (freeBuf s b x) := by
  unfold freeBuf
  extract_lets _ s1 s2 s3
  have hcells : ModeKept s s1 := (modeKept_setMiller s _).trans (modeKept_wr_sub _ _ (by decide) (by decide))
  have hspilled : ModeKept s1 s2 := .ite (.refl _) (modeKept_wr _ O.overflow_used _ (by decide))
  have hheld : ModeKept s2 s3 := .ite (modeKept_wr _ O.reorder_pool_used _ (by decide)) (.refl _)
  have hgone := (hcells.trans hspilled).trans hheld
  split
  · exact hgone.trans (modeKept_stampDescriptor _ _ _ none)
  · exact hgone

theorem modeKept_dropLeg (s : State) (b : Nat) : ModeKept s (dropLeg s b) := by
  unfold dropLeg
  split
  · exact .ite (modeKept_freeBuf s b _) (modeKept_setMiller s _)
  · exact .refl s

theorem modeKept_dropFrames (s : State) (sta : Nat → Bool) (goes : AirFrame → Bool) : ModeKept s (dropFrames s sta goes).2 :=
  (ModeKept.fields rfl rfl rfl rfl).trans (ModeKept.foldl _ (fun t (f : AirFrame) => modeKept_dropLeg t f.buf) _ _)

/-- A windowed register of a slot cleared leaves the mode, whose key is not windowed. -/
theorem modeKept_del (s : State) (i k : Nat) (hk : k < 16777216) (hne : k ≠ O.package_mode) :
    ModeKept s { s with regs := s.regs.del (winKey i k) } := by
  have hkey : O.package_mode ≠ winKey i k := by
    simp only [O.package_mode, objKey, winKey] at hne ⊢
    omega
  exact ⟨rfl, rfl, rfl, rd_congr s _ _ (by simp [Tab.look_del, hkey]) rfl rfl rfl⟩

theorem modeKept_slotZero (s : State) (k : Nat) : ModeKept s (slotZero s k) := by
  have hcleared : ∀ (l : List Nat) (t : State), (∀ x ∈ l, x < 16777216 ∧ x ≠ O.package_mode) →
      ModeKept t (l.foldl (fun t x => { t with regs := t.regs.del (winKey k x) }) t) := by
    intro l
    induction l with
    | nil => exact fun t _ => .refl t
    | cons x l ih =>
      intro t hl
      obtain ⟨hx, hne⟩ := hl x (by simp)
      exact (modeKept_del t k x hx hne).trans (ih _ fun y hy => hl y (by simp [hy]))
  have hcounted : ∀ t, ModeKept t (countSlots t) := fun t =>
    (modeKept_wr t O.slots_in_use _ (by decide)).trans (modeKept_wr _ O.exhausted_slots _ (by decide))
  unfold slotZero
  extract_lets r s1 _ s2
  have hdropped : ModeKept s s1 := (modeKept_dropFrames s _ _).trans (modeKept_bumpBy _ O.no_key_drop _ (by decide))
  have hslot : ModeKept s1 s2 := .fields rfl rfl rfl rfl
  exact ((hdropped.trans hslot).trans (hcleared _ _ (by decide))).trans (hcounted _)

theorem modeKept_latchPads (s : State) (groups : List Nat) : ModeKept s (latchPads s groups) :=
  ModeKept.foldl _ (fun t _ => (modeKept_wr t O.pad_latched _ (by decide)).trans (modeKept_bump _ O.pad_latch_events (by decide))) _ s

/-! ### Entry into DORMANT (R449, R450) -/

/-- The pads latched leave every register but their two. -/
theorem rd_latchPads (s : State) (groups : List Nat) {k : Nat} (hk : k ∉ [O.pad_latched, O.pad_latch_events]) :
    rd (latchPads s groups) k = rd s k := by
  have hh := hidesAll_rd hk
  exact foldl_view_mem (fun t => rd t k) _ (fun g _ t => (hidden_bump (hh O.pad_latch_events (by simp)) _).trans
    (hh O.pad_latched (by simp) t _)) s

/-- Up to the latching of the pads, the entry has left the package in DORMANT, with the DORMANT record kept. -/
theorem dormantEntry_eq (s : State) :
    ∃ u, dormantEntry s = latchPads (wr u O.ref_state 0) [0, 1, 2, 3, 4] ∧ packageMode u = 3 ∧ u.power.record.isSome = true ∧ base u = base s := by
  refine ⟨_, rfl, ?_⟩
  obtain ⟨hmode, hfuse, -, hsystem⟩ := setMode_mode { sealBanks (wr s O.wake_cause 0) with
    power := { (sealBanks (wr s O.wake_cause 0)).power with entryStep := 5, wakePending := 0, enteredAt := s.now, latchedPins := pinLevels s } } 3
  generalize setMode _ 3 = v at *
  have hzero : ModeKept v ((slotsInUse v).foldl slotZero v) := ModeKept.foldl _ modeKept_slotZero _ v
  have hrecorded : ∀ t : State, ModeKept t (recordTime (send t (.ppsOut false))) := fun _ => .fields rfl rfl rfl rfl
  obtain ⟨hfuse', -, hsystem', hmode'⟩ := hzero.trans (hrecorded _)
  exact ⟨hmode'.trans hmode, rfl, Prod.ext (hfuse'.trans hfuse) (hsystem'.trans hsystem)⟩

/-- The entry leaves the package in DORMANT with the reference stopped and the DORMANT record kept. -/
theorem dormantEntry_enters (s : State) :
    let t := dormantEntry s
    packageMode t = 3 ∧ rd t O.ref_state = 0 ∧ t.power.record.isSome = true ∧ base t = base s := by
  intro t
  obtain ⟨u, ht, hmode, hrecord, hbase⟩ := dormantEntry_eq s
  obtain ⟨hfuse, -, hsystem, hmode'⟩ := (modeKept_wr u O.ref_state 0 (by decide)).trans (modeKept_latchPads _ [0, 1, 2, 3, 4])
  have hpower : (latchPads (wr u O.ref_state 0) [0, 1, 2, 3, 4]).power = u.power :=
    view_latchPads (view := State.power) (fun _ _ => rfl) _ _
  simp only [t, ht]
  exact ⟨hmode'.trans hmode, (rd_latchPads _ _ (by decide)).trans (rd_wr_self _ _ _), hpower ▸ hrecord,
    (Prod.ext hfuse hsystem : base _ = base u).trans hbase⟩

/-! ### The wake, and the end of a reset (R400, R451, R452, R506) -/

/-- The registers that the start of the hub sets, beside the mode. -/
def hubStartKeys : List Nat :=
  [3, 4, 5, 6, 7, 8].flatMap (fun d => [O.pd_state d, O.pd_cycles d]) ++
  [0, 1, 2, 10, 11, 12].flatMap (fun d => [O.clk_state d, O.clk_rate d]) ++
  [0, 1, 2].flatMap (fun r => [O.synth_locked r, O.radio_state r])

/-- The dies that the start of the hub powers. -/
def startDies (s : State) : List Nat := [3, 4, 5] ++ ([0, 1, 2].filter (fun r => radioFitted s.fuse.part r)).map (fun r => 6 + r)

theorem mem_startDies {s : State} {d : Nat} (h : d ∈ startDies s) : d ∈ [3, 4, 5, 6, 7, 8] := by
  simp only [startDies, List.mem_append, List.mem_map, List.mem_filter] at h
  rcases h with h | ⟨r, ⟨hr, -⟩, rfl⟩
  · exact List.mem_append_left [6, 7, 8] h
  · exact List.mem_append_right [3, 4, 5] (List.mem_map.mpr ⟨r, hr, rfl⟩)

/-- The ledger takes its node and its transports again. -/
def ledgerStart (s : State) : State := setLed s { s.led with node := rd s O.ledger_node, enabled := rd s O.transports }

/-- What the wake starts the hub from. -/
def wakeStart (s : State) (banksOk : Nat) : State :=
  let kept := (bankList s).filter (fun b => (s.power.banks.getD b {}).sealed && bit banksOk b)
  let s1 := wr (wr s O.v12_state 2) O.ref_state 1
  wr { s1 with
    boot := { perst := s.boot.perst, straps := s.boot.straps, wake := true, banksOk := kept.foldl setBit 0 },
    power := { s1.power with wakePending := 0, entryStep := 0, wokeAt := s.now } }
    O.last_dormant_s (min 0xFFFFFFFF ((s.now - s.power.enteredAt) / 1000000000))

/-- The registers that the wake sets once the hub has started in IDLE. -/
def wakeKeys : List Nat :=
  hubStartKeys ++ [O.tb_state, O.tb_valid, O.retain_status, O.retain_failures, O.msgs_dropped, O.claim_conflicts]

section

variable {α : Type} {view : State → α}
  (htb : ∀ s x, view { s with tb := x } = view s)
  (hclaims : ∀ s x, view { s with claims := x } = view s)
  (hled : ∀ s x, view { s with led := x } = view s)
  (htinker : ∀ s x, view { s with tinker := x } = view s)
  (hpower : ∀ s x, view { s with power := x } = view s)
  (hradios : ∀ s x, view { s with radios := x } = view s)
  (htwin : ∀ s x, view { s with twin := x } = view s)
  (htime : ∀ s x, view { s with time := x } = view s)

include hradios in
/-- The hub starts in IDLE (R451). -/
theorem hidden_hubStart (hk : HidesAll view hubStartKeys) (s : State) : view (hubStart s) = view (wr s O.package_mode 4) := by
  have hmem : ∀ {l : List Nat} {f : Nat → List Nat}, (∀ d ∈ l, ∀ j ∈ f d, j ∈ hubStartKeys) → ∀ d ∈ l, HidesAll view (f d) :=
    fun hsub d hd j hj => hk j (hsub d hd j hj)
  have hpowered : ∀ t, view ((startDies s).foldl (fun t d => setPower t d 2) t) = view t := fun t =>
    foldl_view_mem view _ (fun d hd t => by
      have hd' := hmem (l := [3, 4, 5, 6, 7, 8]) (f := fun d => [O.pd_state d, O.pd_cycles d]) (by decide) d (mem_startDies hd)
      exact hidden_setPower (hd' _ (by simp)) (hd' _ (by simp)) t 2) t
  have hclocked : ∀ t, view ([0, 1, 2, 10, 11, 12].foldl (fun t d => setClk t d 1) t) = view t := fun t =>
    foldl_view_mem view _ (fun d hd t => by
      have hd' := hmem (f := fun d => [O.clk_state d, O.clk_rate d]) (by decide) d hd
      exact hidden_setClk (hd' _ (by simp)) (hd' _ (by simp)) t 1) t
  have hfollowed : ∀ r ∈ [0, 1, 2], ∀ t, view (follow t r) = view t := fun r hr t =>
    hidden_follow (fun _ _ => hradios _ _) (hmem (f := fun r => [O.synth_locked r, O.radio_state r]) (by decide) r hr) t
  have hstarted := (hclocked _).trans (hpowered (wr s O.package_mode 4))
  exact (hfollowed 2 (by simp) _).trans ((hfollowed 1 (by simp) _).trans ((hfollowed 0 (by simp) _).trans hstarted))

include htb htime in
theorem hidden_rebuildTime (hk : HidesAll view [O.tb_state, O.tb_valid]) (s : State) : view (rebuildTime s) = view s := by
  unfold rebuildTime
  split
  · exact htb s 0
  · simp only [htime, hk O.tb_valid (by simp) _ _, hk O.tb_state (by simp) _ _, htb]

include hclaims in
theorem hidden_claimFor (hk : Hides view O.claim_conflicts) (s : State) (o r : Nat) : view (claimFor s o r).2 = view s := by
  unfold claimFor
  split
  · exact hclaims s _
  · split
    · rfl
    · exact hidden_bump hk s

include hclaims in
theorem hidden_claimAlive (hk : Hides view O.claim_conflicts) (s : State) : view (claimAlive s) = view s := by
  simp only [claimAlive, apply_ite view, hidden_claimFor hclaims hk, ite_self]

include hclaims hled hradios in
/-- The end of a reset starts the hub in IDLE (R506). -/
theorem hidden_leaveReset (hhub : HidesAll view hubStartKeys) (hconflicts : Hides view O.claim_conflicts) (s : State) :
    ∃ u, (u = s ∨ u = wr s O.ref_state 1) ∧ view (leaveReset s) = view (wr { u with boot := { u.boot with inReset := false } } O.package_mode 4) := by
  refine ⟨if rd s O.ref_state = 0 then wr s O.ref_state 1 else s, ?_, ?_⟩
  · split
    · exact .inr rfl
    · exact .inl rfl
  · unfold leaveReset
    exact (hidden_claimAlive hclaims hconflicts _).trans ((hled _ _).trans (hidden_hubStart hradios hhub _))

include htb hclaims hled htinker hpower hradios htwin htime in
/-- The wake starts the hub in IDLE, and restores what it held (R451, R452). -/
theorem hidden_wake (hk : HidesAll view wakeKeys) (s : State) (banksOk : Nat) :
    view (wake s banksOk) = view (wr (wakeStart s banksOk) O.package_mode 4) := by
  obtain ⟨failed, heq⟩ : ∃ failed : List Nat, wake s banksOk =
      claimAlive ([0, 1, 2].foldl restoreRadio (failed.foldl bankFailed (ledgerStart (rebuildTime (hubStart (wakeStart s banksOk)))))) :=
    ⟨_, rfl⟩
  have hhub : HidesAll view hubStartKeys := hk.of_subset (by simp [wakeKeys])
  have hbank : ∀ t b, view (bankFailed t b) = view t := hidden_bankFailed htinker hpower (hk.of_subset (by simp [wakeKeys]))
  have hledger : ∀ t, view (ledgerStart t) = view t := fun t => hled t _
  rw [heq, hidden_claimAlive hclaims (hk O.claim_conflicts (by simp [wakeKeys])),
    foldl_view_mem view [0, 1, 2] (fun r _ t => view_restoreRadio hradios htwin t r), foldl_view_mem view failed (fun b _ t => hbank t b),
    hledger, hidden_rebuildTime htb htime (hk.of_subset (by simp [wakeKeys])), hidden_hubStart hradios hhub]

end

/-- The boot sequence, the mode and the wake's cause. -/
def startOf (s : State) : Boot × Option Nat × Option Nat := (s.boot, s.regs.look O.package_mode, s.regs.look O.wake_cause)

theorem hidesAll_startOf {keys : List Nat} (hmode : O.package_mode ∉ keys) (hcause : O.wake_cause ∉ keys) : HidesAll startOf keys := by
  intro k hk s v
  have h1 : O.package_mode ≠ k := fun e => hmode (e ▸ hk)
  have h2 : O.wake_cause ≠ k := fun e => hcause (e ▸ hk)
  simp only [startOf, wr_fields, Tab.look_put_ne _ _ _ _ h1, Tab.look_put_ne _ _ _ _ h2]

/-- The wake is in IDLE with BOOT to begin, and keeps its cause (R451). -/
theorem wake_starts (s : State) (cause banksOk : Nat) :
    let t := wake (wr s O.wake_cause cause) banksOk
    t.regs.look O.package_mode = some 4 ∧ t.regs.look O.wake_cause = some cause ∧ t.boot.wake = true ∧ t.boot.step = 0 := by
  intro t
  have hstart : startOf t = startOf (wr (wakeStart (wr s O.wake_cause cause) banksOk) O.package_mode 4) :=
    hidden_wake (fun _ _ => rfl) (fun _ _ => rfl) (fun _ _ => rfl) (fun _ _ => rfl) (fun _ _ => rfl) (fun _ _ => rfl) (fun _ _ => rfl)
      (fun _ _ => rfl) (hidesAll_startOf (by decide) (by decide)) _ banksOk
  refine ⟨(congrArg (fun x => x.2.1) hstart).trans (Tab.look_put_self _ _ _), (congrArg (fun x => x.2.2) hstart).trans ?_,
    congrArg (fun x => x.1.wake) hstart, congrArg (fun x => x.1.step) hstart⟩
  simp only [startOf, wakeStart, wr_fields]
  rw [Tab.look_put_ne _ _ _ _ (by decide), Tab.look_put_ne _ _ _ _ (by decide), Tab.look_put_ne _ _ _ _ (by decide),
    Tab.look_put_ne _ _ _ _ (by decide), Tab.look_put_self]

/-- PORST_N released and a package reset by command leave reset in IDLE (R25, R506). -/
theorem leaveReset_starts (s : State) :
    (leaveReset s).regs.look O.package_mode = some 4 ∧ (leaveReset s).boot = { s.boot with inReset := false } := by
  obtain ⟨u, hu, hstart⟩ := hidden_leaveReset (view := startOf) (fun _ _ => rfl) (fun _ _ => rfl) (fun _ _ => rfl)
    (hidesAll_startOf (by decide) (by decide)) (hidesAll_startOf (keys := [O.claim_conflicts]) (by decide) (by decide) _ (by simp)) s
  have hboot : u.boot = s.boot := by rcases hu with rfl | rfl <;> rfl
  refine ⟨(congrArg (fun x => x.2.1) hstart).trans (Tab.look_put_self _ _ _), (congrArg (fun x => x.1) hstart).trans ?_⟩
  show { u.boot with inReset := false } = _
  rw [hboot]

/-! ### The end of the entry (R450, R506) -/

/-- The registers that the hub unpowered holds beside the held ones. -/
def unpoweredKeys : List Nat := O.v12_state :: dormantKeys

/-- The hub unpowered has started again but for what is held. -/
theorem restarted_unpowered (s : State) : Restarted s (unpowered s) unpoweredKeys := by
  have hkeys : ∀ (l : List Nat) (t : State), (∀ k ∈ l, k ∈ unpoweredKeys) → Restarted s t unpoweredKeys →
      Restarted s (l.foldl (fun u k => wr u k (rd s k)) t) unpoweredKeys := by
    intro l
    induction l with
    | nil => exact fun t _ h => h
    | cons k l ih => exact fun t hl h => ih _ (fun j hj => hl j (by simp [hj])) (h.wr k _ (.inr (hl k (by simp))))
  have h := hkeys dormantKeys _ (fun k hk => List.mem_cons_of_mem _ hk) (restarted_powerOff (restarted_packageReset s unpoweredKeys))
  have hset : ∀ (t : State) (x : Boot) (y : Power), Restarted s t unpoweredKeys → x.straps = t.boot.straps → y.vbak = t.power.vbak →
      Restarted s { t with boot := x, power := y } unpoweredKeys := fun t x y ht hx hy => (ht.boot x hx).power y hy
  refine ((hset _ _ _ h ?_ ?_).wr O.package_mode 3 (.inl (by decide))).wr O.v12_state 0 (.inr (by simp [unpoweredKeys]))
  · rfl
  · rfl

theorem packageMode_unpowered (s : State) : packageMode (unpowered s) = 3 :=
  (rd_wr_ne _ _ _ _ (by decide)).trans (rd_wr_self _ _ _)

end Sys2Proof.Machine
end

section
/-! What leaves the boot sequence as it was: the hand-over of a lead whose package resets (R529). -/

namespace Sys2Proof.Machine

/-! ### Frames and their buffers -/

theorem boot_dropLeg (s : State) (b : Nat) : (dropLeg s b).boot = s.boot := (modeKept_dropLeg s b).2.1

theorem boot_foldl {β : Type} {f : State → β → State} (h : ∀ s b, (f s b).boot = s.boot) (l : List β) (s : State) :
    (l.foldl f s).boot = s.boot := foldl_view_mem State.boot l (fun b _ s => h s b) s

theorem boot_mirror (s : State) (r : MirrorRec) : (mirror s r).boot = s.boot := by
  unfold mirror
  split
  · simp
  · rfl

theorem boot_forgetMpdu (s : State) (m : Nat) : (forgetMpdu s m).boot = s.boot := rfl

theorem boot_dropMpdu (s : State) (m : Nat) : (dropMpdu s m).boot = s.boot := by
  unfold dropMpdu
  split
  · exact (boot_forgetMpdu _ m).trans (boot_dropLeg s _)
  · rfl

theorem boot_holdBuf (s : State) (b : Nat) (h : Bool) : (holdBuf s b h).boot = s.boot := by
  unfold holdBuf
  split
  · simp only [apply_ite State.boot, wr_fields, setMiller_fields, ite_self]
  · rfl

/-! ### Tokens and tasks -/

theorem boot_panicLevel (s : State) (k : Nat) : (panicLevel s k).boot = s.boot := by
  unfold panicLevel
  split <;> simp only [apply_ite State.boot, bump_fields, bumpBy_fields, wr_fields, setDram_fields, ite_self]

theorem boot_ringRequest (s : State) (urgent write : Bool) : (ringRequest s urgent write).boot = s.boot := by
  simp only [ringRequest, dramRequest, panicLevels, boot_panicLevel, setChannel, setDram_fields]

theorem boot_drainCheck (s : State) : (drainCheck s).boot = s.boot := by
  simp only [drainCheck, apply_ite State.boot, wr_fields, ite_self]

theorem boot_cancelToken (s : State) (id : Nat) : (cancelToken s id).boot = s.boot := by
  simp only [cancelToken, boot_drainCheck, boot_foldl boot_dropLeg, setCarter_fields]

theorem boot_ringDrop (s : State) (id : Nat) : (ringDrop s id).boot = s.boot := by
  simp only [ringDrop, cancelWith, apply_ite State.boot, report_fields, setCarter_fields, bump_fields, boot_cancelToken, ite_self]

theorem boot_matchFull (s : State) (f : Frame) : (matchFull s f).boot = s.boot := by
  simp only [matchFull, apply_ite State.boot, report_fields, setCarter_fields, bump_fields, boot_dropLeg, ite_self]

theorem boot_placeTask (s : State) (k : Task) : (placeTask s k).2.boot = s.boot := by
  simp only [placeTask, apply_ite Prod.snd, apply_ite State.boot, boot_ringRequest, bump_fields, setCarter_fields, ite_self]

theorem boot_addLeg (s : State) (b : Nat) : (addLeg s b).boot = s.boot := rfl

theorem boot_placeTasks (s : State) (id buf : Nat) (l : List Task) : (placeTasks s id buf l).boot = s.boot := by
  induction l generalizing s with
  | nil => rfl
  | cons k l ih =>
    have hplaced : (placeTask (if k.leg.isSome then addLeg s buf else s) k).2.boot = s.boot := by
      simp only [boot_placeTask, apply_ite State.boot, boot_addLeg, ite_self]
    unfold placeTasks
    split
    next u heq => rw [heq] at hplaced; exact (ih u).trans hplaced
    next u heq => rw [heq] at hplaced; exact (boot_ringDrop _ _).trans ((boot_dropLeg u _).trans hplaced)

theorem boot_releaseToken (s : State) (t : Token) : (releaseToken s t).boot = s.boot := boot_placeTasks _ _ _ _

theorem boot_tryRelease (s : State) (id : Nat) : (tryRelease s id).boot = s.boot := by
  unfold tryRelease
  split
  · simp only [apply_ite State.boot, boot_releaseToken, ite_self]
  · rfl

theorem boot_allocFixed (s : State) (f : Frame) (q : Nat) : (allocFixed s f q).boot = s.boot := by
  simp only [allocFixed, apply_ite State.boot, boot_matchFull, boot_tryRelease, putToken, bump_fields, wr_fields, setCarter_fields, ite_self]

theorem boot_verdictPass (s : State) (m : Nat) : (verdictPass s m).boot = s.boot := boot_foldl boot_tryRelease _ _

/-! ### Management frames -/

theorem boot_setTwt (s : State) (k : Nat) (t : Option Twt) : (setTwt s k t).boot = s.boot := boot_mirror _ _

theorem boot_outgoing (s : State) (r : Nat) (c : TxContent) : (outgoing s r c).boot = s.boot := by
  simp only [outgoing, apply_ite State.boot, setMac_fields, ite_self]

theorem boot_twtReject (s : State) (r sta flow : Nat) : (twtReject s r sta flow).boot = s.boot := boot_outgoing _ _ _

theorem boot_twtRequest (s : State) (x : Twt) : (twtRequest s x).boot = s.boot := by
  unfold twtRequest
  dsimp only
  split
  · exact boot_twtReject _ _ _ _
  · simp only [twtAccept, twtAlternate, apply_ite State.boot, boot_twtReject, boot_outgoing, boot_setTwt, freeNext_fields, ite_self]

theorem boot_btwtRequest (s : State) (r sta flow j : Nat) : (btwtRequest s r sta flow j).boot = s.boot := by
  simp only [btwtRequest, setMembers, apply_ite State.boot, boot_twtReject, boot_outgoing, wr_fields, setMac_fields, ite_self]

theorem boot_twtTorn (s : State) (sta flow : Nat) : (twtTorn s sta flow).boot = s.boot := by
  unfold twtTorn
  split
  · exact boot_setTwt _ _ _
  · rfl

theorem boot_mirrorAgreement (s : State) (i tid : Nat) : (mirrorAgreement s i tid).boot = s.boot := boot_mirror _ _

theorem boot_simpleAction (s : State) (x : Arrived) : (simpleAction s x).boot = s.boot := by
  unfold simpleAction
  dsimp only
  split
  · exact boot_mirrorAgreement _ _ _
  · split
    · exact boot_btwtRequest _ _ _ _ _
    · simp only [apply_ite State.boot, boot_twtReject, boot_twtRequest, ite_self]
  · exact boot_twtTorn _ _ _
  · rfl
  · rfl

theorem boot_actionOf (s : State) (x : Arrived) : (actionOf s x).1.boot = s.boot := by
  unfold actionOf
  dsimp only
  split
  · exact (boot_outgoing _ _ _).trans (boot_mirrorAgreement _ _ _)
  · split
    · exact boot_mirrorAgreement _ _ _
    · exact boot_mirrorAgreement _ _ _
  · exact boot_simpleAction _ _

theorem boot_toMgmt (s : State) (x : Arrived) (source : Nat) (awaits : Option Nat) : (toMgmt s x source awaits).boot = s.boot :=
  boot_allocFixed _ _ _

theorem boot_releaseProtected (s : State) (m : Nat) (x : Arrived) : (releaseProtected s m x).boot = s.boot := by
  simp only [releaseProtected, toLocksmith, apply_ite State.boot, boot_forgetMpdu, setLock_fields, boot_toMgmt, ite_self]

theorem boot_passManagement (s : State) (m : Nat) (x : Arrived) : (passManagement s m x).1.boot = s.boot := by
  simp only [passManagement, apply_ite Prod.fst, apply_ite State.boot, boot_actionOf, boot_dropMpdu, boot_toMgmt, boot_forgetMpdu, ite_self]

theorem boot_releaseOne (s : State) (m : Nat) : (releaseOne s m).1.boot = s.boot := by
  unfold releaseOne
  split
  · rfl
  next x _ =>
    have hcounted : (countRelease (holdBuf s x.buf false) (x.station.getD 0) x.mpdu.length).boot = s.boot := boot_holdBuf _ _ _
    dsimp only
    split
    · exact (boot_releaseProtected _ _ _).trans hcounted
    · split
      · exact (boot_passManagement _ _ _).trans hcounted
      · split
        · exact (boot_allocFixed _ _ _).trans hcounted
        · exact (boot_dropMpdu _ _).trans hcounted

theorem boot_releaseList (n : Nat) (l : List Nat) (s : State) : (releaseList n l s).boot = s.boot := by
  induction n generalizing l s with
  | zero => rfl
  | succ n ih =>
    cases l with
    | nil => rfl
    | cons m rest => exact (ih _ _).trans (boot_releaseOne s m)

theorem boot_verdictOut (s : State) (m : Nat) : (verdictOut s m).boot = s.boot := by
  unfold verdictOut
  split
  · rfl
  · simp only [releaseAll, apply_ite State.boot, boot_verdictPass, boot_forgetMpdu, boot_releaseList, boot_actionOf, boot_dropMpdu, ite_self]

/-! ### Stations and plans -/

theorem boot_airLeave (s : State) (a : Nat) : (airLeave s a).boot = s.boot := rfl

theorem boot_slotZero (s : State) (k : Nat) : (slotZero s k).boot = s.boot := (modeKept_slotZero s k).2.1

theorem boot_dropFrames (s : State) (sta : Nat → Bool) (goes : AirFrame → Bool) : (dropFrames s sta goes).2.boot = s.boot :=
  (modeKept_dropFrames s sta goes).2.1

theorem boot_orphanSlots (s : State) (kind owner : Nat) : (orphanSlots s kind owner).boot = s.boot := by
  unfold orphanSlots
  refine boot_foldl (fun _ _ => ?_) _ s
  rfl

theorem boot_dropHolds (s : State) (i : Nat) : (dropHolds s i).boot = s.boot := boot_foldl (fun _ _ => boot_dropMpdu _ _) _ s

theorem boot_dropTwt (s : State) (i : Nat) : (dropTwt s i).boot = s.boot := boot_foldl (fun _ _ => boot_setTwt _ _ _) _ s

theorem boot_dropMember (s : State) (i : Nat) : (dropMember s i).boot = s.boot :=
  boot_foldl (fun t _ => by simp only [setMembers, apply_ite State.boot, wr_fields, setMac_fields, ite_self]) _ s

theorem boot_clearQueues (s : State) (i : Nat) : (clearQueues s i).boot = s.boot := by
  unfold clearQueues
  refine boot_foldl (fun _ _ => ?_) _ s
  rfl

theorem boot_clearKeys (s : State) (i : Nat) (l : List Nat) : (clearKeys s i l).boot = s.boot := by
  unfold clearKeys
  refine boot_foldl (fun _ _ => ?_) _ s
  rfl

theorem boot_staRemove (s : State) (i : Nat) : (staRemove s i).boot = s.boot := by
  simp only [staRemove, countStations, apply_ite State.boot, boot_mirror, wr_fields, setMac_fields, boot_clearKeys, boot_clearQueues,
    boot_dropMember, boot_dropTwt, boot_foldl boot_airLeave, boot_dropFrames, boot_dropHolds, boot_orphanSlots, ite_self]

theorem boot_discardStations (s : State) : (discardStations s).boot = s.boot := by
  simp only [discardStations, boot_foldl (fun t k => boot_setTwt t k none), boot_foldl boot_slotZero, boot_foldl boot_staRemove]

theorem boot_giveBack (s : State) (i : Nat) (f : AirFrame) : (giveBack s i f).boot = s.boot := by
  simp only [giveBack, returnFrame, setAirQ, apply_ite State.boot, setMiller_fields, ite_self]

theorem boot_skipExchange (s : State) (r : Nat) (e : Exchange) : (skipExchange s r e).boot = s.boot := by
  have hback : (giveBackUsers s e.users).boot = s.boot := by
    unfold giveBackUsers
    exact boot_foldl (fun t (u : ExUser) => boot_foldl (fun v f => boot_giveBack v u.station f) _ t) _ s
  unfold skipExchange
  split <;> simpa using hback

theorem boot_skipAll (s : State) (r : Nat) (l : List Exchange) : (skipAll s r l).boot = s.boot := by
  unfold skipAll
  exact boot_foldl (fun t e => boot_skipExchange t r e) _ s

theorem boot_emptyPlans (s : State) : (emptyPlans s).boot = s.boot := by
  simp only [emptyPlans, boot_foldl (fun t r => boot_skipAll t r ((radioPlan t r).running ++ (radioPlan t r).closed))]

/-! ### The hand-over (R198) -/

theorem boot_releaseHeld (s : State) : (releaseHeld s).boot = s.boot := boot_foldl boot_verdictOut _ _

theorem boot_twinTo (s : State) (v : Nat) : (twinTo s v).boot = s.boot := by
  have hback : ∀ t, (alignBack t).boot = t.boot := fun t => by
    unfold alignBack
    split
    · simp
    · rfl
  have hpair : ∀ t, (pairRefresh t).boot = t.boot := fun t => (modeKept_pairRefresh t).2.1
  simp only [twinTo, hpair, apply_ite State.boot, hback, wr_fields, ite_self]

/-- A lead that hands its links over keeps its boot sequence. -/
theorem boot_sendHandover (s : State) : (sendHandover s).boot = s.boot := by
  simp only [sendHandover, handOver, boot_twinTo, setTwin_fields, boot_discardStations, boot_emptyPlans, boot_releaseHeld, varlanSend_fields]

end Sys2Proof.Machine
end

section
/-! DORMANT, the wake and the resets, each with its effect (O15). -/

namespace Sys2Proof.Machine

/-- The end of the entry, with no wake pending (R450). -/
theorem exec_dormantEntryDone {s : State} (hmode : packageMode s = 3) (hstep : s.power.entryStep ≠ 0) (hpending : s.power.wakePending = 0) :
    exec .dormantEntryDone s = done s (bump (unpowered s) O.dormant_entries) := by
  show execDormantEntryDone s = _
  unfold execDormantEntryDone
  rw [if_pos ⟨hmode, hstep⟩]
  simp only [if_pos hpending]

/-- An enabled source records its cause; during entry it is held until the end, after it the package wakes (R451). -/
theorem exec_wakeSource {s : State} {i : Nat} (b : Nat) (hmode : packageMode s = 3) (hin : s.power.inputOn = true) (hen : wakeEnabled s i = true) :
    exec (.wakeSource i b) s = done s (
      let s1 := wr s O.wake_cause (setBit (rd s O.wake_cause) i)
      if s.power.entryStep ≠ 0 then setPowerState s1 { s1.power with wakePending := b % 128 * 256 + 1 } else wake s1 b) :=
  congrArg (done s) (if_pos ⟨hmode, hin, hen⟩)

/-- PORST_N low leaves the clock of the reference's domain and the reference running, and the epoch idle (R25). -/
theorem rd_porstReset (s : State) :
    clkState (porstReset s) 13 = 1 ∧ rd (porstReset s) O.ref_state = (if rd s O.ref_state = 0 then 1 else rd s O.ref_state) ∧
      rd (porstReset s) O.epoch_phase = 0 := by
  obtain ⟨u, heq, hu⟩ : ∃ u, porstReset s = setClk (if rd u O.ref_state = 0 then wr u O.ref_state 1 else u) 13 1 ∧
      ∀ k, k ≠ O.v12_state → rd u k = rd (packageReset s) k := by
    refine ⟨_, rfl, fun k hk => ?_⟩
    split
    · exact rd_wr_ne _ _ _ _ hk
    · rfl
  have href : rd u O.ref_state = rd s O.ref_state := (hu _ (by decide)).trans (rd_packageReset_kept s _ (by decide))
  have hphase : rd u O.epoch_phase = 0 := (hu _ (by decide)).trans (rd_packageReset_default s _ (by decide))
  rw [heq]
  refine ⟨clkState_setClk _ _ _, (rd_setClk_ne _ _ _ _ (by decide) (by decide)).trans ?_, (rd_setClk_ne _ _ _ _ (by decide) (by decide)).trans ?_⟩
  · rw [href]
    split
    · exact rd_wr_self _ _ _
    · exact href
  · split
    · exact (rd_wr_ne _ _ _ _ (by decide)).trans hphase
    · exact hphase

/-- With nothing hung, nothing resumes. -/
theorem resumeAll_of_none {s : State} (h : s.led.hung = []) : resumeAll s = s := by simp [resumeAll, h, resumeEnded]

/-- The end of a reset hangs nothing. -/
theorem hung_leaveReset (s : State) : (leaveReset s).led.hung = s.led.hung := by
  have hclaimed : ∀ t, (claimAlive t).led.hung = t.led.hung :=
    hidden_claimAlive (view := fun t => t.led.hung) (fun _ _ => rfl) (fun _ _ => rfl)
  have hhub : ∀ t, (hubStart t).led = t.led := view_hubStart (view := State.led) (fun _ _ => rfl) (fun _ _ => rfl)
  unfold leaveReset
  simp only [hclaimed, setLed_fields, hhub, apply_ite State.led, wr_fields, ite_self]

/-- What a reset of the package by command leaves (R25, R529): the serving state gone, the straps as they were, and nothing hung. -/
theorem leaveReset_packageReset (s u : State) (h : u.boot = s.boot) :
    let t := leaveReset (packageReset u)
    t.boot = { perst := s.boot.perst, straps := s.boot.straps } ∧ t.staged = [] ∧ t.mac = {} ∧ t.led.hung = [] := by
  intro t
  have hkept : ∀ {α : Type} (view : State → α), (∀ s x, view { s with regs := x } = view s) → (∀ s x, view { s with boot := x } = view s) →
      (∀ s x, view { s with claims := x } = view s) → (∀ s x, view { s with led := x } = view s) →
      (∀ s x, view { s with radios := x } = view s) → view t = view (packageReset u) := fun view h1 h2 h3 h4 h5 =>
    view_leaveReset h1 h2 h3 h4 h5 _
  refine ⟨(leaveReset_starts (packageReset u)).2.trans ?_, hkept State.staged (fun _ _ => rfl) (fun _ _ => rfl) (fun _ _ => rfl)
    (fun _ _ => rfl) (fun _ _ => rfl), hkept State.mac (fun _ _ => rfl) (fun _ _ => rfl) (fun _ _ => rfl) (fun _ _ => rfl) (fun _ _ => rfl),
    (hung_leaveReset _).trans rfl⟩
  show ({ perst := u.boot.perst, straps := u.boot.straps } : Boot) = _
  rw [h]

/-- A reset that names this package resets it, once its lead has handed its links over (R25, R198). -/
theorem resetTarget_package {s : State} (hform : hidMalformed (rd s O.reset_target) = false) (hown : hidOwn s (rd s O.reset_target) = true)
    (hdie : hidDie (rd s O.reset_target) = 7) :
    ∃ u : State, u.boot = s.boot ∧ resetTarget s = (.ok, leaveReset (packageReset u)) := by
  refine ⟨if roleMode s = 8 then sendHandover s else s, ?_, ?_⟩
  · simp only [apply_ite State.boot, boot_sendHandover, ite_self]
  · unfold resetTarget
    simp [hform, hown, hdie]

/-- Settles O15, clause by clause from what each step leaves. -/
theorem resetAndDormantComplete : Obligations.ResetAndDormantComplete := by
  unfold Obligations.ResetAndDormantComplete
  refine ⟨fun s hr hcheck => ?_, fun s hmode hstep hpending => ?_, fun s i b hmode hin hen hstep hb => ?_,
    fun s i b hmode hin hen hstep => ?_, fun s hin => ?_, fun s a b c hreset hin hv => ?_, fun s hr hform hown hdie => ?_,
    fun s b hon => ?_, fun s hon hperst hstep => ?_⟩
  · obtain ⟨hmode, href, hrecord, hbase⟩ := dormantEntry_enters s
    refine completes_command rfl hr ?_
    rw [show dormantCmd s = (.ok, dormantEntry s) by simp [dormantCmd, hcheck]]
    exact ⟨by simp only [sealed_fields, commanded_status], (rd_sealed_commanded hbase _ _ _ _).trans hmode,
      (rd_sealed_commanded hbase _ _ _ _).trans href, by simpa only [sealed_fields, commanded_fields] using hrecord⟩
  · have h := restarted_unpowered s
    have hsealed : ∀ k, rd (sealed s (bump (unpowered s) O.dormant_entries)) k = rd (bump (unpowered s) O.dormant_entries) k := fun k =>
      rd_sealed s _ k h.fuse h.system
    refine completes_done (exec_dormantEntryDone hmode hstep hpending) ⟨?_, ?_, ?_, ?_, ?_, ?_⟩
    · exact (hsealed _).trans ((rd_wr_ne _ _ _ _ (by decide)).trans (packageMode_unpowered s))
    · exact (hsealed _).trans ((rd_wr_ne _ _ _ _ (by decide)).trans (rd_wr_self _ _ _))
    · rfl
    · rfl
    · rfl
    · have hcount : rd (unpowered s) O.dormant_entries = rd s O.dormant_entries := by
        obtain ⟨-, -, -, -, -, -, -, -, -, -, hregs⟩ := h.held
        exact (hregs _ (by decide) (by decide)).1
      have htop : topOf O.dormant_entries = 0xFFFFFFFF := by decide
      rw [Counted, hsealed, bump, bumpBy, rd_wr_self, hcount, htop, satAdd]
  · refine completes_done (exec_wakeSource b hmode hin hen) ?_
    simp only [if_pos hstep]
    refine ⟨?_, ?_, ?_⟩
    · exact (rd_sealed_of_base rfl _).trans ((rd_congr (wr s O.wake_cause _) _ _ rfl rfl rfl rfl).trans
        ((rd_wr_ne _ _ _ _ (by decide)).trans hmode))
    · exact rd_sealed_look s (Tab.look_put_self _ _ _)
    · show b % 128 * 256 + 1 = b * 256 + 1
      rw [Nat.mod_eq_of_lt hb]
  · refine completes_done (exec_wakeSource b hmode hin hen) ?_
    obtain ⟨hidle, hcause, hwake, hbegin⟩ := wake_starts s (setBit (rd s O.wake_cause) i) b
    simp only [if_neg (not_not.mpr hstep)]
    exact ⟨rd_sealed_look s hidle, rd_sealed_look s hcause, hwake, hbegin⟩
  · have h := restarted_porstReset s
    obtain ⟨hclk, href, hphase⟩ := rd_porstReset s
    obtain ⟨⟨hstaged, hclaims, -, hmac, -⟩, -, -, -, -, -, hpeer, -⟩ := h.sealed
    refine completes_done (exec_porstAssert s hin) ⟨?_, (h.rd_sealed _).trans hclk, (h.rd_sealed _).trans href, (h.rd_sealed _).trans hphase,
      hclaims, hstaged, ?_, congrArg Mac.stations hmac, hpeer⟩
    · simp [boot_porstReset]
    · simp only [sealed_fields, porstReset, setClk, wr_fields, apply_ite State.tinker, ite_self]
      rfl
  · obtain ⟨hidle, hboot⟩ := leaveReset_starts { s with boot := { s.boot with straps := majority a b c } }
    refine completes_done (congrArg (done s) (if_pos ⟨hreset, hin, hv⟩)) ⟨?_, ?_, rd_sealed_look s hidle⟩
    · exact congrArg Boot.inReset hboot
    · exact congrArg Boot.straps hboot
  · obtain ⟨u, hu, heq⟩ := resetTarget_package hform hown hdie
    obtain ⟨hboot, hstaged, hmac, hhung⟩ := leaveReset_packageReset s u hu
    obtain ⟨hidle, -⟩ := leaveReset_starts (packageReset u)
    refine completes_act (show execResetCmd s = _ from rfl) hr.1 ?_
    rw [command_reaches s _ _ _ hr, heq, resumeAll_of_none (by simpa using hhung)]
    refine ⟨by simp, rd_sealed_look s (by simpa using hidle), ?_⟩
    simp [hboot, hstaged, hmac]
  · refine completes_act (show execPerst b s = _ from rfl) hon ?_
    cases b <;> simp
  · refine completes_act rfl hon ?_
    simp [hperst, hstep]

end Sys2Proof.Machine
end

section
/-! The queue, the outcomes and reset: every command ends in `done` (O1, O3 to O6, O8, O54). -/

namespace Sys2Proof.Machine

/-! ### The outcome of every command (R40, R41, R58) -/

/-- Settles O1: `step` runs the front of the queue. -/
theorem stepRunsFront : Obligations.StepRunsFront := fun _ _ => rfl

/-- A write to BAR0 within its 64 MiB is an effect of the hub die. -/
theorem exec_bar0 {offset : Nat} (size : Nat) (v : Octets) (s : State) (h : offset < 67108864) :
    exec (.ledgerWrite (.bar0 offset size) v) s = act s fun s => bar0Write s offset size v :=
  if_neg (Nat.not_le.mpr h)

/-- A write to BAR0 beyond its 64 MiB faults. -/
theorem exec_bar0_outside {offset : Nat} (size : Nat) (v : Octets) (s : State) (h : 67108864 ≤ offset) :
    exec (.ledgerWrite (.bar0 offset size) v) s = .fault .outsideBar0 :=
  if_pos h

/-- Every command that never stops ends in `done`. -/
theorem exec_done (c : Instr) (s : State) (h : NeverStops c) : ∃ u, exec c s = done s u := by
  cases c with
  | ledgerWrite target value =>
    cases target with
    | object index sub => exact ⟨_, rfl⟩
    | bar0 offset size => exact ⟨_, exec_bar0 size value s h⟩
  | _ => exact ⟨_, rfl⟩

/-- A command that answers a next state is one that never stops. -/
theorem neverStops_of_exec {c : Instr} {s t : State} (h : exec c s = .next t) : NeverStops c := by
  cases c with
  | ledgerWrite target value =>
    cases target with
    | object index sub => trivial
    | bar0 offset size =>
      by_contra hout
      rw [exec_bar0_outside size value s (Nat.not_lt.mp hout)] at h
      cases h
  | _ => trivial

/-- Whatever command answers a next state, the fuses are as they were (R41). -/
theorem exec_fuse {c : Instr} {s t : State} (h : exec c s = .next t) : t.fuse = s.fuse := by
  obtain ⟨u, hu⟩ := exec_done c s (neverStops_of_exec h)
  rw [hu, done_eq] at h
  cases h
  rfl

/-- Settles O3: every command ends in `done`, which seals the four parts. -/
theorem everyCommandAnswers : Obligations.EveryCommandAnswers := by
  intro c s h
  obtain ⟨u, hu⟩ := exec_done c s h
  exact ⟨sealed s u, hu, rfl, rfl, rfl, rfl⟩

/-- Settles O6: `exec_bar0_outside` beyond BAR0, and an effect of the hub die within it. -/
theorem outsideBar0Faults : Obligations.OutsideBar0Faults := by
  intro s offset size v
  refine ⟨fun h => ?_, exec_bar0_outside size v s⟩
  by_contra hin
  rw [exec_bar0 size v s (Nat.not_le.mp hin)] at h
  cases h

/-! ### A run (log 2) -/

/-- A cycle of the time base keeps the queue and the fuses. -/
theorem idleCycle_keeps (s : State) : (idleCycle s).pending = s.pending ∧ (idleCycle s).fuse = s.fuse := by
  have hcrystal : ∀ u : State, (crystalCycle u).pending = u.pending ∧ (crystalCycle u).fuse = u.fuse := fun u => by
    unfold crystalCycle
    dsimp only
    repeat' split
    all_goals exact ⟨rfl, rfl⟩
  unfold idleCycle
  dsimp only
  split
  · exact hcrystal _
  · exact hcrystal _

/-- Settles O4: a step takes the front command away and adds none, and the front command never stops. -/
theorem runNeverStops : Obligations.RunNeverStops := by
  intro s hinv
  unfold step
  split
  next hempty =>
    obtain ⟨hpending, hfuse⟩ := idleCycle_keeps s
    refine ⟨idleCycle s, rfl, fun c hc => hinv c (hpending ▸ hc), ?_, hfuse⟩
    rw [hpending, hempty]
    rfl
  next c rest hfront =>
    obtain ⟨t, hexec, hpending, hfuse, -, -⟩ :=
      everyCommandAnswers c { s with pending := rest } (hinv c (by simp [hfront]))
    have hrest : t.pending = s.pending.tail := by rw [hpending, hfront]; rfl
    exact ⟨t, hexec, fun d hd => hinv d (List.mem_of_mem_tail (hrest ▸ hd)), hrest, hfuse⟩

/-- Settles O5: the queue after reset is empty. -/
theorem resetMeetsRunInv : Obligations.ResetMeetsRunInv := by
  have hempty : State.reset.pending = [] := rfl
  exact ⟨fun c h => by simp [hempty] at h, hempty⟩

/-! ### Identity and capabilities (R46) -/

/-- An identity or capability object of a number reads what `capabilityValue` gives. -/
theorem readInUnit_capability (s : State) {index sub v : Nat} {row : ObjRow} (hrow : findRow index sub = some row) (hindex : index ≤ 1)
    (hserial : ¬(index = 0 ∧ sub = 4)) (hv : capabilityValue s index sub = some v) :
    (readInUnit s index sub).2.1 = leBytes row.ty.size v := by
  have hoctets : liveOctets s index sub = none := by
    interval_cases index <;> simp_all [liveOctets]
  have hnumber : liveNumber s index sub = some v := by
    rw [← hv]
    interval_cases index <;> simp [liveNumber, liveModule]
  interval_cases index <;> simp [readInUnit, hrow, hoctets, hnumber]

/-- Modules of the same fuses have the same capabilities, and the same identity but for `package_hid` and `strap_word`. -/
theorem capabilityValue_congr {s t : State} (h : t.fuse = s.fuse) {index sub : Nat} (hsub : index = 0 → sub ≠ 5 ∧ sub ≠ 6) :
    capabilityValue t index sub = capabilityValue s index sub := by
  unfold capabilityValue
  rw [h]
  by_cases hi : index = 0
  · obtain ⟨h5, h6⟩ := hsub hi
    simp [hi, h5, h6]
  · simp [hi]

/-- Every capability object and the three numbers of the identity have a value of their own. -/
theorem capabilityValue_isSome (s : State) :
    (∀ sub ∈ [1, 2, 7], (capabilityValue s 0 sub).isSome = true) ∧
    (∀ sub ∈ [1, 2, 3, 4, 5, 6, 7, 8, 9, 10, 11, 12, 13, 14], (capabilityValue s 1 sub).isSome = true) := by
  simp [capabilityValue]

/-- The same fuses read the same number. -/
theorem readInUnit_fuse {s t : State} (h : t.fuse = s.fuse) {index sub : Nat} (hindex : index ≤ 1) (hsub : index = 0 → sub ∉ [4, 5, 6])
    (hrow : (findRow index sub).isSome = true) (hv : (capabilityValue s index sub).isSome = true) :
    (readInUnit t index sub).2.1 = (readInUnit s index sub).2.1 := by
  obtain ⟨row, hrow⟩ := Option.isSome_iff_exists.mp hrow
  obtain ⟨v, hv⟩ := Option.isSome_iff_exists.mp hv
  have hserial : ¬(index = 0 ∧ sub = 4) := fun e => hsub e.1 (by simp [e.2])
  have ht : capabilityValue t index sub = some v :=
    (capabilityValue_congr h fun e => ⟨fun e5 => hsub e (by simp [e5]), fun e6 => hsub e (by simp [e6])⟩).trans hv
  rw [readInUnit_capability t hrow hindex hserial ht, readInUnit_capability s hrow hindex hserial hv]

/-- Settles O8: what these objects read comes from the fuses, which no command changes. -/
theorem capabilitiesNeverChange : Obligations.CapabilitiesNeverChange := by
  intro c s t hexec
  have hfuse := exec_fuse hexec
  obtain ⟨hidentity, hcapability⟩ := capabilityValue_isSome s
  have hrow0 : ∀ sub ∈ [1, 2, 7], (findRow 0 sub).isSome = true ∧ sub ∉ [4, 5, 6] := by decide
  have hrow1 : ∀ sub ∈ [1, 2, 3, 4, 5, 6, 7, 8, 9, 10, 11, 12, 13, 14], (findRow 1 sub).isSome = true := by decide
  refine ⟨fun sub hsub => ?_, fun sub hsub =>
    readInUnit_fuse hfuse le_rfl (fun e => absurd e (by decide)) (hrow1 sub hsub) (hcapability sub hsub)⟩
  by_cases hserial : sub = 4
  · subst hserial
    exact congrArg Fuses.serial hfuse
  · have hnumber : sub ∈ [1, 2, 7] := by simp_all
    exact readInUnit_fuse hfuse (Nat.zero_le 1) (fun _ => (hrow0 sub hnumber).2) (hrow0 sub hnumber).1 (hidentity sub hnumber)

/-! ### Sub-index 0 of an object (R37) -/

/-- What holds of the rows of either branch holds of the rows of the choice. -/
theorem forall_mem_ite {α : Type} {p : α → Prop} {c : Prop} [Decidable c] {l m : List α} (hl : ∀ r ∈ l, p r) (hm : ∀ r ∈ m, p r) :
    ∀ r ∈ if c then l else m, p r := by
  split
  · exact hl
  · exact hm

/-- No row of the object table defines a sub-index 0. -/
theorem objPage_sub (page : Nat) : ∀ r ∈ objPage page, r.sub ≠ 0 := by
  unfold objPage
  repeat refine forall_mem_ite (by decide) ?_
  decide

/-- No object has a row of sub-index 0. -/
theorem findRow_zero (index : Nat) : findRow index 0 = none := by
  unfold findRow
  refine List.find?_eq_none.mpr fun r hr => ?_
  simp [objPage_sub _ r hr]

/-- Sub-index 0 of an object that is defined and fitted is there. -/
theorem objectAbsent_zero {s : State} {index n : Nat} (hcount : subCount index = some n) (hfit : objFitted s.fuse.part index = true) :
    objectAbsent s index 0 = false := by
  simp [objectAbsent, hcount, hfit, windowAbsent]

/-- Nothing lies above the highest sub-index. -/
theorem objectAbsent_above {s : State} {index n sub : Nat} (hcount : subCount index = some n) (h : n < sub) : objectAbsent s index sub = true := by
  simp [objectAbsent, hcount, h]

/-- Settles O54: the Ledger store's check for absence, and no row of sub-index 0. -/
theorem subIndexesOfAnObject : Obligations.SubIndexesOfAnObject := by
  intro s index n _ hcount hfit
  have hzero := objectAbsent_zero hcount hfit
  have hrow := findRow_zero index
  refine ⟨fun o => ?_, fun hin hcross => ?_, fun sub o hsub _ => ?_⟩
  · simp [writeObject, storeWrite, hzero, hrow]
  · simp [readObject, storeRead, hzero, hrow, hin, hcross, readInUnit, hcount, leBytes]
  · have habove := objectAbsent_above (s := s) hcount hsub
    exact ⟨by simp [writeObject, storeWrite, habove], by simp [readObject, storeRead, habove]⟩

end Sys2Proof.Machine
end

section
/-! The frames of the Ledger's transports, of saves and claims, and of the host's rings (O39). -/

namespace Sys2Proof.Machine

section

variable {α : Type} {view : State → α}
  (hseal : HidesSeal view)
  (hstatus : ∀ s x, view { s with status := x } = view s)
  (hout : ∀ s x, view { s with out := x } = view s)
  (hfree : ∀ s x, view { s with free := x } = view s)
  (hread : ∀ s x, view { s with lastRead := x } = view s)
  (hboot : ∀ s x, view { s with boot := x } = view s)
  (hclaims : ∀ s x, view { s with claims := x } = view s)
  (hled : ∀ s x, view { s with led := x } = view s)
  (hhostq : ∀ s x, view { s with hostq := x } = view s)
  (htinker : ∀ s x, view { s with tinker := x } = view s)
  (htwin : ∀ s x, view { s with twin := x } = view s)
  (htime : ∀ s x, view { s with time := x } = view s)

/-! ### The transports (R54 to R59) -/

include hled in
theorem view_arrive (s : State) (t : Transport) (port vid : Nat) (addr : Octets) (udp : Nat) (b : Octets) :
    view (arrive s t port vid addr udp b) = view s :=
  view_setLed hled s _

include hled in
theorem view_doorbell (s : State) (value : Nat) : view (doorbell s value) = view s := by
  simp only [doorbell, apply_ite view, view_arrive hled, view_setLed hled, ite_self]

include hseal hled in
theorem view_execMbDoorbell (value : BitVec 32) (s t : State) (h : execMbDoorbell value s = .next t) : view t = view s := by
  refine view_act hseal ?_ h
  simp only [apply_ite view, view_doorbell hled, ite_self]

include hseal hled in
theorem view_execSpiRequest (bytes : Octets) (s t : State) (h : execSpiRequest bytes s = .next t) : view t = view s := by
  refine view_act hseal ?_ h
  simp only [apply_ite view, view_arrive hled, view_setLed hled, ite_self]

include hseal hfree hread hled in
theorem view_execSpiResponseRead (clocked : Nat) (s t : State) (h : execSpiResponseRead clocked s = .next t) : view t = view s := by
  refine view_done hseal ?_ h
  simp only [apply_ite view, view_setLed hled, view_freeNext hfree, hread, ite_self]

include hseal hled in
theorem hidden_execMgmtDatagram (port : Fin 8) (vid : Nat) (srcAddr : Octets) (srcPort : Nat) (bytes : Octets)
    (hk : HidesAll view [O.eth_queue_drop]) (s t : State) (h : execMgmtDatagram port vid srcAddr srcPort bytes s = .next t) :
    view t = view s := by
  refine view_act hseal ?_ h
  simp only [apply_ite view, hidden_bump (hk O.eth_queue_drop (by simp)), view_arrive hled, ite_self]

/-! ### Announcements (R475) -/

include htinker in
theorem view_markEntries (s : State) (l : List (Nat × LogEntry)) (f : LogEntry → LogEntry) : view (markEntries s l f) = view s :=
  htinker s _

include hout hled htinker in
theorem view_notifyEth (s : State) : view (notifyEth s) = view s := by
  unfold notifyEth
  dsimp only
  split
  · simp only [apply_ite view, setTinker, htinker, view_markEntries htinker, view_send hout, view_setLed hled, ite_self]
  · rfl

include hout htinker in
theorem view_notifyPcie (s : State) : view (notifyPcie s) = view s := by
  simp only [notifyPcie, apply_ite view, setTinker, htinker, view_markEntries htinker, view_send hout, ite_self]

include hseal hout hled htinker in
theorem view_execNotifySend (s t : State) (h : execNotifySend s = .next t) : view t = view s := by
  refine view_act hseal ?_ h
  simp only [apply_ite view, view_notifyPcie hout htinker, view_notifyEth hout hled htinker, ite_self]

/-! ### Saves (R44, R45) -/

include hled in
theorem hidden_saveBegin (hk : HidesAll view [O.save_busy, O.save_dirty]) (s : State) (op : SaveOp) : view (saveBegin s op).2 = view s := by
  unfold saveBegin
  split
  · rfl
  · simp only [hidden_setFlag (hk O.save_busy (by simp)), hidden_setFlag (hk O.save_dirty (by simp)), view_setLed hled]

section
include hseal hstatus hout hled htwin

theorem hidden_execSave (hk : HidesAll view [O.save_busy, O.save_dirty]) (s t : State) (h : execSave s = .next t) : view t = view s :=
  view_act hseal (view_command hstatus hout hled htwin s _ _ _ (hidden_saveBegin hled hk s _)) h

theorem hidden_execClearSaved (hk : HidesAll view [O.save_busy, O.save_dirty]) (s t : State) (h : execClearSaved s = .next t) :
    view t = view s :=
  view_act hseal (view_command hstatus hout hled htwin s _ _ _ (hidden_saveBegin hled hk s _)) h

end

/-- The registers that the end of a flash operation may set. -/
def saveEndKeys : List Nat := [O.save_busy, O.save_result, O.saved_valid, O.save_generation]

include hled in
theorem hidden_saveEnd (hk : HidesAll view saveEndKeys) (s : State) (result : Status) : view (saveEnd s result) = view s := by
  have hmem : O.save_busy ∈ saveEndKeys ∧ O.save_result ∈ saveEndKeys ∧ O.saved_valid ∈ saveEndKeys ∧ O.save_generation ∈ saveEndKeys := by
    decide
  obtain ⟨hbusy, hresult, hvalid, hgeneration⟩ := hmem
  simp only [saveEnd, showSlots, hidden_setFlag (hk _ hbusy), hk _ hresult, hidden_setFlag (hk _ hvalid), hk _ hgeneration,
    view_setLed hled]

include hseal hled in
theorem hidden_execSaveComplete (hk : HidesAll view saveEndKeys) (s t : State) (h : execSaveComplete s = .next t) : view t = view s := by
  refine view_act hseal ?_ h
  split
  · exact (hidden_saveEnd hled hk _ _).trans (view_setLed hled s _)
  · rfl

include hseal hled in
theorem hidden_execSaveTimeout (hk : HidesAll view saveEndKeys) (s t : State) (h : execSaveTimeout s = .next t) : view t = view s := by
  refine view_act hseal ?_ h
  simp only [apply_ite view, hidden_saveEnd hled hk, ite_self]

/-! ### Claims (R69, R70) -/

include hclaims in
theorem hidden_releaseCmd (hk : Hides view O.claim_conflicts) (s : State) : view (releaseCmd s).2 = view s := by
  unfold releaseCmd
  split
  · rfl
  · simp only [apply_ite Prod.snd, apply_ite view, hclaims, hidden_bump hk, ite_self]

section
include hseal hstatus hout hled hclaims htwin

theorem hidden_execClaim (hk : HidesAll view [O.claim_conflicts]) (s t : State) (h : execClaim s = .next t) : view t = view s :=
  view_act hseal (view_command hstatus hout hled htwin s _ _ _ (hidden_claimFor hclaims (hk _ (by simp)) s _ _)) h

theorem hidden_execRelease (hk : HidesAll view [O.claim_conflicts]) (s t : State) (h : execRelease s = .next t) : view t = view s :=
  view_act hseal (view_command hstatus hout hled htwin s _ _ _ (hidden_releaseCmd hclaims (hk _ (by simp)) s)) h

end

/-! ### The host's rings and PCIe (R58 to R62, R416) -/

include hhostq in
theorem view_setHq (s : State) (q : Nat) (x : HostQueue) : view (setHq s q x) = view s := hhostq s _

include hseal hhostq in
theorem view_execTailWrite (q : Fin 64) (value : Nat) (s t : State) (h : execTailWrite q value s = .next t) : view t = view s := by
  refine view_act hseal ?_ h
  simp only [apply_ite view, view_setHq hhostq, ite_self]

include hseal hstatus hout hled hhostq htwin in
theorem hidden_execQueueEnable (q : Fin 64) (hk : HidesAll view [O.enable q]) (s t : State) (h : execQueueEnable q s = .next t) :
    view t = view s := by
  refine view_act hseal (view_command hstatus hout hled htwin s _ _ _ ?_) h
  simp only [apply_ite Prod.snd, apply_ite view, hk (O.enable q) (by simp), view_setHq hhostq, ite_self]

include hseal hout hhostq in
theorem view_execIrqTimeExpire (q : Fin 64) (s t : State) (h : execIrqTimeExpire q s = .next t) : view t = view s := by
  refine view_act hseal ?_ h
  simp only [apply_ite view, view_send hout, view_setHq hhostq, ite_self]

include hseal hboot in
theorem view_execPcieLinkTrained (s t : State) (h : execPcieLinkTrained s = .next t) : view t = view s := by
  refine view_act hseal ?_ h
  simp only [apply_ite view, hboot, ite_self]

include hseal hread htime in
theorem view_execTsSnapshotRead (wide : Bool) (s t : State) (h : execTsSnapshotRead wide s = .next t) : view t = view s := by
  refine view_act hseal ?_ h
  simp only [apply_ite view, hread, view_setTime htime, ite_self]

end

/-- Settles O39: of each command, the view of its frame hides all that the command sets. -/
theorem ledgerAndHostFrame : Obligations.LedgerAndHostFrame := by
  unfold Obligations.LedgerAndHostFrame
  refine ⟨fun value => ?_, fun bytes => ?_, fun clocked => ?_, fun port vid srcAddr srcPort bytes => ?_, ?_, ?_, ?_, ?_, ?_, ?_, ?_,
    fun q value => ?_, fun q => ?_, fun q => ?_, ?_, fun wide => ?_⟩
  · exact leaves_of_view (fun _ => rfl) (fun _ _ _ => rfl) fun v hseal => view_execMbDoorbell hseal (fun _ _ => rfl) value
  · exact leaves_of_view (fun _ => rfl) (fun _ _ _ => rfl) fun v hseal => view_execSpiRequest hseal (fun _ _ => rfl) bytes
  · exact leaves_of_view (fun _ => rfl) (fun _ _ _ => rfl) fun v hseal =>
      view_execSpiResponseRead hseal (fun _ _ => rfl) (fun _ _ => rfl) (fun _ _ => rfl) clocked
  · exact leaves_only fun v s t hseal hk => hidden_execMgmtDatagram hseal (fun _ _ => rfl) port vid srcAddr srcPort bytes hk s t
  · exact leaves_of_view (fun _ => rfl) (fun _ _ _ => rfl) fun v hseal =>
      view_execNotifySend hseal (fun _ _ => rfl) (fun _ _ => rfl) (fun _ _ => rfl)
  · exact leaves_only fun v s t hseal hk =>
      hidden_execSave hseal (fun _ _ => rfl) (fun _ _ => rfl) (fun _ _ => rfl) (fun _ _ => rfl) hk s t
  · exact leaves_only fun v s t hseal hk =>
      hidden_execClearSaved hseal (fun _ _ => rfl) (fun _ _ => rfl) (fun _ _ => rfl) (fun _ _ => rfl) hk s t
  · exact leaves_only fun v s t hseal hk => hidden_execSaveComplete hseal (fun _ _ => rfl) hk s t
  · exact leaves_only fun v s t hseal hk => hidden_execSaveTimeout hseal (fun _ _ => rfl) hk s t
  · refine leaves_only fun v s t hseal hk => ?_
    exact hidden_execClaim hseal (fun _ _ => rfl) (fun _ _ => rfl) (fun _ _ => rfl) (fun _ _ => rfl) (fun _ _ => rfl) hk s t
  · refine leaves_only fun v s t hseal hk => ?_
    exact hidden_execRelease hseal (fun _ _ => rfl) (fun _ _ => rfl) (fun _ _ => rfl) (fun _ _ => rfl) (fun _ _ => rfl) hk s t
  · exact leaves_of_view (fun _ => rfl) (fun _ _ _ => rfl) fun v hseal => view_execTailWrite hseal (fun _ _ => rfl) q value
  · refine leaves_only fun v s t hseal hk => ?_
    exact hidden_execQueueEnable hseal (fun _ _ => rfl) (fun _ _ => rfl) (fun _ _ => rfl) (fun _ _ => rfl) (fun _ _ => rfl) q hk s t
  · exact leaves_of_view (fun _ => rfl) (fun _ _ _ => rfl) fun v hseal =>
      view_execIrqTimeExpire hseal (fun _ _ => rfl) (fun _ _ => rfl) q
  · exact leaves_of_view (fun _ => rfl) (fun _ _ _ => rfl) fun v hseal => view_execPcieLinkTrained hseal fun _ _ => rfl
  · exact leaves_of_view (fun _ => rfl) (fun _ _ _ => rfl) fun v hseal =>
      view_execTsSnapshotRead hseal (fun _ _ => rfl) (fun _ _ => rfl) wide

end Sys2Proof.Machine
end

section
/-! Saves and claims complete (O20). -/

namespace Sys2Proof.Machine

/-- SAVE and CLEAR start their flash operation where none runs (R44, R45). -/
theorem completes_saveBegin {c : Instr} {s : State} {v : Nat} {op : State → SaveOp}
    (hexec : exec c s = act s fun s => command s O.save_cmd v fun s => saveBegin s (op s)) (hr : Reaches s O.save_cmd)
    (hidle : s.led.saveOp = none) :
    Completes c s fun t => t.status = .deferred ∧ flag t O.save_busy = true ∧ t.led.saveOp = some (op s) := by
  refine completes_command hexec hr ?_
  have hbegin : saveBegin s (op s) =
      (.deferred, setFlag (setFlag (setLed s { s.led with saveOp := some (op s) }) O.save_dirty (saveDirty s)) O.save_busy true) := by
    simp [saveBegin, hidle]
  rw [hbegin]
  exact ⟨by simp, decide_eq_true ((rd_sealed_commanded (by rfl) _ _ _ _).trans (rd_wr_self _ _ _)), by simp [setFlag]⟩

/-- A flash operation ends with its result, and leaves the flash as it is (R45). -/
theorem saveEnd_ends (s u : State) (result : Status) (h : base u = base s) :
    (sealed s (saveEnd u result)).led = { u.led with saveOp := none } ∧ flag (sealed s (saveEnd u result)) O.save_busy = false ∧
      rd (sealed s (saveEnd u result)) O.save_result = result.code := by
  have hrd : ∀ k, rd (sealed s (saveEnd u result)) k = rd (saveEnd u result) k := rd_sealed_of_base h
  refine ⟨rfl, ?_, ?_⟩
  · rw [flag, hrd, saveEnd, setFlag, rd_wr_self]
    rfl
  · rw [hrd, saveEnd, setFlag, rd_wr_ne _ _ _ _ (by decide), rd_wr_self]

/-- SAVE_COMPLETE ends the operation that runs with OK, the flash written. -/
theorem completes_saveComplete {s : State} {op : SaveOp} {P : State → Prop} (hon : hubOn s = true) (hop : s.led.saveOp = some op)
    (h : P (sealed s (saveEnd (setLed s (flashWrite s.led op)) .ok))) : Completes .saveComplete s P :=
  completes_act (show execSaveComplete s = _ from rfl) hon (by simpa only [hop] using h)

/-- Settles O20, from how a flash operation begins and ends and from what a claim does. -/
theorem savesAndClaimsComplete : Obligations.SavesAndClaimsComplete := by
  unfold Obligations.SavesAndClaimsComplete
  refine ⟨fun s hr hidle => ?_, fun s hr hidle => ?_, fun s r b hon hop => ?_, fun s hon hop => ?_, fun s hon hop => ?_,
    fun s hr hfree => ?_, fun s hr howned => ?_⟩
  · exact completes_saveBegin (op := fun s => .save (savedRegs s) (rwsBlobs s)) rfl hr hidle
  · exact completes_saveBegin (op := fun _ => .clear) rfl hr hidle
  · obtain ⟨hled, hbusy, hresult⟩ := saveEnd_ends s (setLed s (flashWrite s.led (.save r b))) .ok rfl
    refine completes_saveComplete hon hop ⟨by rw [hled], hbusy, hresult, ?_⟩
    rw [hled]
    by_cases hslot : slotGen s.led.slot1 < slotGen s.led.slot0 <;> simp [setLed, flashWrite, hslot]
  · obtain ⟨hled, hbusy, hresult⟩ := saveEnd_ends s (setLed s (flashWrite s.led .clear)) .ok rfl
    refine completes_saveComplete hon hop ⟨by rw [hled], hbusy, hresult, ?_, ?_⟩ <;> rw [hled] <;> rfl
  · obtain ⟨hled, hbusy, hresult⟩ := saveEnd_ends s s .timeout rfl
    refine completes_act rfl hon ?_
    rw [if_pos hop]
    refine ⟨by rw [hled], hbusy, hresult, ?_, ?_⟩ <;> rw [hled]
  · refine completes_command rfl hr ?_
    simp [claimCmd, claimFor, hfree]
  · refine completes_command rfl hr ?_
    simp [releaseCmd, howned]

end Sys2Proof.Machine
end

section
/-! Ledger accesses and messages complete (O19). -/

namespace Sys2Proof.Machine

/-! ### A write record that runs alone (R40, R46) -/

/-- A Ledger that serves is past the start of BOOT. -/
theorem bootStep_of_serves {s : State} (h : ledgerServes s = true) : s.boot.step ≠ 0 := by
  have hstep : 1 ≤ s.boot.step := by
    unfold ledgerServes at h
    simp_all
  omega

/-- A HID of this package passes the Ledger store's checks on `fit_query`. -/
theorem storeWrite_fitQuery {s : State} {v : Octets} (hlen : v.length = 3) (hform : hidMalformed (leNat v) = false)
    (hown : hidOwn s (leNat v) = true) : storeWrite s 0x0002 1 v = none := by
  have hcount : subCount 0x0002 = some 2 := by decide
  have hrow : findRow 0x0002 1 = some ⟨0x0002, 1, 0x01, .hid, .rw, .any, 0, .now, false⟩ := by decide
  have hpresent : objectAbsent s 0x0002 1 = false := by
    simp [objectAbsent, hcount, hrow, objFitted, radioOfIndex, windowAbsent]
  have hin : indexInCount s 0x0002 = true := by simp [indexInCount, objInCount, normIndex]
  have hvalue : valueOf .hid v = leNat v := rfl
  have henc : encodingOk s .hid (leNat v) = true := by simp [encodingOk, hform, hown]
  have hfits : lengthOk .hid v = true := by simp [lengthOk, ObjType.size, hlen]
  simp [storeWrite, hpresent, hrow, hvalue, henc, hfits, hin, ownLengthOk, namesAbsent, fusedOut, limitOk, ownRangeOk]

/-- A write of `fit_query` that passed the store sets the register. -/
theorem writeObject_fitQuery {s : State} {v : Octets} (h : storeWrite s 0x0002 1 v = none) :
    writeObject s 0x0002 1 v = .answered .ok [] (wr s O.fit_query (leNat v)) := by
  have hrow : findRow 0x0002 1 = some ⟨0x0002, 1, 0x01, .hid, .rw, .any, 0, .now, false⟩ := by decide
  have hcross : crossing s 0x0002 = .reached := rfl
  have hvalue : keptValue 0x0002 1 (valueOf .hid v) = leNat v := rfl
  have hplain : inSharedSet 0x0002 1 = false := by decide
  have hown : ownRow s 0x0002 1 (leNat v) v = none := by simp [ownRow, moduleRow, sharedRow, ruleWriteOf]
  have hunit : unitWrite s 0x0002 1 (leNat v) v = none := by simp [unitWrite, macsecForced, crossOk, transientRange]
  have hclaims : claimStep s 0x0002 1 (leNat v) = (.ok, s) := by simp [claimStep, claimsOf]
  have hfree : writeBusy s 0x0002 1 (leNat v) = false := by simp [writeBusy, stagingOf, hrow]
  have happly : applyWrite s ⟨0x0002, 1, 0x01, .hid, .rw, .any, 0, .now, false⟩ 0x0002 1 (targetKey s 0x0002 1) (leNat v) v =
      wr s O.fit_query (leNat v) := by
    simp [applyWrite, afterWrite, plainWrite, targetKey, ObjType.isOct]
  simp [writeObject, h, hrow, hcross, writeInUnit, hvalue, hplain, hown, hunit, hclaims, hfree, happly]

/-- With nothing hung, the end of a message puts the node address and the transports in force (R57). -/
theorem messageOver_of_none {s : State} (h : s.led.hung = []) :
    messageOver s = setLed s { s.led with
      node := rd s O.ledger_node, enabled := maskTransports (rd s O.transports) (fusedTransports s.fuse), backupLatch := none } := by
  simp [messageOver, noneHung, h]

/-- A write record that is answered runs to its end where nothing hangs. -/
theorem completes_ledgerWrite {s t : State} {index sub : Nat} {v : Octets} {st : Status} {P : State → Prop} (hon : hubOn s = true)
    (hserves : ledgerServes s = true) (hwrite : writeObject s index sub v = .answered st [] t) (hstep : t.boot.step ≠ 0)
    (hhung : t.led.hung = []) (h : P (sealed s (messageOver (ret t st)))) : Completes (.ledgerWrite (.object index sub) v) s P := by
  have hover : (messageOver (ret t st)).led.hung = [] := by
    rw [messageOver_of_none (s := ret t st) hhung]
    exact hhung
  refine ⟨_, show execLedgerWrite (.object index sub) v s = _ from ?_, h⟩
  simp [execLedgerWrite, act, done_eq, hon, hserves, hwrite, hstep, resumeAll_of_none hover]

/-! ### How messages arrive (R54 to R56, R59) -/

/-- A message queued is one of those that wait. -/
theorem mem_queueArrival (a : Arrival) (l : List Arrival) : a ∈ queueArrival a l := by
  induction l with
  | nil => simp [queueArrival]
  | cons b t ih =>
    unfold queueArrival
    split <;> simp [ih]

/-- A message that arrives waits for the Ledger. -/
theorem arrive_waits (s : State) {t : Transport} {port vid udp : Nat} {addr b : Octets} {p : Arrival → Bool}
    (h : p { transport := t, order := s.led.nextOrder, since := s.now, port := port, vid := vid, srcAddr := addr, srcPort := udp,
             bytes := b } = true) :
    (arrive s t port vid addr udp b).led.arrivals.any p = true :=
  List.any_eq_true.mpr ⟨_, mem_queueArrival _ _, h⟩

/-- A bit just set is set. -/
theorem bit_setBit_self (v i : Nat) : bit (setBit v i) i = true := by
  unfold setBit
  split
  next h => exact h
  next h =>
    have hpos : 0 < 2 ^ i := Nat.two_pow_pos i
    have hdiv : (v + 2 ^ i) / 2 ^ i = v / 2 ^ i + 1 := Nat.add_div_right v hpos
    simp only [bit, hdiv, decide_eq_true_eq] at h ⊢
    omega

/-- A doorbell with a good length takes the mailbox's request (R59). -/
theorem doorbell_takes {s : State} {value : Nat} (hlow : 1 ≤ bits value 10 0) (hhigh : bits value 10 0 ≤ 1280)
    (hpending : bit s.led.mbStatus 0 = false) (hready : bit s.led.mbStatus 1 = false) :
    bit (doorbell s value).led.mbStatus 0 = true ∧
      (doorbell s value).led.arrivals.any (fun a =>
        decide (a.transport = .mailbox ∧ a.order = s.led.nextOrder ∧ a.bytes.length = bits value 10 0)) = true := by
  have htakes : doorbell s value = arrive (setLed s { s.led with mbStatus := setBit s.led.mbStatus 0 }) .mailbox 0 0 [] 0
      ((s.led.mbReq ++ zeros (bits value 10 0 - s.led.mbReq.length)).take (bits value 10 0)) := by
    have hgood : ¬(bits value 10 0 = 0 ∨ 1280 < bits value 10 0) := by omega
    simp [doorbell, hgood, hpending, hready]
  rw [htakes]
  refine ⟨bit_setBit_self _ _, arrive_waits _ ?_⟩
  have hlen : bits value 10 0 ≤ s.led.mbReq.length + (bits value 10 0 - s.led.mbReq.length) := by omega
  simp [zeros, hlen]

/-- A write of the doorbell's word of BAR0 is a doorbell (R58, R59). -/
theorem bar0Write_doorbell {s : State} {v : Octets} (hup : bar0Up s = true) (hlen : v.length = 4) :
    bar0Write s 0 4 v = doorbell s (leNat v) := by
  have hword : slice v 0 4 = v := by simp [slice, List.take_of_length_le, hlen]
  simp [bar0Write, hup, bar0Word, hword]

/-- A read of a ready SPI response gives it (R56). -/
theorem spiBytes_ready {s : State} {n : Nat} (hstate : s.led.spiState = 1) (hlen : s.led.spiResp.length ≤ n) :
    (spiBytes s n).take s.led.spiResp.length = s.led.spiResp := by
  simp [spiBytes, hstate, List.take_take, Nat.min_eq_left hlen]

/-! ### A message of one read record (R49, R52, R53) -/

/-- The read of `part_number` as a record. -/
def partNumberRead : LedgerRecord := { index := 0, sub := 1, op := 1, value := [] }

/-- A number has as many octets as are asked for. -/
theorem length_leBytes (n v : Nat) : (leBytes n v).length = n := by
  induction n generalizing v with
  | zero => rfl
  | succ n ih => simp [leBytes, ih]

/-- A read of `part_number` in the Ledger gives its two octets, and changes nothing. -/
theorem readInUnit_partNumber (s : State) : ∃ v, readInUnit s 0 1 = (.ok, leBytes 2 v, s) := by
  have hrow : findRow 0 1 = some ⟨0x0000, 1, 0x01, .u16, .ro, .any, 0, .now, false⟩ := by decide
  simp [readInUnit, hrow, liveOctets, liveNumber, liveModule, capabilityValue, ObjType.size]

/-- A record that reads `part_number` is answered with it. -/
theorem runRecord_partNumber (s : State) : runRecord s partNumberRead = .answered .ok (readInUnit s 0 1).2.1 s := by
  have hcount : subCount 0 = some 7 := by decide
  have hrow : findRow 0 1 = some ⟨0x0000, 1, 0x01, .u16, .ro, .any, 0, .now, false⟩ := by decide
  have hpresent : objectAbsent s 0 1 = false := by simp [objectAbsent, hcount, hrow, objFitted, radioOfIndex, windowAbsent]
  have hin : indexInCount s 0 = true := by simp [indexInCount, objInCount, normIndex]
  have hstore : storeRead s 0 1 = none := by simp [storeRead, hpresent, hrow, hin]
  have hcross : crossing s 0 = .reached := rfl
  obtain ⟨v, hread⟩ := readInUnit_partNumber s
  simp [runRecord, partNumberRead, readObject, hstore, hcross, hread]

/-- A message of that record ends with its one answer. -/
theorem runRecords_partNumber {s : State} (hstep : s.boot.step ≠ 0) :
    runRecords [partNumberRead] { state := s } =
      { state := ret s .ok, done := recordOctets partNumberRead .ok (readInUnit s 0 1).2.1, count := 1 } := by
  have hmode : ¬(packageMode s = 4 ∧ packageMode s = 3) := by omega
  simp [runRecords, runRecord_partNumber, Ran.push, hmode, hstep]

/-- Its answer is short. -/
theorem length_partNumberAnswer (s : State) : (recordOctets partNumberRead .ok (readInUnit s 0 1).2.1).length ≤ 12 := by
  obtain ⟨v, hread⟩ := readInUnit_partNumber s
  rw [hread]
  simp [recordOctets, partNumberRead, length_leBytes, zeros, alignUp]

/-- What a message on management Ethernet is judged by is left when it is taken from those waiting. -/
theorem discards_authentic_take (s : State) (a : Arrival) (l : List Arrival) :
    discards (setLed s { s.led with arrivals := l }) a = discards s a ∧ authentic (setLed s { s.led with arrivals := l }) a = authentic s a := by
  refine ⟨rfl, ?_⟩
  unfold authentic
  rw [rd_setLed]
  cases a.transport <;> rfl

/-- The state once a message on management Ethernet is accepted: its counter is taken, and it is counted. -/
def acceptedEth (s : State) (a : Arrival) : State :=
  let s1 := bump (setLed s { s.led with eth := replayTake s.led.eth (msgCounter a.bytes) }) O.accepted_eth
  setLed s1 { s1.led with lastPort := some a.port }

/-- Acceptance on management Ethernet. -/
theorem acceptMessage_eth (s : State) {a : Arrival} (h : a.transport = .eth) : acceptMessage s a = acceptedEth s a := by
  simp [acceptMessage, h, acceptedEth, setReplay, replayOf, acceptCounter]

/-- The tag and the node address of a response come from the fuses and the Ledger's own address. -/
theorem sealMessage_congr {s t : State} (hfuse : t.fuse = s.fuse) (hnode : t.led.node = s.led.node) : sealMessage t = sealMessage s := by
  funext kind count status sequence body
  simp [sealMessage, scrivenerKey, hfuse, hnode]

/-- The state once a message on management Ethernet that reads `part_number` is answered, before the Ledger takes the next one. -/
def answeredPartNumber (s : State) (a : Arrival) : State :=
  send (ret (acceptedEth s a) .ok) (.response .eth a.port a.vid a.srcAddr a.srcPort
    (sealMessage s 2 1 0 (msgSequence a.bytes) (recordOctets partNumberRead .ok (readInUnit s 0 1).2.1)))

/-- A message on management Ethernet that passes R52 and whose one record reads `part_number` is answered with that record. -/
theorem runMessage_partNumber {s : State} {a : Arrival} (hstep : s.boot.step ≠ 0) (heth : a.transport = .eth) (hdiscard : discards s a = false)
    (hauth : authentic s a = true) (hrecords : requestRecords a.bytes = some [partNumberRead]) :
    runMessage s a = messageOver (answeredPartNumber s a) := by
  have hrun := runRecords_partNumber (s := acceptedEth s a) hstep
  have hvalue : (readInUnit (acceptedEth s a) 0 1).2.1 = (readInUnit s 0 1).2.1 :=
    readInUnit_fuse rfl (by decide) (by decide) (by decide) rfl
  have hshort : ¬1280 < 32 + (recordOctets partNumberRead .ok (readInUnit s 0 1).2.1).length := by
    have := length_partNumberAnswer s
    omega
  have hseal : sealMessage (ret (acceptedEth s a) .ok) = sealMessage s := sealMessage_congr rfl rfl
  rw [hvalue] at hrun
  simp [runMessage, hdiscard, hauth, hrecords, acceptMessage_eth s heth, hrun, hshort, closeMessage, enterAfter, deliver, heth, hseal,
    answeredPartNumber]

/-- Such a message, the oldest of those that wait, is the one that MESSAGE_RUN runs. -/
theorem execMessageRun_partNumber {s : State} {a : Arrival} (hon : hubOn s = true) (hserves : ledgerServes s = true) (hhung : s.led.hung = [])
    (hfirst : s.led.arrivals.head? = some a) (heth : a.transport = .eth) (hdiscard : discards s a = false) (hauth : authentic s a = true)
    (hrecords : requestRecords a.bytes = some [partNumberRead]) :
    exec .messageRun s = done s (messageOver
      (answeredPartNumber (setLed s { s.led with arrivals := s.led.arrivals.filter (fun b => b.order ≠ a.order) }) a)) := by
  obtain ⟨hd, ha⟩ := discards_authentic_take s a (s.led.arrivals.filter (fun b => b.order ≠ a.order))
  have hnext : nextMessage s = some a := by simp [nextMessage, noneHung, hhung, hfirst]
  have hrun := runMessage_partNumber (s := setLed s { s.led with arrivals := s.led.arrivals.filter (fun b => b.order ≠ a.order) })
    (bootStep_of_serves hserves) heth (hd.trans hdiscard) (ha.trans hauth) hrecords
  have hover : (messageOver (answeredPartNumber
      (setLed s { s.led with arrivals := s.led.arrivals.filter (fun b => b.order ≠ a.order) }) a)).led.hung = [] := by
    rw [messageOver_of_none (by exact hhung)]
    exact hhung
  show execMessageRun s = _
  simp only [execMessageRun, act, hon, hserves, hnext, hrun, resumeAll_of_none hover]
  simp

/-! ### Announcements (R475) -/

/-- With NOTIFY on management Ethernet off, none goes there. -/
theorem notifyEth_off {s : State} (h : bit (rd s O.notify_transports) 0 = false) : notifyEth s = s := by
  unfold notifyEth
  split
  · simp [h]
  · rfl

/-- With MSI-X announcements off, none goes there. -/
theorem notifyPcie_off {s : State} (h : bit (rd s O.notify_transports) 1 = false) : notifyPcie s = s := by
  simp [notifyPcie, h]

/-- A NOTIFY leaves every register. -/
theorem rd_notifyEth (s : State) (k : Nat) : rd (notifyEth s) k = rd s k :=
  view_notifyEth (view := fun s => rd s k) (fun _ _ => rd_congr _ _ k rfl rfl rfl rfl) (fun _ _ => rd_congr _ _ k rfl rfl rfl rfl)
    (fun _ _ => rd_congr _ _ k rfl rfl rfl rfl) s

/-- Settles O19, clause by clause from what each access, message and announcement does. -/
theorem ledgerMessagesComplete : Obligations.LedgerMessagesComplete := by
  unfold Obligations.LedgerMessagesComplete
  refine ⟨fun s v hon hserves hhung hlen hform hown => ?_, fun s v hon hup hlen hlow hhigh hpending hready => ?_,
    fun s v hon hup hlow hhigh hpending hready => ?_, fun s b hon hstep hstate => ?_, fun s n hon hstate hlen => ?_,
    fun s p vid udp a b hon hup hvid hroom => ?_, fun s a hon hserves hhung hfirst heth hdiscard hauth hrecords => ?_,
    fun s hon hserves hup heth hpcie howed hgap => ?_, fun s p hon hserves heth hpcie hport howed hgap => ?_⟩
  · refine completes_ledgerWrite hon hserves (writeObject_fitQuery (storeWrite_fitQuery hlen hform hown)) (bootStep_of_serves (s := s) hserves) hhung ?_
    rw [messageOver_of_none (by exact hhung)]
    exact ⟨rfl, rd_sealed_look s (Tab.look_put_self _ _ _)⟩
  · obtain ⟨hbit, htaken⟩ := doorbell_takes hlow hhigh hpending hready
    refine completes_act (exec_bar0 4 v s (by decide)) hon ?_
    rw [bar0Write_doorbell hup hlen]
    refine ⟨hbit, List.any_eq_true.mpr ?_⟩
    obtain ⟨a, ha, hp⟩ := List.any_eq_true.mp htaken
    exact ⟨a, ha, by simp_all⟩
  · refine completes_act (show execMbDoorbell v s = _ from rfl) hon ?_
    simp only [hup, if_true]
    exact doorbell_takes hlow hhigh hpending hready
  · refine completes_act (show execSpiRequest b s = _ from rfl) hon ?_
    simp only [hstep, hstate, if_false, if_true, decide_true]
    exact ⟨rfl, arrive_waits _ (by simp)⟩
  · refine completes_done (show execSpiResponseRead n s = _ from rfl) ?_
    simp only [hon, hstate, hlen, and_self, if_true]
    exact ⟨rfl, spiBytes_ready hstate hlen⟩
  · refine completes_act (show execMgmtDatagram p vid a udp b s = _ from rfl) hon ?_
    simp only [hup, hvid, Nat.not_le.mpr hroom, ne_eq, not_true_eq_false, or_self, reduceCtorEq, if_false]
    exact arrive_waits _ (by simp)
  · refine completes_done (execMessageRun_partNumber hon hserves hhung hfirst heth hdiscard hauth hrecords) ?_
    have hcounted : rd (acceptedEth (setLed s { s.led with arrivals := s.led.arrivals.filter (fun b => b.order ≠ a.order) }) a) O.accepted_eth =
        min (rd s O.accepted_eth + 1) 0xFFFFFFFF := by
      have htop : topOf O.accepted_eth = 0xFFFFFFFF := by decide
      simp [acceptedEth, htop]
    rw [messageOver_of_none (by exact hhung)]
    refine ⟨?_, rfl, rfl⟩
    rw [Counted, rd_sealed_of_base (by rfl), ← hcounted]
    simp [answeredPartNumber]
  · refine completes_act (show execNotifySend s = _ from rfl) hon ?_
    simp only [hserves, if_true, notifyEth_off heth]
    simp [notifyPcie, hpcie, howed, hup, hgap, markEntries]
  · refine completes_act (show execNotifySend s = _ from rfl) hon ?_
    have hlist : (owedEntries s (fun e => e.eth)).take 8 ≠ [] := by simp [howed]
    have hoff : notifyPcie (notifyEth s) = notifyEth s := notifyPcie_off (by rwa [rd_notifyEth])
    simp only [hserves, if_true, hoff]
    simp [notifyEth, hport, heth, hlist, hgap, markEntries]

end Sys2Proof.Machine
end

section
/-! A forwarded write to a stopped domain (O28 fails). -/

namespace Sys2Proof.Machine

/-- A forwarded write that passes the Ledger store and whose unit's clock does not run changes nothing and is refused with TIMEOUT
(R382, R387). -/
theorem forwardedApply_unreached {s : State} {key : Nat} {o : Octets} (hstore : storeWrite s (key % 16777216 / 256) (key % 256) o = none)
    (hcross : crossing s (key % 16777216 / 256) ≠ .reached) : forwardedApply s key o = (.timeout, s) := by
  unfold forwardedApply
  simp only [hstore]
  split
  next hreached => exact absurd hreached hcross
  next heq => cases heq
  next => rfl

/-- A follower that serves, all lanes up, whose forwarding domain (7) a PLL_UNLOCK has fenced (R387). -/
def fencedFollower : State :=
  { wr (wr (wr State.reset O.package_mode 9) O.varlan_lanes 15) (O.clk_state 7) 2 with
    boot := { State.reset.boot with inReset := false, step := 4 }, led := { State.reset.led with peerKey := some [] } }

/-- A Varlan message that it hears. -/
def fencedHead : VHead := { tagOk := true, boot := 0, count := 1 }

/-- It refuses the lead's write of `fdb_age`. -/
theorem exec_fencedFollower : exec (.forwardedWrite fencedHead O.fdb_age 600 []) fencedFollower =
    .next (sealed fencedFollower (varlanSend (heardState fencedFollower 1 fencedHead) 1 (.forwardAck O.fdb_age false))) := by
  have hheard : Heard fencedFollower 1 fencedHead := by decide
  have hrole : roleMode (heardState fencedFollower 1 fencedHead) = 9 := by decide
  have hstore : storeWrite (heardState fencedFollower 1 fencedHead) (O.fdb_age % 16777216 / 256) (O.fdb_age % 256)
      (valueOctets O.fdb_age 600) = none := by decide
  have hrefused := forwardedApply_unreached hstore (by decide)
  show execForwardedWrite fencedHead O.fdb_age 600 [] fencedFollower = _
  rw [execForwardedWrite, act_on _ _ hheard.1, onMessage_heard _ _ _ _ hheard, if_pos hrole, if_pos rfl, hrefused]
  rfl

/-- Refutes O28: clause 8 asks nothing of the clock of the object's unit. With domain 7 fenced the follower refuses the forwarded write of
`fdb_age` with TIMEOUT, and the register keeps its default of 300. -/
theorem not_joinAndTakeoverComplete : ¬ Obligations.JoinAndTakeoverComplete := by
  unfold Obligations.JoinAndTakeoverComplete
  rintro ⟨-, -, -, -, -, -, -, hforward, -⟩
  have hstore : storeWrite fencedFollower 0x5810 6 (leBytes 2 600) = none := by decide
  obtain ⟨t, hexec, hvalue, -⟩ :=
    hforward fencedFollower fencedHead 600 (by decide) (by decide) (by decide) (by decide) hstore (by decide)
  rw [exec_fencedFollower] at hexec
  cases hexec
  rw [rd_sealed_of_base (by rfl), rd_varlanSend, rd_heardState] at hvalue
  exact absurd hvalue (by decide)

end Sys2Proof.Machine
end

section
/-! The results of transmit commands reach their units (R85, R138, R173): what leaves alone the parts that no result sets. -/

namespace Sys2Proof.Machine

section

variable {α : Type} {view : State → α}
  (hregs : ∀ s x, view { s with regs := x } = view s)
  (hout : ∀ s x, view { s with out := x } = view s)
  (hhostq : ∀ s x, view { s with hostq := x } = view s)
  (htinker : ∀ s x, view { s with tinker := x } = view s)
  (hradios : ∀ s x, view { s with radios := x } = view s)
  (hmac : ∀ s x, view { s with mac := x } = view s)
  (hostler : ∀ s x, view { s with ost := x } = view s)
  (hmiller : ∀ s x, view { s with miller := x } = view s)

include hmac in
theorem view_setMac (s : State) (x : Mac) : view (setMac s x) = view s := hmac s x

include hmiller in
theorem view_setMiller (s : State) (x : Miller) : view (setMiller s x) = view s := hmiller s x

include hostler in
theorem view_setPlan (s : State) (r : Nat) (p : RadioPlan) : view (setPlan s r p) = view s := hostler s _

/-! ### Buffers and the descriptors that wait for them (R62, R319, R403) -/

section
include hregs hout hhostq

theorem view_writeBackNow (s : State) (q : Nat) (w : WriteBack) : view (writeBackNow s q w) = view s := by
  have hcount : ∀ t, view (countResult t q w) = view t := fun t => by
    simp only [countResult, apply_ite view, view_bumpBy hregs, view_bump hregs, ite_self]
  have hsignal : ∀ t, view (signalQueue t q) = view t := fun t => by
    simp only [signalQueue, apply_ite view, view_send hout, view_setHq hhostq, ite_self]
  simp only [writeBackNow, hsignal, hcount, view_setHq hhostq, view_send hout]

theorem view_flushHeld (s : State) (q : Nat) (l : List (Nat × WriteBack × Bool)) : view (flushHeld s q l) = view s := by
  induction l generalizing s with
  | nil => exact view_setHq hhostq s q _
  | cons e l ih =>
    simp only [flushHeld, apply_ite view, view_setHq hhostq, ih, view_writeBackNow hregs hout hhostq, ite_self]

include hmiller

theorem view_freeBuf (s : State) (b : Nat) (x : Buf) : view (freeBuf s b x) = view s := by
  unfold freeBuf
  extract_lets _ s1 s2 s3
  have hgone : view s3 = view s := by
    simp only [s3, s2, s1, giveCells, apply_ite view, view_wr hregs, view_setMiller hmiller, ite_self]
  split
  · exact (view_flushHeld hregs hout hhostq _ _ _).trans hgone
  · exact hgone

theorem view_dropLeg (s : State) (b : Nat) : view (dropLeg s b) = view s := by
  unfold dropLeg
  split
  · simp only [apply_ite view, view_freeBuf hregs hout hhostq hmiller, view_setMiller hmiller, ite_self]
  · rfl

end

/-! ### Frames that go back, and what is skipped (R171, R173) -/

section
include hmiller

theorem view_giveBack (s : State) (sta : Nat) (f : AirFrame) : view (giveBack s sta f) = view s := by
  simp only [giveBack, returnFrame, setAirQ, apply_ite view, view_setMiller hmiller, ite_self]

theorem view_giveBackUsers (s : State) (us : List ExUser) : view (giveBackUsers s us) = view s :=
  view_foldl (fun t _ => view_foldl (fun v _ => view_giveBack hmiller v _ _) _ t) _ s

include hmac

include hregs in
theorem view_skipAll (s : State) (r : Nat) (l : List Exchange) : view (skipAll s r l) = view s := by
  refine view_foldl (fun t e => ?_) l s
  have hback : view (bump (giveBackUsers t e.users) (O.ost_skipped r)) = view t :=
    (view_bump hregs _ _).trans (view_giveBackUsers hmiller t _)
  unfold skipExchange
  dsimp only
  split
  · exact (view_setMac hmac _ _).trans hback
  · exact hback

include hostler

theorem view_unsend (s : State) (r tag : Nat) : view (unsend s r tag) = view s := by
  have hback : ∀ (l : List Unacked) (t : State),
      view (l.foldl (fun t u => giveBack t u.station { u.frame with sends := u.frame.sends - 1 }) t) = view t :=
    fun l t => view_foldl (fun t _ => view_giveBack hmiller t _ _) l t
  unfold unsend
  dsimp only
  split
  · rw [view_setMac hmac, view_setPlan hostler, hback, hostler]
  · rw [view_setPlan hostler, hback, hostler]

include hregs hradios

theorem view_skipTxop (s : State) (r : Nat) : view (skipTxop s r) = view s := by
  have hunsent : ∀ (l : List TxCmd) (t : State),
      view (l.foldl (fun t c => bump (unsend t r c.tag) (O.ost_skipped r)) t) = view t :=
    fun l t => view_foldl (fun t _ => (view_bump hregs _ _).trans (view_unsend hmac hostler hmiller t r _)) l t
  simp only [skipTxop, view_skipAll hregs hmac hmiller, view_setPlan hostler, hunsent, view_setRadio hradios]

theorem view_skipFrame (s : State) (r : Nat) : view (skipFrame s r) = view s := by
  simp only [skipFrame, view_skipAll hregs hmac hmiller, view_setPlan hostler,
    view_skipTxop hregs hradios hmac hostler hmiller]

end

/-! ### What a PPDU that was sent does (R85, R128, R226) -/

include hregs in
theorem view_countKind (s : State) (r : Nat) (k : ExKind) : view (countKind s r k) = view s := by
  cases k <;> simp only [countKind, view_bump hregs]

include hregs in
theorem view_countEncrypted (s : State) (tag : Nat) : view (countEncrypted s tag) = view s := by
  refine view_foldl (fun t u => ?_) _ s
  split
  · simp only [apply_ite view, view_bump hregs, ite_self]
  · rfl

include hmac in
theorem view_barsSent (s : State) (l : List (Nat × Nat × Nat)) : view (barsSent s l) = view s :=
  view_foldl (fun t b => by simp only [setStation, apply_ite view, view_setMac hmac, ite_self]) l s

include hregs hmac hostler in
theorem view_contentSent (s : State) (r : Nat) (c : TxContent) : view (contentSent s r c) = view s := by
  unfold contentSent
  split
  · exact view_bump hregs s _
  · exact view_bump hregs s _
  · exact hostler s _
  · exact hostler s _
  next bars paired =>
    cases paired
    · exact view_barsSent hmac s bars
    · exact (view_bump hregs _ _).trans (view_barsSent hmac s bars)
  · rfl

include hregs hout hhostq hmiller hostler in
theorem view_groupSent (s : State) (tag : Nat) : view (groupSent s tag) = view s :=
  (view_foldl (fun t _ => view_dropLeg hregs hout hhostq hmiller t _) _ _).trans (hostler s _)

/-! ### The units' reactions (R138, R173) -/

include hregs htinker hmac in
theorem view_beaconResult (s : State) (r : Nat) (sent : Bool) : view (beaconResult s r sent) = view s := by
  simp only [beaconResult, apply_ite view, view_report hregs htinker, view_setMac hmac, view_bump hregs, ite_self]

include hregs hout hhostq htinker hradios hmac hostler hmiller in
theorem view_ostlerResult (s : State) (r : Nat) (c : TxCmd) (res : TxResult) : view (ostlerResult s r c res) = view s := by
  have hunsend : ∀ t tag, view (unsend t r tag) = view t := fun t tag => view_unsend hmac hostler hmiller t r tag
  have hframe : ∀ t, view (skipFrame t r) = view t := fun t => view_skipFrame hregs hradios hmac hostler hmiller t r
  cases res
  case sent =>
    have hcounted : view (bumpBy (countEncrypted s c.tag) (O.airtime_sent r) (c.duration / 1000)) = view s :=
      (view_bumpBy hregs _ _ _).trans (view_countEncrypted hregs s _)
    simp only [ostlerResult, view_setPlan hostler, view_groupSent hregs hout hhostq hostler hmiller,
      view_contentSent hregs hmac hostler]
    split
    · exact (view_countKind hregs _ _ _).trans hcounted
    · exact hcounted
  case busy =>
    simp only [ostlerResult, view_bump hregs, view_skipTxop hregs hradios hmac hostler hmiller, hunsend]
  case regBlocked | noGrant => simp only [ostlerResult, view_report hregs htinker, view_bump hregs, hframe, hunsend]
  case late => exact (view_bump hregs _ _).trans (hunsend s _)
  case synthNotReady | muted | dutyLimit => simp only [ostlerResult, view_bump hregs, hframe, hunsend]

end

end Sys2Proof.Machine
end

section
/-! The radio sequencer and its transmit commands complete (O22). -/

namespace Sys2Proof.Machine

/-! ### A radio's own state and its `radio_state` (R78) -/

@[simp] theorem radio_setRadio_self (s : State) (r : Nat) (x : Radio) : radio (setRadio s r x) r = x := Tab.getD_put_self _ _ _ _

@[simp] theorem radio_wr (s : State) (k v r : Nat) : radio (wr s k v) r = radio s r := rfl

@[simp] theorem radio_bump (s : State) (k r : Nat) : radio (bump s k) r = radio s r := rfl

@[simp] theorem radio_send (s : State) (o : Out) (r : Nat) : radio (send s o) r = radio s r := rfl

@[simp] theorem radio_setLocked (s : State) (q : Nat) (b : Bool) (r : Nat) : radio (setLocked s q b) r = radio s r := rfl

@[simp] theorem radio_txReport (s : State) (q : Nat) (c : TxCmd) (x : TxResult) (r : Nat) : radio (txReport s q c x) r = radio s r := rfl

@[simp] theorem radio_report (s : State) (k h a r : Nat) : radio (report s k h a) r = radio s r := by simp [radio]

@[simp] theorem radio_sealed (s t : State) (r : Nat) : radio (sealed s t) r = radio t r := rfl

/-- A radio whose state is set remembers having left OFF and having reached RX; the rest of it is as it was (R96). -/
@[simp] theorem radio_setRState (s : State) (r v : Nat) : radio (setRState s r v) r =
    { radio s r with leftOff := (radio s r).leftOff || decide (v ≠ 0), reachedRx := (radio s r).reachedRx || decide (v = 4) } := by
  simp [setRState]

@[simp] theorem rState_setRState (s : State) (r v : Nat) : rState (setRState s r v) r = v := rd_wr_self _ _ _

@[simp] theorem rState_setRadio (s : State) (q : Nat) (x : Radio) (r : Nat) : rState (setRadio s q x) r = rState s r := rd_setRadio _ _ _ _

@[simp] theorem rState_setLocked (s : State) (q : Nat) (b : Bool) (r : Nat) : rState (setLocked s q b) r = rState s r :=
  rd_wr_ne _ _ _ _ (by simp only [O.radio_state, O.synth_locked, objKey]; omega)

theorem rState_bump (s : State) {k r : Nat} (hk : O.radio_state r ≠ k) : rState (bump s k) r = rState s r := rd_wr_ne _ _ _ _ hk

/-- A radio's state is its effect's, where the effect keeps what registers have their defaults from. -/
theorem rState_sealed {s t : State} (h : base t = base s) (r : Nat) : rState (sealed s t) r = rState t r := rd_sealed_of_base h _

theorem flag_sealed {s t : State} (h : base t = base s) (k : Nat) : flag (sealed s t) k = flag t k := by
  rw [flag, flag, rd_sealed_of_base h]

theorem flag_setFlag (s : State) (k : Nat) (b : Bool) : flag (setFlag s k b) k = b := by
  cases b <;> simp [flag, setFlag]

/-! ### The effective target (R81) -/

theorem rd_setRState_ne (s : State) (r v : Nat) {k : Nat} (h : O.radio_state r ≠ k) : rd (setRState s r v) k = rd s k :=
  (rd_wr_ne _ _ _ _ h.symm).trans (rd_setRadio _ _ _ _)

/-- What the effective target comes from. -/
theorem effTarget_congr {s t : State} {r : Nat} (hmode : packageMode t = packageMode s)
    (hregion : regionTarget t (r + 1) 0 = regionTarget s (r + 1) 0) (htarget : rd t (O.radio_target r) = rd s (O.radio_target r))
    (hpower : rd t (O.pd_state (6 + r)) = rd s (O.pd_state (6 + r))) (hpads : femLatched t r = femLatched s r)
    (hfull : (radio t r).trainFull = (radio s r).trainFull) : effTarget t r = effTarget s r := by
  rw [effTarget, effTargetIn, regionMode, regionModeIn, hmode, htarget, hpower, hpads, hregion, hfull]
  rfl

/-- A change of state leaves the target. -/
theorem effTarget_setRState (s : State) (r v : Nat) : effTarget (setRState s r v) r = effTarget s r := by
  refine effTarget_congr (rd_setRState_ne s r v ?_) ?_ (rd_setRState_ne s r v ?_) (rd_setRState_ne s r v ?_) ?_ (by simp)
  · simp only [O.radio_state, O.package_mode, objKey]; omega
  · have hkey : ∀ i, O.radio_state r ≠ winKey i O.rm_target := fun i => by
      simp only [O.radio_state, O.rm_target, winKey, objKey]; omega
    simp only [regionTarget, rd_setRState_ne s r v (hkey _)]
  · simp only [O.radio_state, O.radio_target, objKey]; omega
  · simp only [O.radio_state, O.pd_state, objKey]; omega
  · rw [femLatched, rd_setRState_ne s r v (by simp only [O.radio_state, O.pad_latched, objKey]; omega), femLatched]

/-- So does a change of the radio's own state that leaves the FULL of TRAIN as it is. -/
theorem effTarget_setRadio (s : State) (r : Nat) {x : Radio} (h : x.trainFull = (radio s r).trainFull) :
    effTarget (setRadio s r x) r = effTarget s r :=
  effTarget_congr (rd_setRadio _ _ _ _) (by simp only [regionTarget, rd_setRadio]) (rd_setRadio _ _ _ _) (rd_setRadio _ _ _ _)
    (by rw [femLatched, rd_setRadio, femLatched]) (by rw [radio_setRadio_self, h])

/-! ### What a radio's commands leave alone -/

@[simp] theorem rd_cutPpdu (s : State) (r k : Nat) : rd (cutPpdu s r) k = rd s k :=
  view_cutPpdu (view := fun s => rd s k) (fun _ _ => rd_congr _ _ k rfl rfl rfl rfl) (fun _ _ => rd_congr _ _ k rfl rfl rfl rfl) s r

theorem tinker_cutPpdu (s : State) (r : Nat) : (cutPpdu s r).tinker = s.tinker :=
  view_cutPpdu (view := State.tinker) (fun _ _ => rfl) (fun _ _ => rfl) s r

theorem rState_report (s : State) (k h a r : Nat) : rState (report s k h a) r = rState s r :=
  rd_report _ _ _ _ _ (by simp only [O.radio_state, O.msgs_dropped, objKey]; omega)

@[simp] theorem base_wr (s : State) (k v : Nat) : base (wr s k v) = base s := rfl

@[simp] theorem base_bump (s : State) (k : Nat) : base (bump s k) = base s := rfl

@[simp] theorem base_setRadio (s : State) (r : Nat) (x : Radio) : base (setRadio s r x) = base s := rfl

@[simp] theorem base_setRState (s : State) (r v : Nat) : base (setRState s r v) = base s := rfl

@[simp] theorem base_setLocked (s : State) (r : Nat) (b : Bool) : base (setLocked s r b) = base s := rfl

@[simp] theorem base_setFlag (s : State) (k : Nat) (b : Bool) : base (setFlag s k b) = base s := rfl

@[simp] theorem base_report (s : State) (k h a : Nat) : base (report s k h a) = base s := by simp [base]

@[simp] theorem base_cutPpdu (s : State) (r : Nat) : base (cutPpdu s r) = base s :=
  view_cutPpdu (view := base) (fun _ _ => rfl) (fun _ _ => rfl) s r

@[simp] theorem base_ppduOver (s : State) (r : Nat) : base (ppduOver s r) = base s :=
  view_ppduOver (view := base) (fun _ _ => rfl) (fun _ _ => rfl) s r

@[simp] theorem base_muteRadio (s : State) (r : Nat) : base (muteRadio s r) = base s :=
  view_muteRadio (view := base) (fun _ _ => rfl) (fun _ _ => rfl) (fun _ _ => rfl) s r

@[simp] theorem base_abortLate (s : State) (r : Nat) : base (abortLate s r) = base s :=
  hidden_abortLate (view := base) (fun _ _ => rfl) (fun _ _ => rfl) (fun _ _ _ _ => rfl) s

@[simp] theorem base_sendPpdu (s : State) (r : Nat) (c : TxCmd) (e : Nat) : base (sendPpdu s r c e) = base s :=
  hidden_sendPpdu (view := base) (fun _ _ => rfl) (fun _ _ => rfl) (fun _ _ => rfl) (fun _ _ _ _ => rfl) s c e

/-! ### What a radio does next (R77, R80, R87) -/

/-- In every branch a radio that follows its target stays in its state or goes to one below RX. -/
theorem rState_follow (s : State) (r : Nat) : rState (follow s r) r = rState s r ∨ rState (follow s r) r ≤ 3 := by
  unfold follow
  dsimp only
  repeat' split
  all_goals simp

/-- So it does not go on air by itself. -/
theorem rState_follow_ne_tx {s : State} {r : Nat} (h : rState s r ≠ 5) : rState (follow s r) r ≠ 5 := by
  have := rState_follow s r
  omega

theorem onAir_follow (s : State) (r : Nat) : (radio (follow s r) r).onAir = (radio s r).onAir := by
  simp only [follow, apply_ite (fun t => (radio t r).onAir), radio_setLocked, radio_setRState, radio_setRadio_self, ite_self]

/-- The end of a PPDU takes a radio out of TX. -/
theorem rState_ppduOver (s : State) (r : Nat) : rState (ppduOver s r) r ≠ 5 := by
  unfold ppduOver
  refine rState_follow_ne_tx ?_
  split <;> simp

theorem onAir_ppduOver (s : State) (r : Nat) : (radio (ppduOver s r) r).onAir = none := by
  unfold ppduOver
  rw [onAir_follow]
  split <;> simp

theorem onAir_cutPpdu (s : State) (r : Nat) : (radio (cutPpdu s r) r).onAir = none := by
  unfold cutPpdu
  split
  next => simp
  next h => exact h

theorem rState_muteRadio (s : State) (r : Nat) : rState (muteRadio s r) r ≠ 5 := by
  unfold muteRadio
  split
  next => exact rState_ppduOver _ r
  next h => exact h

/-! ### Transmit commands (R82 to R85) -/

/-- A register that counts no result is left by commands that abort. -/
theorem rd_abortLate (s : State) (r : Nat) {k : Nat} (hk : k ∉ resultKeys r) : rd (abortLate s r) k = rd s k :=
  hidden_abortLate (view := fun s => rd s k) (fun _ _ => rd_congr _ _ k rfl rfl rfl rfl) (fun _ _ => rd_setRadio _ _ _ _)
    (hidesAll_rd hk) s

/-- A radio's own registers have an index below that of its results. -/
theorem radioKey_not_mem_resultKeys (r : Nat) {j : Nat} (hj : j < 256) : objKey (0x2000 + 1024 * r) j ∉ resultKeys r := by
  simp only [resultKeys, O.tx_sent, O.tx_muted, O.tx_reg_blocked, O.tx_no_grant, O.tx_duty_limit, O.tx_busy, O.tx_synth_not_ready,
    O.tx_late, objKey, List.mem_cons, List.not_mem_nil, or_false]
  omega

theorem cmds_abortLate (s : State) (r : Nat) : (radio (abortLate s r) r).cmds =
    (radio s r).cmds.filter (fun c => !(c.held && decide (latestStart c < tbNs s + 6000))) := by
  have hreported : ∀ (l : List TxCmd) (t : State), radio (l.foldl (fun t c => txReport t r c .synthNotReady) t) r = radio t r :=
    foldl_view (fun t => radio t r) fun _ _ => rfl
  rw [abortLate, hreported, radio_setRadio_self]

/-- A command placed among those waiting is one of them. -/
theorem mem_insertCmd (c : TxCmd) (l : List TxCmd) : c ∈ insertCmd c l := by
  induction l with
  | nil => simp [insertCmd]
  | cons d l ih => unfold insertCmd; split <;> simp [ih]

theorem txReports_txReport (s : State) (r : Nat) (c : TxCmd) (x : TxResult) :
    (txReport s r c x).txReports = s.txReports ++ [{ radio := r, cmd := c, result := x }] := rfl

/-- A counter that is raised only where a condition holds hides from what does not show it. -/
theorem hidden_bump_ite {α : Type} {view : State → α} {k : Nat} (hk : Hides view k) (s : State) (p : Prop) [Decidable p] :
    view (if p then bump s k else s) = view s := by
  simp only [apply_ite view, hidden_bump hk, ite_self]

/-- A PPDU sent puts its radio in TX, with the PPDU on air and the other commands waiting, and is reported SENT (R83, R85). -/
theorem sendPpdu_sends (s : State) (r : Nat) (c : TxCmd) (e : Nat) :
    rState (sendPpdu s r c e) r = 5 ∧ (radio (sendPpdu s r c e) r).cmds = (radio s r).cmds ∧
      (radio (sendPpdu s r c e) r).onAir.isSome = true ∧ (sendPpdu s r c e).txReports.getLast?.map (fun x => x.result) = some .sent := by
  have hcounters : HidesAll (fun t => rState t r) [O.power_clamps r, O.tx_held r, O.tx_sent r] := hidesAll_rd (by
    simp only [O.radio_state, O.power_clamps, O.tx_held, O.tx_sent, objKey, List.mem_cons, List.not_mem_nil, or_false]
    omega)
  unfold sendPpdu
  extract_lets d p powers x s1 s2 s3 s4
  have hradio : radio s4 r = radio s2 r :=
    (hidden_bump_ite (view := fun t => radio t r) (fun _ _ => rfl) s3 _).trans
      (hidden_bump_ite (view := fun t => radio t r) (fun _ _ => rfl) s2 _)
  have hstate : rState s4 r = rState s2 r :=
    (hidden_bump_ite (hcounters (O.tx_held r) (by simp)) s3 _).trans (hidden_bump_ite (hcounters (O.power_clamps r) (by simp)) s2 _)
  refine ⟨?_, ?_, ?_, ?_⟩
  · exact (hidden_bump (hcounters (O.tx_sent r) (by simp)) _).trans ((rd_send _ _ _).trans (hstate.trans (rState_setRState s1 r 5)))
  · rw [radio_txReport, radio_send, hradio, radio_setRState, radio_setRadio_self]
  · rw [radio_txReport, radio_send, hradio, radio_setRState, radio_setRadio_self]
    rfl
  · simp [txReport]

/-! ### The powers of a PPDU's chains (R105, R109) -/

/-- Each of some distinct chains reads the power reported for it. -/
theorem rd_chainPowers (r : Nat) {chains : List Nat} (hnodup : chains.Nodup) (powers : List Nat) (s : State) {e : Nat × Nat}
    (he : e ∈ chains.zip powers) :
    rd ((chains.zip powers).foldl (fun t e => wr t (O.chain_power r e.1) e.2) s) (O.chain_power r e.1) = e.2 := by
  induction chains generalizing powers s with
  | nil => cases he
  | cons k chains ih =>
    cases powers with
    | nil => cases he
    | cons p powers =>
      rw [List.nodup_cons] at hnodup
      rcases List.mem_cons.mp he with rfl | he
      · have hother : ∀ b ∈ chains.zip powers, O.chain_power r k ≠ O.chain_power r b.1 := fun b hb heq => by
          have hk : b.1 = k := by simp only [O.chain_power, objKey] at heq; omega
          exact hnodup.1 (hk ▸ (List.of_mem_zip hb).1)
        exact (foldl_view_mem (fun t => rd t _) _ (fun b hb t => rd_wr_ne t _ _ _ (hother b hb)) _).trans (rd_wr_self _ _ _)
      · exact ih hnodup.2 powers _ he

/-! ### Chains that enter FAULT (R93, R511) -/

theorem faulty_chainFault (s : State) (r k : Nat) :
    k ∈ (radio (chainFault s r k) r).faulty ∧ ∀ j ∈ (radio s r).faulty, j ∈ (radio (chainFault s r k) r).faulty := by
  unfold chainFault
  split
  next h => exact ⟨by simpa using h, fun _ hj => hj⟩
  next => simp +contextual

/-- Each chain of a list that enters FAULT is in FAULT, and stays so while the others enter it. -/
theorem faulty_foldl_chainFault (r : Nat) (l : List Nat) (s : State) :
    ∀ j, j ∈ l ∨ j ∈ (radio s r).faulty → j ∈ (radio (l.foldl (fun t k => chainFault t r k) s) r).faulty := by
  induction l generalizing s with
  | nil => simp
  | cons k l ih =>
    obtain ⟨hk, hkeeps⟩ := faulty_chainFault s r k
    rintro j (hj | hj)
    · rcases List.mem_cons.mp hj with rfl | hj
      · exact ih _ _ (.inr hk)
      · exact ih _ _ (.inl hj)
    · exact ih _ _ (.inr (hkeeps j hj))

/-! ### The commands -/

/-- A crystal that is stable leads to STANDBY, and on to SETTLING where the target is RX (R79, R80). -/
theorem crystalStable_completes {s : State} {r : Fin 3} (hon : hubOn s = true) (hstate : rState s r = 1) (hcrystal : (radio s r).crystal = true) :
    Completes (.crystalStable r) s fun t => rState t r = (if effTarget s r = 3 then 3 else 2) ∧ (radio t r).crystal = false := by
  refine completes_act (show execCrystalStable r s = _ from rfl) hon ?_
  have htarget : effTarget (setRState (setRadio s r { radio s r with crystal := false }) r 2) r = effTarget s r :=
    (effTarget_setRState _ _ _).trans (effTarget_setRadio s r rfl)
  simp only [hstate, hcrystal, and_self, if_true, htarget]
  split <;> exact ⟨(rState_sealed rfl _).trans (rState_setRState _ _ _), by simp⟩

/-- Lock leads to RX, and drops the held commands that it comes too late for (R80, R84). -/
theorem synthLock_completes {s : State} {r : Fin 3} (hon : hubOn s = true) (hstate : rState s r = 3) :
    Completes (.synthLock r) s fun t => rState t r = 4 ∧ flag t (O.synth_locked r) = true ∧
      (radio t r).cmds = (radio s r).cmds.filter (fun c => !(c.held && decide (latestStart c < tbNs s + 6000))) := by
  refine completes_act (show execSynthLock r s = _ from rfl) hon ?_
  rw [if_pos hstate]
  refine ⟨?_, ?_, ?_⟩
  · rw [rState_sealed (by simp), rState, rd_abortLate _ _ (radioKey_not_mem_resultKeys r (by decide))]
    exact (rState_setLocked _ _ _ _).trans (rState_setRState _ _ _)
  · rw [flag_sealed (by simp), flag, rd_abortLate _ _ (radioKey_not_mem_resultKeys r (by decide))]
    exact flag_setFlag _ _ true
  · simp only [radio_sealed, cmds_abortLate, radio_setLocked, radio_setRState, radio_setRadio_self]
    rfl

/-- 200 µs without lock is FAULT, with the PPDU cut and the time-out reported (R77). -/
theorem settleTimeout_completes {s : State} {r : Fin 3} (hon : hubOn s = true) (hstate : rState s r = 3) :
    Completes (.settleTimeout r) s fun t => rState t r = 7 ∧ (radio t r).onAir = none ∧ Raised s t 0x21 (synthHid s r) := by
  refine completes_act (show execSettleTimeout r s = _ from rfl) hon ?_
  rw [if_pos hstate]
  refine ⟨?_, ?_, ?_⟩
  · rw [rState_sealed (by simp), rState_report, rState_setRState]
  · simp only [radio_sealed, radio_report, radio_setRState, onAir_cutPpdu]
  · exact (raised_sealed _ _ _ _ _).mpr (raised_report _ _ _ _ _ (tinker_cutPpdu s r))

/-- A lost lock goes back to SETTLING, with the PPDU cut, counted and reported (R77). -/
theorem lockLost_completes {s : State} {r : Fin 3} (hon : hubOn s = true) (hstate : rState s r = 4 ∨ rState s r = 5 ∨ rState s r = 6) :
    Completes (.lockLost r) s fun t => rState t r = 3 ∧ (radio t r).onAir = none ∧ flag t (O.synth_locked r) = false ∧
      Counted s t (O.lock_losses r) ∧ Raised s t 0x20 (synthHid s r) := by
  refine completes_act (show execLockLost r s = _ from rfl) hon ?_
  rw [if_pos hstate]
  have hlost : O.radio_state r ≠ O.lock_losses r ∧ O.synth_locked r ≠ O.lock_losses r ∧ O.synth_locked r ≠ O.radio_state r := by
    simp only [O.radio_state, O.lock_losses, O.synth_locked, objKey]; omega
  obtain ⟨hstateKey, hlockKey, hkeys⟩ := hlost
  have hdropped : O.lock_losses r ≠ O.msgs_dropped ∧ O.synth_locked r ≠ O.msgs_dropped := by
    simp only [O.lock_losses, O.synth_locked, O.msgs_dropped, objKey]; omega
  have htop : ∀ q : Fin 3, topOf (O.lock_losses q) = 0xFFFFFFFF := by decide
  refine ⟨?_, ?_, ?_, ?_, ?_⟩
  · rw [rState_sealed (by simp), rState_report, rState_bump _ hstateKey, rState_setRState]
  · simp only [radio_sealed, radio_report, radio_bump, radio_setRState, radio_setLocked, onAir_cutPpdu]
  · rw [flag_sealed (by simp), flag, rd_report _ _ _ _ _ hdropped.2, rd_bump, if_neg hlockKey, rd_setRState_ne _ _ _ hkeys.symm]
    exact flag_setFlag _ _ false
  · rw [Counted, rd_sealed_of_base (by simp), rd_report _ _ _ _ _ hdropped.1, rd_bump_self, htop r, rd_setRState_ne _ _ _ hstateKey,
      setLocked, setFlag, rd_wr_ne _ _ _ _ hlockKey.symm, rd_cutPpdu]
  · exact (raised_sealed _ _ _ _ _).mpr (raised_report _ _ _ _ _ (tinker_cutPpdu s r))

/-- A command that passes the checks is held where the radio settles, waits where it can still start in time, and is LATE where it cannot (R83). -/
theorem transmitCommand_completes {s : State} {r : Fin 3} {c : TxCmd} (hon : hubOn s = true) (hfitted : radioFitted s.fuse.part r = true)
    (hheld : c.held = false) (hchecks : earlyChecks s r c = none) :
    Completes (.transmitCommand r c) s fun t =>
      (rState s r = 3 → { c with held := true } ∈ (radio t r).cmds ∧ t.txReports = s.txReports) ∧
      (rState s r ≠ 3 → earliestStart c (readyInstant s r 2000) ≤ latestStart c → c ∈ (radio t r).cmds ∧ t.txReports = s.txReports) ∧
      (rState s r ≠ 3 → latestStart c < earliestStart c (readyInstant s r 2000) →
        t.txReports = s.txReports ++ [{ radio := r, cmd := c, result := .late }]) := by
  refine completes_act (show execTransmitCommand r c s = _ from rfl) hon ?_
  have hsame : { c with held := false } = c := by rw [← hheld]
  simp only [hfitted, if_true, hsame, offerCommand, hchecks]
  refine ⟨fun hstate => ?_, fun hstate htime => ?_, fun hstate hlate => ?_⟩
  · rw [if_pos hstate]
    simp [mem_insertCmd]
  · rw [if_neg hstate, if_neg (Nat.not_lt.mpr htime)]
    simp [mem_insertCmd]
  · rw [if_neg hstate, if_pos hlate]
    exact txReports_txReport s r c .late

/-- The first command is sent at its start (R83). -/
theorem commandStart_completes {s : State} {r : Fin 3} {c : TxCmd} {l : List TxCmd} (hon : hubOn s = true) (hcmds : (radio s r).cmds = c :: l)
    (hchecks : earlyChecks (setRadio s r { radio s r with cmds := l }) r c = none) (hstate : rState s r = 4) (hcal : (radio s r).cal = none)
    (htime : earliestStart c (readyInstant s r 0) ≤ latestStart c) :
    Completes (.commandStart r) s fun t => rState t r = 5 ∧ (radio t r).cmds = l ∧ (radio t r).onAir.isSome = true ∧
      t.txReports.getLast?.map (fun x => x.result) = some .sent := by
  have hready : readyInstant (setRadio s r { radio s r with cmds := l }) r 0 = readyInstant s r 0 := by
    rw [readyInstant, radio_setRadio_self]
    rfl
  have hyield : yieldCal (setRadio s r { radio s r with cmds := l }) r c = setRadio s r { radio s r with cmds := l } := by
    simp [yieldCal, hcal]
  have hstart : startCommand s r =
      sendPpdu (setRadio s r { radio s r with cmds := l }) r c (earliestStart c (readyInstant s r 0)) := by
    simp [startCommand, hcmds, hchecks, hyield, hready, hstate, Nat.not_lt.mpr htime]
  obtain ⟨htx, hcmds', hair, hreport⟩ := sendPpdu_sends (setRadio s r { radio s r with cmds := l }) r c (earliestStart c (readyInstant s r 0))
  rw [← hstart] at htx hcmds' hair hreport
  refine completes_act (show execCommandStart r s = _ from rfl) hon ⟨?_, ?_, hair, hreport⟩
  · rw [rState_sealed (by rw [hstart]; simp), htx]
  · rw [radio_sealed, hcmds', radio_setRadio_self]

/-- The end of a PPDU leaves TX, with the power of each of its chains (R80, R105, R109). -/
theorem ppduEnd_completes {s : State} {r : Fin 3} {c : TxCmd} {l : List Nat} (hon : hubOn s = true) (hair : (radio s r).onAir = some c)
    (hstate : rState s r = 5) :
    Completes (.ppduEnd r l) s fun t => rState t r ≠ 5 ∧ (radio t r).onAir = none ∧
      ∀ e ∈ (bitList 16 c.chains).zip l, rd t (O.chain_power r e.1) = e.2 := by
  have hpowers : base (((bitList 16 c.chains).zip l).foldl (fun t e => wr t (O.chain_power r e.1) e.2) s) = base s :=
    foldl_view_mem base _ (fun _ _ t => base_wr t _ _) s
  refine completes_act (show execPpduEnd r l s = _ from rfl) hon ?_
  simp only [hair, hstate, if_true]
  refine ⟨?_, onAir_ppduOver _ _, fun e he => ?_⟩
  · rw [rState_sealed (by simp [hpowers])]
    exact rState_ppduOver _ _
  · have hkey : O.chain_power r e.1 ∉ [O.synth_locked r, O.radio_state r] := by
      simp only [O.chain_power, O.synth_locked, O.radio_state, objKey, List.mem_cons, List.not_mem_nil, or_false]
      omega
    have hover : ∀ t, rd (ppduOver t r) (O.chain_power r e.1) = rd t (O.chain_power r e.1) :=
      hidden_ppduOver (fun _ _ => rd_setRadio _ _ _ _) (hidesAll_rd hkey)
    rw [rd_sealed_of_base (by simp [hpowers]), hover]
    exact rd_chainPowers r (List.nodup_range.filter _) l s he

/-- A result leaves the list as its issuer takes it, and a SIFS response that was sent is counted (R85, R120). -/
theorem txResult_completes {s : State} {x : TxReport} {l : List TxReport} (hon : hubOn s = true) (hreports : s.txReports = x :: l) :
    Completes .txResult s fun t => t.txReports = l ∧
      (x.cmd.issuer = .sifs → x.result = .sent → rd t (O.resp_sent x.radio) = min (rd s (O.resp_sent x.radio) + 1) (topOf (O.resp_sent x.radio))) := by
  refine completes_act (show execTxResult s = _ from rfl) hon ?_
  simp only [hreports]
  cases hissuer : x.cmd.issuer
  case sifs =>
    refine ⟨rfl, fun _ hsent => ?_⟩
    rw [if_pos hsent, rd_sealed_of_base (by rfl), rd_bump_self]
    rfl
  case beacon =>
    refine ⟨(view_beaconResult (view := State.txReports) (fun _ _ => rfl) (fun _ _ => rfl) (fun _ _ => rfl) _ _ _).trans ?_, nofun⟩
    split <;> rfl
  case ostler =>
    exact ⟨view_ostlerResult (view := State.txReports) (fun _ _ => rfl) (fun _ _ => rfl) (fun _ _ => rfl) (fun _ _ => rfl) (fun _ _ => rfl)
      (fun _ _ => rfl) (fun _ _ => rfl) (fun _ _ => rfl) _ _ _ _, nofun⟩
  case pair =>
    refine ⟨?_, nofun⟩
    dsimp only
    split
    · rfl
    · exact view_varlanSend (view := State.txReports) (fun _ _ => rfl) (fun _ _ => rfl) _ _ _

/-- A mute takes effect at once, and a muted radio sends nothing (R87). -/
theorem txMute_completes {s : State} {r : Fin 3} {b : Bool} (h : Reaches s (O.tx_mute r)) :
    Completes (.txMute r b) s fun t => t.status = .ok ∧ flag t (O.tx_mute r) = b ∧ (b = true → rState t r ≠ 5) := by
  refine completes_command (show execTxMute r b s = _ from rfl) h ?_
  have hkey : O.tx_mute r ∉ [O.synth_locked r, O.radio_state r] := by
    simp only [O.tx_mute, O.synth_locked, O.radio_state, objKey, List.mem_cons, List.not_mem_nil, or_false]
    omega
  have hmuted : ∀ t, rd (muteRadio t r) (O.tx_mute r) = rd t (O.tx_mute r) :=
    hidden_muteRadio (fun _ _ => rd_congr _ _ _ rfl rfl rfl rfl) (fun _ _ => rd_setRadio _ _ _ _) (hidesAll_rd hkey)
  have hbase : base (if b then muteRadio (setFlag s (O.tx_mute r) b) r else setFlag s (O.tx_mute r) b) = base s := by
    simp only [apply_ite base, base_muteRadio, base_setFlag, ite_self]
  refine ⟨by simp, ?_, fun hb => ?_⟩
  · rw [flag, rd_sealed_commanded hbase]
    simp only [apply_ite (fun t => rd t (O.tx_mute r)), hmuted, ite_self]
    exact flag_setFlag s _ b
  · rw [rState, rd_sealed_commanded hbase, if_pos hb]
    exact rState_muteRadio _ _

/-- Settles O22, command by command. -/
theorem radioSequencerComplete : Obligations.RadioSequencerComplete := by
  unfold Obligations.RadioSequencerComplete
  refine ⟨fun s r => crystalStable_completes, fun s r => synthLock_completes, fun s r => settleTimeout_completes,
    fun s r => lockLost_completes, fun s r c => transmitCommand_completes, fun s r c l => commandStart_completes,
    fun s r c l hon hcmds hheld hstate => ?_, fun s r c l => ppduEnd_completes, fun s x l => txResult_completes,
    fun s r b => txMute_completes, fun s r k hon hpower hk => ?_⟩
  · refine completes_act (show execHeldCommandAbort r s = _ from rfl) hon ?_
    simp only [hcmds, hheld, hstate, and_self, if_true]
    exact ⟨by simp, txReports_txReport _ _ _ _⟩
  · refine completes_act (show execVfemLow r s = _ from rfl) hon ?_
    rw [if_pos hpower]
    exact faulty_foldl_chainFault r _ s k (.inl hk)

end Sys2Proof.Machine
end

section
/-! Views that are blind to parts of the state: one hypothesis for all the parts that an operation may set, instead of one for each. -/

namespace Sys2Proof.Machine

/-- The parts of the state that the commands which move frames, and those with the longest effects, may set. -/
inductive StatePart where
  | regs | blobs | staged | stagedBlobs | status | out | free | tb | boot | epoch | claims | led | hostq | tinker | power | radios | txReports
  | twin | time | move | planClosed | steward | survey | mac | ost | lock | entering | carter | graph | rules | switch | miller | dram
  deriving DecidableEq

section

variable {α : Type} {view : State → α} {parts : List StatePart}

/-- A view does not show a part: setting it never changes what the view gives. -/
def BlindTo (view : State → α) : StatePart → Prop
  | .regs => ∀ s x, view { s with regs := x } = view s
  | .blobs => ∀ s x, view { s with blobs := x } = view s
  | .staged => ∀ s x, view { s with staged := x } = view s
  | .stagedBlobs => ∀ s x, view { s with stagedBlobs := x } = view s
  | .status => ∀ s x, view { s with status := x } = view s
  | .out => ∀ s x, view { s with out := x } = view s
  | .free => ∀ s x, view { s with free := x } = view s
  | .tb => ∀ s x, view { s with tb := x } = view s
  | .boot => ∀ s x, view { s with boot := x } = view s
  | .epoch => ∀ s x, view { s with epoch := x } = view s
  | .claims => ∀ s x, view { s with claims := x } = view s
  | .led => ∀ s x, view { s with led := x } = view s
  | .hostq => ∀ s x, view { s with hostq := x } = view s
  | .tinker => ∀ s x, view { s with tinker := x } = view s
  | .power => ∀ s x, view { s with power := x } = view s
  | .radios => ∀ s x, view { s with radios := x } = view s
  | .txReports => ∀ s x, view { s with txReports := x } = view s
  | .twin => ∀ s x, view { s with twin := x } = view s
  | .time => ∀ s x, view { s with time := x } = view s
  | .move => ∀ s x, view { s with move := x } = view s
  | .planClosed => ∀ s x, view { s with planClosed := x } = view s
  | .steward => ∀ s x, view { s with steward := x } = view s
  | .survey => ∀ s x, view { s with survey := x } = view s
  | .mac => ∀ s x, view { s with mac := x } = view s
  | .ost => ∀ s x, view { s with ost := x } = view s
  | .lock => ∀ s x, view { s with lock := x } = view s
  | .entering => ∀ s x, view { s with entering := x } = view s
  | .carter => ∀ s x, view { s with carter := x } = view s
  | .graph => ∀ s x, view { s with graph := x } = view s
  | .rules => ∀ s x, view { s with rules := x } = view s
  | .switch => ∀ s x, view { s with switch := x } = view s
  | .miller => ∀ s x, view { s with miller := x } = view s
  | .dram => ∀ s x, view { s with dram := x } = view s

/-- A view is blind to each part of a list. -/
def Blind (view : State → α) (parts : List StatePart) : Prop := ∀ p ∈ parts, BlindTo view p

namespace Blind

/-- It is blind to fewer parts as well. -/
theorem sub {fewer : List StatePart} (hb : Blind view parts) (h : fewer.all parts.contains = true) : Blind view fewer :=
  fun p hp => hb p (List.contains_iff_mem.mp (List.all_eq_true.mp h p hp))

theorem regs (hb : Blind view parts) (h : parts.contains .regs = true) : ∀ s x, view { s with regs := x } = view s :=
  hb .regs (List.contains_iff_mem.mp h)

theorem blobs (hb : Blind view parts) (h : parts.contains .blobs = true) : ∀ s x, view { s with blobs := x } = view s :=
  hb .blobs (List.contains_iff_mem.mp h)

theorem staged (hb : Blind view parts) (h : parts.contains .staged = true) : ∀ s x, view { s with staged := x } = view s :=
  hb .staged (List.contains_iff_mem.mp h)

theorem stagedBlobs (hb : Blind view parts) (h : parts.contains .stagedBlobs = true) : ∀ s x, view { s with stagedBlobs := x } = view s :=
  hb .stagedBlobs (List.contains_iff_mem.mp h)

theorem status (hb : Blind view parts) (h : parts.contains .status = true) : ∀ s x, view { s with status := x } = view s :=
  hb .status (List.contains_iff_mem.mp h)

theorem out (hb : Blind view parts) (h : parts.contains .out = true) : ∀ s x, view { s with out := x } = view s :=
  hb .out (List.contains_iff_mem.mp h)

theorem free (hb : Blind view parts) (h : parts.contains .free = true) : ∀ s x, view { s with free := x } = view s :=
  hb .free (List.contains_iff_mem.mp h)

theorem tb (hb : Blind view parts) (h : parts.contains .tb = true) : ∀ s x, view { s with tb := x } = view s :=
  hb .tb (List.contains_iff_mem.mp h)

theorem boot (hb : Blind view parts) (h : parts.contains .boot = true) : ∀ s x, view { s with boot := x } = view s :=
  hb .boot (List.contains_iff_mem.mp h)

theorem epoch (hb : Blind view parts) (h : parts.contains .epoch = true) : ∀ s x, view { s with epoch := x } = view s :=
  hb .epoch (List.contains_iff_mem.mp h)

theorem claims (hb : Blind view parts) (h : parts.contains .claims = true) : ∀ s x, view { s with claims := x } = view s :=
  hb .claims (List.contains_iff_mem.mp h)

theorem led (hb : Blind view parts) (h : parts.contains .led = true) : ∀ s x, view { s with led := x } = view s :=
  hb .led (List.contains_iff_mem.mp h)

theorem hostq (hb : Blind view parts) (h : parts.contains .hostq = true) : ∀ s x, view { s with hostq := x } = view s :=
  hb .hostq (List.contains_iff_mem.mp h)

theorem tinker (hb : Blind view parts) (h : parts.contains .tinker = true) : ∀ s x, view { s with tinker := x } = view s :=
  hb .tinker (List.contains_iff_mem.mp h)

theorem power (hb : Blind view parts) (h : parts.contains .power = true) : ∀ s x, view { s with power := x } = view s :=
  hb .power (List.contains_iff_mem.mp h)

theorem radios (hb : Blind view parts) (h : parts.contains .radios = true) : ∀ s x, view { s with radios := x } = view s :=
  hb .radios (List.contains_iff_mem.mp h)

theorem txReports (hb : Blind view parts) (h : parts.contains .txReports = true) : ∀ s x, view { s with txReports := x } = view s :=
  hb .txReports (List.contains_iff_mem.mp h)

theorem twin (hb : Blind view parts) (h : parts.contains .twin = true) : ∀ s x, view { s with twin := x } = view s :=
  hb .twin (List.contains_iff_mem.mp h)

theorem time (hb : Blind view parts) (h : parts.contains .time = true) : ∀ s x, view { s with time := x } = view s :=
  hb .time (List.contains_iff_mem.mp h)

theorem move (hb : Blind view parts) (h : parts.contains .move = true) : ∀ s x, view { s with move := x } = view s :=
  hb .move (List.contains_iff_mem.mp h)

theorem planClosed (hb : Blind view parts) (h : parts.contains .planClosed = true) : ∀ s x, view { s with planClosed := x } = view s :=
  hb .planClosed (List.contains_iff_mem.mp h)

theorem steward (hb : Blind view parts) (h : parts.contains .steward = true) : ∀ s x, view { s with steward := x } = view s :=
  hb .steward (List.contains_iff_mem.mp h)

theorem survey (hb : Blind view parts) (h : parts.contains .survey = true) : ∀ s x, view { s with survey := x } = view s :=
  hb .survey (List.contains_iff_mem.mp h)

theorem mac (hb : Blind view parts) (h : parts.contains .mac = true) : ∀ s x, view { s with mac := x } = view s :=
  hb .mac (List.contains_iff_mem.mp h)

theorem ost (hb : Blind view parts) (h : parts.contains .ost = true) : ∀ s x, view { s with ost := x } = view s :=
  hb .ost (List.contains_iff_mem.mp h)

theorem lock (hb : Blind view parts) (h : parts.contains .lock = true) : ∀ s x, view { s with lock := x } = view s :=
  hb .lock (List.contains_iff_mem.mp h)

theorem entering (hb : Blind view parts) (h : parts.contains .entering = true) : ∀ s x, view { s with entering := x } = view s :=
  hb .entering (List.contains_iff_mem.mp h)

theorem carter (hb : Blind view parts) (h : parts.contains .carter = true) : ∀ s x, view { s with carter := x } = view s :=
  hb .carter (List.contains_iff_mem.mp h)

theorem graph (hb : Blind view parts) (h : parts.contains .graph = true) : ∀ s x, view { s with graph := x } = view s :=
  hb .graph (List.contains_iff_mem.mp h)

theorem rules (hb : Blind view parts) (h : parts.contains .rules = true) : ∀ s x, view { s with rules := x } = view s :=
  hb .rules (List.contains_iff_mem.mp h)

theorem switch (hb : Blind view parts) (h : parts.contains .switch = true) : ∀ s x, view { s with switch := x } = view s :=
  hb .switch (List.contains_iff_mem.mp h)

theorem miller (hb : Blind view parts) (h : parts.contains .miller = true) : ∀ s x, view { s with miller := x } = view s :=
  hb .miller (List.contains_iff_mem.mp h)

theorem dram (hb : Blind view parts) (h : parts.contains .dram = true) : ∀ s x, view { s with dram := x } = view s :=
  hb .dram (List.contains_iff_mem.mp h)

end Blind

/-- The state that a pair is taken apart into looks like the pair's state. -/
theorem view_of_snd {β : Type} {x : β × State} {b : β} {s t : State} (heq : x = (b, t)) (hx : view x.2 = view s) : view t = view s := by
  rw [heq] at hx
  exact hx

/-! ### Several parts set at once -/

/-- Registers and octet objects are set at once. -/
theorem view_regs_blobs (hb : Blind view [.regs, .blobs]) (s : State) (r : Tab Nat) (b : Tab Octets) :
    view { s with regs := r, blobs := b } = view s :=
  ((hb.blobs rfl) { s with regs := r } b).trans ((hb.regs rfl) s r)

/-- The endpoint's parts are set at once. -/
theorem view_boot_led_time (hb : Blind view [.boot, .led, .time]) (s : State) (b : Boot) (l : Ledger) (t : TimeBase) :
    view { s with boot := b, led := l, time := t } = view s :=
  ((hb.time rfl) { s with boot := b, led := l } t).trans (((hb.led rfl) { s with boot := b } l).trans ((hb.boot rfl) s b))

/-- Two parts that a plan sets at once. -/
theorem view_planClosed_ost (hb : Blind view [.planClosed, .ost]) (s : State) (c : Bool) (o : Ostler) :
    view { s with planClosed := c, ost := o } = view s :=
  ((hb.ost rfl) { s with planClosed := c } o).trans ((hb.planClosed rfl) s c)

/-- What begins with a frame is set at once. -/
theorem view_planClosed_ost_move (hb : Blind view [.planClosed, .ost, .move]) (s : State) (c : Bool) (o : Ostler) (m : FrameMove) :
    view { s with planClosed := c, ost := o, move := m } = view s :=
  ((hb.move rfl) { s with planClosed := c, ost := o } m).trans (view_planClosed_ost (hb.sub rfl) s c o)

/-- What the walk of a default graph, or a copy, sets at once beside the switch. -/
theorem view_regs_blobs_switch (hb : Blind view [.regs, .blobs, .switch]) (s : State) (r : Tab Nat) (b : Tab Octets) (w : Switch) :
    view { s with regs := r, blobs := b, switch := w } = view s :=
  ((hb.switch rfl) { s with regs := r, blobs := b } w).trans (view_regs_blobs (hb.sub rfl) s r b)

/-- The shared set is taken over at once. -/
theorem view_sharedSet (hb : Blind view [.regs, .blobs, .staged, .stagedBlobs, .mac, .graph, .rules, .switch]) (s : State) (r : Tab Nat)
    (b : Tab Octets) (r' : Tab Nat) (b' : Tab Octets) (m : Mac) (g : Graph) (u : Rules) (w : Switch) :
    view { s with regs := r, blobs := b, staged := r', stagedBlobs := b', mac := m, graph := g, rules := u, switch := w } = view s :=
  calc
    _ = view { s with regs := r, blobs := b, staged := r', stagedBlobs := b', mac := m, graph := g, rules := u } :=
        (hb.switch rfl) { s with regs := r, blobs := b, staged := r', stagedBlobs := b', mac := m, graph := g, rules := u } w
    _ = view { s with regs := r, blobs := b, staged := r', stagedBlobs := b', mac := m, graph := g } :=
        (hb.rules rfl) { s with regs := r, blobs := b, staged := r', stagedBlobs := b', mac := m, graph := g } u
    _ = view { s with regs := r, blobs := b, staged := r', stagedBlobs := b', mac := m } :=
        (hb.graph rfl) { s with regs := r, blobs := b, staged := r', stagedBlobs := b', mac := m } g
    _ = view { s with regs := r, blobs := b, staged := r', stagedBlobs := b' } :=
        (hb.mac rfl) { s with regs := r, blobs := b, staged := r', stagedBlobs := b' } m
    _ = view { s with regs := r, blobs := b, staged := r' } := (hb.stagedBlobs rfl) { s with regs := r, blobs := b, staged := r' } b'
    _ = view { s with regs := r, blobs := b } := (hb.staged rfl) { s with regs := r, blobs := b } r'
    _ = view { s with regs := r } := (hb.blobs rfl) { s with regs := r } b
    _ = view s := (hb.regs rfl) s r

/-! ### Parts that are set together -/

/-- What a buffer that is freed sets (R62, R319): its cells, its queue, and the descriptor that waits for it. -/
def bufParts : List StatePart := [.regs, .out, .hostq, .miller]

/-- What a leg that enters its queue, or goes to the other module, sets (R303, R321). -/
def legParts : List StatePart := .twin :: bufParts

/-- What tokens, tasks and their rings set (R340 to R349). -/
def taskParts : List StatePart := .tinker :: .carter :: .dram :: bufParts

/-- What a lookup of rules and flows sets (R299 to R305). -/
def fateParts : List StatePart := .switch :: taskParts

/-- What the dispatch of a task sets (R350 to R353). -/
def dispatchParts : List StatePart := .twin :: .graph :: fateParts

/-- What an MPDU that its reorder buffer releases sets (R128 to R130). -/
def releaseParts : List StatePart := .free :: .twin :: .mac :: .lock :: taskParts

/-- What a verdict on an MPDU sets (R233 to R236). -/
def verdictParts : List StatePart := .entering :: releaseParts

/-- What a change of the state of the pair sets, with what was held (R197, R198). -/
def pairParts : List StatePart := .steward :: verdictParts

/-- What the removal of a station sets (R114). -/
def staParts : List StatePart := .twin :: .mac :: .ost :: .blobs :: bufParts

/-- What exchanges that are planned, and their frames bound, set (R161 to R170). -/
def planParts : List StatePart := .tinker :: .twin :: .mac :: .ost :: .lock :: bufParts

/-- What the apply of an epoch sets (R33, R375). -/
def applyParts : List StatePart :=
    .blobs :: .boot :: .epoch :: .tinker :: .power :: .radios :: .twin :: .steward :: .ost :: .graph :: .dram :: bufParts

/-- What a module that takes the links over, or hands them over, sets (R197 to R206). -/
def leadParts : List StatePart :=
    .epoch :: .tinker :: .radios :: .twin :: .time :: .planClosed :: .steward :: .mac :: .ost :: .lock :: .dram :: bufParts

/-- What a step of the time base sets as the module leaves QUARANTINE (R473). -/
def stepParts : List StatePart := [.regs, .out, .tb, .epoch, .tinker, .radios, .twin, .time, .move, .steward, .mac, .ost, .dram]

/-- What the entry of QUARANTINE sets (R472). -/
def quarantineParts : List StatePart := .blobs :: .epoch :: .radios :: .ost :: pairParts

/-- What the reset of a unit of the hub sets (R519, R532). -/
def hubParts : List StatePart :=
    .blobs :: .tb :: .boot :: .led :: .radios :: .time :: .move :: .survey :: .ost :: .graph :: .rules :: .switch :: pairParts

/-- What the reset of any unit sets (R519). -/
def unitParts : List StatePart :=
    .blobs :: .tb :: .boot :: .led :: .power :: .radios :: .txReports :: .time :: .move :: .survey :: .ost :: .graph :: .rules ::
    .switch :: pairParts

/-- What the reset of a level of units sets, with the claims it carries (R70, R519). -/
def levelParts : List StatePart :=
    .tb :: .boot :: .claims :: .led :: .power :: .txReports :: .time :: .move :: .survey :: .graph :: .rules :: .switch :: quarantineParts

/-- What the end of BOOT sets (R521 to R525). -/
def bootParts : List StatePart :=
    .blobs :: .boot :: .claims :: .led :: .tinker :: .power :: .radios :: .steward :: .mac :: .graph :: .rules :: .switch :: .dram ::
    legParts

/-- What a new mode sets (R374 to R377). -/
def modeParts : List StatePart := [.regs, .out, .tinker, .radios, .twin, .steward, .dram]

/-! ### Shared operations, for a view that is blind to all they set -/

namespace Blind

/-- A leg that is dropped does not show (R319). -/
theorem dropLeg {parts : List StatePart} (hb : Blind view parts) (h : bufParts.all parts.contains = true) (s : State) (b : Nat) :
    view (dropLeg s b) = view s :=
  have hbuf := hb.sub h
  view_dropLeg (hbuf.regs rfl) (hbuf.out rfl) (hbuf.hostq rfl) (hbuf.miller rfl) s b

/-- A new mode does not show (R374 to R377). -/
theorem setMode {parts : List StatePart} (hb : Blind view parts) (h : modeParts.all parts.contains = true) (s : State) (m : Nat) :
    view (setMode s m) = view s :=
  have hmode := hb.sub h
  view_setMode (hmode.regs rfl) (hmode.out rfl) (hmode.tinker rfl) (hmode.radios rfl) (hmode.twin rfl) (hmode.steward rfl)
      (hmode.dram rfl) s m

end Blind

end

end Sys2Proof.Machine
end

section
/-! Views that are blind to what buffers, queues and their frames set (R60 to R66, R238 to R244, R313 to R333, R406). -/

namespace Sys2Proof.Machine

section

variable {α : Type} {view : State → α}

/-! ### Claims (R70) -/

theorem view_claimAll (hb : Blind view [.regs, .claims]) (s : State) (owner : Nat) (rs : List Nat) :
    view (claimAll s owner rs).2 = view s := by
  simp only [claimAll, apply_ite Prod.snd, apply_ite view, view_bump (hb.regs rfl), hb.claims rfl, ite_self]

theorem view_releaseLevel (hb : Blind view [.claims]) (s : State) (h : Nat) : view (releaseLevel s h) = view s := by
  simp only [releaseLevel, hb.claims rfl]

/-! ### The host rings (R60 to R66) -/

theorem view_completeFromHost (hb : Blind view [.regs, .out, .hostq]) (s : State) (q : Nat) (w : WriteBack) (wait : Bool) :
    view (completeFromHost s q w wait) = view s := by
  simp only [completeFromHost, view_flushHeld (hb.regs rfl) (hb.out rfl) (hb.hostq rfl), view_setHq (hb.hostq rfl)]

theorem view_stampDescriptor (hb : Blind view [.regs, .out, .hostq]) (s : State) (q n : Nat) (left : Option Nat) :
    view (stampDescriptor s q n left) = view s := by
  simp only [stampDescriptor, view_flushHeld (hb.regs rfl) (hb.out rfl) (hb.hostq rfl)]

/-! ### The ports of the DRAM and its errors (R358, R360, R367) -/

theorem view_setDram (hb : Blind view [.dram]) (s : State) (d : Cellarer) : view (setDram s d) = view s := by
  simp only [setDram, hb.dram rfl]

theorem view_countErrors (hb : Blind view [.regs, .tinker, .steward, .dram]) (s : State) (row : Nat) :
    view (countErrors s row) = view s := by
  unfold countErrors
  split <;> simp only [apply_ite view, view_setDram (hb.sub rfl), view_report (hb.regs rfl) (hb.tinker rfl), view_wr (hb.regs rfl),
      hb.steward rfl, ite_self]

theorem view_dramError (hb : Blind view [.regs, .tinker, .steward, .dram]) (s : State) (a source : Nat) :
    view (dramError s a source) = view s := by
  simp only [dramError, view_countErrors hb, view_reportWith (hb.regs rfl) (hb.tinker rfl), view_bump (hb.regs rfl), view_wr (hb.regs rfl)]

theorem view_panicLevel (hb : Blind view [.regs, .dram]) (s : State) (k : Nat) : view (panicLevel s k) = view s := by
  unfold panicLevel
  split <;> simp only [apply_ite view, view_setDram (hb.sub rfl), view_bump (hb.regs rfl), view_bumpBy (hb.regs rfl),
      view_wr (hb.regs rfl), ite_self]

theorem view_panicLevels (hb : Blind view [.regs, .dram]) (s : State) : view (panicLevels s) = view s := by
  simp only [panicLevels, view_panicLevel hb]

theorem view_setChannel (hb : Blind view [.dram]) (s : State) (ch : Nat) (c : Channel) : view (setChannel s ch c) = view s := by
  simp only [setChannel, view_setDram hb]

theorem view_dramRequest (hb : Blind view [.regs, .dram]) (s : State) (port a : Nat) (write : Bool) :
    view (dramRequest s port a write) = view s := by
  simp only [dramRequest, view_setChannel (hb.sub rfl), view_panicLevels hb]

theorem view_cellRequests (hb : Blind view [.regs, .free, .dram]) (write : Bool) (n : Nat) (s : State) :
    view (cellRequests write n s) = view s := by
  induction n generalizing s with
  | zero => rfl
  | succ n ih => exact (ih _).trans ((view_dramRequest (hb.sub rfl) _ _ _ _).trans (view_freeNext (hb.free rfl) s))

theorem view_ringRequest (hb : Blind view [.regs, .dram]) (s : State) (urgent write : Bool) :
    view (ringRequest s urgent write) = view s := by
  simp only [ringRequest, view_dramRequest hb, view_setDram (hb.sub rfl)]

/-! ### Cells, buffers and their legs (R313 to R319) -/

theorem view_takeCells (hb : Blind view [.regs]) (s : State) (n : Nat) : view (takeCells s n) = view s := by
  simp only [takeCells, view_wr (hb.regs rfl)]

theorem view_takeBuf (hb : Blind view [.regs, .miller]) (s : State) (n : Nat) (reserved held : Bool) (stampFor : Option (Nat × Nat)) :
    view (takeBuf s n reserved held stampFor).2 = view s := by
  unfold takeBuf
  split <;> simp only [apply_ite view, view_takeCells (hb.sub rfl), view_setMiller (hb.miller rfl), view_bump (hb.regs rfl),
      view_wr (hb.regs rfl), ite_self]

theorem view_noCellDrop (hb : Blind view [.regs, .tinker, .miller]) (s : State) : view (noCellDrop s) = view s := by
  simp only [noCellDrop, apply_ite view, view_setMiller (hb.miller rfl), view_report (hb.regs rfl) (hb.tinker rfl),
      view_bump (hb.regs rfl), ite_self]

theorem view_addLeg (hb : Blind view [.miller]) (s : State) (b : Nat) : view (addLeg s b) = view s := by
  simp only [addLeg, view_setMiller (hb.miller rfl)]

theorem view_legLeft (hb : Blind view bufParts) (s : State) (b ns : Nat) : view (legLeft s b ns) = view s := by
  unfold legLeft
  (repeat' split)
  all_goals simp only [view_setMiller (hb.miller rfl), view_stampDescriptor (hb.sub rfl)]

theorem view_holdBuf (hb : Blind view [.regs, .miller]) (s : State) (b : Nat) (h : Bool) : view (holdBuf s b h) = view s := by
  unfold holdBuf
  split <;> simp only [apply_ite view, view_setMiller (hb.miller rfl), view_wr (hb.regs rfl), ite_self]

theorem view_dropSpilled (hb : Blind view bufParts) (s : State) (b : Nat) : view (dropSpilled s b) = view s := by
  simp only [dropSpilled, view_foldl fun t _ => (hb.dropLeg rfl) t b, view_setMiller (hb.miller rfl)]

theorem view_fetchOne (hb : Blind view (.free :: .dram :: bufParts)) (s : State) (b : Nat) : view (fetchOne s b) = view s := by
  unfold fetchOne
  split <;> simp only [apply_ite view, view_dropSpilled (hb.sub rfl), view_takeCells (hb.sub rfl), view_setMiller (hb.miller rfl),
      view_cellRequests (hb.sub rfl), view_bump (hb.regs rfl), view_wr (hb.regs rfl), ite_self]

theorem view_execFetch (hseal : HidesSeal view) (hb : Blind view (.free :: .dram :: bufParts)) (s t : State) (h : execFetch s = .next t) :
    view t = view s := by
  refine view_act hseal ?_ h
  split
  · split
    · exact view_fetchOne hb s _
    · rfl
  · rfl

/-! ### Stations and what the lead mirrors of them (R114, R194, R195) -/

theorem view_mirror (hb : Blind view [.regs, .out, .twin]) (s : State) (r : MirrorRec) : view (mirror s r) = view s := by
  simp only [mirror, apply_ite view, view_varlanSend (hb.out rfl) (hb.twin rfl), view_bump (hb.regs rfl), hb.twin rfl, ite_self]

theorem view_mirrorStall (hb : Blind view [.regs]) (s : State) : view (mirrorStall s) = view s := by
  simp only [mirrorStall, view_bump (hb.regs rfl)]

theorem view_setStation (hb : Blind view [.mac]) (s : State) (i : Nat) (x : Station) : view (setStation s i x) = view s := by
  simp only [setStation, view_setMac (hb.mac rfl)]

theorem view_setBoard (hb : Blind view [.mac]) (s : State) (i tid : Nat) (b : Scoreboard) : view (setBoard s i tid b) = view s := by
  simp only [setBoard, view_setStation hb]

/-! ### Queues and meters (R320 to R333): the queues -/

theorem view_setAirQ (hb : Blind view [.miller]) (s : State) (a : Nat) (q : AirQueue) : view (setAirQ s a q) = view s := by
  simp only [setAirQ, view_setMiller (hb.miller rfl)]

theorem view_setWiredQ (hb : Blind view [.miller]) (s : State) (w : Nat) (q : WiredQueue) : view (setWiredQ s w q) = view s := by
  simp only [setWiredQ, view_setMiller (hb.miller rfl)]

theorem view_setWiredSched (hb : Blind view [.miller]) (s : State) (p : Nat) (x : Scheduler) : view (setWiredSched s p x) = view s := by
  simp only [setWiredSched, view_setMiller (hb.miller rfl)]

/-! ### Queues and meters (R320 to R333): air queues -/

theorem view_airWake (hb : Blind view [.regs, .miller]) (s : State) (a : Nat) : view (airWake s a) = view s := by
  simp only [airWake, apply_ite view, view_setAirQ (hb.sub rfl), view_setMiller (hb.miller rfl), view_wr (hb.regs rfl), ite_self]

theorem view_airLeave (hb : Blind view [.regs, .miller]) (s : State) (a : Nat) : view (airLeave s a) = view s := by
  simp only [airLeave, view_setAirQ (hb.sub rfl), view_setMiller (hb.miller rfl), view_wr (hb.regs rfl)]

theorem view_airEnqueue (hb : Blind view bufParts) (s : State) (a : Nat) (f : AirFrame) (colour : Nat) :
    view (airEnqueue s a f colour) = view s := by
  simp only [airEnqueue, apply_ite view, view_airWake (hb.sub rfl), view_setAirQ (hb.sub rfl), hb.dropLeg rfl, view_bump (hb.regs rfl),
      ite_self]

theorem view_airFlush (hb : Blind view bufParts) (s : State) (a : Nat) : view (airFlush s a) = view s := by
  simp only [airFlush, view_airLeave (hb.sub rfl), view_foldl fun t (f : AirFrame) => (hb.dropLeg rfl) t f.buf, view_setAirQ (hb.sub rfl)]

/-! ### Queues and meters (R320 to R333): wired queues -/

theorem view_wiredEnqueue (hb : Blind view bufParts) (s : State) (p w : Nat) (f : OutFrame) (colour : Nat) :
    view (wiredEnqueue s p w f colour) = view s := by
  simp only [wiredEnqueue, apply_ite view, view_setWiredSched (hb.sub rfl), view_setWiredQ (hb.sub rfl), hb.dropLeg rfl,
      view_bump (hb.regs rfl), ite_self]

theorem view_wiredFlush (hb : Blind view bufParts) (s : State) (p w : Nat) (counter : Option Nat) :
    view (wiredFlush s p w counter) = view s := by
  unfold wiredFlush
  extract_lets q n s1 s2 sched s3
  have hflushed : view s3 = view s := by
    simp only [s3, s2, s1, view_setWiredSched (hb.sub rfl), view_foldl fun t (f : OutFrame) => (hb.dropLeg rfl) t f.buf,
        view_setWiredQ (hb.sub rfl)]
  split
  · exact (view_bumpBy (hb.regs rfl) _ _ _).trans hflushed
  · exact hflushed

theorem view_portFlush (hb : Blind view bufParts) (s : State) (p : Nat) : view (portFlush s p) = view s := by
  simp only [portFlush, view_foldl fun t w => view_wiredFlush hb t p w (some O.down_drops)]

/-! ### Queues and meters (R320 to R333): the direct queues -/

theorem view_setHostDirect (hb : Blind view [.miller]) (s : State) (q : Nat) (l : List OutFrame) : view (setHostDirect s q l) = view s := by
  simp only [setHostDirect, view_setMiller (hb.miller rfl)]

theorem view_hostEnqueue (hb : Blind view bufParts) (s : State) (q : Nat) (f : OutFrame) : view (hostEnqueue s q f) = view s := by
  simp only [hostEnqueue, apply_ite view, view_setHostDirect (hb.sub rfl), hb.dropLeg rfl, view_setHq (hb.hostq rfl),
      view_bump (hb.regs rfl), ite_self]

theorem view_drainVarlan (hb : Blind view legParts) (s : State) (waiting : List OutFrame) : view (drainVarlan s waiting) = view s := by
  induction waiting generalizing s with
  | nil => exact view_setMiller (hb.miller rfl) s _
  | cons f l ih => simp only [drainVarlan, apply_ite view, view_setMiller (hb.miller rfl), ih, hb.dropLeg rfl, view_legLeft (hb.sub rfl),
      view_varlanSend (hb.out rfl) (hb.twin rfl), ite_self]

theorem view_varlanEnqueue (hb : Blind view legParts) (s : State) (f : OutFrame) : view (varlanEnqueue s f) = view s := by
  simp only [varlanEnqueue, apply_ite view, view_drainVarlan hb, hb.dropLeg rfl, view_bump (hb.regs rfl), ite_self]

/-! ### Queues and meters (R320 to R333): meters (R329 to R333) -/

theorem view_setMeter (hb : Blind view [.miller]) (s : State) (i : Nat) (m : Meter) : view (setMeter s i m) = view s := by
  simp only [setMeter, view_setMiller (hb.miller rfl)]

theorem view_meterFrame (hb : Blind view [.regs, .tinker, .miller]) (s : State) (i len colour : Nat) (ecc : Bool) :
    view (meterFrame s i len colour ecc).2.2 = view s := by
  simp only [meterFrame, apply_ite Prod.snd, apply_ite view, view_setMeter (hb.sub rfl), view_report (hb.regs rfl) (hb.tinker rfl),
      view_bump (hb.regs rfl), view_bumpBy (hb.regs rfl), ite_self]

theorem view_meterVia (hb : Blind view [.regs, .tinker, .miller]) (s : State) (word off len colour : Nat) (ecc : Bool) :
    view (meterVia s word off len colour ecc).2.2 = view s := by
  unfold meterVia
  split <;> simp only [view_meterFrame hb]

/-! ### MACsec on the uplink (R238 to R244) -/

theorem view_setLock (hb : Blind view [.lock]) (s : State) (l : Locksmith) : view (setLock s l) = view s := by
  simp only [setLock, hb.lock rfl]

theorem view_setAssoc (hb : Blind view [.lock]) (s : State) (i : Nat) (a : SecAssoc) : view (setAssoc s i a) = view s := by
  simp only [setAssoc, view_setLock hb]

theorem view_msTransmit (hb : Blind view [.regs, .tinker, .lock]) (s : State) (p : Nat) (bytes : Octets) :
    view (msTransmit s p bytes).2 = view s := by
  unfold msTransmit
  dsimp only
  (repeat' split)
  all_goals simp only [view_setAssoc (hb.sub rfl), view_report (hb.regs rfl) (hb.tinker rfl), view_bump (hb.regs rfl)]

theorem view_msReceive (hb : Blind view [.regs]) (s : State) (p : Nat) (f : UplinkFrame) : view (msReceive s p f).2 = view s := by
  unfold msReceive
  dsimp only
  (repeat' split)
  all_goals simp only [view_bump (hb.regs rfl)]

theorem view_msPass (hb : Blind view [.regs, .lock]) (s : State) (i pn : Nat) : view (msPass s i pn) = view s := by
  unfold msPass
  split <;> simp only [view_setAssoc (hb.sub rfl), view_bump (hb.regs rfl)]

theorem view_msFail (hb : Blind view [.regs, .tinker, .lock]) (s : State) (i : Nat) : view (msFail s i) = view s := by
  simp only [msFail, apply_ite view, view_setLock (hb.sub rfl), view_report (hb.regs rfl) (hb.tinker rfl), view_bump (hb.regs rfl),
      ite_self]

theorem view_saZeroise (hb : Blind view [.lock]) (s : State) : view (saZeroise s) = view s := by
  simp only [saZeroise, view_setLock hb]

theorem view_saInstall (hb : Blind view [.lock]) (s : State) : view (saInstall s).2 = view s := by
  unfold saInstall
  dsimp only
  (repeat' split)
  all_goals simp only [view_saZeroise hb, view_setAssoc hb]

theorem view_saDropQueued (hb : Blind view bufParts) (s : State) (p q : Nat) : view (saDropQueued s p q) = view s := by
  refine view_foldl (fun t w => ?_) _ s
  simp only [view_bumpBy (hb.regs rfl), view_foldl fun t (f : OutFrame) => (hb.dropLeg rfl) t f.buf, view_setWiredQ (hb.sub rfl)]

theorem view_saClear (hb : Blind view (.lock :: bufParts)) (s : State) : view (saClear s).2 = view s := by
  unfold saClear
  dsimp only
  split <;> simp only [apply_ite view, view_saDropQueued (hb.sub rfl), view_setLock (hb.sub rfl), ite_self]

theorem view_execSaClear (hseal : HidesSeal view) (hb : Blind view (.status :: .led :: .lock :: legParts)) (s t : State)
    (h : execSaClear s = .next t) : view t = view s := by
  refine view_act hseal ?_ h
  simp only [view_saClear (hb.sub rfl), view_command (hb.status rfl) (hb.out rfl) (hb.led rfl) (hb.twin rfl)]

/-! ### The schedulers of the ports (R323, R324, R406) -/

theorem view_tcCorrect (hb : Blind view [.regs]) (s : State) (f : OutFrame) : view (tcCorrect s f).2 = view s := by
  unfold tcCorrect
  split <;> simp only [apply_ite Prod.snd, apply_ite view, view_bump (hb.regs rfl), ite_self]

theorem view_endTurn (hb : Blind view [.miller]) (s : State) (p w : Nat) : view (endTurn s p w) = view s := by
  simp only [endTurn, view_setWiredSched hb, view_setWiredQ hb]

theorem view_leaveList (hb : Blind view [.miller]) (s : State) (p w : Nat) : view (leaveList s p w) = view s := by
  simp only [leaveList, view_setWiredSched hb, view_setWiredQ hb]

theorem view_pickRound (hb : Blind view [.regs, .miller]) (p : Nat) (fuel : Nat) (waited : List Nat) (s : State) :
    view (pickRound p fuel waited s).2 = view s := by
  induction fuel generalizing waited s with
  | zero => rfl
  | succ n ih =>
    unfold pickRound
    dsimp only
    split
    · simp only [apply_ite Prod.snd, apply_ite view, ih, view_setWiredSched (hb.sub rfl), view_bump (hb.regs rfl), ite_self]
    · split
      · simp only [ih, view_leaveList (hb.sub rfl)]
      · simp only [apply_ite Prod.snd, apply_ite view, ih, view_endTurn (hb.sub rfl), view_bump (hb.regs rfl), view_setWiredQ (hb.sub rfl),
          ite_self]

theorem view_pickStrict (hb : Blind view [.regs]) (s : State) (listed : List Nat) : view (pickStrict s listed).2 = view s := by
  induction listed generalizing s with
  | nil => rfl
  | cons w l ih =>
    unfold pickStrict
    split
    · simp only [apply_ite Prod.snd, apply_ite view, ih, view_bump (hb.regs rfl), ite_self]
    · exact ih s

theorem view_pickWired (hb : Blind view [.regs, .miller]) (s : State) (p : Nat) : view (pickWired s p).2 = view s := by
  unfold pickWired
  split
  next heq => exact view_of_snd heq (view_pickStrict (hb.sub rfl) s _)
  next heq => exact (view_pickRound hb _ _ _ _).trans (view_of_snd heq (view_pickStrict (hb.sub rfl) s _))

theorem view_popWired (hb : Blind view [.miller]) (s : State) (p w : Nat) (f : OutFrame) : view (popWired s p w f) = view s := by
  simp only [popWired, view_setWiredQ hb]

theorem view_wiredStart (hb : Blind view (.tinker :: .lock :: bufParts)) (s : State) (p w : Nat) (f : OutFrame) :
    view (wiredStart s p w f) = view s := by
  have hcorrected := view_tcCorrect (hb.sub rfl) s f
  unfold wiredStart
  dsimp only
  split
  next heq => exact ((hb.dropLeg rfl) _ _).trans ((view_of_snd heq (view_msTransmit (hb.sub rfl) _ _ _)).trans hcorrected)
  next how t _ heq =>
    simp only [hb.dropLeg rfl, view_legLeft (hb.sub rfl), view_send (hb.out rfl), view_bumpBy (hb.regs rfl), view_bump (hb.regs rfl),
        view_setWiredQ (hb.sub rfl)]
    exact (view_of_snd heq (view_msTransmit (hb.sub rfl) _ _ _)).trans hcorrected

theorem view_linkFlush (hb : Blind view (.tinker :: bufParts)) (s : State) (p w : Nat) : view (linkFlush s p w) = view s := by
  simp only [linkFlush, view_wiredFlush (hb.sub rfl), view_setMiller (hb.miller rfl), view_report (hb.regs rfl) (hb.tinker rfl),
      view_wr (hb.regs rfl)]

theorem view_execWiredDequeue (hseal : HidesSeal view) (hb : Blind view (.tinker :: .lock :: bufParts)) (port : Fin 8) (e : QueueError)
    (s t : State) (h : execWiredDequeue port e s = .next t) : view t = view s := by
  refine view_act hseal ?_ h
  split
  · split
    next w t heq =>
      have hpicked := view_of_snd heq (view_pickWired (hb.sub rfl) s port)
      split
      · cases e <;> simp only [view_wiredStart hb, view_report (hb.regs rfl) (hb.tinker rfl), view_bump (hb.regs rfl), hb.dropLeg rfl,
          view_popWired (hb.sub rfl), view_linkFlush (hb.sub rfl), hpicked]
      · exact hpicked
    next heq => exact view_of_snd heq (view_pickWired (hb.sub rfl) s port)
  · rfl

end

end Sys2Proof.Machine
end

section
/-! Views that are blind to what parsing, rules, flows, tokens and tasks set (R246 to R307, R340 to R353). -/

namespace Sys2Proof.Machine

section

variable {α : Type} {view : State → α}

/-! ### The parse graph (R246 to R267) -/

theorem view_setGraph (hb : Blind view [.graph]) (s : State) (g : Graph) : view (setGraph s g) = view s := by
  simp only [setGraph, hb.graph rfl]

theorem view_graphChecked (hb : Blind view [.regs]) (s : State) : view (graphChecked s).2 = view s := by
  simp only [graphChecked, view_checkStaged (hb.regs rfl)]

theorem view_graphDefaulted (hb : Blind view [.graph]) (s : State) : view (graphDefaulted s).2 = view s := by
  simp only [graphDefaulted, apply_ite Prod.snd, apply_ite view, view_setGraph hb, ite_self]

theorem view_graphSwap (hb : Blind view [.regs, .graph]) (s : State) : view (graphSwap s) = view s := by
  simp only [graphSwap, apply_ite view, view_setGraph (hb.sub rfl), view_bump (hb.regs rfl), ite_self]

theorem view_graphUnswap (hb : Blind view [.regs, .graph]) (s : State) (staged : Tab Nat) : view (graphUnswap s staged) = view s := by
  simp only [graphUnswap, apply_ite view, view_setGraph (hb.sub rfl), view_bump (hb.regs rfl), ite_self]

/-! ### The rule memory (R276 to R283) -/

theorem view_setRules (hb : Blind view [.rules]) (s : State) (r : Rules) : view (setRules s r) = view s := by
  simp only [setRules, hb.rules rfl]

theorem view_logChange (hb : Blind view [.regs, .rules]) (s : State) (r : Rules) : view (logChange s r).2 = view s := by
  simp only [logChange, apply_ite Prod.snd, apply_ite view, view_setRules (hb.sub rfl), view_wr (hb.regs rfl), ite_self]

theorem view_logRow (hb : Blind view [.regs, .rules]) (s : State) (row : Nat) (x : RowStage) : view (logRow s row x).2 = view s := by
  simp only [logRow, view_logChange hb]

theorem view_ruleStage (hb : Blind view [.regs, .rules]) (s : State) (w : RuleWrite) : view (ruleStage s w).2 = view s := by
  unfold ruleStage
  (repeat' split)
  all_goals simp only [apply_ite Prod.snd, apply_ite view, view_logRow hb, view_logChange hb, ite_self]

theorem view_clearRowCounters (hb : Blind view [.regs]) (s : State) (r : Rules) : view (clearRowCounters s r) = view s := by
  simp only [clearRowCounters, hb.regs rfl]

theorem view_drainCheck (hb : Blind view [.regs]) (s : State) : view (drainCheck s) = view s := by
  simp only [drainCheck, apply_ite view, view_wr (hb.regs rfl), ite_self]

theorem view_ruleSwitch (hb : Blind view [.regs, .rules]) (s : State) : view (ruleSwitch s) = view s := by
  simp only [ruleSwitch, view_drainCheck (hb.sub rfl), view_clearRowCounters (hb.sub rfl), view_setRules (hb.sub rfl),
      view_bump (hb.regs rfl), view_wr (hb.regs rfl)]

theorem view_ruleCommit (hb : Blind view [.regs, .rules]) (s : State) (peerBusy : Bool) : view (ruleCommit s peerBusy).2 = view s := by
  simp only [ruleCommit, apply_ite Prod.snd, apply_ite view, view_ruleSwitch hb, view_bump (hb.regs rfl), ite_self]

theorem view_execRuleCommit (hseal : HidesSeal view) (hb : Blind view [.regs, .status, .out, .led, .twin, .rules]) (peerBusy : Bool)
    (s t : State) (h : execRuleCommit peerBusy s = .next t) : view t = view s := by
  refine view_act hseal ?_ h
  simp only [view_ruleCommit (hb.sub rfl), view_command (hb.status rfl) (hb.out rfl) (hb.led rfl) (hb.twin rfl)]

theorem view_ruleDiscard (hb : Blind view [.regs, .rules]) (s : State) : view (ruleDiscard s) = view s := by
  simp only [ruleDiscard, view_setRules (hb.sub rfl), view_wr (hb.regs rfl)]

theorem view_ruleReload (hb : Blind view [.regs, .rules]) (s : State) : view (ruleReload s) = view s := by
  simp only [ruleReload, view_setRules (hb.sub rfl), view_wr (hb.regs rfl)]

/-! ### A leg enters its queue (R303, R321) -/

theorem view_legDrop (hb : Blind view bufParts) (s : State) (x : Carried) (k : Nat) : view (legDrop s x k) = view s := by
  simp only [legDrop, hb.dropLeg rfl, view_bump (hb.regs rfl)]

theorem view_uplinkLeg (hb : Blind view bufParts) (s : State) (x : Carried) (l : Leg) (p colour h : Nat) :
    view (uplinkLeg s x l p colour h) = view s := by
  simp only [uplinkLeg, apply_ite view, view_legDrop hb, view_wiredEnqueue hb, ite_self]

theorem view_stationLeg (hb : Blind view bufParts) (s : State) (x : Carried) (l : Leg) (i colour : Nat) (link : Option Nat) :
    view (stationLeg s x l i colour link) = view s := by
  simp only [stationLeg, apply_ite view, view_legDrop hb, view_airEnqueue hb, ite_self]

theorem view_bssLeg (hb : Blind view bufParts) (s : State) (x : Carried) (l : Leg) (j : Nat) : view (bssLeg s x l j) = view s := by
  simp only [bssLeg, apply_ite view, view_legDrop hb, view_setMiller (hb.miller rfl), ite_self]

theorem view_mirrorLeg (hb : Blind view legParts) (s : State) (x : Carried) (l : Leg) (k colour h : Nat) :
    view (mirrorLeg s x l k colour h) = view s := by
  simp only [mirrorLeg, apply_ite view, view_legDrop (hb.sub rfl), view_varlanEnqueue hb, view_hostEnqueue (hb.sub rfl),
      view_wiredEnqueue (hb.sub rfl), view_bump (hb.regs rfl), ite_self]

theorem view_enterLeg (hb : Blind view legParts) (s : State) (x : Carried) (l : Leg) (colour h : Nat) :
    view (enterLeg s x l colour h) = view s := by
  unfold enterLeg
  (repeat' split)
  all_goals simp only [apply_ite view, view_mirrorLeg hb, view_bssLeg (hb.sub rfl), view_stationLeg (hb.sub rfl),
      view_uplinkLeg (hb.sub rfl), view_legDrop (hb.sub rfl), view_varlanEnqueue hb, view_hostEnqueue (hb.sub rfl), hb.dropLeg rfl,
      view_bump (hb.regs rfl), ite_self]

theorem view_egressMeter (hb : Blind view [.regs, .tinker, .miller]) (s : State) (l : Leg) (len colour : Nat) (ecc : Bool) :
    view (egressMeter s l len colour ecc).2.2 = view s := by
  unfold egressMeter
  (repeat' split)
  all_goals simp only [view_meterVia hb]

theorem view_copyLeg (hb : Blind view (.tinker :: legParts)) (s : State) (x : Carried) (l : Leg) (colour h : Nat) :
    view (copyLeg s x l colour h) = view s := by
  simp only [copyLeg, apply_ite view, view_egressMeter (hb.sub rfl), view_enterLeg (hb.sub rfl), hb.dropLeg rfl, ite_self]

/-! ### Flows, the forwarding database and routes -/

theorem view_setSwitch (hb : Blind view [.switch]) (s : State) (x : Switch) : view (setSwitch s x) = view s := by
  simp only [setSwitch, hb.switch rfl]

/-! ### Flows, the forwarding database and routes: records and the cache (R299, R300) -/

theorem view_cachePut (hb : Blind view [.regs, .switch, .dram]) (s : State) (h i : Nat) : view (cachePut s h i) = view s := by
  unfold cachePut
  dsimp only
  (repeat' split)
  all_goals simp only [view_setSwitch (hb.sub rfl), view_dramRequest (hb.sub rfl)]

theorem view_freeRec (hb : Blind view [.regs, .switch]) (s : State) (i : Nat) : view (freeRec s i) = view s := by
  simp only [freeRec, view_setSwitch (hb.sub rfl), view_wr (hb.regs rfl)]

theorem view_missOverload (hb : Blind view [.regs, .tinker, .switch]) (s : State) : view (missOverload s) = view s := by
  simp only [missOverload, apply_ite view, view_setSwitch (hb.sub rfl), view_report (hb.regs rfl) (hb.tinker rfl), ite_self]

theorem view_flowAsk (hb : Blind view [.regs, .tinker, .switch, .dram]) (s : State) (key : Octets) (h : Nat) :
    view (flowAsk s key h).2 = view s := by
  unfold flowAsk
  (repeat' split)
  all_goals simp only [apply_ite Prod.snd, apply_ite view, view_missOverload (hb.sub rfl), view_setSwitch (hb.sub rfl),
      view_dramRequest (hb.sub rfl), view_wr (hb.regs rfl), ite_self]

theorem view_badRecords (hb : Blind view [.regs, .tinker, .switch]) (s : State) (l : List Nat) : view (badRecords s l) = view s := by
  refine view_foldl (fun t b => ?_) _ _
  simp only [view_freeRec (hb.sub rfl), view_report (hb.regs rfl) (hb.tinker rfl), view_bump (hb.regs rfl)]

theorem view_badInDram (hb : Blind view [.regs, .tinker, .steward, .switch, .dram]) (s : State) (l : List Nat) :
    view (badInDram s l) = view s := by
  exact (view_badRecords (hb.sub rfl) _ _).trans (view_foldl (fun t i => view_dramError (hb.sub rfl) t _ _) _ s)

theorem view_bucketArrived (hb : Blind view [.regs, .tinker, .steward, .switch, .dram]) (s : State) (b : Nat) (bad : List Nat) :
    view (bucketArrived s b bad) = view s := by
  simp only [bucketArrived, view_badInDram hb, view_setSwitch (hb.sub rfl), view_panicLevels (hb.sub rfl)]

theorem view_bucketAnswer (hb : Blind view [.regs, .switch, .dram]) (s : State) (key : Octets) (h : Nat) :
    view (bucketAnswer s key h).2 = view s := by
  unfold bucketAnswer
  split <;> simp only [view_cachePut hb]

/-! ### Flows, the forwarding database and routes: at dispatch (R301, R302) -/

theorem view_flowUpdate (hb : Blind view [.regs, .switch]) (s : State) (i : Nat) (r : FlowRec) (d : Decision) (len : Nat) :
    view (flowUpdate s i r d len) = view s := by
  simp only [flowUpdate, apply_ite view, view_setSwitch (hb.sub rfl), view_bump (hb.regs rfl), ite_self]

theorem view_flowApply (hb : Blind view [.regs, .switch, .dram]) (s : State) (d : Decision) (len : Nat) :
    view (flowApply s d len) = view s := by
  unfold flowApply
  (repeat' split)
  all_goals simp only [view_flowUpdate (hb.sub rfl), view_cachePut hb, view_setSwitch (hb.sub rfl), view_bump (hb.regs rfl),
      view_wr (hb.regs rfl)]

/-! ### Flows, the forwarding database and routes: the forwarding database (R292) -/

theorem view_setFdb (hb : Blind view [.regs, .switch]) (s : State) (l : List FdbEntry) : view (setFdb s l) = view s := by
  simp only [setFdb, view_setSwitch (hb.sub rfl), view_wr (hb.regs rfl)]

theorem view_fdbLearn (hb : Blind view [.regs, .switch]) (s : State) (v : Nat) (a : Octets) (place : Nat) :
    view (fdbLearn s v a place) = view s := by
  unfold fdbLearn
  split <;> simp only [apply_ite view, view_setFdb hb, view_bump (hb.regs rfl), ite_self]

theorem view_fdbApply (hb : Blind view [.regs, .switch]) (s : State) (d : Decision) : view (fdbApply s d) = view s := by
  unfold fdbApply
  split <;> simp only [view_fdbLearn hb]

/-! ### Flows, the forwarding database and routes: ageing and the flow window (R304) -/

theorem view_flowDelete (hb : Blind view [.regs, .switch]) (s : State) : view (flowDelete s).2 = view s := by
  simp only [flowDelete, apply_ite view, view_freeRec hb, ite_self]

theorem view_flowFlush (hb : Blind view [.regs, .switch]) (s : State) : view (flowFlush s).2 = view s := by
  simp only [flowFlush, apply_ite Prod.snd, apply_ite view, view_setSwitch (hb.sub rfl), view_wr (hb.regs rfl), ite_self]

/-! ### Flows, the forwarding database and routes: the route window (R295, R311) -/

theorem view_setRoutes (hb : Blind view [.regs, .switch]) (s : State) (v6 : Bool) (l : List Route) : view (setRoutes s v6 l) = view s := by
  simp only [setRoutes, view_setSwitch (hb.sub rfl), view_wr (hb.regs rfl)]

theorem view_routeChanged (hb : Blind view [.regs]) (s : State) : view (routeChanged s) = view s := by
  simp only [routeChanged, view_wr (hb.regs rfl)]

theorem view_routeAdd (hb : Blind view [.regs, .switch]) (s : State) : view (routeAdd s).2 = view s := by
  simp only [routeAdd, apply_ite Prod.snd, apply_ite view, view_routeChanged (hb.sub rfl), view_setRoutes hb, ite_self]

theorem view_routeDelete (hb : Blind view [.regs, .switch]) (s : State) : view (routeDelete s).2 = view s := by
  simp only [routeDelete, apply_ite Prod.snd, apply_ite view, view_routeChanged (hb.sub rfl), view_setRoutes hb, ite_self]

theorem view_routeFind (hb : Blind view [.regs]) (s : State) : view (routeFind s).2 = view s := by
  unfold routeFind
  (repeat' split)
  all_goals simp only [view_wr (hb.regs rfl)]

/-! ### Flows, the forwarding database and routes: ports (R288, R289) -/

theorem view_portDown (hb : Blind view (.tinker :: bufParts)) (s : State) (p next : Nat) : view (portDown s p next) = view s := by
  simp only [portDown, apply_ite view, view_portFlush (hb.sub rfl), view_report (hb.regs rfl) (hb.tinker rfl), view_bump (hb.regs rfl),
      view_wr (hb.regs rfl), ite_self]

theorem view_execPortDown (hseal : HidesSeal view) (hb : Blind view (.tinker :: bufParts)) (port : Fin 8) (codewords : Nat) (s t : State)
    (h : execPortDown port codewords s = .next t) : view t = view s := by
  refine view_act hseal ?_ h
  simp only [apply_ite view, view_portDown hb, view_bumpBy (hb.regs rfl), ite_self]

theorem view_portsRestart (hb : Blind view (.tinker :: bufParts)) (s : State) : view (portsRestart s) = view s := by
  exact (view_foldl (fun t p => view_portDown hb t p _) _ _).trans (view_setClk (hb.regs rfl) s 11 _)

/-! ### Flows, the forwarding database and routes: announcements (R307) -/

theorem view_execAnnounceFrame (hseal : HidesSeal view) (hb : Blind view (.switch :: legParts)) (s t : State)
    (h : execAnnounceFrame s = .next t) : view t = view s := by
  refine view_act hseal ?_ h
  split
  · dsimp only
    split
    next heq =>
      simp only [view_bump (hb.regs rfl), view_enterLeg (hb.sub rfl), view_setSwitch (hb.sub rfl)]
      exact view_of_snd heq (view_takeBuf (hb.sub rfl) s _ _ _ _)
    next => rfl
  · exact view_setSwitch (hb.sub rfl) s _

/-! ### Tokens and tasks -/

theorem view_setCarter (hb : Blind view [.carter]) (s : State) (c : Carter) : view (setCarter s c) = view s := by
  simp only [setCarter, hb.carter rfl]

/-! ### Tokens and tasks: cancellation (R346) -/

theorem view_cancelToken (hb : Blind view (.carter :: bufParts)) (s : State) (id : Nat) : view (cancelToken s id) = view s := by
  simp only [cancelToken, view_foldl (hb.dropLeg rfl), view_setCarter (hb.sub rfl), view_drainCheck (hb.sub rfl)]

theorem view_cancelWith (hb : Blind view (.carter :: bufParts)) (s : State) (id k : Nat) : view (cancelWith s id k) = view s := by
  simp only [cancelWith, apply_ite view, view_cancelToken hb, view_bump (hb.regs rfl), ite_self]

/-! ### Tokens and tasks: allocation (R341, R343, R344) -/

theorem view_matchFull (hb : Blind view (.tinker :: .carter :: bufParts)) (s : State) (f : Frame) : view (matchFull s f) = view s := by
  simp only [matchFull, apply_ite view, view_setCarter (hb.sub rfl), hb.dropLeg rfl, view_report (hb.regs rfl) (hb.tinker rfl),
      view_bump (hb.regs rfl), ite_self]

theorem view_putToken (hb : Blind view [.regs, .carter]) (s : State) (t : Token) : view (putToken s t) = view s := by
  simp only [putToken, view_setCarter (hb.sub rfl), view_bump (hb.regs rfl), view_wr (hb.regs rfl)]

/-! ### Tokens and tasks: release (R347 to R349) -/

theorem view_ringDrop (hb : Blind view (.tinker :: .carter :: bufParts)) (s : State) (id : Nat) : view (ringDrop s id) = view s := by
  simp only [ringDrop, apply_ite view, view_cancelWith (hb.sub rfl), view_setCarter (hb.sub rfl), view_report (hb.regs rfl)
      (hb.tinker rfl), ite_self]

theorem view_placeTask (hb : Blind view [.regs, .carter, .dram]) (s : State) (k : Task) : view (placeTask s k).2 = view s := by
  simp only [placeTask, apply_ite Prod.snd, apply_ite view, view_setCarter (hb.sub rfl), view_ringRequest (hb.sub rfl),
      view_bump (hb.regs rfl), ite_self]

theorem view_placeTasks (hb : Blind view taskParts) (s : State) (id buf : Nat) (tasks : List Task) :
    view (placeTasks s id buf tasks) = view s := by
  induction tasks generalizing s with
  | nil => rfl
  | cons k l ih =>
    have hplaced : view (placeTask (if k.leg.isSome then addLeg s buf else s) k).2 = view s := by
      simp only [view_placeTask (hb.sub rfl), apply_ite view, view_addLeg (hb.sub rfl), ite_self]
    unfold placeTasks
    split
    next u heq => exact (ih u).trans (view_of_snd heq hplaced)
    next u heq => exact (view_ringDrop (hb.sub rfl) _ _).trans (((hb.dropLeg rfl) u _).trans (view_of_snd heq hplaced))

theorem view_releaseToken (hb : Blind view taskParts) (s : State) (t : Token) : view (releaseToken s t) = view s := by
  simp only [releaseToken, view_placeTasks hb, view_setCarter (hb.sub rfl)]

theorem view_tryRelease (hb : Blind view taskParts) (s : State) (id : Nat) : view (tryRelease s id) = view s := by
  unfold tryRelease
  split <;> simp only [apply_ite view, view_releaseToken hb, ite_self]

theorem view_tryAll (hb : Blind view taskParts) (s : State) (ids : List Nat) : view (tryAll s ids) = view s := by
  simp only [tryAll, view_foldl (view_tryRelease hb)]

theorem view_setToken (hb : Blind view [.carter]) (s : State) (t : Token) : view (setToken s t) = view s := by
  simp only [setToken, view_setCarter hb]

theorem view_allocFixed (hb : Blind view taskParts) (s : State) (f : Frame) (q : Nat) : view (allocFixed s f q) = view s := by
  simp only [allocFixed, apply_ite view, view_tryRelease hb, view_putToken (hb.sub rfl), view_matchFull (hb.sub rfl), ite_self]

/-! ### Tokens and tasks: verdicts (R234, R235, R240, R342) -/

theorem view_verdictPass (hb : Blind view (.entering :: taskParts)) (s : State) (m : Nat) : view (verdictPass s m) = view s := by
  simp only [verdictPass, view_tryAll (hb.sub rfl), view_setCarter (hb.sub rfl), hb.entering rfl]

theorem view_verdictFail (hb : Blind view (.entering :: .carter :: bufParts)) (s : State) (m : Nat) : view (verdictFail s m) = view s := by
  refine (view_foldl (fun t i => view_cancelWith (hb.sub rfl) t i _) _ _).trans ?_
  exact (view_foldl (fun t (f : Frame) => (hb.dropLeg rfl) t f.buf) _ _).trans ((hb.entering rfl) s _)

/-! ### Tokens and tasks: the walk (R247, R256, R266) -/

theorem view_graphFaultReport (hb : Blind view [.regs, .tinker, .graph]) (s : State) : view (graphFaultReport s) = view s := by
  simp only [graphFaultReport, apply_ite view, view_setGraph (hb.sub rfl), view_report (hb.regs rfl) (hb.tinker rfl), ite_self]

theorem view_graphFaulted (hb : Blind view [.regs, .tinker, .graph]) (s : State) (e : Option Nat) : view (graphFaulted s e) = view s := by
  unfold graphFaulted
  split <;> simp only [apply_ite view, view_graphFaultReport hb, view_setGraph (hb.sub rfl), view_report (hb.regs rfl) (hb.tinker rfl),
      view_bump (hb.regs rfl), ite_self]

theorem view_execParseWalk (hseal : HidesSeal view) (hb : Blind view (.entering :: .graph :: taskParts)) (bad : Option Nat) (s t : State)
    (h : execParseWalk bad s = .next t) : view t = view s := by
  refine view_act hseal ?_ h
  split <;> simp only [apply_ite view, view_graphFaulted (hb.sub rfl), view_tryRelease (hb.sub rfl), view_putToken (hb.sub rfl),
      view_matchFull (hb.sub rfl), hb.entering rfl, ite_self]

/-! ### Tokens and tasks: the lookup (R271, R279, R280, R290) -/

theorem view_setFate (hb : Blind view taskParts) (s : State) (t : Token) (fate : Fate) : view (setFate s t fate) = view s := by
  simp only [setFate, view_setToken (hb.sub rfl), view_tryRelease hb]

theorem view_decidingFor (hb : Blind view [.carter]) (s : State) (id : Nat) : view (decidingFor s id) = view s := by
  simp only [decidingFor, view_setCarter hb]

theorem view_lookupFate (hb : Blind view fateParts) (s : State) (t : Token) : view (lookupFate s t) = view s := by
  unfold lookupFate
  dsimp only
  split
  · split
    · split
      next heq => exact (view_setFate (hb.sub rfl) _ _ _).trans ((view_decidingFor (hb.sub rfl) _ _).trans
          (view_of_snd heq (view_flowAsk (hb.sub rfl) s _ _)))
      next heq => exact (view_setToken (hb.sub rfl) _ _).trans (view_of_snd heq (view_flowAsk (hb.sub rfl) s _ _))
    · exact (view_setFate (hb.sub rfl) _ _ _).trans (view_decidingFor (hb.sub rfl) s _)
  · exact (view_setFate (hb.sub rfl) _ _ _).trans (view_decidingFor (hb.sub rfl) s _)

theorem view_actionFate (hb : Blind view fateParts) (s : State) (t : Token) : view (actionFate s t) = view s := by
  simp only [actionFate, apply_ite view, view_lookupFate hb, view_setFate (hb.sub rfl), ite_self]

theorem view_execRuleLookup (hseal : HidesSeal view) (hb : Blind view fateParts) (s t : State) (h : execRuleLookup s = .next t) :
    view t = view s := by
  refine view_act hseal ?_ h
  dsimp only
  (repeat' split)
  all_goals simp only [view_actionFate hb, view_setFate (hb.sub rfl), view_setToken (hb.sub rfl), view_drainCheck (hb.sub rfl)]

theorem view_execDrainLimitExpire (hseal : HidesSeal view) (hb : Blind view taskParts) (s t : State)
    (h : execDrainLimitExpire s = .next t) : view t = view s := by
  refine view_act hseal ?_ h
  simp only [apply_ite view, view_tryAll hb, view_setCarter (hb.sub rfl), view_drainCheck (hb.sub rfl), view_report (hb.regs rfl)
      (hb.tinker rfl), ite_self]

theorem view_bucketFate (hb : Blind view fateParts) (s : State) (id : Nat) : view (bucketFate s id) = view s := by
  unfold bucketFate
  dsimp only
  (repeat' split)
  all_goals simp only [view_setFate (hb.sub rfl), view_bucketAnswer (hb.sub rfl)]

theorem view_execFlowBucketArrival (hseal : HidesSeal view) (hb : Blind view (.steward :: fateParts)) (bucket : Nat) (bad : List Nat)
    (s t : State) (h : execFlowBucketArrival bucket bad s = .next t) : view t = view s := by
  refine view_act hseal ?_ h
  simp only [apply_ite view, view_foldl (view_bucketFate (hb.sub rfl)), view_bucketArrived (hb.sub rfl), ite_self]

/-! ### Tokens and tasks: dispatch (R347, R348, R350) -/

theorem view_takeFrom (hb : Blind view [.regs, .carter]) (s : State) (urgent : Bool) : view (takeFrom s urgent).2 = view s := by
  simp only [takeFrom, view_setCarter (hb.sub rfl), view_bumpBy (hb.regs rfl)]

theorem view_takeTask (hb : Blind view [.regs, .carter]) (s : State) : view (takeTask s).2 = view s := by
  unfold takeTask
  dsimp only
  split
  next heq => exact view_of_snd heq (view_takeFrom hb s _)
  next heq => exact (view_takeFrom hb _ _).trans (view_of_snd heq (view_takeFrom hb s _))

theorem view_discardCopies (hb : Blind view (.carter :: bufParts)) (s : State) (id : Nat) (keep : Bool) :
    view (discardCopies s id keep) = view s := by
  simp only [discardCopies, view_foldl (hb.dropLeg rfl), view_setCarter (hb.sub rfl)]

theorem view_countRule (hb : Blind view [.regs]) (s : State) (row : Option Nat) (commit len : Nat) :
    view (countRule s row commit len) = view s := by
  unfold countRule
  split <;> simp only [apply_ite view, view_bump (hb.regs rfl), view_bumpBy (hb.regs rfl), ite_self]

theorem view_ingressMeter (hb : Blind view [.regs, .tinker, .miller]) (s : State) (f : Frame) (d : Decision) (ecc : Bool) :
    view (ingressMeter s f d ecc).2.2 = view s := by
  simp only [ingressMeter, apply_ite Prod.snd, apply_ite view, view_meterVia hb, ite_self]

theorem view_recolour (hb : Blind view [.carter]) (s : State) (id colour : Nat) : view (recolour s id colour) = view s := by
  simp only [recolour, view_setCarter hb]

theorem view_primaryDrop (hb : Blind view (.carter :: bufParts)) (s : State) (t : Token) (keep : Bool) :
    view (primaryDrop s t keep) = view s := by
  simp only [primaryDrop, view_discardCopies hb, hb.dropLeg rfl]

theorem view_countClass (hb : Blind view [.regs, .tinker, .graph]) (s : State) (c source action : Nat) :
    view (countClass s c source action) = view s := by
  simp only [countClass, apply_ite view, view_setGraph (hb.sub rfl), view_reportWith (hb.regs rfl) (hb.tinker rfl),
      view_bump (hb.regs rfl), view_wr (hb.regs rfl), ite_self]

theorem view_exceptionWork (hb : Blind view (.tinker :: .graph :: legParts)) (s : State) (t : Token) (fixed : Nat) :
    view (exceptionWork s t fixed) = view s := by
  simp only [exceptionWork, apply_ite view, view_countClass (hb.sub rfl), view_enterLeg (hb.sub rfl), hb.dropLeg rfl, ite_self]

theorem view_ruledWork (hb : Blind view (.twin :: fateParts)) (s : State) (t : Token) (row : Option Nat) (commit action : Nat)
    (d : Decision) (ecc : Bool) : view (ruledWork s t row commit action d ecc) = view s := by
  unfold ruledWork
  (repeat' split)
  all_goals simp only [apply_ite view, view_foldl (view_bump (hb.regs rfl)), view_primaryDrop (hb.sub rfl), view_recolour (hb.sub rfl),
      view_ingressMeter (hb.sub rfl), view_countRule (hb.sub rfl), view_fdbApply (hb.sub rfl), view_flowApply (hb.sub rfl),
      view_egressMeter (hb.sub rfl), view_enterLeg (hb.sub rfl), ite_self]

theorem view_countWalk (hb : Blind view [.regs]) (s : State) (t : Token) : view (countWalk s t) = view s := by
  simp only [countWalk, apply_ite view, view_bump (hb.regs rfl), view_bumpBy (hb.regs rfl), view_wr (hb.regs rfl), ite_self]

theorem view_countClassify (hb : Blind view [.regs, .tinker, .graph]) (s : State) (t : Token) : view (countClassify s t) = view s := by
  simp only [countClassify, apply_ite view, view_countClass hb, ite_self]

theorem view_primaryWork (hb : Blind view dispatchParts) (s : State) (t : Token) (ecc : Bool) : view (primaryWork s t ecc) = view s := by
  unfold primaryWork
  (repeat' split)
  all_goals simp only [apply_ite view, view_countClassify (hb.sub rfl), view_countWalk (hb.sub rfl), view_ruledWork (hb.sub rfl),
      view_exceptionWork (hb.sub rfl), view_primaryDrop (hb.sub rfl), view_enterLeg (hb.sub rfl), hb.dropLeg rfl, view_bump (hb.regs rfl),
      ite_self]

theorem view_copyWork (hb : Blind view (.tinker :: legParts)) (s : State) (t : Token) (l : Leg) : view (copyWork s t l) = view s := by
  simp only [copyWork, view_copyLeg hb]

theorem view_dispatchTask (hb : Blind view dispatchParts) (s : State) (k : Task) (ecc : Bool) : view (dispatchTask s k ecc) = view s := by
  unfold dispatchTask
  dsimp only
  split <;> simp only [apply_ite view, view_copyWork (hb.sub rfl), view_primaryWork hb, view_setCarter (hb.sub rfl),
      view_bump (hb.regs rfl), ite_self]

theorem view_taskError (hb : Blind view (.tinker :: .carter :: bufParts)) (s : State) (k : Task) (tracker : Bool) :
    view (taskError s k tracker) = view s := by
  simp only [taskError, apply_ite view, view_cancelToken (hb.sub rfl), view_setCarter (hb.sub rfl), hb.dropLeg rfl,
      view_report (hb.regs rfl) (hb.tinker rfl), view_bump (hb.regs rfl), ite_self]

theorem view_execTaskDispatch (hseal : HidesSeal view) (hb : Blind view dispatchParts) (e : TaskError) (s t : State)
    (h : execTaskDispatch e s = .next t) : view t = view s := by
  refine view_act hseal ?_ h
  split
  · rfl
  · split
    next heq => exact view_of_snd heq (view_takeTask (hb.sub rfl) s)
    next heq => cases e <;> simp only [view_taskError (hb.sub rfl), view_dispatchTask hb, view_of_snd heq (view_takeTask (hb.sub rfl) s)]

theorem view_execTaskAgeTimeout (hseal : HidesSeal view) (hb : Blind view (.tinker :: .carter :: bufParts)) (token : Nat) (s t : State)
    (h : execTaskAgeTimeout token s = .next t) : view t = view s := by
  refine view_act hseal ?_ h
  simp only [apply_ite view, view_cancelWith (hb.sub rfl), view_report (hb.regs rfl) (hb.tinker rfl), ite_self]

theorem view_execTrackerRewriteDone (hseal : HidesSeal view) (hb : Blind view taskParts) (s t : State)
    (h : execTrackerRewriteDone s = .next t) : view t = view s := by
  refine view_act hseal ?_ h
  simp only [view_tryAll hb, view_setCarter (hb.sub rfl)]

end

end Sys2Proof.Machine
end

section
/-! Views that are blind to what receptions, keys and the station table set (R113 to R148, R216 to R244). -/

namespace Sys2Proof.Machine

section

variable {α : Type} {view : State → α}

/-! ### The radios (R76 to R111) -/

theorem view_txReport (hb : Blind view [.regs, .txReports]) (s : State) (r : Nat) (c : TxCmd) (res : TxResult) :
    view (txReport s r c res) = view s := by
  simp only [txReport, view_bump (hb.regs rfl), hb.txReports rfl]

theorem view_offerCommand (hb : Blind view [.regs, .radios, .txReports]) (s : State) (r : Nat) (c : TxCmd) :
    view (offerCommand s r c) = view s := by
  unfold offerCommand
  split <;> simp only [apply_ite view, view_txReport (hb.sub rfl), view_setRadio (hb.radios rfl), ite_self]

theorem view_derateDie (hb : Blind view [.regs, .tinker]) (s : State) (r : Nat) : view (derateDie s r) = view s := by
  simp only [derateDie, apply_ite view, view_report (hb.regs rfl) (hb.tinker rfl), view_wr (hb.regs rfl), ite_self]

/-! ### The Steward (R478 to R487) -/

theorem view_startAdmitted (hb : Blind view [.regs, .radios, .steward]) (s : State) : view (startAdmitted s) = view s := by
  simp only [startAdmitted, view_foldl (view_startActivity (hb.regs rfl) (hb.radios rfl) (hb.steward rfl)), hb.steward rfl]

/-! ### The patrol and disabled regions (R367, R368) -/

theorem view_badOverflow (hb : Blind view [.free, .miller]) (s : State) : view (badOverflow s) = view s := by
  unfold badOverflow
  dsimp only
  (repeat' split)
  all_goals simp only [view_setMiller (hb.miller rfl), view_freeNext (hb.free rfl)]

theorem view_regionError (hb : Blind view (.free :: fateParts)) (s : State) (a : Nat) : view (regionError s a) = view s := by
  unfold regionError
  (repeat' split)
  all_goals simp only [view_badOverflow (hb.sub rfl), view_cancelWith (hb.sub rfl), view_badRecords (hb.sub rfl), view_setDram (hb.sub rfl)]

theorem view_execPatrolScrub (hseal : HidesSeal view) (hb : Blind view (.free :: .steward :: fateParts)) (e : ReadResult) (s t : State)
    (h : execPatrolScrub e s = .next t) : view t = view s := by
  refine view_act hseal ?_ h
  dsimp only
  (repeat' split)
  all_goals simp only [view_regionError (hb.sub rfl), view_dramRequest (hb.sub rfl), view_dramError (hb.sub rfl),
      view_setDram (hb.sub rfl), view_bump (hb.regs rfl)]

theorem view_initRow (hb : Blind view (.carter :: .switch :: .dram :: bufParts)) (s : State) (row : Nat) :
    view (initRow s row) = view s := by
  have hcancel : ∀ l : List Task, view (l.foldl (fun t k => cancelToken t k.token.id) s) = view s := fun l =>
    view_foldl (fun t (k : Task) => view_cancelToken (hb.sub rfl) t k.token.id) l s
  simp only [initRow, apply_ite view, view_wr (hb.regs rfl), hb.switch rfl, hcancel, view_foldl (view_dropSpilled (hb.sub rfl)),
      hb.miller rfl, view_setDram (hb.sub rfl), ite_self]

theorem view_execRegionEnableDone (hseal : HidesSeal view) (hb : Blind view (.carter :: .switch :: .dram :: bufParts)) (s t : State)
    (h : execRegionEnableDone s = .next t) : view t = view s := by
  refine view_act hseal ?_ h
  simp only [apply_ite view, view_wr (hb.regs rfl), view_setDram (hb.sub rfl), view_foldl (view_initRow hb), ite_self]

/-! ### Frames of the uplink and of the Varlan link (R289, R294, R240) -/

theorem view_enterFrame (hb : Blind view [.regs, .tinker, .entering, .miller]) (s : State) (f : Frame) (prio : Nat)
    (stampFor : Option (Nat × Nat)) : view (enterFrame s f prio stampFor) = view s := by
  unfold enterFrame
  split
  next heq => exact ((hb.entering rfl) _ _).trans (view_of_snd heq (view_takeBuf (hb.sub rfl) s _ _ _ _))
  next => exact view_noCellDrop (hb.sub rfl) s

theorem view_countRx (hb : Blind view [.regs]) (s : State) (p len : Nat) : view (countRx s p len) = view s := by
  simp only [countRx, view_bump (hb.regs rfl), view_bumpBy (hb.regs rfl)]

theorem view_uplinkAccepted (hb : Blind view [.regs, .tinker, .entering, .miller]) (s : State) (p : Nat) (b : Octets) :
    view (uplinkAccepted s p b) = view s := by
  simp only [uplinkAccepted, apply_ite view, view_countRx (hb.sub rfl), view_enterFrame hb, view_bump (hb.regs rfl), ite_self]

theorem view_mkaFrame (hb : Blind view taskParts) (s : State) (p : Nat) (b : Octets) : view (mkaFrame s p b) = view s := by
  unfold mkaFrame
  split
  · exact view_bump (hb.regs rfl) s _
  · dsimp only
    split
    next heq => exact (view_allocFixed hb _ _ _).trans ((view_of_snd heq (view_takeBuf (hb.sub rfl) _ _ _ _ _)).trans
        (view_countRx (hb.sub rfl) s p _))
    next => exact (view_noCellDrop (hb.sub rfl) _).trans (view_countRx (hb.sub rfl) s p _)

theorem view_uplinkCiphered (hb : Blind view [.regs, .tinker, .mac, .lock, .entering, .miller]) (s : State) (p : Nat) (b : Octets)
    (sa pn : Nat) : view (uplinkCiphered s p b sa pn) = view s := by
  simp only [uplinkCiphered, apply_ite view, view_enterFrame (hb.sub rfl), view_setLock (hb.sub rfl), view_setMac (hb.mac rfl), ite_self]

theorem view_execUplinkFrameRx (hseal : HidesSeal view) (hb : Blind view (.mac :: .lock :: .entering :: taskParts)) (port : Fin 8)
    (f : UplinkFrame) (s t : State) (h : execUplinkFrameRx port f s = .next t) : view t = view s := by
  have hchecked := view_msReceive (hb.sub rfl) s port f
  refine view_act hseal ?_ h
  dsimp only
  repeat' split
  case h_1 heq => exact view_of_snd heq hchecked
  case h_2 heq => exact (view_mkaFrame (hb.sub rfl) _ _ _).trans (view_of_snd heq hchecked)
  case h_3 heq => exact (view_uplinkAccepted (hb.sub rfl) _ _ _).trans (view_of_snd heq hchecked)
  case h_4 heq => exact (view_uplinkCiphered (hb.sub rfl) _ _ _ _ _).trans (view_of_snd heq hchecked)
  all_goals simp only [view_bump (hb.regs rfl)]

theorem view_macsecVerdict (hb : Blind view (.lock :: .entering :: taskParts)) (s : State) (x : InFlight) (pass : Bool) :
    view (macsecVerdict s x pass) = view s := by
  simp only [macsecVerdict, apply_ite view, view_countRx (hb.sub rfl), view_verdictFail (hb.sub rfl), view_verdictPass (hb.sub rfl),
      view_msFail (hb.sub rfl), view_msPass (hb.sub rfl), view_bump (hb.regs rfl), ite_self]

/-! ### Key slots: frames in queues and plans -/

theorem view_setOst (hb : Blind view [.ost]) (s : State) (o : Ostler) : view (setOst s o) = view s := by
  simp only [setOst, hb.ost rfl]

theorem view_dropFrames (hb : Blind view (.ost :: bufParts)) (s : State) (sta : Nat → Bool) (goes : AirFrame → Bool) :
    view (dropFrames s sta goes).2 = view s := by
  exact (view_foldl (fun t (f : AirFrame) => (hb.dropLeg rfl) t f.buf) _ _).trans ((view_setOst (hb.sub rfl) _ _).trans
      (view_setMiller (hb.miller rfl) s _))

/-! ### Key slots: slots (R221) -/

theorem view_setSlot (hb : Blind view [.lock]) (s : State) (k : Nat) (x : KeySlot) : view (setSlot s k x) = view s := by
  simp only [setSlot, view_setLock hb]

theorem view_countSlots (hb : Blind view [.regs]) (s : State) : view (countSlots s) = view s := by
  simp only [countSlots, view_wr (hb.regs rfl)]

/-! ### Key slots: cLEAR and SET_TX (R223, R225) -/

theorem view_slotZero (hb : Blind view (.ost :: .lock :: bufParts)) (s : State) (k : Nat) : view (slotZero s k) = view s := by
  refine (view_countSlots (hb.sub rfl) _).trans ((view_foldl (fun t x => (hb.regs rfl) t _) _ _).trans (
      (view_setLock (hb.sub rfl) _ _).trans ?_))
  exact (view_bumpBy (hb.regs rfl) _ _ _).trans (view_dropFrames (hb.sub rfl) s _ _)

theorem view_keyClear (hb : Blind view (.ost :: .lock :: legParts)) (s : State) : view (keyClear s).2 = view s := by
  simp only [keyClear, apply_ite Prod.snd, apply_ite view, view_slotZero (hb.sub rfl), view_mirror (hb.sub rfl), ite_self]

theorem view_execKeyClear (hseal : HidesSeal view) (hb : Blind view (.status :: .led :: .ost :: .lock :: legParts)) (s t : State)
    (h : execKeyClear s = .next t) : view t = view s := by
  refine view_act hseal ?_ h
  simp only [view_keyClear (hb.sub rfl), view_command (hb.status rfl) (hb.out rfl) (hb.led rfl) (hb.twin rfl)]

theorem view_orphanSlots (hb : Blind view [.regs]) (s : State) (kind owner : Nat) : view (orphanSlots s kind owner) = view s := by
  refine view_foldl (fun t b => ?_) _ _
  simp only [view_wr (hb.regs rfl)]

/-! ### Key slots: transmit packet numbers (R226, R227) -/

theorem view_slotExhaust (hb : Blind view (.tinker :: .ost :: bufParts)) (s : State) (k : Nat) : view (slotExhaust s k) = view s := by
  simp only [slotExhaust, view_countSlots (hb.sub rfl), view_dropFrames (hb.sub rfl), view_report (hb.regs rfl) (hb.tinker rfl),
      view_bumpBy (hb.regs rfl), view_wr (hb.regs rfl)]

theorem view_takePn (hb : Blind view (.tinker :: .ost :: .lock :: bufParts)) (s : State) (k : Nat) : view (takePn s k).2 = view s := by
  simp only [takePn, apply_ite Prod.snd, apply_ite view, view_slotExhaust (hb.sub rfl), view_setSlot (hb.sub rfl),
      view_report (hb.regs rfl) (hb.tinker rfl), view_wr (hb.regs rfl), ite_self]

theorem view_jumpPn (hb : Blind view (.tinker :: .ost :: bufParts)) (s : State) (k : Nat) : view (jumpPn s k) = view s := by
  simp only [jumpPn, apply_ite view, view_slotExhaust hb, view_wr (hb.regs rfl), ite_self]

/-! ### Key slots: replay counters (R228) -/

theorem view_moveC (hb : Blind view [.lock]) (s : State) (k c pn : Nat) : view (moveC s k c pn) = view s := by
  simp only [moveC, view_setSlot hb]

/-! ### The station table: the entry (R146) -/

theorem view_clearKeys (hb : Blind view [.regs]) (s : State) (i : Nat) (l : List Nat) : view (clearKeys s i l) = view s := by
  refine view_foldl (fun t b => ?_) _ _
  simp only [hb.regs rfl]

theorem view_countStations (hb : Blind view [.regs]) (s : State) : view (countStations s) = view s := by
  simp only [countStations, view_wr (hb.regs rfl)]

theorem view_clearQueues (hb : Blind view [.miller]) (s : State) (i : Nat) : view (clearQueues s i) = view s := by
  refine view_foldl (fun t b => ?_) _ _
  simp only [view_setAirQ hb]

theorem view_wakeStation (hb : Blind view [.regs, .miller]) (s : State) (i : Nat) : view (wakeStation s i) = view s := by
  simp only [wakeStation, view_foldl (view_airWake hb)]

theorem view_staSetState (hb : Blind view [.regs, .out, .twin, .miller]) (s : State) (i v : Nat) : view (staSetState s i v) = view s := by
  simp only [staSetState, view_wakeStation (hb.sub rfl), view_mirror (hb.sub rfl), view_wr (hb.regs rfl)]

/-! ### The station table: what the air MAC holds of received MPDUs -/

theorem view_forgetMpdu (hb : Blind view [.mac]) (s : State) (m : Nat) : view (forgetMpdu s m) = view s := by
  simp only [forgetMpdu, view_setMac (hb.mac rfl)]

theorem view_dropMpdu (hb : Blind view (.mac :: bufParts)) (s : State) (m : Nat) : view (dropMpdu s m) = view s := by
  unfold dropMpdu
  split <;> simp only [view_forgetMpdu (hb.sub rfl), hb.dropLeg rfl]

theorem view_dropHolds (hb : Blind view (.mac :: bufParts)) (s : State) (i : Nat) : view (dropHolds s i) = view s := by
  exact view_foldl (fun t (h : Held) => view_dropMpdu hb t h.mpdu) _ s

/-! ### The station table: TWT agreements (R131 to R134) -/

theorem view_setTwt (hb : Blind view [.regs, .out, .twin, .mac]) (s : State) (k : Nat) (t : Option Twt) : view (setTwt s k t) = view s := by
  simp only [setTwt, view_setMac (hb.mac rfl), view_mirror (hb.sub rfl), view_wr (hb.regs rfl)]

theorem view_dropTwt (hb : Blind view [.regs, .out, .twin, .mac]) (s : State) (i : Nat) : view (dropTwt s i) = view s := by
  simp only [dropTwt, view_foldl fun t k => view_setTwt hb t k none]

theorem view_setMembers (hb : Blind view [.regs, .mac]) (s : State) (r j : Nat) (l : List Nat) : view (setMembers s r j l) = view s := by
  simp only [setMembers, view_setMac (hb.mac rfl), view_wr (hb.regs rfl)]

theorem view_dropMember (hb : Blind view [.regs, .mac]) (s : State) (i : Nat) : view (dropMember s i) = view s := by
  refine view_foldl (fun t b => ?_) _ _
  simp only [apply_ite view, view_setMembers hb, ite_self]

theorem view_staRemove (hb : Blind view staParts) (s : State) (i : Nat) : view (staRemove s i) = view s := by
  simp only [staRemove, apply_ite view, view_foldl (view_airLeave (hb.sub rfl)), view_dropMember (hb.sub rfl), view_dropTwt (hb.sub rfl),
      view_dropHolds (hb.sub rfl), view_clearQueues (hb.sub rfl), view_countStations (hb.sub rfl), view_clearKeys (hb.sub rfl),
      view_orphanSlots (hb.sub rfl), view_dropFrames (hb.sub rfl), view_setMac (hb.mac rfl), view_mirror (hb.sub rfl), hb.blobs rfl,
      ite_self]

theorem view_execStaRemove (hseal : HidesSeal view) (hb : Blind view (.status :: .led :: staParts)) (s t : State)
    (h : execStaRemove s = .next t) : view t = view s := by
  refine view_act hseal ?_ h
  simp only [view_staRemove (hb.sub rfl), view_command (hb.status rfl) (hb.out rfl) (hb.led rfl) (hb.twin rfl)]

theorem view_outgoing (hb : Blind view [.mac]) (s : State) (r : Nat) (c : TxContent) : view (outgoing s r c) = view s := by
  simp only [outgoing, apply_ite view, view_setMac (hb.mac rfl), ite_self]

theorem view_twtReject (hb : Blind view [.regs, .mac]) (s : State) (r sta flow : Nat) : view (twtReject s r sta flow) = view s := by
  simp only [twtReject, view_outgoing (hb.sub rfl), view_bump (hb.regs rfl)]

theorem view_twtAccept (hb : Blind view [.regs, .out, .twin, .mac]) (s : State) (x : Twt) (k : Nat) : view (twtAccept s x k) = view s := by
  simp only [twtAccept, view_outgoing (hb.sub rfl), view_setTwt hb]

theorem view_twtAlternate (hb : Blind view [.free, .mac]) (s : State) (x : Twt) : view (twtAlternate s x) = view s := by
  simp only [twtAlternate, apply_ite view, view_outgoing (hb.sub rfl), view_freeNext (hb.free rfl), ite_self]

theorem view_twtRequest (hb : Blind view [.regs, .out, .free, .twin, .mac]) (s : State) (x : Twt) : view (twtRequest s x) = view s := by
  unfold twtRequest
  split <;> simp only [apply_ite view, view_twtAlternate (hb.sub rfl), view_twtAccept (hb.sub rfl), view_twtReject (hb.sub rfl), ite_self]

theorem view_btwtRequest (hb : Blind view [.regs, .mac]) (s : State) (r sta flow j : Nat) : view (btwtRequest s r sta flow j) = view s := by
  simp only [btwtRequest, apply_ite view, view_twtReject hb, view_outgoing (hb.sub rfl), view_setMembers hb, ite_self]

theorem view_twtTorn (hb : Blind view [.regs, .out, .twin, .mac]) (s : State) (sta flow : Nat) : view (twtTorn s sta flow) = view s := by
  unfold twtTorn
  split <;> simp only [view_setTwt hb]

theorem view_twtHear (hb : Blind view [.regs, .out, .tinker, .twin, .mac]) (s : State) (t : Int) (k : Nat) (x : Twt) :
    view (twtHear s t k x) = view s := by
  unfold twtHear
  split <;> simp only [apply_ite view, view_setTwt (hb.sub rfl), view_report (hb.regs rfl) (hb.tinker rfl), ite_self]

theorem view_twtEnd (hb : Blind view [.mac]) (s : State) (r sta : Nat) : view (twtEnd s r sta) = view s := by
  refine view_foldl (fun t b => ?_) _ _
  dsimp only
  split <;> simp only [view_setMac (hb.mac rfl)]

theorem view_twtHeard (hb : Blind view [.regs, .out, .tinker, .twin, .mac]) (s : State) (r sta : Nat) :
    view (twtHeard s r sta) = view s := by
  exact view_foldl (fun t (e : Nat × Twt) => view_twtHear hb t _ e.1 e.2) _ s

/-! ### The station table: windows (R123 to R126) -/

theorem view_mirrorBoard (hb : Blind view [.regs, .out, .twin, .mac]) (s : State) (i tid : Nat) : view (mirrorBoard s i tid) = view s := by
  simp only [mirrorBoard, view_setBoard (hb.sub rfl), view_mirror (hb.sub rfl)]

/-! ### The station table: release (R116, R118, R341) -/

theorem view_toMgmt (hb : Blind view taskParts) (s : State) (x : Arrived) (source : Nat) (awaits : Option Nat) :
    view (toMgmt s x source awaits) = view s := by
  simp only [toMgmt, view_allocFixed hb]

theorem view_mirrorAgreement (hb : Blind view [.regs, .out, .twin]) (s : State) (i tid : Nat) :
    view (mirrorAgreement s i tid) = view s := by
  simp only [mirrorAgreement, view_mirror hb]

theorem view_countRelease (hb : Blind view [.regs]) (s : State) (i len : Nat) : view (countRelease s i len) = view s := by
  simp only [countRelease, view_bump (hb.regs rfl), view_bumpBy (hb.regs rfl)]

theorem view_simpleAction (hb : Blind view [.regs, .out, .free, .twin, .mac]) (s : State) (x : Arrived) :
    view (simpleAction s x) = view s := by
  unfold simpleAction
  (repeat' split)
  all_goals simp only [view_mirrorAgreement (hb.sub rfl), view_twtTorn (hb.sub rfl), view_btwtRequest (hb.sub rfl), view_twtRequest hb,
      view_twtReject (hb.sub rfl), view_setStation (hb.sub rfl)]

theorem view_actionOf (hb : Blind view [.regs, .out, .free, .twin, .mac]) (s : State) (x : Arrived) : view (actionOf s x).1 = view s := by
  unfold actionOf
  split <;> simp only [apply_ite Prod.fst, apply_ite view, view_simpleAction hb, view_mirrorAgreement (hb.sub rfl),
      view_outgoing (hb.sub rfl), view_setBoard (hb.sub rfl), view_setStation (hb.sub rfl), ite_self]

theorem view_toLocksmith (hb : Blind view [.lock]) (s : State) (m : Nat) : view (toLocksmith s m) = view s := by
  simp only [toLocksmith, view_setLock hb]

theorem view_releaseProtected (hb : Blind view (.mac :: .lock :: taskParts)) (s : State) (m : Nat) (x : Arrived) :
    view (releaseProtected s m x) = view s := by
  simp only [releaseProtected, apply_ite view, view_toLocksmith (hb.sub rfl), view_toMgmt (hb.sub rfl), view_forgetMpdu (hb.sub rfl),
      ite_self]

theorem view_passManagement (hb : Blind view (.free :: .twin :: .mac :: taskParts)) (s : State) (m : Nat) (x : Arrived) :
    view (passManagement s m x).1 = view s := by
  simp only [passManagement, apply_ite Prod.fst, apply_ite view, view_actionOf (hb.sub rfl), view_toMgmt (hb.sub rfl),
      view_dropMpdu (hb.sub rfl), view_forgetMpdu (hb.sub rfl), ite_self]

theorem view_releaseOne (hb : Blind view releaseParts) (s : State) (m : Nat) : view (releaseOne s m).1 = view s := by
  unfold releaseOne
  (repeat' split)
  all_goals simp only [view_passManagement (hb.sub rfl), view_releaseProtected (hb.sub rfl), view_countRelease (hb.sub rfl),
      view_dropMpdu (hb.sub rfl), view_forgetMpdu (hb.sub rfl), view_allocFixed (hb.sub rfl), view_holdBuf (hb.sub rfl)]

theorem view_releaseList (hb : Blind view releaseParts) (fuel : Nat) (pending : List Nat) (s : State) :
    view (releaseList fuel pending s) = view s := by
  induction fuel generalizing pending s with
  | zero => rfl
  | succ n ih =>
    cases pending with
    | nil => rfl
    | cons m rest => exact (ih _ _).trans (view_releaseOne hb s m)

theorem view_releaseAll (hb : Blind view releaseParts) (s : State) (l : List Nat) : view (releaseAll s l) = view s := by
  simp only [releaseAll, view_releaseList hb]

/-! ### The station table: reordering (R125, R126) -/

theorem view_settleBoard (hb : Blind view releaseParts) (s : State) (i tid old : Nat) : view (settleBoard s i tid old) = view s := by
  simp only [settleBoard, view_releaseAll hb, view_setBoard (hb.sub rfl)]

theorem view_moveWindow (hb : Blind view releaseParts) (s : State) (i tid start : Nat) : view (moveWindow s i tid start) = view s := by
  simp only [moveWindow, apply_ite view, view_settleBoard hb, view_setBoard (hb.sub rfl), ite_self]

theorem view_flushBoard (hb : Blind view releaseParts) (s : State) (r i tid : Nat) : view (flushBoard s r i tid) = view s := by
  simp only [flushBoard, view_settleBoard hb, view_setBoard (hb.sub rfl), view_report (hb.regs rfl) (hb.tinker rfl),
      view_bump (hb.regs rfl)]

theorem view_poolRoom (hb : Blind view releaseParts) (r : Nat) (fuel : Nat) (n : Nat) (s : State) :
    view (poolRoom r fuel n s) = view s := by
  induction fuel generalizing s with
  | zero => rfl
  | succ k ih =>
    unfold poolRoom
    split
    · split
      · exact (ih _).trans (view_flushBoard hb s _ _ _)
      · rfl
    · rfl

theorem view_placeMpdu (hb : Blind view releaseParts) (s : State) (r i tid sn m old : Nat) :
    view (placeMpdu s r i tid sn m old) = view s := by
  unfold placeMpdu
  dsimp only
  (repeat' split)
  all_goals simp only [view_poolRoom hb, view_settleBoard hb, view_setBoard (hb.sub rfl), view_holdBuf (hb.sub rfl)]

theorem view_execReorderTimeout (hseal : HidesSeal view) (hb : Blind view releaseParts) (station tid : Nat) (s t : State)
    (h : execReorderTimeout station tid s = .next t) : view t = view s := by
  refine view_act hseal ?_ h
  dsimp only
  split <;> simp only [view_settleBoard hb, view_setBoard (hb.sub rfl), view_bump (hb.regs rfl)]

/-! ### The air MAC -/

theorem view_takeTag (hb : Blind view [.ost]) (s : State) : view (takeTag s).2 = view s := by
  simp only [takeTag, hb.ost rfl]

/-! ### The air MAC: SIFS responses (R119 to R121) -/

theorem view_setPpdu (hb : Blind view [.mac]) (s : State) (r : Nat) (x : RxPpdu) : view (setPpdu s r x) = view s := by
  simp only [setPpdu, view_setMac (hb.mac rfl)]

theorem view_sifsSend (hb : Blind view [.regs, .radios, .txReports, .ost]) (s : State) (r bytes : Nat) (c : TxContent) :
    view (sifsSend s r bytes c) = view s := by
  simp only [sifsSend, view_takeTag (hb.sub rfl), view_offerCommand (hb.sub rfl)]

theorem view_respond (hb : Blind view [.regs, .radios, .txReports, .mac, .ost]) (s : State) (r : Nat) : view (respond s r) = view s := by
  unfold respond
  dsimp only
  (repeat' split)
  all_goals simp only [view_sifsSend (hb.sub rfl), view_setPpdu (hb.sub rfl), view_bump (hb.regs rfl)]

theorem view_noteResponse (hb : Blind view [.mac]) (s : State) (r : Nat) (m : RxMpdu) (sta : Option Nat) :
    view (noteResponse s r m sta) = view s := by
  unfold noteResponse
  (repeat' split)
  all_goals simp only [view_setPpdu hb]

/-! ### The air MAC: sent MPDUs (R128, R160, R174, R326) -/

theorem view_rateMove (hb : Blind view [.mac]) (s : State) (i r n lost : Nat) : view (rateMove s i r n lost) = view s := by
  simp only [rateMove, apply_ite view, view_setStation hb, ite_self]

theorem view_tallyOne (hb : Blind view [.mac, .ost]) (s : State) (u : Unacked) (lost : Bool) : view (tallyOne s u lost) = view s := by
  simp only [tallyOne, apply_ite view, view_rateMove (hb.sub rfl), hb.ost rfl, ite_self]

theorem view_takeSent (hb : Blind view [.ost]) (s : State) (i tid sn : Nat) : view (takeSent s i tid sn).2 = view s := by
  unfold takeSent
  dsimp only
  split <;> simp only [hb.ost rfl]

theorem view_ackMpdu (hb : Blind view (.mac :: .ost :: bufParts)) (s : State) (i tid sn : Nat) : view (ackMpdu s i tid sn) = view s := by
  unfold ackMpdu
  split
  next heq =>
    simp only [view_tallyOne (hb.sub rfl), hb.dropLeg rfl, view_bumpBy (hb.regs rfl), view_bump (hb.regs rfl)]
    exact view_of_snd heq (view_takeSent (hb.sub rfl) s i tid sn)
  next heq => exact view_of_snd heq (view_takeSent (hb.sub rfl) s i tid sn)

theorem view_returnFrame (hb : Blind view [.miller]) (s : State) (i : Nat) (f : AirFrame) : view (returnFrame s i f) = view s := by
  simp only [returnFrame, view_setAirQ hb]

theorem view_failMpdu (hb : Blind view (.mac :: bufParts)) (s : State) (i : Nat) (f : AirFrame) : view (failMpdu s i f) = view s := by
  unfold failMpdu
  split <;> simp only [apply_ite view, view_setStation (hb.sub rfl), hb.dropLeg rfl, view_bump (hb.regs rfl), ite_self]

theorem view_execMpduUnacked (hseal : HidesSeal view) (hb : Blind view (.mac :: .ost :: bufParts)) (station tid sn : Nat) (s t : State)
    (h : execMpduUnacked station tid sn s = .next t) : view t = view s := by
  refine view_act hseal ?_ h
  split
  next heq =>
    simp only [view_tallyOne (hb.sub rfl), apply_ite view, view_failMpdu (hb.sub rfl), view_returnFrame (hb.sub rfl),
        view_bump (hb.regs rfl), ite_self]
    exact view_of_snd heq (view_takeSent (hb.sub rfl) s station tid sn)
  next heq => exact view_of_snd heq (view_takeSent (hb.sub rfl) s station tid sn)

theorem view_ageQueue (hb : Blind view (.mac :: bufParts)) (s : State) (a : Nat) : view (ageQueue s a) = view s := by
  have haged : ∀ (l : List AirFrame) (t : State), view (l.foldl (fun t f =>
      let t1 := bump t O.aged_drops
      if f.sn.isSome then failMpdu t1 (a / 4) f else dropLeg t1 f.buf) t) = view t := fun l t =>
    view_foldl (fun t f => by simp only [apply_ite view, view_failMpdu hb, hb.dropLeg rfl, view_bump (hb.regs rfl), ite_self]) l t
  simp only [ageQueue, apply_ite view, view_airLeave (hb.sub rfl), haged, view_setAirQ (hb.sub rfl), ite_self]

theorem view_execAirAgeSweep (hseal : HidesSeal view) (hb : Blind view (.mac :: bufParts)) (s t : State)
    (h : execAirAgeSweep s = .next t) : view t = view s := by
  refine view_act hseal ?_ h
  simp only [view_foldl (view_ageQueue hb)]

/-! ### The air MAC: the backhaul and beacons heard (R140 to R142) -/

theorem view_bhRefresh (hb : Blind view [.regs]) (s : State) : view (bhRefresh s) = view s := by
  simp only [bhRefresh, view_wr (hb.regs rfl)]

theorem view_upstreamBeacon (hb : Blind view [.regs, .mac]) (s : State) (r : Nat) : view (upstreamBeacon s r) = view s := by
  simp only [upstreamBeacon, apply_ite view, view_bhRefresh (hb.sub rfl), view_setMac (hb.mac rfl), view_wr (hb.regs rfl), ite_self]

theorem view_beaconHeard (hb : Blind view [.regs, .mac]) (s : State) (r : Nat) (ta : Octets) : view (beaconHeard s r ta) = view s := by
  simp only [beaconHeard, apply_ite view, view_upstreamBeacon hb, view_setMac (hb.mac rfl), ite_self]

/-! ### The air MAC: receive (R116) -/

theorem view_navUpdate (hb : Blind view [.mac]) (s : State) (r : Nat) (m : RxMpdu) : view (navUpdate s r m) = view s := by
  simp only [navUpdate, apply_ite view, view_setMac (hb.mac rfl), ite_self]

theorem view_takeMpdu (hb : Blind view [.regs, .tinker, .mac, .miller]) (s : State) (r : Nat) (m : RxMpdu) (sta : Option Nat) :
    view (takeMpdu s r m sta).2 = view s := by
  unfold takeMpdu
  dsimp only
  split
  next heq => exact (view_setMac (hb.mac rfl) _ _).trans (view_of_snd heq (view_takeBuf (hb.sub rfl) s _ _ _ _))
  next => exact view_noCellDrop (hb.sub rfl) s

theorem view_probeAnswer (hb : Blind view [.mac]) (s : State) (r : Nat) (m : RxMpdu) (wildcard : Bool) :
    view (probeAnswer s r m wildcard) = view s := by
  refine view_foldl (fun t b => ?_) _ _
  simp only [apply_ite view, view_outgoing hb, ite_self]

theorem view_deauthUnknown (hb : Blind view [.mac]) (s : State) (r : Nat) (ta : Octets) : view (deauthUnknown s r ta) = view s := by
  simp only [deauthUnknown, apply_ite view, view_outgoing hb, view_setMac (hb.mac rfl), ite_self]

theorem view_unknownMgmt (hb : Blind view (.free :: .mac :: taskParts)) (s : State) (r : Nat) (m : RxMpdu) :
    view (unknownMgmt s r m) = view s := by
  unfold unknownMgmt
  split
  next heq =>
    have htaken := view_of_snd heq (view_takeMpdu (hb.sub rfl) s r m none)
    split
    · exact (view_toMgmt (hb.sub rfl) _ _ _ _).trans ((view_freeNext (hb.free rfl) _).trans ((view_forgetMpdu (hb.sub rfl) _ _).trans
        htaken))
    · exact htaken
  next heq => exact view_of_snd heq (view_takeMpdu (hb.sub rfl) s r m none)

theorem view_unknownRx (hb : Blind view (.free :: .mac :: taskParts)) (s : State) (r : Nat) (m : RxMpdu) :
    view (unknownRx s r m) = view s := by
  unfold unknownRx
  split <;> simp only [apply_ite view, view_unknownMgmt hb, view_deauthUnknown (hb.sub rfl), view_probeAnswer (hb.sub rfl),
      view_bump (hb.regs rfl), ite_self]

theorem view_powerSave (hb : Blind view [.regs, .out, .twin, .miller]) (s : State) (r i : Nat) (on : Bool) :
    view (powerSave s r i on) = view s := by
  simp only [powerSave, apply_ite view, view_wakeStation (hb.sub rfl), view_mirror (hb.sub rfl), view_wr (hb.regs rfl), ite_self]

theorem view_heardFrom (hb : Blind view [.regs, .out, .tinker, .twin, .mac, .miller]) (s : State) (r i : Nat) (m : RxMpdu) (fresh : Bool) :
    view (heardFrom s r i m fresh) = view s := by
  simp only [heardFrom, apply_ite view, view_powerSave (hb.sub rfl), view_twtHeard (hb.sub rfl), view_twtEnd (hb.sub rfl),
      view_setStation (hb.sub rfl), view_wrI (hb.regs rfl), view_wr (hb.regs rfl), ite_self]

theorem view_triggeredHeard (hb : Blind view [.mac, .ost]) (s : State) (r i : Nat) : view (triggeredHeard s r i) = view s := by
  unfold triggeredHeard
  split <;> simp only [view_setStation (hb.sub rfl), hb.ost rfl]

theorem view_markMpdu (hb : Blind view [.regs, .out, .twin, .mac]) (s : State) (r i : Nat) (m : RxMpdu) :
    view (markMpdu s r i m) = view s := by
  unfold markMpdu
  (repeat' split)
  all_goals simp only [apply_ite view, view_mirrorBoard hb, view_setBoard (hb.sub rfl), view_setStation (hb.sub rfl),
      view_bumpBy (hb.regs rfl), ite_self]

theorem view_stationMpdu (hb : Blind view releaseParts) (s : State) (r i : Nat) (m : RxMpdu) : view (stationMpdu s r i m) = view s := by
  have hmarked := view_markMpdu (hb.sub rfl) s r i m
  unfold stationMpdu
  split
  · simp only [view_bump (hb.regs rfl)]
  · extract_lets old s1 agreed settled
    clear_value agreed
    have hsettled : ∀ u, view (settled u) = view u := fun u => by
      cases agreed with
      | none => rfl
      | some t => exact view_settleBoard hb u i t old
    split
    · exact (hsettled _).trans ((view_bump (hb.regs rfl) _ _).trans hmarked)
    · split
      next heq => exact (hsettled _).trans ((view_of_snd heq (view_takeMpdu (hb.sub rfl) _ _ _ _)).trans hmarked)
      next heq =>
        have htaken := (view_of_snd heq (view_takeMpdu (hb.sub rfl) _ _ _ _)).trans hmarked
        split
        · exact (view_placeMpdu hb _ _ _ _ _ _ _).trans htaken
        · exact (view_releaseAll hb _ _).trans htaken

theorem view_knownRx (hb : Blind view (.ost :: releaseParts)) (s : State) (r i : Nat) (m : RxMpdu) (fresh : Bool) :
    view (knownRx s r i m fresh) = view s := by
  have hheard : view (if m.form = .triggerBased then triggeredHeard (heardFrom s r i m fresh) r i else heardFrom s r i m fresh) = view s := by
    simp only [apply_ite view, view_triggeredHeard (hb.sub rfl), view_heardFrom (hb.sub rfl), ite_self]
  unfold knownRx
  dsimp only
  split
  · exact (view_moveWindow (hb.sub rfl) _ _ _ _).trans hheard
  · exact (view_foldl (fun t (e : Nat × Nat) => view_ackMpdu (hb.sub rfl) t i e.1 e.2) _ _).trans hheard
  · exact (view_setStation (hb.sub rfl) _ _ _).trans hheard
  · exact hheard
  · exact hheard
  · exact hheard
  · exact (view_stationMpdu (hb.sub rfl) _ _ _ _).trans hheard

theorem view_receiveMpdu (hb : Blind view (.ost :: releaseParts)) (s : State) (r : Nat) (m : RxMpdu) :
    view (receiveMpdu s r m) = view s := by
  unfold receiveMpdu
  dsimp only
  (repeat' split)
  all_goals simp only [view_knownRx hb, view_unknownRx (hb.sub rfl), view_navUpdate (hb.sub rfl), view_beaconHeard (hb.sub rfl),
      view_noteResponse (hb.sub rfl), view_bump (hb.regs rfl)]

theorem view_lookupError (hb : Blind view (.blobs :: planParts)) (s : State) (r : Nat) (m : RxMpdu) (e : LookupError) :
    view (lookupError s r m e) = view s := by
  unfold lookupError
  (repeat' split)
  all_goals simp only [view_staRemove (hb.sub rfl), view_slotZero (hb.sub rfl), view_mirror (hb.sub rfl), view_report (hb.regs rfl)
      (hb.tinker rfl)]

theorem view_execMpduReceived (hseal : HidesSeal view) (hb : Blind view (.blobs :: .radios :: .txReports :: .ost :: releaseParts))
    (r : Fin 3) (m : RxMpdu) (e : LookupError) (s t : State) (h : execMpduReceived r m e s = .next t) : view t = view s := by
  refine view_act hseal ?_ h
  simp only [apply_ite view, view_lookupError (hb.sub rfl), view_receiveMpdu (hb.sub rfl), view_respond (hb.sub rfl), ite_self]

/-! ### The Locksmith -/

theorem view_engineReport (hb : Blind view [.regs, .free, .tinker]) (s : State) (kind : Nat) : view (engineReport s kind) = view s := by
  simp only [engineReport, view_report (hb.regs rfl) (hb.tinker rfl), view_freeNext (hb.free rfl)]

theorem view_refuseMpdu (hb : Blind view (.mac :: .carter :: bufParts)) (s : State) (m : Nat) : view (refuseMpdu s m) = view s := by
  simp only [refuseMpdu, apply_ite view, view_foldl (view_cancelToken (hb.sub rfl)), view_dropMpdu (hb.sub rfl),
      view_forgetMpdu (hb.sub rfl), ite_self]

theorem view_replayed (hb : Blind view releaseParts) (s : State) (m slot : Nat) (x : Arrived) : view (replayed s m slot x) = view s := by
  unfold replayed
  split <;> simp only [view_refuseMpdu (hb.sub rfl), view_moveWindow hb, view_bump (hb.regs rfl)]

/-! ### The Locksmith: the plaintext's way (R232, R248 to R250) -/

theorem view_present (hb : Blind view [.entering, .miller]) (s : State) (m : Nat) (x : Arrived) : view (present s m x) = view s := by
  simp only [present, view_foldl fun t _ => view_addLeg (hb.sub rfl) t x.buf, hb.entering rfl]

theorem view_pnChecks (hb : Blind view verdictParts) (s : State) (m slot : Nat) (x : Arrived) : view (pnChecks s m slot x) = view s := by
  unfold pnChecks
  split <;> simp only [apply_ite view, view_present (hb.sub rfl), view_replayed (hb.sub rfl), view_setLock (hb.sub rfl),
      view_bump (hb.regs rfl), ite_self]

theorem view_verdictOut (hb : Blind view verdictParts) (s : State) (m : Nat) : view (verdictOut s m) = view s := by
  unfold verdictOut
  split <;> simp only [apply_ite view, view_releaseAll (hb.sub rfl), view_actionOf (hb.sub rfl), view_dropMpdu (hb.sub rfl),
      view_forgetMpdu (hb.sub rfl), view_verdictPass (hb.sub rfl), ite_self]

theorem view_verdictBad (hb : Blind view (.mac :: .entering :: .carter :: bufParts)) (s : State) (m : Nat) :
    view (verdictBad s m) = view s := by
  unfold verdictBad
  split <;> simp only [apply_ite view, view_dropMpdu (hb.sub rfl), view_forgetMpdu (hb.sub rfl), view_verdictFail (hb.sub rfl), ite_self]

theorem view_bipCheck (hb : Blind view verdictParts) (s : State) (m : Nat) (x : Arrived) : view (bipCheck s m x) = view s := by
  unfold bipCheck
  (repeat' split)
  all_goals simp only [view_verdictOut hb, view_refuseMpdu (hb.sub rfl), view_engineReport (hb.sub rfl), view_moveC (hb.sub rfl),
      view_bump (hb.regs rfl)]

theorem view_takeProtected (hb : Blind view verdictParts) (s : State) (m : Nat) : view (takeProtected s m) = view s := by
  unfold takeProtected
  (repeat' split)
  all_goals simp only [view_bipCheck hb, view_pnChecks hb, view_refuseMpdu (hb.sub rfl), view_bump (hb.regs rfl)]

theorem view_execMpduDecrypt (hseal : HidesSeal view) (hb : Blind view verdictParts) (s t : State) (h : execMpduDecrypt s = .next t) :
    view t = view s := by
  refine view_act hseal ?_ h
  split <;> simp only [view_takeProtected hb, view_setLock (hb.sub rfl)]

/-! ### The Locksmith: verdicts -/

theorem view_recheck (hb : Blind view verdictParts) (s : State) (m : Nat) : view (recheck s m) = view s := by
  unfold recheck
  (repeat' split)
  all_goals simp only [view_pnChecks hb, view_refuseMpdu (hb.sub rfl), view_setLock (hb.sub rfl), view_bump (hb.regs rfl)]

theorem view_recheckAll (hb : Blind view verdictParts) (s : State) : view (recheckAll s) = view s := by
  simp only [recheckAll, view_foldl (view_recheck hb)]

theorem view_verdictGate (hb : Blind view verdictParts) (s : State) (x : InFlight) : view (verdictGate s x) = view s := by
  simp only [verdictGate, apply_ite view, view_verdictOut hb, view_varlanSend (hb.out rfl) (hb.twin rfl), hb.twin rfl, ite_self]

theorem view_airPass (hb : Blind view verdictParts) (s : State) (x : InFlight) : view (airPass s x) = view s := by
  simp only [airPass, apply_ite view, view_verdictGate hb, view_moveC (hb.sub rfl), view_bump (hb.regs rfl), ite_self]

theorem view_airFail (hb : Blind view (.free :: .tinker :: .mac :: .entering :: .carter :: bufParts)) (s : State) (x : InFlight) :
    view (airFail s x) = view s := by
  simp only [airFail, view_verdictBad (hb.sub rfl), view_engineReport (hb.sub rfl), view_bump (hb.regs rfl)]

theorem view_airFault (hb : Blind view (.tinker :: .mac :: .entering :: .carter :: bufParts)) (s : State) (x : InFlight) :
    view (airFault s x) = view s := by
  simp only [airFault, view_verdictBad (hb.sub rfl), view_report (hb.regs rfl) (hb.tinker rfl), view_bump (hb.regs rfl)]

theorem view_giveVerdict (hb : Blind view verdictParts) (s : State) (m : Nat) (v : TagResult) : view (giveVerdict s m v) = view s := by
  unfold giveVerdict
  (repeat' split)
  all_goals simp only [view_airFault (hb.sub rfl), view_airFail (hb.sub rfl), view_airPass hb, view_recheckAll hb,
      view_macsecVerdict (hb.sub rfl), view_setLock (hb.sub rfl)]

theorem view_execTagVerdict (hseal : HidesSeal view) (hb : Blind view verdictParts) (m : Nat) (v : TagResult) (s t : State)
    (h : execTagVerdict m v s = .next t) : view t = view s := by
  refine view_act hseal ?_ h
  simp only [view_giveVerdict hb]

theorem view_execVerdictTimeout (hseal : HidesSeal view) (hb : Blind view verdictParts) (m : Nat) (s t : State)
    (h : execVerdictTimeout m s = .next t) : view t = view s := by
  refine view_act hseal ?_ h
  simp only [view_giveVerdict hb]

end

end Sys2Proof.Machine
end

section
/-! Views that are blind to what plans and their exchanges set (R149 to R180, R325), and to what the host rings set (R60 to R69, R306). -/

namespace Sys2Proof.Machine

section

variable {α : Type} {view : State → α}

/-! ### Grants and uplink (R164, R165, R325) -/

theorem view_nextListed (hb : Blind view [.miller]) (s : State) : view (nextListed s).2 = view s := by
  unfold nextListed
  dsimp only
  split <;> simp only [apply_ite Prod.snd, apply_ite view, view_setMiller (hb.miller rfl), ite_self]

theorem view_grantQueue (hb : Blind view [.regs, .ost, .miller]) (s : State) (a : Nat) : view (grantQueue s a) = view s := by
  simp only [grantQueue, view_setAirQ (hb.sub rfl), view_setMiller (hb.miller rfl), view_bump (hb.regs rfl), view_wr (hb.regs rfl),
      hb.ost rfl]

theorem view_drawGrant (hb : Blind view (.mac :: .ost :: bufParts)) (fuel : Nat) (s : State) : view (drawGrant fuel s) = view s := by
  induction fuel generalizing s with
  | zero => rfl
  | succ n ih =>
    unfold drawGrant
    split
    next heq => exact view_of_snd heq (view_nextListed (hb.sub rfl) s)
    next heq =>
      simp only [apply_ite view, view_grantQueue (hb.sub rfl), ih, view_airLeave (hb.sub rfl), view_ageQueue (hb.sub rfl), ite_self]
      exact view_of_snd heq (view_nextListed (hb.sub rfl) s)

theorem view_execGrantRequest (hseal : HidesSeal view) (hb : Blind view (.mac :: .ost :: bufParts)) (s t : State)
    (h : execGrantRequest s = .next t) : view t = view s := by
  refine view_act hseal ?_ h
  simp only [apply_ite view, view_drawGrant hb, ite_self]

theorem view_creditRound (hb : Blind view [.mac]) (s : State) (l : List Nat) : view (creditRound s l) = view s := by
  refine view_foldl (fun t b => ?_) _ _
  simp only [view_setStation hb]

/-! ### Plans: binding -/

theorem view_askAgreement (hb : Blind view [.mac]) (s : State) (r i tid : Nat) : view (askAgreement s r i tid) = view s := by
  simp only [askAgreement, apply_ite view, view_outgoing hb, view_setStation hb, ite_self]

theorem view_bindFrame (hb : Blind view (.tinker :: .mac :: .ost :: .lock :: bufParts)) (s : State) (r i : Nat) (f : AirFrame) :
    view (bindFrame s r i f).2 = view s := by
  unfold bindFrame
  split
  · rfl
  · extract_lets next slot pnOk bound
    have hbound : ∀ pn t, view (bound pn t).2 = view t := fun pn t => view_setStation (hb.sub rfl) t _ _
    clear_value pnOk slot
    split
    · exact view_mirrorStall (hb.sub rfl) s
    · split
      · exact hbound none s
      · split
        next heq => exact (hbound _ _).trans (view_of_snd heq (view_takePn (hb.sub rfl) s _))
        next heq => exact view_of_snd heq (view_takePn (hb.sub rfl) s _)

theorem view_bindFrames (hb : Blind view (.tinker :: .mac :: .ost :: .lock :: bufParts)) (s : State) (r i : Nat) (frames : List AirFrame) :
    view (bindFrames s r i frames).2 = view s := by
  induction frames generalizing s with
  | nil => rfl
  | cons f l ih =>
    unfold bindFrames
    dsimp only
    split
    next heq => exact (ih _).trans ((view_setAirQ (hb.sub rfl) _ _ _).trans (view_of_snd heq (view_bindFrame hb s r i f)))
    next heq => exact view_of_snd heq (view_bindFrame hb s r i f)

theorem view_mirrorBound (hb : Blind view [.regs, .out, .twin]) (s : State) (i : Nat) (l : List AirFrame) :
    view (mirrorBound s i l) = view s := by
  exact (view_foldl (fun t k => view_mirror hb t _) _ _).trans (view_foldl (fun t tid => view_mirror hb t _) _ s)

theorem view_charge (hb : Blind view [.regs, .miller]) (s : State) (a n : Nat) : view (charge s a n) = view s := by
  simp only [charge, view_setAirQ (hb.sub rfl), view_bumpBy (hb.regs rfl)]

theorem view_bindUser (hb : Blind view planParts) (s : State) (r : Nat) (e : Exchange) (u : ExUser) :
    view (bindUser s r e u).2 = view s := by
  unfold bindUser
  dsimp only
  (repeat' split)
  all_goals simp only [view_foldl fun v tid => view_askAgreement (hb.sub rfl) v r u.station tid, view_charge (hb.sub rfl),
      view_mirrorBound (hb.sub rfl), view_bindFrames (hb.sub rfl), view_takePn (hb.sub rfl), view_setMiller (hb.miller rfl)]

theorem view_bindUsers (hb : Blind view planParts) (s : State) (r : Nat) (e : Exchange) (users : List ExUser) :
    view (bindUsers s r e users).2 = view s := by
  induction users generalizing s with
  | nil => rfl
  | cons u l ih =>
    unfold bindUsers
    split
    · exact ih s
    · exact (ih _).trans (view_bindUser hb s r e u)

/-! ### Plans: the steps of R157 -/

theorem view_uplinkPlan (hb : Blind view [.mac, .ost]) (s : State) (r len : Nat) : view (uplinkPlan s r len).2 = view s := by
  unfold uplinkPlan
  dsimp only
  (repeat' split)
  all_goals simp only [view_creditRound (hb.sub rfl), hb.ost rfl]

/-! ### Plans: one exchange into the plan -/

theorem view_addExchange (hb : Blind view planParts) (x : Build) (r : Nat) (e : Exchange) (from_ limit : Nat) :
    view (addExchange x r e from_ limit).2.s = view x.s := by
  have htag : ∀ t, view (takeTag t).2 = view t := view_takeTag (hb.sub rfl)
  unfold addExchange
  split
  · rfl
  · dsimp only
    split
    · rfl
    · split
      · rfl
      · simp only [apply_ite Prod.snd, apply_ite Build.s, apply_ite view, view_bindUsers hb, htag, ite_self]

theorem view_foldBuild {β : Type} {f : Build → β → Build} (h : ∀ x b, view (f x b).s = view x.s) (l : List β) (x : Build) :
    view (l.foldl f x).s = view x.s :=
  foldl_view (fun x : Build => view x.s) h l x

theorem view_foldExchange {β : Type} (hb : Blind view planParts) (e : Build → β → Exchange) (r from_ limit : Nat) (l : List β)
    (x : Build) : view (l.foldl (fun z b => (addExchange z r (e z b) from_ limit).2) x).s = view x.s :=
  view_foldBuild (fun z b => view_addExchange hb z r (e z b) from_ limit) l x

theorem view_addAll (hb : Blind view planParts) (x : Build) (r limit : Nat) (l : List Exchange) : view (addAll x r limit l).s = view x.s :=
  view_foldBuild (fun y e => view_addExchange hb y r e 0 limit) l x

/-! ### Plans: the steps of R157 -/

theorem view_addBeacon (hb : Blind view planParts) (x : Build) (r b : Nat) : view (addBeacon x r b).s = view x.s := by
  unfold addBeacon
  split
  · rfl
  · extract_lets t b src e y
    have htag : view y.s = view x.s := view_takeTag (hb.sub rfl) x.s
    split
    · exact (view_foldExchange hb (fun z (g : Nat × AirFrame) => groupEntry z.s r g.1 g.2) r _ _ _ y).trans htag
    · exact htag

theorem view_addService (hb : Blind view planParts) (x : Build) (r b : Nat) : view (addService x r b).s = view x.s := by
  refine (view_foldBuild (fun z i => ?_) _ _).trans
    (view_foldBuild (fun z w => view_foldBuild (fun z v => view_addExchange hb z r _ _ _) _ z) _ x)
  dsimp only
  split
  · simp only [apply_ite Build.s, apply_ite view, view_setStation (hb.sub rfl), view_addExchange hb, ite_self]
  · exact view_setStation (hb.sub rfl) z.s _ _

theorem view_addOwn (hb : Blind view planParts) (x : Build) (r : Nat) : view (addOwn x r).s = view x.s := by
  have hadded : ∀ {z w : Build} {e : Exchange} {limit : Nat} {b : Bool}, addExchange z r e 0 limit = (b, w) → view w.s = view z.s :=
    fun {z w e limit b} heq => by
      have hz := view_addExchange hb z r e 0 limit
      rw [heq] at hz
      exact hz
  refine view_foldBuild (fun z c => ?_) _ x
  dsimp only
  split
  next heq => exact (view_setMac (hb.mac rfl) _ _).trans (hadded heq)
  next heq => exact hadded heq

theorem view_planRadio (hb : Blind view planParts) (s : State) (r b len lo : Nat) : view (planRadio s r b len lo).s = view s := by
  unfold planRadio
  dsimp only
  split
  · rfl
  · split
    · simp only [view_addService hb, view_addBeacon hb]
    · simp only [view_addAll hb, view_uplinkPlan (hb.sub rfl), view_addOwn hb, view_addService hb, view_addBeacon hb]

/-! ### Plans: steering (R167) -/

theorem view_steerAll (hb : Blind view planParts) (s : State) (bs : Boards) (works : List Work) :
    view (steerAll s bs works).1 = view s := by
  induction works generalizing s bs with
  | nil => rfl
  | cons w l ih =>
    unfold steerAll
    split
    · split
      · exact (ih _ _).trans (view_addExchange hb _ _ _ _ _)
      · exact ih s bs
    · exact ih s bs

/-! ### Plans: closing -/

theorem view_countUnplanned (hb : Blind view [.regs]) (s : State) (before : State) : view (countUnplanned s before) = view s := by
  refine view_foldl (fun t b => ?_) _ _
  dsimp only
  split <;> simp only [view_bumpBy (hb.regs rfl)]

theorem view_endGrants (hb : Blind view [.regs, .ost, .miller]) (s : State) : view (endGrants s) = view s := by
  refine ((hb.ost rfl) _ _).trans (view_foldl (fun t g => ?_) _ s)
  simp only [apply_ite view, view_setAirQ (hb.sub rfl), view_wr (hb.regs rfl), view_setMiller (hb.miller rfl), ite_self]

theorem view_storePlan (hb : Blind view [.regs, .ost]) (s : State) (r : Nat) (b : PlanBoard) (barred : Bool) :
    view (storePlan s r b barred) = view s := by
  simp only [storePlan, apply_ite view, view_setPlan (hb.ost rfl), view_bump (hb.regs rfl), view_bumpBy (hb.regs rfl), ite_self]

theorem view_announcePairs (hb : Blind view [.out, .twin]) (s : State) (b : Nat) (l : List Exchange) :
    view (announcePairs s b l) = view s := by
  refine view_foldl (fun t b => ?_) _ _
  simp only [view_varlanSend (hb.out rfl) (hb.twin rfl)]

theorem view_closePlanAt (hb : Blind view (.planClosed :: planParts)) (s : State) (b len lo : Nat) :
    view (closePlanAt s b len lo) = view s := by
  unfold closePlanAt
  extract_lets barred x0 x1 x2 bs y t t1
  have hplanned : view x2.s = view s := by simp only [x2, x1, x0, view_planRadio (hb.sub rfl)]
  have hsteered : view y.1 = view s := (view_steerAll (hb.sub rfl) _ _ _).trans hplanned
  have hstored : view t = view s := (view_foldl (fun u r => view_storePlan (hb.sub rfl) u r _ _) _ _).trans hsteered
  exact (view_announcePairs (hb.sub rfl) _ _ _).trans (((hb.planClosed rfl) t1 true).trans ((view_endGrants (hb.sub rfl) _).trans (
      (view_countUnplanned (hb.sub rfl) t s).trans hstored)))

theorem view_closePlan (hb : Blind view (.planClosed :: planParts)) (s : State) (lo : Nat) : view (closePlan s lo) = view s := by
  simp only [closePlan, view_closePlanAt hb]

theorem view_planErrors (hb : Blind view [.regs, .tinker, .mac, .ost]) (s : State) (e : PlanErrors) : view (planErrors s e) = view s := by
  have hplans : ∀ l : List Nat, view (l.foldl (fun t r => setPlan t r { radioPlan t r with closed := [] }) s) = view s := fun l =>
    view_foldl (fun t r => view_setPlan (hb.ost rfl) t r _) l s
  have hstations : ∀ (l : List Nat) t,
      view (l.foldl (fun t i => setStation t i { station t i with csiAt := [], corr := [], rate := [], good := [] }) t) =
      view t := fun l t =>
    view_foldl (fun t i => view_setStation (hb.sub rfl) t i _) l t
  simp only [planErrors, apply_ite view, view_report (hb.regs rfl) (hb.tinker rfl), hstations, hplans, ite_self]

theorem view_execPlanClose (hseal : HidesSeal view) (hb : Blind view (.planClosed :: planParts)) (e : PlanErrors) (s t : State)
    (h : execPlanClose e s = .next t) : view t = view s := by
  refine view_act hseal ?_ h
  simp only [apply_ite view, view_planErrors (hb.sub rfl), view_closePlan hb, ite_self]

/-! ### Modes (R374 to R388) -/

theorem view_fastPath (hb : Blind view [.regs, .out, .epoch, .tinker, .radios, .twin, .steward, .dram]) (s : State) (m : Nat) :
    view (fastPath s m) = view s := by
  simp only [fastPath, apply_ite view, hb.setMode rfl, hb.epoch rfl, ite_self]

/-! ### The time base (R399) -/

theorem view_rephase (hb : Blind view [.regs, .ost]) (s : State) (p : Int) : view (rephase s p) = view s := by
  simp only [rephase, view_wrI (hb.regs rfl), hb.ost rfl]

/-! ### Exchanges on the air -/

theorem view_skipExchange (hb : Blind view [.regs, .mac, .miller]) (s : State) (r : Nat) (e : Exchange) :
    view (skipExchange s r e) = view s := by
  unfold skipExchange
  split <;> simp only [view_giveBackUsers (hb.miller rfl), view_setMac (hb.mac rfl), view_bump (hb.regs rfl)]

theorem view_swapTemplates (hb : Blind view [.regs, .mac]) (s : State) (r : Nat) : view (swapTemplates s r) = view s := by
  refine view_foldl (fun t i => ?_) _ s
  simp only [apply_ite view, view_bump (hb.regs rfl), view_setMac (hb.mac rfl), ite_self]

theorem view_buildBeacon (hb : Blind view (.tinker :: .ost :: .lock :: bufParts)) (s : State) (r : Nat) :
    view (buildBeacon s r).2 = view s := by
  unfold buildBeacon
  dsimp only
  split
  · split
    next heq => exact view_of_snd heq (view_takePn hb s _)
    next heq => exact view_of_snd heq (view_takePn hb s _)
  · rfl

theorem view_execTbtt (hseal : HidesSeal view) (hb : Blind view (.tinker :: .mac :: .ost :: .lock :: bufParts)) (r : Fin 3) (s t : State)
    (h : execTbtt r s = .next t) : view t = view s := by
  refine view_act hseal ?_ h
  simp only [apply_ite view, view_beaconResult (hb.regs rfl) (hb.tinker rfl) (hb.mac rfl), view_buildBeacon (hb.sub rfl),
      view_swapTemplates (hb.sub rfl), hb.ost rfl, ite_self]

theorem view_sendExchange (hb : Blind view [.regs, .out, .radios, .txReports, .twin, .ost]) (s : State) (r slip start : Nat)
    (e : Exchange) : view (sendExchange s r slip start e) = view s := by
  simp only [sendExchange, apply_ite view, view_offerCommand (hb.sub rfl), view_setPlan (hb.ost rfl), view_varlanSend (hb.out rfl)
      (hb.twin rfl), view_bump (hb.regs rfl), hb.ost rfl, ite_self]

theorem view_runTxop (hb : Blind view [.regs, .out, .radios, .txReports, .twin, .mac, .ost, .miller]) (r slip : Nat) (busy : List Nat)
    (todo : List Exchange) (rest : List Exchange) (shift : Nat) (s : State) : view (runTxop r slip busy todo rest shift s) = view s := by
  induction todo generalizing rest shift s with
  | nil => exact view_setPlan (hb.ost rfl) s r _
  | cons e l ih =>
    simp only [runTxop, apply_ite view, ih, view_sendExchange (hb.sub rfl), view_setPlan (hb.ost rfl), view_skipExchange (hb.sub rfl),
        view_bumpBy (hb.regs rfl), view_giveBackUsers (hb.miller rfl), ite_self]

theorem view_execTxopAccessComplete (hseal : HidesSeal view) (hb : Blind view [.regs, .out, .radios, .txReports, .twin, .mac, .ost,
    .miller]) (r : Fin 3) (busy : List Nat) (s t : State) (h : execTxopAccessComplete r busy s = .next t) : view t = view s := by
  refine view_act hseal ?_ h
  dsimp only
  (repeat' split)
  all_goals simp only [view_runTxop hb, view_skipExchange (hb.sub rfl), view_takeTag (hb.sub rfl), view_setPlan (hb.ost rfl),
      view_bump (hb.regs rfl), hb.ost rfl]

theorem view_execTxResult (hseal : HidesSeal view) (hb : Blind view (.tinker :: .radios :: .txReports :: .mac :: .ost :: legParts))
    (s t : State) (h : execTxResult s = .next t) : view t = view s := by
  refine view_act hseal ?_ h
  dsimp only
  (repeat' split)
  all_goals simp only [view_ostlerResult (hb.regs rfl) (hb.out rfl) (hb.hostq rfl) (hb.tinker rfl) (hb.radios rfl) (hb.mac rfl)
      (hb.ost rfl) (hb.miller rfl), view_beaconResult (hb.regs rfl) (hb.tinker rfl) (hb.mac rfl), view_setPlan (hb.ost rfl),
      view_varlanSend (hb.out rfl) (hb.twin rfl), view_bump (hb.regs rfl), view_bumpBy (hb.regs rfl), hb.txReports rfl]

/-! ### The host rings at work (R60 to R69, R306) -/

theorem view_hostFlush (hb : Blind view bufParts) (s : State) (q : Nat) (counted : Bool) : view (hostFlush s q counted) = view s := by
  simp only [hostFlush, apply_ite view, view_bumpBy (hb.regs rfl), view_foldl fun t (f : OutFrame) => (hb.dropLeg rfl) t f.buf,
      view_setHostDirect (hb.sub rfl), ite_self]

theorem view_execQueueDisable (hseal : HidesSeal view) (hb : Blind view (.status :: .led :: legParts)) (q : Fin 64) (s t : State)
    (h : execQueueDisable q s = .next t) : view t = view s := by
  refine view_act hseal (view_command (hb.status rfl) (hb.out rfl) (hb.led rfl) (hb.twin rfl) s _ _ _ ?_) h
  simp only [apply_ite Prod.snd, apply_ite view, view_hostFlush (hb.sub rfl), view_wr (hb.regs rfl), view_setHq (hb.hostq rfl), ite_self]

theorem view_toHostFetch (hb : Blind view bufParts) (s : State) (q : Nat) (d : Descriptor) : view (toHostFetch s q d) = view s := by
  unfold toHostFetch
  split <;> simp only [apply_ite view, view_setHostDirect (hb.sub rfl), hb.dropLeg rfl, view_writeBackNow (hb.regs rfl) (hb.out rfl)
      (hb.hostq rfl), view_send (hb.out rfl), ite_self]

theorem view_execDescriptorFetch (hseal : HidesSeal view) (hb : Blind view bufParts) (q : Fin 64) (d : Descriptor) (s t : State)
    (h : execDescriptorFetch q d s = .next t) : view t = view s := by
  refine view_act hseal ?_ h
  simp only [apply_ite view, view_toHostFetch hb, view_setHq (hb.hostq rfl), ite_self]

theorem view_fromHostEnd (hb : Blind view [.regs, .out, .hostq]) (s : State) (q : Nat) (d : Descriptor) (result : Nat) (wait : Bool) :
    view (fromHostEnd s q d result wait) = view s := by
  simp only [fromHostEnd, view_completeFromHost hb, view_setHq (hb.hostq rfl)]

theorem view_fromHostSend (hb : Blind view (.entering :: legParts)) (s : State) (q : Nat) (d : Descriptor) (b : Octets) (buf : Nat)
    (path : HostPath) : view (fromHostSend s q d b buf path) = view s := by
  unfold fromHostSend
  (repeat' split)
  all_goals simp only [view_enterLeg (hb.sub rfl), view_stationLeg (hb.sub rfl), hb.dropLeg rfl, hb.entering rfl]

theorem view_execFromHostTakeIn (hseal : HidesSeal view) (hb : Blind view (.tinker :: .entering :: .graph :: legParts)) (q : Fin 64)
    (bytes : Octets) (s t : State) (h : execFromHostTakeIn q bytes s = .next t) : view t = view s := by
  refine view_act hseal ?_ h
  split
  · rfl
  · split
    · rfl
    · split
      · exact (view_countClass (hb.sub rfl) _ _ _ _).trans (view_fromHostEnd (hb.sub rfl) s _ _ _ _)
      · split
        · rfl
        · dsimp only
          split
          · exact view_fromHostEnd (hb.sub rfl) s _ _ _ _
          · split
            next heq =>
              exact (view_fromHostSend (hb.sub rfl) _ _ _ _ _ _).trans ((view_fromHostEnd (hb.sub rfl) _ _ _ _ _).trans
                  (view_of_snd heq (view_takeBuf (hb.sub rfl) s _ _ _ _)))
            next heq => exact (view_setHq (hb.hostq rfl) _ _ _).trans (view_of_snd heq (view_takeBuf (hb.sub rfl) s _ _ _ _))

theorem view_flushAll (hb : Blind view [.regs, .out, .hostq]) (s : State) (q : Nat) (held : List (Nat × WriteBack × Bool)) :
    view (flushAll s q held) = view s := by
  induction held generalizing s with
  | nil => exact view_setHq (hb.hostq rfl) s q _
  | cons e l ih => exact (ih _).trans (view_writeBackNow (hb.regs rfl) (hb.out rfl) (hb.hostq rfl) s q _)

theorem view_execDmaError (hseal : HidesSeal view) (hb : Blind view (.tinker :: bufParts)) (q : Fin 64) (writable : Bool) (s t : State)
    (h : execDmaError q writable s = .next t) : view t = view s := by
  refine view_act hseal ?_ h
  dsimp only
  (repeat' split)
  all_goals simp only [view_flushAll (hb.sub rfl), view_hostFlush (hb.sub rfl), view_setHostDirect (hb.sub rfl), hb.dropLeg rfl,
      view_writeBackNow (hb.regs rfl) (hb.out rfl) (hb.hostq rfl), view_setHq (hb.hostq rfl), view_report (hb.regs rfl) (hb.tinker rfl),
      view_bump (hb.regs rfl)]

theorem view_perstQueue (hb : Blind view bufParts) (s : State) (q : Nat) : view (perstQueue s q) = view s := by
  simp only [perstQueue, view_hostFlush hb, view_setHq (hb.hostq rfl), view_wr (hb.regs rfl)]

theorem view_execPerst (hseal : HidesSeal view) (hb : Blind view (.boot :: .led :: .time :: bufParts)) (asserted : Bool) (s t : State)
    (h : execPerst asserted s = .next t) : view t = view s := by
  refine view_act hseal ?_ h
  simp only [apply_ite view, view_boot_led_time (hb.sub rfl), view_foldl (view_perstQueue (hb.sub rfl)), ite_self]

end

end Sys2Proof.Machine
end

section
/-! Views that are blind to what the pair, the faults and QUARANTINE set (R182 to R213, R466 to R477). -/

namespace Sys2Proof.Machine

section

variable {α : Type} {view : State → α}

/-! ### The pair: the mirror applied (R193, R194) -/

theorem view_applyStation (hb : Blind view staParts) (s : State) (i st : Nat) (regs : List (Nat × Nat)) (blobs : List (Nat × Octets)) :
    view (applyStation s i st regs blobs) = view s := by
  have hregs : ∀ l : List (Nat × Nat),
      view (l.foldl (fun t e => wr t (winKey i e.1) e.2) s) = view s := fun l => view_foldl (fun t e => view_wr (hb.regs rfl) t _ _) l s
  have hblobs : ∀ (l : List (Nat × Octets)) t, view (l.foldl (fun t e => wrB t (winKey i e.1) e.2) t) = view t := fun l t =>
    view_foldl (fun t e => view_wrB (hb.blobs rfl) t _ _) l t
  simp only [applyStation, apply_ite view, view_staRemove hb, view_countStations (hb.sub rfl), view_setStation (hb.sub rfl),
      view_wr (hb.regs rfl), hblobs, hregs, ite_self]

theorem view_applySlot (hb : Blind view (.ost :: .lock :: bufParts)) (s : State) (k st use : Nat) (regs : List (Nat × Nat))
    (material : Octets) : view (applySlot s k st use regs material) = view s := by
  have hregs : ∀ l : List (Nat × Nat),
      view (l.foldl (fun t e => wr t (winKey k e.1) e.2) s) = view s := fun l => view_foldl (fun t e => view_wr (hb.regs rfl) t _ _) l s
  simp only [applySlot, apply_ite view, view_slotZero hb, view_countSlots (hb.sub rfl), view_setSlot (hb.sub rfl), view_wr (hb.regs rfl),
      hregs, ite_self]

theorem view_applyRecord (hb : Blind view (.lock :: staParts)) (s : State) (rec : MirrorRec) : view (applyRecord s rec) = view s := by
  unfold applyRecord
  split <;> simp only [apply_ite view, view_applySlot (hb.sub rfl), view_applyStation (hb.sub rfl), view_setTwt (hb.sub rfl),
      view_moveC (hb.sub rfl), view_setBoard (hb.sub rfl), view_setStation (hb.sub rfl), view_wr (hb.regs rfl), ite_self]

theorem view_discardStations (hb : Blind view (.lock :: staParts)) (s : State) : view (discardStations s) = view s := by
  simp only [discardStations, view_foldl fun t k => view_setTwt (hb.sub rfl) t k none, view_foldl (view_slotZero (hb.sub rfl)),
      view_foldl (view_staRemove (hb.sub rfl))]

theorem view_applyShared
    (hb : Blind view (.blobs :: .staged :: .stagedBlobs :: .tinker :: .radios :: .mac :: .graph :: .rules :: .switch :: bufParts))
    (s : State) (d : CopyData) : view (applyShared s d) = view s := by
  simp only [applyShared, view_bhRefresh (hb.sub rfl), view_followAll (hb.regs rfl) (hb.radios rfl), apply_ite view,
      view_portsRestart (hb.sub rfl), view_wr (hb.regs rfl), view_sharedSet (hb.sub rfl), ite_self]

theorem view_applyCopy (hb : Blind view (.blobs :: .staged :: .stagedBlobs :: .radios :: .time :: .graph :: .rules :: .switch :: planParts))
    (s : State) (d : CopyData) : view (applyCopy s d) = view s := by
  unfold applyCopy
  split <;> simp only [view_foldl (view_applyRecord (hb.sub rfl)), view_applyShared (hb.sub rfl), view_discardStations (hb.sub rfl),
      view_rephase (hb.sub rfl), view_wrB (hb.blobs rfl), view_wr (hb.regs rfl), hb.time rfl]

/-! ### The pair: the pair state (R183) -/

theorem view_releaseHeld (hb : Blind view verdictParts) (s : State) : view (releaseHeld s) = view s := by
  simp only [releaseHeld, view_foldl (view_verdictOut hb), view_setTwin (hb.twin rfl)]

theorem view_unsync (hb : Blind view pairParts) (s : State) : view (unsync s) = view s := by
  simp only [unsync, apply_ite view, view_releaseHeld (hb.sub rfl), view_twinTo (hb.regs rfl) (hb.tinker rfl) (hb.steward rfl),
      view_report (hb.regs rfl) (hb.tinker rfl), view_bump (hb.regs rfl), ite_self]

theorem view_dropCopy (hb : Blind view [.twin]) (s : State) : view (dropCopy s) = view s := by
  simp only [dropCopy, view_setTwin (hb.twin rfl)]

theorem view_followerLost (hb : Blind view (.epoch :: pairParts)) (s : State) : view (followerLost s) = view s := by
  simp only [followerLost, view_dropCopy (hb.sub rfl), view_releaseHeld (hb.sub rfl), view_twinTo (hb.regs rfl) (hb.tinker rfl)
      (hb.steward rfl), view_report (hb.regs rfl) (hb.tinker rfl), view_bump (hb.regs rfl), hb.epoch rfl]

theorem view_emptyPlans (hb : Blind view [.regs, .mac, .ost, .miller]) (s : State) : view (emptyPlans s) = view s := by
  exact ((hb.ost rfl) _ _).trans (view_foldl (fun t r => view_skipAll (hb.regs rfl) (hb.mac rfl) (hb.miller rfl) t r _) _ s)

theorem view_handOver (hb : Blind view (.blobs :: .ost :: pairParts)) (s : State) : view (handOver s) = view s := by
  simp only [handOver, view_emptyPlans (hb.sub rfl), view_releaseHeld (hb.sub rfl), view_twinTo (hb.regs rfl) (hb.tinker rfl)
      (hb.steward rfl), view_discardStations (hb.sub rfl), view_setTwin (hb.twin rfl)]

theorem view_sendHandover (hb : Blind view (.blobs :: .ost :: pairParts)) (s : State) : view (sendHandover s) = view s := by
  simp only [sendHandover, view_handOver hb, view_varlanSend (hb.out rfl) (hb.twin rfl)]

/-! ### The pair: takeover (R198 to R202) -/

theorem view_jumpStation (hb : Blind view [.mac]) (s : State) (i : Nat) : view (jumpStation s i) = view s := by
  simp only [jumpStation, view_setStation hb]

theorem view_residualPlan (hb : Blind view (.planClosed :: planParts)) (s : State) : view (residualPlan s) = view s := by
  unfold residualPlan
  dsimp only
  split
  · exact view_closePlan hb s _
  · split
    · exact view_closePlan hb s _
    · exact (view_planClosed_ost (hb.sub rfl) _ _ _).trans (view_closePlanAt hb s _ _ _)

theorem view_coldKeys (hb : Blind view [.regs, .out, .tinker, .twin, .mac, .miller]) (s : State) : view (coldKeys s) = view s := by
  simp only [coldKeys, view_foldl fun t i => view_staSetState (hb.sub rfl) t i 1, view_setMac (hb.mac rfl), view_report (hb.regs rfl)
      (hb.tinker rfl), view_bump (hb.regs rfl)]

theorem view_takeover (hb : Blind view leadParts) (s : State) (trigger : Nat) : view (takeover s trigger) = view s := by
  simp only [takeover, apply_ite view, view_foldl (view_jumpPn (hb.sub rfl)), view_foldl (view_jumpStation (hb.sub rfl)),
      view_coldKeys (hb.sub rfl), view_residualPlan (hb.sub rfl), view_twinTo (hb.regs rfl) (hb.tinker rfl) (hb.steward rfl),
      view_setTwin (hb.twin rfl), view_sourceLost (hb.regs rfl) (hb.tinker rfl) (hb.time rfl), view_fastPath (hb.sub rfl),
      view_report (hb.regs rfl) (hb.tinker rfl), view_bump (hb.regs rfl), view_wr (hb.regs rfl), ite_self]

theorem view_trigger (hb : Blind view leadParts) (s : State) (n : Nat) : view (trigger s n) = view s := by
  simp only [trigger, apply_ite view, view_takeover hb, ite_self]

theorem view_quarantineOver (hb : Blind view [.regs, .tinker]) (s : State) : view (quarantineOver s) = view s := by
  simp only [quarantineOver, view_report (hb.regs rfl) (hb.tinker rfl), view_wr (hb.regs rfl), hb.tinker rfl]

theorem view_exitQuarantine (hb : Blind view [.regs, .out, .epoch, .tinker, .radios, .twin, .steward, .dram]) (s : State) :
    view (exitQuarantine s) = view s := by
  simp only [exitQuarantine, apply_ite view, view_quarantineOver (hb.sub rfl), view_setTwin (hb.twin rfl), view_fastPath hb,
      view_wr (hb.regs rfl), ite_self]

theorem view_joinLost (hb : Blind view [.regs, .out, .boot, .epoch, .tinker, .radios, .twin, .steward, .dram]) (s : State) :
    view (joinLost s) = view s := by
  simp only [joinLost, apply_ite view, view_exitQuarantine (hb.sub rfl), view_waitToSolo (hb.regs rfl) (hb.boot rfl) (hb.tinker rfl)
      (hb.twin rfl), view_dropCopy (hb.sub rfl), view_twinTo (hb.regs rfl) (hb.tinker rfl) (hb.steward rfl), ite_self]

theorem view_peerLost (hb : Blind view (.free :: .boot :: .entering :: .carter :: leadParts)) (s : State) (n : Nat) :
    view (peerLost s n) = view s := by
  simp only [peerLost, apply_ite view, view_joinLost (hb.sub rfl), view_takeover (hb.sub rfl), view_followerLost (hb.sub rfl), ite_self]

/-! ### The pair: heartbeats (R190, R205, R409) -/

theorem view_twinServo (hb : Blind view [.regs, .out, .free, .tb, .epoch, .tinker, .radios, .time, .move, .mac, .ost]) (s : State)
    (off : Int) : view (twinServo s off) = view s := by
  simp only [twinServo, apply_ite view, view_servoFreq (hb.regs rfl) (hb.free rfl) (hb.time rfl), view_stepTb (hb.regs rfl) (hb.out rfl)
      (hb.tb rfl) (hb.epoch rfl) (hb.tinker rfl) (hb.radios rfl) (hb.time rfl) (hb.move rfl) (hb.mac rfl) (hb.ost rfl),
      view_setTbState (hb.regs rfl) (hb.time rfl), view_setTime (hb.time rfl), view_wr (hb.regs rfl), ite_self]

theorem view_followTime (hb : Blind view [.regs, .out, .free, .tb, .epoch, .tinker, .radios, .time, .move, .mac, .ost]) (s : State)
    (h : HbMsg) : view (followTime s h) = view s := by
  unfold followTime
  split <;> simp only [view_twinServo hb, view_rephase (hb.sub rfl), view_wrI (hb.regs rfl), view_wr (hb.regs rfl)]

theorem view_ackRecords (hb : Blind view [.twin]) (s : State) (n : Nat) : view (ackRecords s n) = view s := by
  simp only [ackRecords, view_setTwin (hb.twin rfl)]

theorem view_splitHeal (hb : Blind view (.blobs :: .tb :: .epoch :: .radios :: .time :: .move :: .steward :: planParts)) (s : State) :
    view (splitHeal s) = view s := by
  simp only [splitHeal, view_emptyPlans (hb.sub rfl), view_sendJoin (hb.regs rfl) (hb.out rfl) (hb.tb rfl) (hb.epoch rfl) (hb.tinker rfl)
      (hb.radios rfl) (hb.twin rfl) (hb.time rfl) (hb.move rfl) (hb.steward rfl) (hb.mac rfl) (hb.ost rfl),
      view_discardStations (hb.sub rfl), view_setTwin (hb.twin rfl), view_report (hb.regs rfl) (hb.tinker rfl), view_bump (hb.regs rfl)]

theorem view_searching (hb : Blind view (.blobs :: .tb :: .boot :: .epoch :: .radios :: .time :: .move :: .steward :: planParts))
    (s : State) (h : HbMsg) : view (searching s h) = view s := by
  simp only [searching, apply_ite view, view_splitHeal (hb.sub rfl), view_waitToSolo (hb.regs rfl) (hb.boot rfl) (hb.tinker rfl)
      (hb.twin rfl), view_sendJoin (hb.regs rfl) (hb.out rfl) (hb.tb rfl) (hb.epoch rfl) (hb.tinker rfl) (hb.radios rfl) (hb.twin rfl)
      (hb.time rfl) (hb.move rfl) (hb.steward rfl) (hb.mac rfl) (hb.ost rfl), ite_self]

theorem view_pairStep (hb : Blind view (.tb :: .boot :: .time :: .move :: .planClosed :: quarantineParts)) (s : State) (h : HbMsg) :
    view (pairStep s h) = view s := by
  simp only [pairStep, apply_ite view, view_searching (hb.sub rfl), view_joinLost (hb.sub rfl), view_takeover (hb.sub rfl),
      view_followerLost (hb.sub rfl), view_copyStep (hb.regs rfl) (hb.out rfl) (hb.tb rfl) (hb.epoch rfl) (hb.tinker rfl) (hb.radios rfl)
      (hb.time rfl) (hb.move rfl) (hb.mac rfl) (hb.ost rfl), view_beginCopy (hb.regs rfl) (hb.tinker rfl) (hb.twin rfl) (hb.steward rfl),
      view_unsync (hb.sub rfl), view_varlanSend (hb.out rfl) (hb.twin rfl), ite_self]

theorem view_execHeartbeatReceived (hseal : HidesSeal view)
    (hb : Blind view (.tb :: .boot :: .time :: .move :: .planClosed :: quarantineParts)) (v : VHead) (h : HbMsg) (s t : State)
    (h : execHeartbeatReceived v h s = .next t) : view t = view s := by
  refine view_act hseal (view_onMessage (hb.regs rfl) (hb.tinker rfl) (hb.twin rfl) s _ v _ fun u => ?_) h
  simp only [apply_ite view, view_pairStep hb, view_ackRecords (hb.sub rfl), view_followTime (hb.sub rfl), view_setTwin (hb.twin rfl),
      view_pairRefresh (hb.regs rfl) (hb.tinker rfl), view_wr (hb.regs rfl), ite_self]

theorem view_execHeartbeatStale (hseal : HidesSeal view) (hb : Blind view (.free :: .boot :: .entering :: .carter :: leadParts))
    (s t : State) (h : execHeartbeatStale s = .next t) : view t = view s := by
  refine view_act hseal ?_ h
  simp only [apply_ite view, view_peerLost hb, view_takeover (hb.sub rfl), view_setTwin (hb.twin rfl), view_sourceLost (hb.regs rfl)
      (hb.tinker rfl) (hb.time rfl), view_wr (hb.regs rfl), ite_self]

/-! ### The pair: the alive line (R191) -/

theorem view_execAliveSilent (hseal : HidesSeal view) (hb : Blind view (.free :: .boot :: .entering :: .carter :: leadParts)) (s t : State)
    (h : execAliveSilent s = .next t) : view t = view s := by
  refine view_act hseal ?_ h
  simp only [apply_ite view, view_peerLost hb, view_setTwin (hb.twin rfl), view_report (hb.regs rfl) (hb.tinker rfl), ite_self]

/-! ### The pair: lanes (R186) -/

theorem view_laneRefresh (hb : Blind view [.regs, .tinker]) (s : State) : view (laneRefresh s) = view s := by
  simp only [laneRefresh, view_pairRefresh (hb.regs rfl) (hb.tinker rfl), view_wr (hb.regs rfl)]

theorem view_execLaneDown (hseal : HidesSeal view) (hb : Blind view pairParts) (lane : Fin 4) (s t : State)
    (h : execLaneDown lane s = .next t) : view t = view s := by
  refine view_act hseal ?_ h
  simp only [apply_ite view, view_laneRefresh (hb.sub rfl), view_unsync hb, view_setTwin (hb.twin rfl), view_report (hb.regs rfl)
      (hb.tinker rfl), view_bump (hb.regs rfl), view_wr (hb.regs rfl), ite_self]

theorem view_execLaneUp (hseal : HidesSeal view) (hb : Blind view (.tinker :: legParts)) (lane : Fin 4) (s t : State)
    (h : execLaneUp lane s = .next t) : view t = view s := by
  refine view_act hseal ?_ h
  simp only [apply_ite view, view_laneRefresh (hb.sub rfl), view_setTwin (hb.twin rfl), view_drainVarlan (hb.sub rfl),
      view_wr (hb.regs rfl), ite_self]

/-! ### The pair: joining, handing over, standing down (R183, R193, R198, R204) -/

theorem view_execHandoverReceived (hseal : HidesSeal view) (hb : Blind view leadParts) (v : VHead) (s t : State)
    (h : execHandoverReceived v s = .next t) : view t = view s := by
  refine view_act hseal (view_onMessage (hb.regs rfl) (hb.tinker rfl) (hb.twin rfl) s _ v _ fun u => ?_) h
  simp only [view_trigger hb]

theorem view_execStandDownReceived (hseal : HidesSeal view) (hb : Blind view (.blobs :: .ost :: pairParts)) (v : VHead) (s t : State)
    (h : execStandDownReceived v s = .next t) : view t = view s := by
  refine view_act hseal (view_onMessage (hb.regs rfl) (hb.tinker rfl) (hb.twin rfl) s _ v _ fun u => ?_) h
  simp only [apply_ite view, view_varlanSend (hb.out rfl) (hb.twin rfl), view_handOver hb, ite_self]

theorem view_execStandDownAnswer (hseal : HidesSeal view) (hb : Blind view leadParts) (v : VHead) (s t : State)
    (h : execStandDownAnswer v s = .next t) : view t = view s := by
  refine view_act hseal (view_onMessage (hb.regs rfl) (hb.tinker rfl) (hb.twin rfl) s _ v _ fun u => ?_) h
  simp only [apply_ite view, view_trigger hb, view_wr (hb.regs rfl), ite_self]

theorem view_execForwardAckTimeout (hseal : HidesSeal view) (hb : Blind view pairParts) (s t : State)
    (h : execForwardAckTimeout s = .next t) : view t = view s := by
  refine view_act hseal ?_ h
  simp only [apply_ite view, view_unsync hb, view_setTwin (hb.twin rfl), ite_self]

theorem view_askJoinCommit (hb : Blind view [.epoch]) (s : State) : view (askJoinCommit s) = view s := by
  simp only [askJoinCommit, hb.epoch rfl]

theorem view_copyEnd (hb : Blind view (.blobs :: .epoch :: .steward :: planParts)) (s : State) : view (copyEnd s) = view s := by
  simp only [copyEnd, apply_ite view, view_foldl (view_applyRecord (hb.sub rfl)), view_askJoinCommit (hb.sub rfl),
      view_enterSynced (hb.regs rfl) (hb.tinker rfl) (hb.twin rfl) (hb.steward rfl), view_setTwin (hb.twin rfl), view_bump (hb.regs rfl),
      view_wr (hb.regs rfl), ite_self]

theorem view_execCopyComplete (hseal : HidesSeal view)
    (hb : Blind view (.blobs :: .staged :: .stagedBlobs :: .epoch :: .radios :: .time :: .steward :: .graph :: .rules :: .switch :: planParts))
    (v : VHead) (data : Option CopyData) (s t : State) (h : execCopyComplete v data s = .next t) : view t = view s := by
  refine view_act hseal (view_onMessage (hb.regs rfl) (hb.tinker rfl) (hb.twin rfl) s _ v _ fun u => ?_) h
  split
  · rfl
  · split
    · exact (view_copyEnd (hb.sub rfl) _).trans (view_applyCopy (hb.sub rfl) u _)
    · exact view_copyEnd (hb.sub rfl) u
    · rfl

theorem view_execCopyTimeout (hseal : HidesSeal view) (hb : Blind view (.boot :: .epoch :: .radios :: pairParts)) (s t : State)
    (h : execCopyTimeout s = .next t) : view t = view s := by
  refine view_act hseal ?_ h
  simp only [apply_ite view, view_joinLost (hb.sub rfl), view_followerLost (hb.sub rfl), view_dropCopy (hb.sub rfl),
      view_twinTo (hb.regs rfl) (hb.tinker rfl) (hb.steward rfl), ite_self]

/-! ### The pair: mirror traffic (R194 to R196) -/

theorem view_takeRecord (hb : Blind view (.lock :: staParts)) (s : State) (n : Nat) (r : MirrorRec) : view (takeRecord s n r) = view s := by
  simp only [takeRecord, apply_ite view, view_applyRecord hb, view_setTwin (hb.twin rfl), view_bump (hb.regs rfl), ite_self]

theorem view_execMirrorRecordReceived (hseal : HidesSeal view) (hb : Blind view (.blobs :: planParts)) (v : VHead) (rec_ : MirrorRec)
    (s t : State) (h : execMirrorRecordReceived v rec_ s = .next t) : view t = view s := by
  refine view_act hseal ?_ h
  split
  · refine view_onMessage (hb.regs rfl) (hb.tinker rfl) (hb.twin rfl) s _ v _ fun u => ?_
    simp only [apply_ite view, view_varlanSend (hb.out rfl) (hb.twin rfl), view_setTwin (hb.twin rfl), view_applyRecord (hb.sub rfl),
        ite_self]
  · refine view_onMessage (hb.regs rfl) (hb.tinker rfl) (hb.twin rfl) s _ v _ fun u => ?_
    simp only [apply_ite view, view_varlanSend (hb.out rfl) (hb.twin rfl), view_takeRecord (hb.sub rfl), ite_self]

theorem view_execMirrorAckTimeout (hseal : HidesSeal view) (hb : Blind view pairParts) (s t : State)
    (h : execMirrorAckTimeout s = .next t) : view t = view s := by
  refine view_act hseal ?_ h
  simp only [apply_ite view, view_unsync hb, ite_self]

theorem view_releaseVerdict (hb : Blind view verdictParts) (s : State) (token : Nat) : view (releaseVerdict s token) = view s := by
  unfold releaseVerdict
  split <;> simp only [view_setTwin (hb.twin rfl), view_verdictOut hb]

theorem view_execRxpnAck (hseal : HidesSeal view) (hb : Blind view verdictParts) (v : VHead) (token : Nat) (s t : State)
    (h : execRxpnAck v token s = .next t) : view t = view s := by
  refine view_act hseal (view_onMessage (hb.regs rfl) (hb.tinker rfl) (hb.twin rfl) s _ v _ fun u => ?_) h
  simp only [view_releaseVerdict hb]

theorem view_execRxpnWaitExpire (hseal : HidesSeal view) (hb : Blind view pairParts) (token : Nat) (s t : State)
    (h : execRxpnWaitExpire token s = .next t) : view t = view s := by
  refine view_act hseal ?_ h
  simp only [apply_ite view, view_releaseVerdict (hb.sub rfl), view_unsync hb, view_bump (hb.regs rfl), ite_self]

/-! ### The pair: watched beacons (R140 to R142) -/

theorem view_leadBeaconMissed (hb : Blind view leadParts) (s : State) (r : Nat) : view (leadBeaconMissed s r) = view s := by
  simp only [leadBeaconMissed, apply_ite view, view_trigger hb, view_setMac (hb.mac rfl), view_report (hb.regs rfl) (hb.tinker rfl),
      view_bump (hb.regs rfl), ite_self]

theorem view_upstreamMissed (hb : Blind view [.regs, .tinker, .mac]) (s : State) (r : Nat) : view (upstreamMissed s r) = view s := by
  simp only [upstreamMissed, apply_ite view, view_bhRefresh (hb.sub rfl), view_setMac (hb.mac rfl), view_report (hb.regs rfl)
      (hb.tinker rfl), view_bump (hb.regs rfl), view_wr (hb.regs rfl), ite_self]

theorem view_execBeaconWaitExpire (hseal : HidesSeal view) (hb : Blind view leadParts) (r : Fin 3) (upstream : Bool) (s t : State)
    (h : execBeaconWaitExpire r upstream s = .next t) : view t = view s := by
  refine view_act hseal ?_ h
  simp only [apply_ite view, view_upstreamMissed (hb.sub rfl), view_leadBeaconMissed hb, ite_self]

/-! ### Faults and recovery -/

theorem view_setTinker (hb : Blind view [.tinker]) (s : State) (t : Tinker) : view (setTinker s t) = view s := by
  simp only [setTinker, hb.tinker rfl]

/-! ### Faults and recovery: the log (R466, R475) -/

theorem view_logEntry (hb : Blind view [.regs, .tinker]) (s : State) (m : FaultMsg) : view (logEntry s m) = view s := by
  simp only [logEntry, apply_ite view, view_setTinker (hb.sub rfl), view_bump (hb.regs rfl), view_wr (hb.regs rfl), ite_self]

/-! ### Faults and recovery: QUARANTINE (R471) -/

theorem view_quarantineEntry (hb : Blind view quarantineParts) (s : State) (reaction source kind : Nat) :
    view (quarantineEntry s reaction source kind) = view s := by
  simp only [quarantineEntry, apply_ite view, view_setTinker (hb.sub rfl), view_sendHandover (hb.sub rfl), view_dropCopy (hb.sub rfl),
      view_twinTo (hb.regs rfl) (hb.tinker rfl) (hb.steward rfl), view_setTwin (hb.twin rfl), view_fastPath (hb.sub rfl),
      view_report (hb.regs rfl) (hb.tinker rfl), view_bump (hb.regs rfl), view_wr (hb.regs rfl), ite_self]

theorem view_quarantine (hb : Blind view quarantineParts) (s : State) (reaction source kind : Nat) :
    view (quarantine s reaction source kind) = view s := by
  simp only [quarantine, apply_ite view, view_quarantineEntry hb, view_setTinker (hb.sub rfl), ite_self]

theorem view_classify (hb : Blind view quarantineParts) (s : State) (m : FaultMsg) : view (classify s m) = view s := by
  unfold classify
  split <;> simp only [apply_ite view, view_quarantine hb, view_logEntry (hb.sub rfl), view_setTinker (hb.sub rfl),
      view_bump (hb.regs rfl), ite_self]

theorem view_raiseFull (hb : Blind view [.regs, .tinker]) (s : State) : view (raiseFull s) = view s := by
  simp only [raiseFull, apply_ite view, view_setTinker (hb.sub rfl), view_report (hb.regs rfl) (hb.tinker rfl), ite_self]

theorem view_execFaultMessage (hseal : HidesSeal view) (hb : Blind view quarantineParts) (m : Option FaultMsg) (s t : State)
    (h : execFaultMessage m s = .next t) : view t = view s := by
  refine view_act hseal ?_ h
  dsimp only
  (repeat' split)
  all_goals simp only [view_raiseFull (hb.sub rfl), view_classify hb, view_setTinker (hb.sub rfl)]

/-! ### Faults and recovery: recovery (R472, R473) -/

theorem view_leaveQuarantine (hb : Blind view stepParts) (s : State) : view (leaveQuarantine s) = view s := by
  simp only [leaveQuarantine, apply_ite view, view_setTinker (hb.sub rfl), view_exitQuarantine (hb.sub rfl), view_sendJoin (hb.regs rfl)
      (hb.out rfl) (hb.tb rfl) (hb.epoch rfl) (hb.tinker rfl) (hb.radios rfl) (hb.twin rfl) (hb.time rfl) (hb.move rfl) (hb.steward rfl)
      (hb.mac rfl) (hb.ost rfl), ite_self]

theorem view_execQuietExpire (hseal : HidesSeal view) (hb : Blind view stepParts) (s t : State) (h : execQuietExpire s = .next t) :
    view t = view s := by
  refine view_act hseal ?_ h
  simp only [apply_ite view, view_leaveQuarantine hb, view_setTinker (hb.sub rfl), view_report (hb.regs rfl) (hb.tinker rfl),
      view_bump (hb.regs rfl), view_wr (hb.regs rfl), ite_self]

/-! ### Faults and recovery: `q_cmd` (R474) -/

theorem view_qEnter (hb : Blind view quarantineParts) (s : State) : view (qEnter s).2 = view s := by
  simp only [qEnter, apply_ite Prod.snd, apply_ite view, view_quarantine hb, view_bump (hb.regs rfl), ite_self]

theorem view_qExit (hb : Blind view stepParts) (s : State) : view (qExit s).2 = view s := by
  simp only [qExit, apply_ite Prod.snd, apply_ite view, view_leaveQuarantine hb, view_bump (hb.regs rfl), ite_self]

theorem view_qClear (hb : Blind view stepParts) (s : State) : view (qClear s).2 = view s := by
  simp only [qClear, apply_ite view, view_leaveQuarantine hb, view_setTinker (hb.sub rfl), ite_self]

theorem view_execQEnter (hseal : HidesSeal view) (hb : Blind view (.status :: .led :: quarantineParts)) (s t : State)
    (h : execQEnter s = .next t) : view t = view s := by
  refine view_act hseal ?_ h
  simp only [view_qEnter (hb.sub rfl), view_command (hb.status rfl) (hb.out rfl) (hb.led rfl) (hb.twin rfl)]

theorem view_execQExit (hseal : HidesSeal view) (hb : Blind view (.status :: .led :: stepParts)) (s t : State)
    (h : execQExit s = .next t) : view t = view s := by
  refine view_act hseal ?_ h
  simp only [view_qExit (hb.sub rfl), view_command (hb.status rfl) (hb.out rfl) (hb.led rfl) (hb.twin rfl)]

theorem view_execClearLatch (hseal : HidesSeal view) (hb : Blind view (.status :: .led :: stepParts)) (s t : State)
    (h : execClearLatch s = .next t) : view t = view s := by
  refine view_act hseal ?_ h
  simp only [view_qClear (hb.sub rfl), view_command (hb.status rfl) (hb.out rfl) (hb.led rfl) (hb.twin rfl)]

/-! ### Faults and recovery: the end of a takeover (R199, R307, R471) -/

theorem view_execTakeoverEnd (hseal : HidesSeal view) (hb : Blind view (.switch :: quarantineParts)) (s t : State)
    (h : execTakeoverEnd s = .next t) : view t = view s := by
  refine view_act hseal ?_ h
  dsimp only
  (repeat' split)
  all_goals simp only [view_quarantineEntry (hb.sub rfl), view_setTinker (hb.sub rfl), view_twinTo (hb.regs rfl) (hb.tinker rfl)
      (hb.steward rfl), view_setTwin (hb.twin rfl), view_fastPath (hb.sub rfl), view_wr (hb.regs rfl), hb.switch rfl]

end

end Sys2Proof.Machine
end

section
/-! Views that are blind to what the epoch, resets, DORMANT and BOOT set (R29 to R36, R449 to R454, R519 to R532). -/

namespace Sys2Proof.Machine

section

variable {α : Type} {view : State → α}

/-! ### The epoch and the frame boundary: the switch (R30, R32, R153) -/

theorem view_emptyClosed (hb : Blind view [.ost, .miller]) (s : State) (r : Nat) : view (emptyClosed s r) = view s := by
  exact (view_setPlan (hb.ost rfl) _ r _).trans (view_foldl (fun t (e : Exchange) => view_giveBackUsers (hb.miller rfl) t e.users) _ s)

theorem view_radioSwitch (hb : Blind view [.regs, .radios, .ost, .miller]) (old s : State) (r : Nat) :
    view (radioSwitch old s r) = view s := by
  simp only [radioSwitch, apply_ite view, view_setLocked (hb.regs rfl), view_setRState (hb.regs rfl) (hb.radios rfl),
      view_setRadio (hb.radios rfl), view_emptyClosed (hb.sub rfl), ite_self]

theorem view_bssSwitch (hb : Blind view [.regs]) (old s : State) : view (bssSwitch old s) = view s := by
  refine view_foldl (fun t j => ?_) _ s
  simp only [apply_ite view, view_orphanSlots hb, ite_self]

theorem view_portSwitch (hb : Blind view (.tinker :: bufParts)) (old s : State) : view (portSwitch old s) = view s := by
  unfold portSwitch
  split
  · exact view_portsRestart hb s
  · refine view_foldl (fun t p => ?_) _ s
    simp only [apply_ite view, view_portDown hb, ite_self]

theorem view_changeValues (hb : Blind view (.blobs :: .tinker :: .radios :: .ost :: bufParts)) (s : State) (regs : Tab (Option Nat))
    (blobs : Tab (Option Octets)) : view (changeValues s regs blobs) = view s := by
  simp only [changeValues, view_bhRefresh (hb.sub rfl), view_portSwitch (hb.sub rfl), view_bssSwitch (hb.sub rfl),
      view_foldl fun u r => view_radioSwitch (hb.sub rfl) s u r, view_regs_blobs (hb.sub rfl)]

theorem view_swapRoles (hb : Blind view [.twin, .ost, .miller]) (s : State) (old new : Nat) : view (swapRoles s old new) = view s := by
  simp only [swapRoles, apply_ite view, view_foldl (view_emptyClosed (hb.sub rfl)), view_setTwin (hb.twin rfl), ite_self]

theorem view_commitMode (hb : Blind view [.regs, .out, .boot, .tinker, .power, .radios, .twin, .steward, .dram]) (s : State) (m : Nat) :
    view (commitMode s m) = view s := by
  simp only [commitMode, apply_ite view, view_quarantineOver (hb.sub rfl), hb.setMode rfl, hb.boot rfl, hb.power rfl, ite_self]

theorem view_startFull (hb : Blind view [.regs, .radios]) (s : State) (r : Nat) : view (startFull s r) = view s := by
  simp only [startFull, view_setRState (hb.regs rfl) (hb.radios rfl), view_setRadio (hb.radios rfl)]

theorem view_applyOwn (hb : Blind view applyParts) (s : State) : view (applyOwn s) = view s := by
  simp only [applyOwn, apply_ite view, view_foldl (view_startFull (hb.sub rfl)), view_commitMode (hb.sub rfl), view_swapRoles (hb.sub rfl),
      view_changeValues (hb.sub rfl), view_setEpoch (hb.epoch rfl), view_graphSwap (hb.sub rfl), ite_self]

theorem view_unorphan (hb : Blind view [.regs]) (s : State) : view (unorphan s) = view s := by
  refine view_foldl (fun t b => ?_) _ _
  simp only [apply_ite view, view_wr (hb.regs rfl), ite_self]

theorem view_restoreOwn (hb : Blind view applyParts) (s : State) : view (restoreOwn s) = view s := by
  simp only [restoreOwn, apply_ite view, view_unorphan (hb.sub rfl), view_commitMode (hb.sub rfl), view_changeValues (hb.sub rfl),
      view_abortOwn (hb.regs rfl) (hb.out rfl) (hb.epoch rfl) (hb.power rfl) (hb.radios rfl), hb.setMode rfl,
      view_graphUnswap (hb.sub rfl), hb.power rfl, ite_self]

/-! ### The epoch and the frame boundary: the peer's part (R31, R33, R35) -/

theorem view_execPeerDoneTimeout (hseal : HidesSeal view) (hb : Blind view applyParts) (s t : State)
    (h : execPeerDoneTimeout s = .next t) : view t = view s := by
  refine view_act hseal ?_ h
  simp only [apply_ite view, view_clearEpoch (hb.epoch rfl), view_restoreOwn hb, view_abortOwn (hb.regs rfl) (hb.out rfl) (hb.epoch rfl)
      (hb.power rfl) (hb.radios rfl), view_wr (hb.regs rfl), ite_self]

/-! ### The epoch and the frame boundary: the Ostler frame boundary (R32, R151 to R155) -/

theorem view_boundarySwitch (hb : Blind view applyParts) (s : State) : view (boundarySwitch s) = view s := by
  simp only [boundarySwitch, apply_ite view, view_rolledBack (hb.regs rfl) (hb.epoch rfl) (hb.twin rfl), view_clearEpoch (hb.epoch rfl),
      view_restoreOwn hb, view_applyOwn hb, view_setEpoch (hb.epoch rfl), ite_self]

theorem view_bootMode (hb : Blind view [.regs, .out, .boot, .tinker, .radios, .twin, .steward, .dram]) (s : State) :
    view (bootMode s) = view s := by
  unfold bootMode
  split <;> simp only [apply_ite view, view_setTinker (hb.sub rfl), hb.setMode rfl, view_wr (hb.regs rfl), hb.boot rfl, ite_self]

theorem view_endFrame (hb : Blind view [.regs, .mac, .ost, .miller]) (s : State) (r : Nat) : view (endFrame s r) = view s := by
  simp only [endFrame, view_skipAll (hb.regs rfl) (hb.mac rfl) (hb.miller rfl), view_setPlan (hb.ost rfl)]

theorem view_beginPlan (hb : Blind view [.ost]) (s : State) (r : Nat) : view (beginPlan s r) = view s := by
  simp only [beginPlan, view_setPlan (hb.ost rfl)]

theorem view_moveStep (hb : Blind view [.regs, .move, .ost]) (s : State) : view (moveStep s) = view s := by
  simp only [moveStep, apply_ite view, view_rephase (hb.sub rfl), view_wr (hb.regs rfl), hb.move rfl, ite_self]

theorem view_boundaryMirror (hb : Blind view [.regs, .out, .twin, .mac]) (s : State) : view (boundaryMirror s) = view s := by
  unfold boundaryMirror
  split
  · refine view_foldl (fun t i => ?_) _ s
    exact (view_foldl (fun u (e : Nat × Nat) => view_mirror (hb.sub rfl) u _) _ _).trans
        (view_foldl (fun u (e : Nat × Scoreboard) => view_mirrorBoard hb u i e.1) _ t)
  · rfl

theorem view_execFrameBoundary (hseal : HidesSeal view) (hb : Blind view (.move :: .planClosed :: .mac :: applyParts)) (s t : State)
    (h : execFrameBoundary s = .next t) : view t = view s := by
  refine view_act hseal ?_ h
  simp only [apply_ite view, view_foldl (view_airWake (hb.sub rfl)), view_boundaryMirror (hb.sub rfl), view_followAll (hb.regs rfl)
      (hb.radios rfl), view_moveStep (hb.sub rfl), view_bump (hb.regs rfl), view_planClosed_ost_move (hb.sub rfl),
    view_foldl (view_beginPlan (hb.sub rfl)), view_startAdmitted (hb.sub rfl), view_bootMode (hb.sub rfl),
        view_boundarySwitch (hb.sub rfl), view_foldl (view_endFrame (hb.sub rfl)), ite_self]

/-! ### Resets: the radio dies (R75) -/

theorem view_resetSynth (hb : Blind view [.regs, .out, .radios]) (s : State) (r : Nat) : view (resetSynth s r) = view s := by
  simp only [resetSynth, apply_ite view, view_cutPpdu (hb.out rfl) (hb.radios rfl), view_setLocked (hb.regs rfl),
      view_setRState (hb.regs rfl) (hb.radios rfl), ite_self]

theorem view_resetSequencer (hb : Blind view [.regs, .out, .boot, .radios, .txReports]) (s : State) (r : Nat) :
    view (resetSequencer s r) = view s := by
  simp only [resetSequencer, apply_ite view, view_foldl fun a c => view_txReport (hb.sub rfl) a r c .synthNotReady,
      view_follow (hb.regs rfl) (hb.radios rfl), view_cutPpdu (hb.out rfl) (hb.radios rfl), view_setLocked (hb.regs rfl),
      view_setRState (hb.regs rfl) (hb.radios rfl), view_setRadio (hb.radios rfl), hb.boot rfl, ite_self]

theorem view_resetEngine (hb : Blind view [.radios]) (s : State) (r chain unit : Nat) : view (resetEngine s r chain unit) = view s := by
  unfold resetEngine
  split <;> simp only [apply_ite view, view_setRadio (hb.radios rfl), ite_self]

theorem view_resetRadioWide (hb : Blind view [.regs, .radios]) (s : State) (r : Nat) : view (resetRadioWide s r) = view s := by
  unfold resetRadioWide
  split <;> simp only [apply_ite view, view_follow (hb.regs rfl) (hb.radios rfl), view_setRState (hb.regs rfl) (hb.radios rfl),
      view_setRadio (hb.radios rfl), ite_self]

theorem view_resetRadioUnit (hb : Blind view [.regs, .out, .boot, .radios, .txReports]) (s : State) (r region cluster unit : Nat) :
    view (resetRadioUnit s r region cluster unit) = view s := by
  simp only [resetRadioUnit, apply_ite view, view_resetRadioWide (hb.sub rfl), view_resetEngine (hb.sub rfl), view_resetSequencer hb,
      view_resetSynth (hb.sub rfl), view_setRadio (hb.radios rfl), ite_self]

/-! ### Resets: the host interface, region 0 (R532) -/

theorem view_resetEndpoint (hb : Blind view (.boot :: .led :: .time :: bufParts)) (s : State) : view (resetEndpoint s) = view s := by
  exact (view_boot_led_time (hb.sub rfl) _ _ _ _).trans (view_foldl (view_perstQueue (hb.sub rfl)) _ s)

theorem view_resetScrivener (hb : Blind view [.led]) (s : State) (t : Transport) : view (resetScrivener s t) = view s := by
  simp only [resetScrivener, hb.led rfl]

theorem view_resetFlash (hb : Blind view [.regs, .led]) (s : State) : view (resetFlash s) = view s := by
  unfold resetFlash
  split <;> simp only [view_setFlag (hb.regs rfl), view_wr (hb.regs rfl), hb.led rfl]

/-! ### Resets: the air MAC, region 1 (R112) -/

theorem view_resetBoards (hb : Blind view (.mac :: bufParts)) (s : State) : view (resetBoards s) = view s := by
  refine view_foldl (fun t b => ?_) _ _
  simp only [view_dropHolds hb, view_setStation (hb.sub rfl)]

theorem view_resetTwt (hb : Blind view [.regs, .out, .twin, .mac]) (s : State) : view (resetTwt s) = view s := by
  exact (view_foldl (fun u (e : Nat × List Nat) => view_setMembers (hb.sub rfl) u _ _ []) _ _).trans
      (view_foldl (fun t k => view_setTwt hb t k none) _ s)

theorem view_resetAirUnit (hb : Blind view staParts) (s : State) (cluster unit : Nat) : view (resetAirUnit s cluster unit) = view s := by
  simp only [resetAirUnit, apply_ite view, view_foldl (view_staRemove hb), view_resetTwt (hb.sub rfl), view_resetBoards (hb.sub rfl),
      view_bhRefresh (hb.sub rfl), view_setMac (hb.mac rfl), view_wr (hb.regs rfl), hb.ost rfl, ite_self]

/-! ### Resets: the Ostler, region 2 (R150, R181) -/

theorem view_resetPlanUnit (hb : Blind view [.regs, .twin, .move, .mac, .ost, .miller]) (s : State) (cluster unit : Nat) :
    view (resetPlanUnit s cluster unit) = view s := by
  have hstations : ∀ (f : State → Nat → Station) (l : List Nat), view (l.foldl (fun t i => setStation t i (f t i)) s) = view s := fun f l =>
    view_foldl (fun t i => view_setStation (hb.sub rfl) t i _) l s
  simp only [resetPlanUnit, apply_ite view, view_endGrants (hb.sub rfl), hb.ost rfl, view_emptyPlans (hb.sub rfl),
      view_skipAll (hb.regs rfl) (hb.mac rfl) (hb.miller rfl), view_setPlan (hb.ost rfl), hstations, view_wr (hb.regs rfl), hb.move rfl,
      view_setTwin (hb.twin rfl), ite_self]

/-! ### Resets: the Locksmith, region 3 and the SecYs (R215) -/

theorem view_dropFlights (hb : Blind view verdictParts) (s : State) (gone : List InFlight) : view (dropFlights s gone) = view s := by
  refine (view_recheckAll hb _).trans ((view_foldl (fun u f => ?_) gone _).trans (view_setLock (hb.sub rfl) s _))
  simp only [apply_ite view, view_verdictFail (hb.sub rfl), view_verdictBad (hb.sub rfl), ite_self]

theorem view_resetReplay (hb : Blind view [.lock]) (s : State) (k : Nat) : view (resetReplay s k) = view s := by
  simp only [resetReplay, view_setSlot hb]

theorem view_resetCipherUnit (hb : Blind view (.ost :: verdictParts)) (s : State) (cluster unit : Nat) :
    view (resetCipherUnit s cluster unit) = view s := by
  have hdropped : ∀ l : List InFlight,
      view (l.foldl (fun t f => if freeBelow t 16 = unit then dropFlights (freeNext t) [f] else freeNext t) s) =
      view s := fun l => view_foldl (fun t f => by simp only [apply_ite view, view_dropFlights (hb.sub rfl), view_freeNext (hb.free rfl),
          ite_self]) l s
  simp only [resetCipherUnit, apply_ite view, hdropped, view_setLock (hb.sub rfl), view_foldl (view_slotZero (hb.sub rfl)),
      view_foldl (view_resetReplay (hb.sub rfl)), view_foldl (view_refuseMpdu (hb.sub rfl)),
    ite_self]

theorem view_resetSecY (hb : Blind view verdictParts) (s : State) (p : Nat) : view (resetSecY s p) = view s := by
  simp only [resetSecY, view_dropFlights hb, view_setLock (hb.sub rfl)]

/-! ### Resets: the Assayer and the switch, regions 4 and 5 (R246, R268, R287) -/

theorem view_resetAssayUnit (hb : Blind view (.entering :: .graph :: .rules :: bufParts)) (s : State) (cluster unit : Nat) :
    view (resetAssayUnit s cluster unit) = view s := by
  simp only [resetAssayUnit, apply_ite view, hb.entering rfl, view_foldl fun t (f : Frame) => (hb.dropLeg rfl) t f.buf,
      view_setGraph (hb.sub rfl), view_setRules (hb.sub rfl), ite_self]

theorem view_resetSwitchUnit (hb : Blind view [.regs, .switch]) (s : State) (cluster unit : Nat) :
    view (resetSwitchUnit s cluster unit) = view s := by
  simp only [resetSwitchUnit, apply_ite view, view_foldl (view_freeRec hb), view_setFdb hb, view_setSwitch (hb.sub rfl), ite_self]

/-! ### Resets: queues, tasks and the DRAM, regions 6 to 8 (R313, R340, R354) -/

theorem view_flushQueues (hb : Blind view (.ost :: bufParts)) (s : State) : view (flushQueues s) = view s := by
  simp only [flushQueues, view_foldl (hb.dropLeg rfl), view_setMiller (hb.miller rfl),
      view_foldl fun t (e : Nat × WiredQueue) => view_wiredFlush (hb.sub rfl) t _ e.1 none, view_foldl (view_airFlush (hb.sub rfl)),
    view_dropFrames hb]

theorem view_freeAllCells (hb : Blind view (.ost :: bufParts)) (s : State) : view (freeAllCells s) = view s := by
  exact (view_setMiller (hb.miller rfl) _ _).trans ((view_foldl (fun t (e : Nat × Buf) => view_freeBuf (hb.regs rfl) (hb.out rfl)
      (hb.hostq rfl) (hb.miller rfl) t e.1 e.2) _ _).trans (view_flushQueues hb s))

theorem view_resetAirSched (hb : Blind view [.regs, .miller]) (s : State) : view (resetAirSched s) = view s := by
  simp only [resetAirSched, view_foldl (view_airWake hb), view_setMiller (hb.miller rfl)]

theorem view_resetWiredSched (hb : Blind view [.miller]) (s : State) : view (resetWiredSched s) = view s := by
  simp only [resetWiredSched, view_setMiller (hb.miller rfl)]

theorem view_resetQueueUnit (hb : Blind view (.ost :: bufParts)) (s : State) (cluster unit : Nat) :
    view (resetQueueUnit s cluster unit) = view s := by
  simp only [resetQueueUnit, apply_ite view, view_resetWiredSched (hb.sub rfl), view_resetAirSched (hb.sub rfl), view_freeAllCells hb,
      view_flushQueues hb, view_setMiller (hb.miller rfl), ite_self]

theorem view_resetTaskUnit (hb : Blind view (.carter :: bufParts)) (s : State) (cluster unit : Nat) :
    view (resetTaskUnit s cluster unit) = view s := by
  simp only [resetTaskUnit, apply_ite view, view_foldl (view_cancelToken hb), view_setCarter (hb.sub rfl), ite_self]

theorem view_resetDramUnit (hb : Blind view [.regs, .dram]) (s : State) (cluster unit : Nat) :
    view (resetDramUnit s cluster unit) = view s := by
  simp only [resetDramUnit, apply_ite view, view_foldl fun t k => view_wr (hb.regs rfl) t (O.dp_panic k) 0, view_setChannel (hb.sub rfl),
      view_panicLevels hb, view_setDram (hb.sub rfl), ite_self]

/-! ### Resets: region 9: lanes and ports (R181, R287) -/

theorem view_resetLane (hb : Blind view pairParts) (s : State) (l : Nat) : view (resetLane s l) = view s := by
  simp only [resetLane, apply_ite view, view_laneRefresh (hb.sub rfl), view_unsync hb, view_setTwin (hb.twin rfl), view_wr (hb.regs rfl),
      ite_self]

theorem view_resetPort (hb : Blind view (.tinker :: bufParts)) (s : State) (p : Nat) : view (resetPort s p) = view s := by
  simp only [resetPort, apply_ite view, view_portDown hb, ite_self]

theorem view_resetLinkUnit (hb : Blind view pairParts) (s : State) (cluster unit : Nat) : view (resetLinkUnit s cluster unit) = view s := by
  simp only [resetLinkUnit, apply_ite view, view_resetPort (hb.sub rfl), view_resetLane hb, view_resetSecY (hb.sub rfl), ite_self]

/-! ### Resets: regions 10 to 14 -/

theorem view_resetTimeUnit (hb : Blind view [.regs, .tb, .tinker, .time]) (s : State) (cluster unit : Nat) :
    view (resetTimeUnit s cluster unit) = view s := by
  simp only [resetTimeUnit, apply_ite view, view_wr (hb.regs rfl), view_setTbState (hb.regs rfl) (hb.time rfl), view_tb_time (hb.tb rfl)
      (hb.time rfl), view_sourceLost (hb.regs rfl) (hb.tinker rfl) (hb.time rfl), view_setTime (hb.time rfl), ite_self]

theorem view_resetActivities (hb : Blind view [.regs, .radios, .steward]) (s : State) : view (resetActivities s) = view s := by
  simp only [resetActivities, view_foldl (view_stopEngine (hb.regs rfl) (hb.radios rfl)), hb.steward rfl]

theorem view_resetTwinUnit (hb : Blind view pairParts) (s : State) : view (resetTwinUnit s) = view s := by
  simp only [resetTwinUnit, apply_ite view, view_dropCopy (hb.sub rfl), view_releaseHeld (hb.sub rfl), view_twinTo (hb.regs rfl)
      (hb.tinker rfl) (hb.steward rfl), view_setTwin (hb.twin rfl), view_setFlag (hb.regs rfl), view_wr (hb.regs rfl), ite_self]

theorem view_resetControlUnit (hb : Blind view (.radios :: pairParts)) (s : State) (cluster unit : Nat) :
    view (resetControlUnit s cluster unit) = view s := by
  simp only [resetControlUnit, apply_ite view, view_resetTwinUnit (hb.sub rfl), view_resetActivities (hb.sub rfl),
      view_setTinker (hb.sub rfl), view_unsync (hb.sub rfl), view_setTwin (hb.twin rfl), ite_self]

theorem view_resetSurveyUnit (hb : Blind view [.survey]) (s : State) (unit : Nat) : view (resetSurveyUnit s unit) = view s := by
  simp only [resetSurveyUnit, apply_ite view, hb.survey rfl, ite_self]

theorem view_resetPinUnit (hb : Blind view [.regs, .time]) (s : State) (cluster unit : Nat) :
    view (resetPinUnit s cluster unit) = view s := by
  simp only [resetPinUnit, apply_ite view, view_setGfpTimer (hb.time rfl), view_wr (hb.regs rfl), ite_self]

theorem view_resetPowerUnit (hb : Blind view [.regs, .power]) (s : State) (cluster unit : Nat) :
    view (resetPowerUnit s cluster unit) = view s := by
  simp only [resetPowerUnit, apply_ite view, view_setPowerState (hb.power rfl), view_wr (hb.regs rfl), ite_self]

/-! ### Resets: a unit and a level -/

theorem view_resetHubUnit (hb : Blind view hubParts)
    (s : State) (region cluster unit : Nat) : view (resetHubUnit s region cluster unit) = view s := by
  simp only [resetHubUnit, apply_ite view, view_foldl (view_perstQueue (hb.sub rfl)), view_resetPinUnit (hb.sub rfl),
      view_resetSurveyUnit (hb.sub rfl), view_resetControlUnit (hb.sub rfl), view_resetTimeUnit (hb.sub rfl),
      view_resetLinkUnit (hb.sub rfl), view_resetDramUnit (hb.sub rfl), view_resetTaskUnit (hb.sub rfl), view_resetQueueUnit (hb.sub rfl),
      view_resetSwitchUnit (hb.sub rfl), view_resetAssayUnit (hb.sub rfl), view_resetCipherUnit (hb.sub rfl),
      view_resetPlanUnit (hb.sub rfl), view_resetAirUnit (hb.sub rfl), view_resetFlash (hb.sub rfl), view_resetScrivener (hb.sub rfl),
      view_resetEndpoint (hb.sub rfl), ite_self]

theorem view_resetUnit (hb : Blind view unitParts)
    (s : State) (u : Nat) : view (resetUnit s u) = view s := by
  simp only [resetUnit, apply_ite view, view_resetHubUnit (hb.sub rfl), view_resetPowerUnit (hb.sub rfl), view_resetRadioUnit (hb.sub rfl),
      ite_self]

theorem view_relock (hb : Blind view [.regs]) (s : State) (d : Nat) : view (relock s d) = view s := by
  simp only [relock, apply_ite view, view_setClk (hb.regs rfl), ite_self]

theorem view_resetWholeRegion (hb : Blind view (.rules :: verdictParts)) (s : State) (h : Nat) : view (resetWholeRegion s h) = view s := by
  simp only [resetWholeRegion, apply_ite view, view_dropFlights (hb.sub rfl), view_ruleReload (hb.sub rfl), ite_self]

theorem view_resetLevel (hb : Blind view levelParts)
    (s : State) (h : Nat) : view (resetLevel s h) = view s := by
  simp only [resetLevel, apply_ite view, view_foldl (view_relock (hb.sub rfl)), view_foldl (view_resetUnit (hb.sub rfl)),
      view_resetWholeRegion (hb.sub rfl), view_setEpoch (hb.epoch rfl), view_releaseLevel (hb.sub rfl), ite_self]

theorem view_restoreLate (hb : Blind view levelParts)
    (s : State) (h : Nat) : view (restoreLate s h) = view s := by
  simp only [restoreLate, apply_ite view, view_resetLevel hb, view_report (hb.regs rfl) (hb.tinker rfl), ite_self]

theorem view_execRestoreTimeout (hseal : HidesSeal view)
    (hb : Blind view levelParts)
    (s t : State) (h : execRestoreTimeout s = .next t) : view t = view s := by
  refine view_act hseal ?_ h
  simp only [apply_ite view, view_foldl (view_restoreLate hb), view_rolledBack (hb.regs rfl) (hb.epoch rfl) (hb.twin rfl), ite_self]

/-! ### DORMANT -/

theorem view_sealBanks (hb : Blind view [.regs, .blobs, .free, .power]) (s : State) : view (sealBanks s) = view s := by
  simp only [sealBanks, view_setPowerState (hb.power rfl), view_freeNext (hb.free rfl), view_wrB (hb.blobs rfl), view_wr (hb.regs rfl)]

theorem view_recordTime (hb : Blind view [.power]) (s : State) : view (recordTime s) = view s := by
  simp only [recordTime, view_setPowerState (hb.power rfl)]

theorem view_dormantEntry (hb : Blind view (.blobs :: .free :: .tinker :: .power :: .radios :: .steward :: .ost :: .lock :: .dram :: legParts))
    (s : State) : view (dormantEntry s) = view s := by
  simp only [dormantEntry, view_foldl (view_slotZero (hb.sub rfl)), view_recordTime (hb.sub rfl), view_sealBanks (hb.sub rfl),
      view_latchPads (hb.regs rfl), hb.setMode rfl, view_send (hb.out rfl), view_wr (hb.regs rfl), hb.power rfl]

theorem view_dormantCmd (hb : Blind view (.blobs :: .free :: .tinker :: .power :: .radios :: .steward :: .ost :: .lock :: .dram :: legParts))
    (s : State) : view (dormantCmd s).2 = view s := by
  unfold dormantCmd
  split <;> simp only [view_dormantEntry hb]

theorem view_execDormantEnter (hseal : HidesSeal view)
    (hb : Blind view (.blobs :: .status :: .free :: .led :: .tinker :: .power :: .radios :: .steward :: .ost :: .lock :: .dram :: legParts))
    (s t : State) (h : execDormantEnter s = .next t) : view t = view s := by
  refine view_act hseal ?_ h
  simp only [view_dormantCmd (hb.sub rfl), view_command (hb.status rfl) (hb.out rfl) (hb.led rfl) (hb.twin rfl)]

/-! ### The checks in the unit's domain (R534) -/

theorem view_claimStep (hb : Blind view [.regs, .claims]) (s : State) (index sub v : Nat) : view (claimStep s index sub v).2 = view s := by
  unfold claimStep
  split <;> simp only [view_claimAll hb]

/-! ### A write's effect -/

theorem view_graphWrite (hb : Blind view [.graph]) (s : State) (k v : Nat) : view (graphWrite s k v) = view s := by
  simp only [graphWrite, view_setGraph hb]

theorem view_plainWrite (hb : Blind view [.regs, .blobs]) (s : State) (row : ObjRow) (k v : Nat) (o : Octets) :
    view (plainWrite s row k v o) = view s := by
  simp only [plainWrite, apply_ite view, view_wrB (hb.blobs rfl), view_wr (hb.regs rfl), ite_self]

theorem view_meterWrite (hb : Blind view [.regs, .miller]) (s : State) (sub k v : Nat) : view (meterWrite s sub k v) = view s := by
  simp only [meterWrite, apply_ite view, view_setMeter (hb.sub rfl), view_wr (hb.regs rfl), ite_self]

theorem view_afterWrite (hb : Blind view [.regs, .out, .tinker, .twin, .move, .miller]) (s : State) (index sub k v : Nat) :
    view (afterWrite s index sub k v) = view s := by
  simp only [afterWrite, apply_ite view, view_wakeStation (hb.sub rfl), view_pairRefresh (hb.regs rfl) (hb.tinker rfl),
      view_derateDie (hb.sub rfl), view_mirror (hb.sub rfl), view_wr (hb.regs rfl), hb.move rfl, ite_self]

theorem view_applyWrite (hb : Blind view [.regs, .blobs, .staged, .stagedBlobs, .out, .tinker, .twin, .move, .mac, .lock, .graph, .miller])
    (s : State) (row : ObjRow) (index sub k v : Nat) (o : Octets) : view (applyWrite s row index sub k v o) = view s := by
  simp only [applyWrite, apply_ite view, view_afterWrite (hb.sub rfl), view_meterWrite (hb.sub rfl), view_plainWrite (hb.sub rfl),
      view_graphWrite (hb.sub rfl), view_setLock (hb.sub rfl), view_setMac (hb.mac rfl), view_wr (hb.regs rfl), hb.staged rfl,
      hb.stagedBlobs rfl, ite_self]

theorem view_forwardedCommand (hb : Blind view (.lock :: .graph :: .rules :: .switch :: bufParts)) (s : State) (k v : Nat)
    (r : Status × State) (h : forwardedCommand s k v = some r) : view r.2 = view s := by
  unfold forwardedCommand at h
  repeat' split at h
  all_goals simp only [Option.some.injEq, reduceCtorEq] at h
  all_goals subst h
  all_goals simp only [view_saInstall (hb.sub rfl), view_saClear (hb.sub rfl), view_graphChecked (hb.sub rfl),
      view_graphDefaulted (hb.sub rfl), view_ruleCommit (hb.sub rfl), view_ruleDiscard (hb.sub rfl), view_flowDelete (hb.sub rfl),
      view_flowFlush (hb.sub rfl), view_routeAdd (hb.sub rfl), view_routeDelete (hb.sub rfl), view_routeFind (hb.sub rfl)]

theorem view_forwardedApply
    (hb : Blind view (.blobs :: .staged :: .stagedBlobs :: .tinker :: .move :: .mac :: .lock :: .graph :: .rules :: .switch :: legParts))
    (s : State) (key : Nat) (o : Octets) : view (forwardedApply s key o).2 = view s := by
  unfold forwardedApply
  dsimp only
  split
  · split
    next heq => exact view_forwardedCommand (hb.sub rfl) s _ _ _ heq
    next =>
      split
      · exact view_ruleStage (hb.sub rfl) s _
      · split
        · exact view_applyWrite (hb.sub rfl) s _ _ _ _ _ _
        · split
          · rfl
          · simp only [apply_ite Prod.snd, apply_ite view, view_applyWrite (hb.sub rfl), ite_self]
  · rfl
  · rfl

theorem view_execForwardedWrite (hseal : HidesSeal view)
    (hb : Blind view (.blobs :: .staged :: .stagedBlobs :: .tinker :: .move :: .mac :: .lock :: .graph :: .rules :: .switch :: legParts))
    (v : VHead) (key value : Nat) (octets : Octets) (s t : State) (h : execForwardedWrite v key value octets s = .next t) :
    view t = view s := by
  refine view_act hseal (view_onMessage (hb.regs rfl) (hb.tinker rfl) (hb.twin rfl) s _ v _ fun u => ?_) h
  simp only [apply_ite view, view_forwardedApply hb, view_varlanSend (hb.out rfl) (hb.twin rfl), ite_self]

/-! ### BOOT -/

theorem view_unsettle (hb : Blind view [.regs, .blobs]) (x : Settled) (k : Nat) : view (unsettle x k).1 = view x.1 := by
  simp only [unsettle, saveReject, apply_ite Prod.fst, apply_ite view, view_bump (hb.regs rfl), view_regs_blobs hb, ite_self]

theorem view_settleFail (hb : Blind view [.regs, .blobs]) (x : Settled) (k : Nat) : view (settleFail x k).1 = view x.1 := by
  have hpartners : ∀ y : Settled, view ((checkPartners k).foldl unsettle y).1 = view y.1 :=
    foldl_view (fun y : Settled => view y.1) (view_unsettle hb) _
  simp only [settleFail, saveReject, apply_ite Prod.fst, apply_ite view, hpartners, view_bump (hb.regs rfl), ite_self]

theorem view_settleRule (hb : Blind view [.regs, .rules]) (x : Settled) (k : Nat) (w : RuleWrite) :
    view (settleRule x k w).1 = view x.1 := by
  simp only [settleRule, saveReject, apply_ite Prod.fst, apply_ite view, view_setRules (hb.sub rfl), view_bump (hb.regs rfl), ite_self]

theorem view_settleOne (hb : Blind view [.regs, .blobs, .graph, .rules]) (x : Settled) (e : Nat × Octets) :
    view (settleOne x e).1 = view x.1 := by
  unfold settleOne
  dsimp only
  split
  · rfl
  · split
    · rfl
    · split
      · exact view_settleFail (hb.sub rfl) x _
      · split
        · exact view_settleRule (hb.sub rfl) x _ _
        · simp only [apply_ite Prod.fst, apply_ite view, view_settleFail (hb.sub rfl), view_setGraph (hb.sub rfl), view_wrB (hb.blobs rfl),
            view_wr (hb.regs rfl), ite_self]

theorem view_settleGraph (hb : Blind view [.regs, .graph]) (x : Settled) : view (settleGraph x) = view x.1 := by
  simp only [settleGraph, apply_ite view, view_setGraph (hb.sub rfl), hb.regs rfl, view_bumpBy (hb.regs rfl), ite_self]

theorem view_bootBanks (hb : Blind view [.regs, .blobs, .mac, .graph, .rules, .switch]) (s : State) : view (bootBanks s) = view s := by
  simp only [bootBanks, apply_ite view, view_wr (hb.regs rfl), view_regs_blobs_switch (hb.sub rfl), view_setRules (hb.sub rfl),
      view_setGraph (hb.sub rfl), view_setMac (hb.mac rfl), ite_self]

theorem view_bootValues (hb : Blind view [.regs, .blobs, .power, .mac, .graph, .rules, .switch]) (s : State) :
    view (bootValues s) = view s := by
  have hsettled : ∀ (l : List (Nat × Octets)) (x : Settled), view (l.foldl settleOne x).1 = view x.1 :=
    foldl_view (fun x : Settled => view x.1) (view_settleOne (hb.sub rfl))
  simp only [bootValues, view_setPowerState (hb.power rfl), view_setRules (hb.sub rfl), view_setGraph (hb.sub rfl),
      view_settleGraph (hb.sub rfl), hsettled, view_bootBanks (hb.sub rfl)]

theorem view_bootClaim (hb : Blind view [.regs, .claims, .tinker]) (s : State) (index sub k off : Nat) :
    view (bootClaim s index sub k off) = view s := by
  unfold bootClaim
  dsimp only
  split
  next heq => exact view_of_snd heq (view_claimStep (hb.sub rfl) s _ _ _)
  next heq => exact (view_report (hb.regs rfl) (hb.tinker rfl) _ _ _ _).trans ((view_wr (hb.regs rfl) _ _ _).trans
      (view_of_snd heq (view_claimStep (hb.sub rfl) s _ _ _)))

theorem view_bootClaims (hb : Blind view [.regs, .claims, .tinker]) (s : State) : view (bootClaims s) = view s := by
  have hall : ∀ (l : List Nat) t,
      view (l.foldl (fun t i => if rd t (O.gt_mode i) = 0 then t else bootClaim t (0x1320 + i) 1 (O.gt_mode i) 0) t) = view t :=
    fun l t => view_foldl (fun t i => by simp only [apply_ite view, view_bootClaim hb, ite_self]) l t
  simp only [bootClaims, hall, view_bootClaim hb]

theorem view_bootDies (hb : Blind view [.regs, .out, .radios]) (s : State) : view (bootDies s) = view s := by
  refine view_foldl (fun t b => ?_) _ _
  simp only [apply_ite view, view_setPower (hb.regs rfl), view_radioUnpowered (hb.regs rfl) (hb.out rfl) (hb.radios rfl), ite_self]

theorem view_trainRadio (hb : Blind view [.regs, .boot, .radios]) (s : State) (r : Nat) : view (trainRadio s r) = view s := by
  simp only [trainRadio, apply_ite view, view_startFull (hb.sub rfl), view_follow (hb.regs rfl) (hb.radios rfl), hb.boot rfl, ite_self]

theorem view_trainLanes (hb : Blind view [.regs, .tinker, .twin]) (s : State) : view (trainLanes s) = view s := by
  simp only [trainLanes, apply_ite view, view_laneRefresh (hb.sub rfl), view_setTwin (hb.twin rfl), ite_self]

theorem view_trainBegin (hb : Blind view (.boot :: .tinker :: .radios :: .steward :: .dram :: legParts)) (s : State) :
    view (trainBegin s) = view s := by
  simp only [trainBegin, view_foldl (view_trainRadio (hb.sub rfl)), view_trainLanes (hb.sub rfl), hb.setMode rfl,
      view_portsRestart (hb.sub rfl), view_setDram (hb.sub rfl), view_wr (hb.regs rfl), hb.boot rfl]

theorem view_bootFinish (hb : Blind view bootParts)
    (s : State) : view (bootFinish s) = view s := by
  simp only [bootFinish, apply_ite view, view_trainBegin (hb.sub rfl), view_bootDies (hb.sub rfl), view_bootClaims (hb.sub rfl),
      view_bootValues (hb.sub rfl), view_setLed (hb.led rfl), view_bhRefresh (hb.sub rfl), view_wr (hb.regs rfl), ite_self]

theorem view_execBootEnd (hseal : HidesSeal view)
    (hb : Blind view bootParts)
    (s t : State) (h : execBootEnd s = .next t) : view t = view s := by
  refine view_act hseal ?_ h
  simp only [apply_ite view, view_bootFinish hb, ite_self]

end

end Sys2Proof.Machine
end

section
/-! The frames of the commands that move frames and of those with the longest effects: each clause is the view of its command's parts. -/

namespace Sys2Proof.Machine

/-- A command whose effect does not show in a view that is blind to a list of parts leaves every other part as it was. -/
theorem leaves_of_blind {c : Instr} {parts : List StatePart} {view : State → State → State}
    (h : ∀ v, HidesSeal (view v) → Blind (view v) parts → ∀ s t, exec c s = .next t → view v t = view v s)
    (hself : ∀ t, view t t = t := by exact fun _ => rfl)
    (hcomm : ∀ v s t, view v (sealed s t) = sealed s (view v t) := by exact fun _ _ _ => rfl)
    (hblind : ∀ v, List.Forall (BlindTo (view v)) parts := by
      intro v
      (repeat' apply And.intro)
      all_goals exact fun _ _ => rfl) : Leaves c fun s t => t = view t s :=
  leaves_of_view hself hcomm fun v hseal => h v hseal (List.forall_iff_forall_mem.mp (hblind v))

/-- Settles O49: a view of what the command does not name is blind to all that its operations set. -/
theorem dataPathFrame : Obligations.DataPathFrame := by
  unfold Obligations.DataPathFrame
  refine ⟨?_, ?_, ?_, ?_, ?_, ?_, ?_, ?_, ?_, ?_, ?_, ?_, ?_, ?_, ?_, ?_, ?_, ?_, ?_, ?_, ?_, ?_, ?_, ?_, ?_, ?_, ?_, ?_, ?_, ?_, ?_⟩
  · exact fun q => leaves_of_blind fun _ hseal hb => view_execQueueDisable hseal hb q
  · exact fun q d => leaves_of_blind fun _ hseal hb => view_execDescriptorFetch hseal hb q d
  · exact fun q bytes => leaves_of_blind fun _ hseal hb => view_execFromHostTakeIn hseal hb q bytes
  · exact fun q writable => leaves_of_blind fun _ hseal hb => view_execDmaError hseal hb q writable
  · exact fun asserted => leaves_of_blind fun _ hseal hb => view_execPerst hseal hb asserted
  · exact leaves_of_blind fun _ hseal hb => view_execTxResult hseal hb
  · exact leaves_of_blind fun _ hseal hb => view_execStaRemove hseal hb
  · exact fun station tid sn => leaves_of_blind fun _ hseal hb => view_execMpduUnacked hseal hb station tid sn
  · exact fun r => leaves_of_blind fun _ hseal hb => view_execTbtt hseal hb r
  · exact fun e => leaves_of_blind fun _ hseal hb => view_execPlanClose hseal hb e
  · exact leaves_of_blind fun _ hseal hb => view_execGrantRequest hseal hb
  · exact fun r busy => leaves_of_blind fun _ hseal hb => view_execTxopAccessComplete hseal hb r busy
  · exact fun lane => leaves_of_blind fun _ hseal hb => view_execLaneUp hseal hb lane
  · exact fun v rec_ => leaves_of_blind fun _ hseal hb => view_execMirrorRecordReceived hseal hb v rec_
  · exact leaves_of_blind fun _ hseal hb => view_execKeyClear hseal hb
  · exact leaves_of_blind fun _ hseal hb => view_execSaClear hseal hb
  · exact fun bad => leaves_of_blind fun _ hseal hb => view_execParseWalk hseal hb bad
  · exact fun peerBusy => leaves_of_blind fun _ hseal hb => view_execRuleCommit hseal hb peerBusy
  · exact leaves_of_blind fun _ hseal hb => view_execRuleLookup hseal hb
  · exact leaves_of_blind fun _ hseal hb => view_execDrainLimitExpire hseal hb
  · exact fun port f => leaves_of_blind fun _ hseal hb => view_execUplinkFrameRx hseal hb port f
  · exact fun port codewords => leaves_of_blind fun _ hseal hb => view_execPortDown hseal hb port codewords
  · exact fun bucket bad => leaves_of_blind fun _ hseal hb => view_execFlowBucketArrival hseal hb bucket bad
  · exact leaves_of_blind fun _ hseal hb => view_execAnnounceFrame hseal hb
  · exact leaves_of_blind fun _ hseal hb => view_execFetch hseal hb
  · exact leaves_of_blind fun _ hseal hb => view_execAirAgeSweep hseal hb
  · exact fun port e => leaves_of_blind fun _ hseal hb => view_execWiredDequeue hseal hb port e
  · exact fun token => leaves_of_blind fun _ hseal hb => view_execTaskAgeTimeout hseal hb token
  · exact leaves_of_blind fun _ hseal hb => view_execTrackerRewriteDone hseal hb
  · exact fun e => leaves_of_blind fun _ hseal hb => view_execPatrolScrub hseal hb e
  · exact leaves_of_blind fun _ hseal hb => view_execRegionEnableDone hseal hb

/-- Settles O50: a view of what the command does not name is blind to all that its operations set, those of the frames' commands among them. -/
theorem longPathFrame : Obligations.LongPathFrame := by
  unfold Obligations.LongPathFrame
  refine ⟨?_, ?_, ?_, ?_, ?_, ?_, ?_, ?_, ?_, ?_, ?_, ?_, ?_, ?_, ?_, ?_, ?_, ?_, ?_, ?_, ?_, ?_, ?_, ?_, ?_, ?_, ?_, ?_, ?_, ?_, ?_, ?_⟩
  · exact leaves_of_blind fun _ hseal hb => view_execRestoreTimeout hseal hb
  · exact leaves_of_blind fun _ hseal hb => view_execPeerDoneTimeout hseal hb
  · exact fun r m e => leaves_of_blind fun _ hseal hb => view_execMpduReceived hseal hb r m e
  · exact fun station tid => leaves_of_blind fun _ hseal hb => view_execReorderTimeout hseal hb station tid
  · exact fun r upstream => leaves_of_blind fun _ hseal hb => view_execBeaconWaitExpire hseal hb r upstream
  · exact leaves_of_blind fun _ hseal hb => view_execFrameBoundary hseal hb
  · exact fun v h => leaves_of_blind fun _ hseal hb => view_execHeartbeatReceived hseal hb v h
  · exact leaves_of_blind fun _ hseal hb => view_execHeartbeatStale hseal hb
  · exact leaves_of_blind fun _ hseal hb => view_execAliveSilent hseal hb
  · exact fun lane => leaves_of_blind fun _ hseal hb => view_execLaneDown hseal hb lane
  · exact fun v => leaves_of_blind fun _ hseal hb => view_execHandoverReceived hseal hb v
  · exact fun v => leaves_of_blind fun _ hseal hb => view_execStandDownReceived hseal hb v
  · exact fun v => leaves_of_blind fun _ hseal hb => view_execStandDownAnswer hseal hb v
  · exact fun v key value octets => leaves_of_blind fun _ hseal hb => view_execForwardedWrite hseal hb v key value octets
  · exact leaves_of_blind fun _ hseal hb => view_execForwardAckTimeout hseal hb
  · exact fun v data => leaves_of_blind fun _ hseal hb => view_execCopyComplete hseal hb v data
  · exact leaves_of_blind fun _ hseal hb => view_execCopyTimeout hseal hb
  · exact leaves_of_blind fun _ hseal hb => view_execMirrorAckTimeout hseal hb
  · exact fun v token => leaves_of_blind fun _ hseal hb => view_execRxpnAck hseal hb v token
  · exact fun token => leaves_of_blind fun _ hseal hb => view_execRxpnWaitExpire hseal hb token
  · exact leaves_of_blind fun _ hseal hb => view_execMpduDecrypt hseal hb
  · exact fun m v => leaves_of_blind fun _ hseal hb => view_execTagVerdict hseal hb m v
  · exact fun m => leaves_of_blind fun _ hseal hb => view_execVerdictTimeout hseal hb m
  · exact fun e => leaves_of_blind fun _ hseal hb => view_execTaskDispatch hseal hb e
  · exact leaves_of_blind fun _ hseal hb => view_execDormantEnter hseal hb
  · exact fun m => leaves_of_blind fun _ hseal hb => view_execFaultMessage hseal hb m
  · exact leaves_of_blind fun _ hseal hb => view_execQuietExpire hseal hb
  · exact leaves_of_blind fun _ hseal hb => view_execQEnter hseal hb
  · exact leaves_of_blind fun _ hseal hb => view_execQExit hseal hb
  · exact leaves_of_blind fun _ hseal hb => view_execClearLatch hseal hb
  · exact leaves_of_blind fun _ hseal hb => view_execBootEnd hseal hb
  · exact leaves_of_blind fun _ hseal hb => view_execTakeoverEnd hseal hb

end Sys2Proof.Machine
end

section
/-! Views that show registers one by one, for the station commands and the frame's events (R114, R147, R154 to R156, R171 to R174, R209). -/

namespace Sys2Proof.Machine

section

variable {α : Type} {view : State → α}

/-- A view hides that a register goes back to its default. -/
abbrev HidesClear (view : State → α) (k : Nat) : Prop := ∀ s, view { s with regs := s.regs.del k } = view s

/-! ### Mirror records and air queues (R194, R325) -/

theorem hidden_mirror (hb : Blind view [.out, .twin]) (hk : Hides view O.mirror_records) (s : State) (r : MirrorRec) :
    view (mirror s r) = view s := by
  simp only [mirror, apply_ite view, view_varlanSend (hb.out rfl) (hb.twin rfl), hidden_bump hk, hb.twin rfl, ite_self]

theorem hidden_airWake (hb : Blind view [.miller]) (hk : Hides view O.aq_active) (s : State) (a : Nat) : view (airWake s a) = view s := by
  simp only [airWake, apply_ite view, view_setAirQ hb, view_setMiller (hb.miller rfl), hk, ite_self]

theorem hidden_wakeStation (hb : Blind view [.miller]) (hk : Hides view O.aq_active) (s : State) (i : Nat) : view (wakeStation s i) = view s :=
  view_foldl (hidden_airWake hb hk) _ s

/-! ### The station table (R114, R147) -/

theorem hidden_staSetState {i : Nat} (hb : Blind view [.out, .twin, .miller])
    (hk : HidesAll view [O.aq_active, O.mirror_records, winKey i O.sta_state]) (s : State) (v : Nat) : view (staSetState s i v) = view s := by
  simp only [staSetState, hidden_wakeStation (hb.sub rfl) (hk O.aq_active (by simp)),
    hidden_mirror (hb.sub rfl) (hk O.mirror_records (by simp)), hk (winKey i O.sta_state) (by simp)]

theorem hidden_staAuthorize (hb : Blind view [.out, .twin, .miller]) (s : State)
    (hk : HidesAll view [O.aq_active, O.mirror_records, winKey (rd s O.sta_select) O.sta_state]) : view (staAuthorize s).2 = view s := by
  simp only [staAuthorize, apply_ite view, hidden_staSetState hb hk, ite_self]

theorem hidden_staDeauthorize (hb : Blind view [.out, .twin, .miller]) (s : State)
    (hk : HidesAll view [O.aq_active, O.mirror_records, winKey (rd s O.sta_select) O.sta_state]) : view (staDeauthorize s).2 = view s := by
  simp only [staDeauthorize, apply_ite view, hidden_staSetState hb hk, ite_self]

theorem hidden_setTwt (hb : Blind view [.out, .twin, .mac]) (hk : HidesAll view [O.twt_in_use, O.mirror_records]) (s : State) (k : Nat)
    (x : Option Twt) : view (setTwt s k x) = view s := by
  simp only [setTwt, hidden_mirror (hb.sub rfl) (hk O.mirror_records (by simp)), hk O.twt_in_use (by simp), view_setMac (hb.mac rfl)]

theorem hidden_twtTeardown (hb : Blind view [.out, .twin, .mac]) (hk : HidesAll view [O.twt_in_use, O.mirror_records]) (s : State) :
    view (twtTeardown s).2 = view s := by
  unfold twtTeardown
  dsimp only
  split
  · simp only [hidden_setTwt hb hk, view_setMac (hb.mac rfl)]
  · rfl

/-- The registers of a station's entry that ADD sets. -/
def staAddKeys : List Nat := O.sta_state :: O.sta_ps :: staFields ++ staCounters

theorem hidden_clearKeys {i : Nat} {l : List Nat} (hclear : ∀ k ∈ l, HidesClear view (winKey i k)) (s : State) :
    view (clearKeys s i l) = view s :=
  foldl_view_mem view l (fun k hk t => hclear k hk t) s

section

variable {i : Nat} (hcount : Hides view O.sta_in_use)
  (hentry : ∀ k ∈ staAddKeys, Hides view (winKey i k) ∧ HidesClear view (winKey i k))
  (hoctets : ∀ k ∈ staBlobs, ∀ s o, view (wrB s (winKey i k) o) = view s)
include hcount hentry hoctets

theorem hidden_staBuild (hb : Blind view [.twin, .mac, .miller]) (s : State) : view (staBuild s i) = view s := by
  have hfields : ∀ s, view (staFields.foldl (fun t k => wr t (winKey i k) (rd t (winKey staStage k))) s) = view s :=
    foldl_view_mem view staFields fun k hm t => (hentry k (by simp [staAddKeys, hm])).1 t _
  have hblobs : ∀ s, view (staBlobs.foldl (fun t k => wrB t (winKey i k) (rdB t (winKey staStage k))) s) = view s :=
    foldl_view_mem view staBlobs fun k hm t => hoctets k hm t _
  have hclear : ∀ k ∈ O.sta_ps :: staCounters, HidesClear view (winKey i k) := fun k hm =>
    (hentry k (by simp only [staAddKeys, List.mem_cons, List.mem_append] at hm ⊢; tauto)).2
  unfold staBuild
  extract_lets s1 s2 s3
  have hbuilt : view s2 = view s := (hblobs s1).trans (hfields s)
  have hcleared : view s3 = view s2 := by
    simp only [s3, forgetMirrored, hb.twin rfl, hidden_clearKeys hclear, (hentry O.sta_state (by simp [staAddKeys])).1]
  simp only [countStations, hcount, view_setStation (hb.sub rfl), view_clearQueues (hb.sub rfl), hcleared, hbuilt]

end

theorem hidden_staAdd (hb : Blind view [.out, .twin, .mac, .miller]) (hcount : Hides view O.sta_in_use) (hmirror : Hides view O.mirror_records)
    (s : State)
    (hentry : ∀ k ∈ staAddKeys, Hides view (winKey (rd s O.sta_select) k) ∧ HidesClear view (winKey (rd s O.sta_select) k))
    (hoctets : ∀ k ∈ staBlobs, ∀ s' o, view (wrB s' (winKey (rd s O.sta_select) k) o) = view s') : view (staAdd s).2 = view s := by
  unfold staAdd
  dsimp only
  split
  · rfl
  · split
    · rfl
    · simp only [hidden_mirror (hb.sub rfl) hmirror, hidden_staBuild hcount hentry hoctets (hb.sub rfl)]

/-! ### The frame's events (R154 to R156, R171 to R174) -/

theorem hidden_syncEdge (hb : Blind view [.tinker, .move])
    (hk : HidesAll view [O.sync_ignored, O.sync_events, O.sync_slews, O.sync_state, O.sync_error, O.msgs_dropped]) (s : State) :
    view (syncEdge s) = view s := by
  simp only [syncEdge, apply_ite view, hidden_report (hb.tinker rfl) (hk O.msgs_dropped (by simp)), hidden_bump (hk O.sync_slews (by simp)),
    hk O.sync_state (by simp), view_startMove (hb.move rfl), hb.move rfl, hidden_wrI (hk O.sync_error (by simp)),
    hidden_bump (hk O.sync_events (by simp)), ite_self]

theorem hidden_beaconResult {r : Nat} (hb : Blind view [.tinker, .mac])
    (hk : HidesAll view [O.beacon_tx_fail r 0, O.beacon_sent r 0, O.msgs_dropped]) (s : State) (sent : Bool) :
    view (beaconResult s r sent) = view s := by
  simp only [beaconResult, apply_ite view, hidden_report (hb.tinker rfl) (hk O.msgs_dropped (by simp)), view_setMac (hb.mac rfl),
    hidden_bump (hk (O.beacon_tx_fail r 0) (by simp)), hidden_bump (hk (O.beacon_sent r 0) (by simp)), ite_self]

theorem hidden_skipExchange {r : Nat} (hb : Blind view [.mac, .miller]) (hk : Hides view (O.ost_skipped r)) (s : State) (e : Exchange) :
    view (skipExchange s r e) = view s := by
  unfold skipExchange
  split <;> simp only [view_giveBackUsers (hb.miller rfl), view_setMac (hb.mac rfl), hidden_bump hk]

/-! ### Messages of the pair (R188) -/

theorem hidden_varlanReject (hb : Blind view [.tinker, .twin]) (hk : HidesAll view [O.varlan_auth_fail, O.msgs_dropped]) (s : State) :
    view (varlanReject s) = view s := by
  simp only [varlanReject, apply_ite view, hidden_report (hb.tinker rfl) (hk O.msgs_dropped (by simp)), hb.twin rfl,
    hidden_bump (hk O.varlan_auth_fail (by simp)), ite_self]

theorem hidden_onMessage (hb : Blind view [.tinker, .twin]) (hk : HidesAll view [O.varlan_auth_fail, O.msgs_dropped]) (s : State) (cls : Nat)
    (v : VHead) (op : State → State) (hop : ∀ u, view (op u) = view u) : view (onMessage s cls v op) = view s := by
  have haccept : view (varlanAccept s cls v).2 = view s := by
    simp only [varlanAccept, apply_ite Prod.snd, apply_ite view, hidden_varlanReject hb hk, hb.twin rfl, ite_self]
  unfold onMessage
  split
  next heq => exact (hop _).trans (view_of_snd heq haccept)
  next heq => exact view_of_snd heq haccept

/-! ### The commands -/

section

variable (hseal : HidesSeal view)
include hseal

theorem hidden_execStaAdd (hb : Blind view [.status, .out, .led, .twin, .mac, .miller]) (hcount : Hides view O.sta_in_use)
    (hmirror : Hides view O.mirror_records) (s t : State)
    (hentry : ∀ k ∈ staAddKeys, Hides view (winKey (rd s O.sta_select) k) ∧ HidesClear view (winKey (rd s O.sta_select) k))
    (hoctets : ∀ k ∈ staBlobs, ∀ s' o, view (wrB s' (winKey (rd s O.sta_select) k) o) = view s') (h : execStaAdd s = .next t) :
    view t = view s :=
  view_act hseal (view_command (hb.status rfl) (hb.out rfl) (hb.led rfl) (hb.twin rfl) s _ _ _
    (hidden_staAdd (hb.sub rfl) hcount hmirror s hentry hoctets)) h

theorem hidden_execStaAuthorize (hb : Blind view [.status, .out, .led, .twin, .miller]) (s t : State)
    (hk : HidesAll view [O.aq_active, O.mirror_records, winKey (rd s O.sta_select) O.sta_state]) (h : execStaAuthorize s = .next t) :
    view t = view s :=
  view_act hseal (view_command (hb.status rfl) (hb.out rfl) (hb.led rfl) (hb.twin rfl) s _ _ _ (hidden_staAuthorize (hb.sub rfl) s hk)) h

theorem hidden_execStaDeauthorize (hb : Blind view [.status, .out, .led, .twin, .miller]) (s t : State)
    (hk : HidesAll view [O.aq_active, O.mirror_records, winKey (rd s O.sta_select) O.sta_state]) (h : execStaDeauthorize s = .next t) :
    view t = view s :=
  view_act hseal (view_command (hb.status rfl) (hb.out rfl) (hb.led rfl) (hb.twin rfl) s _ _ _ (hidden_staDeauthorize (hb.sub rfl) s hk)) h

theorem hidden_execTwtTeardown (hb : Blind view [.status, .out, .led, .twin, .mac]) (hk : HidesAll view [O.twt_in_use, O.mirror_records])
    (s t : State) (h : execTwtTeardown s = .next t) : view t = view s :=
  view_act hseal (view_command (hb.status rfl) (hb.out rfl) (hb.led rfl) (hb.twin rfl) s _ _ _ (hidden_twtTeardown (hb.sub rfl) hk s)) h

theorem hidden_execSyncInEdge (hb : Blind view [.tinker, .move])
    (hk : HidesAll view [O.sync_ignored, O.sync_events, O.sync_slews, O.sync_state, O.sync_error, O.msgs_dropped]) (s t : State)
    (h : execSyncInEdge s = .next t) : view t = view s := by
  refine view_act hseal ?_ h
  simp only [apply_ite view, hidden_syncEdge hb hk, hidden_bump (hk O.sync_ignored (by simp)), ite_self]

theorem hidden_execSyncTimeout (hb : Blind view [.tinker, .move]) (hk : HidesAll view [O.sync_state, O.msgs_dropped]) (s t : State)
    (h : execSyncTimeout s = .next t) : view t = view s := by
  refine view_act hseal ?_ h
  simp only [apply_ite view, hidden_report (hb.tinker rfl) (hk O.msgs_dropped (by simp)), hk O.sync_state (by simp), hb.move rfl, ite_self]

theorem hidden_execTbPpduMissing (hb : Blind view [.ost]) (r : Fin 3) (station : Nat) (hk : HidesAll view [O.ul_silent r]) (s t : State)
    (h : execTbPpduMissing r station s = .next t) : view t = view s := by
  refine view_act hseal ?_ h
  simp only [apply_ite view, hidden_bump (hk (O.ul_silent r) (by simp)), hb.ost rfl, ite_self]

theorem hidden_execAccessDeadline (hb : Blind view [.tinker, .mac, .ost, .miller]) (r : Fin 3)
    (hk : HidesAll view [O.beacon_tx_fail r 0, O.beacon_sent r 0, O.ost_skipped r, O.msgs_dropped]) (s t : State)
    (h : execAccessDeadline r s = .next t) : view t = view s := by
  refine view_act hseal ?_ h
  dsimp only
  split
  · rfl
  · simp only [apply_ite view, view_setPlan (hb.ost rfl), hidden_beaconResult (r := r) (hb.sub rfl) (hk.of_subset (by simp)), hb.ost rfl,
      hidden_skipExchange (hb.sub rfl) (hk (O.ost_skipped r) (by simp)), ite_self]

theorem hidden_execFollowerCsiReceived (hb : Blind view [.tinker, .twin, .mac]) (v : VHead) (i : Nat) (l : List (Nat × Nat))
    (hk : HidesAll view [O.varlan_auth_fail, O.msgs_dropped]) (s t : State) (h : execFollowerCsiReceived v i l s = .next t) :
    view t = view s := by
  refine view_act hseal (hidden_onMessage (hb.sub rfl) hk s 4 v _ fun u => ?_) h
  simp only [apply_ite view, view_setTwin (hb.twin rfl), view_setStation (hb.sub rfl), ite_self]

end

end

/-! ### The frame -/

/-- A view is blind to a list of parts when it is to each. -/
theorem Blind.of_forall {α : Type} {view : State → α} {parts : List StatePart} (h : parts.Forall (BlindTo view)) : Blind view parts :=
  List.forall_iff_forall_mem.mp h

/-- Every other register, and every other octet object, is as ADD found it (R114). -/
theorem staAdd_leaves : Leaves .staAdd fun s t =>
    t = { s with
      regs := t.regs, blobs := t.blobs, status := t.status, out := t.out, led := t.led, twin := t.twin, mac := t.mac, miller := t.miller } ∧
    Only s t ([O.sta_in_use, O.mirror_records] ++ staAddKeys.map (winKey (rd s O.sta_select))) ∧
    OnlyOctets s t (staBlobs.map (winKey (rd s O.sta_select))) := by
  intro s t h
  have ht := leaves_of_view (c := .staAdd)
    (view := fun v s => { s with
      regs := v.regs, blobs := v.blobs, status := v.status, out := v.out, led := v.led, twin := v.twin, mac := v.mac, miller := v.miller })
    (fun _ => rfl) (fun _ _ _ => rfl)
    (fun v hseal s t => hidden_execStaAdd hseal (Blind.of_forall
      ⟨fun _ _ => rfl, fun _ _ => rfl, fun _ _ => rfl, fun _ _ => rfl, fun _ _ => rfl, fun _ _ => rfl⟩)
      (fun _ _ => rfl) (fun _ _ => rfl) s t (fun _ _ => ⟨fun _ _ => rfl, fun _ => rfl⟩) fun _ _ _ _ => rfl) s t h
  have hfuse : t.fuse = s.fuse := (congrArg State.fuse ht).trans rfl
  refine ⟨ht, fun k hk => rd_congr s t k ?_ hfuse ((congrArg (fun u => u.boot.straps) ht).trans rfl) ((congrArg State.system ht).trans rfl),
    fun k hk => rdB_congr s t k ?_ hfuse⟩
  · have hne : ∀ j ∈ [O.sta_in_use, O.mirror_records] ++ staAddKeys.map (winKey (rd s O.sta_select)), k ≠ j := fun j hj e => hk (e ▸ hj)
    have hentry : ∀ j ∈ staAddKeys, k ≠ winKey (rd s O.sta_select) j := fun j hj =>
      hne _ (List.mem_append_right _ (List.mem_map_of_mem hj))
    exact hidden_execStaAdd (view := fun s => s.regs.look k) (fun _ _ e => e) (Blind.of_forall
        ⟨fun _ _ => rfl, fun _ _ => rfl, fun _ _ => rfl, fun _ _ => rfl, fun _ _ => rfl, fun _ _ => rfl⟩)
      (fun u v => Tab.look_put_ne u.regs _ v k (hne _ (by simp))) (fun u v => Tab.look_put_ne u.regs _ v k (hne _ (by simp))) s t
      (fun j hj => ⟨fun u v => Tab.look_put_ne u.regs _ v k (hentry j hj), fun u => by simp [Tab.look_del, hentry j hj]⟩)
      (fun _ _ _ _ => rfl) h
  · exact hidden_execStaAdd (view := fun s => s.blobs.look k) (fun _ _ e => e) (Blind.of_forall
        ⟨fun _ _ => rfl, fun _ _ => rfl, fun _ _ => rfl, fun _ _ => rfl, fun _ _ => rfl, fun _ _ => rfl⟩)
      (fun _ _ => rfl) (fun _ _ => rfl) s t (fun _ _ => ⟨fun _ _ => rfl, fun _ => rfl⟩)
      (fun j hj u v => Tab.look_put_ne u.blobs _ v k fun e => hk (e ▸ List.mem_map_of_mem hj)) h

/-- A command whose effect does not show in a view that is blind to a list of parts, and hides a list of registers, leaves every other part
and register as it was. -/
theorem leaves_only_of_blind {c : Instr} {sets : List StatePart} {parts : State → State → State} {keys : State → List Nat}
    (h : ∀ {v s}, HidesSeal (shown (parts v) (keys s) 0) → Blind (shown (parts v) (keys s) 0) sets →
      HidesAll (shown (parts v) (keys s) 0) (keys s) → ∀ t, exec c s = .next t →
        shown (parts v) (keys s) 0 t = shown (parts v) (keys s) 0 s)
    (hblind : ∀ v k, sets.Forall (BlindTo (shown (parts v) k 0)) := by
      intro v k
      (repeat' apply And.intro)
      all_goals exact fun _ _ => rfl)
    (hparts : TakesParts parts := by exact ⟨fun _ => rfl, fun _ _ _ => rfl, fun _ _ => rfl, fun _ _ => rfl⟩)
    (hregs : ∀ v s x, parts v { s with regs := x } = parts v s := by exact fun _ _ _ => rfl) :
    Leaves c fun s t => t = parts t s ∧ Only s t (keys s) :=
  leaves_only (fun v s t hseal hk => h hseal (Blind.of_forall (hblind v (keys s))) hk t) hparts hregs

/-- Settles O41: of each command, the view of its frame hides all that the command sets. -/
theorem airFrame_holds : Obligations.AirFrame := by
  unfold Obligations.AirFrame
  refine ⟨staAdd_leaves, ?_, ?_, ?_, ?_, ?_, fun r station => ?_, fun r => ?_, fun v station corr => ?_⟩
  · exact leaves_only_of_blind fun hseal hb hk t => hidden_execStaAuthorize hseal hb _ t hk
  · exact leaves_only_of_blind fun hseal hb hk t => hidden_execStaDeauthorize hseal hb _ t hk
  · exact leaves_only_of_blind fun hseal hb hk t => hidden_execTwtTeardown hseal hb hk _ t
  · exact leaves_only_of_blind fun hseal hb hk t => hidden_execSyncInEdge hseal hb hk _ t
  · exact leaves_only_of_blind fun hseal hb hk t => hidden_execSyncTimeout hseal hb hk _ t
  · exact leaves_only_of_blind fun hseal hb hk t => hidden_execTbPpduMissing hseal hb r station hk _ t
  · exact leaves_only_of_blind fun hseal hb hk t => hidden_execAccessDeadline hseal hb r hk _ t
  · exact leaves_only_of_blind fun hseal hb hk t => hidden_execFollowerCsiReceived hseal hb v station corr hk _ t

end Sys2Proof.Machine
end

section
/-! The air MAC completes (O24): what each of its operations gives, and what it leaves to the reader of a register, a board or a queue. -/

namespace Sys2Proof.Machine

/-! ### Views of one register, and of what defaults come from -/

/-- A view of the fuses and the `system` field shows no part that a command sets. -/
theorem blind_base (parts : List StatePart) : Blind base parts := fun p _ => by
  cases p <;> exact fun _ _ => rfl

/-- A view of one register shows no part but the registers and the straps. -/
theorem blind_rd (k : Nat) {parts : List StatePart} (hregs : .regs ∉ parts) (hboot : .boot ∉ parts) : Blind (fun s => rd s k) parts := by
  intro p hp
  cases p
  case regs => exact absurd hp hregs
  case boot => exact absurd hp hboot
  all_goals exact fun s x => rd_congr s _ k rfl rfl rfl rfl

/-- A register that goes back to its default hides from a view of another. -/
theorem hidesClear_rd {j k : Nat} (h : k ≠ j) : HidesClear (fun s => rd s k) j := fun s =>
  rd_congr s _ k (by simp [Tab.look_del, h]) rfl rfl rfl

/-- Registers of two entries, or of one, are different where their objects are. -/
theorem winKey_ne {a b : Nat} (hab : a ≠ b) (ha : a < 16777216) (hb : b < 16777216) (i j : Nat) : winKey i a ≠ winKey j b := by
  unfold winKey; omega

/-- A register of an entry is no register outside the entries' range of another object. -/
theorem winKey_ne_key {a k : Nat} (h : a ≠ k) (ha : a < 16777216) (hk : k < 16777216) (i : Nat) : winKey i a ≠ k := by
  unfold winKey; omega

/-- A counter of 64 bits that an effect has counted, and sealing keeps. -/
theorem counted64_of_rd {s t : State} {k : Nat} (hbase : base t = base s) (htop : topOf k = 0xFFFFFFFFFFFFFFFF)
    (h : rd t k = min (rd s k + 1) (topOf k)) : Counted64 s (sealed s t) k := by
  rw [Counted64, rd_sealed_of_base hbase, h, htop]

/-! ### The receive filter (R116, R117) -/

theorem lookupError_of_badFcs {m : RxMpdu} (h : m.fcsOk = false) (s : State) (r : Nat) (e : LookupError) : lookupError s r m e = s := by
  simp [lookupError, h]

theorem lookupError_none (s : State) (r : Nat) (m : RxMpdu) : lookupError s r m .none = s := by
  unfold lookupError
  split <;> rfl

/-- An MPDU that is not its PPDU's last has the effect of the checks alone. -/
theorem completes_mpduReceived {s : State} {r : Fin 3} {m : RxMpdu} {e : LookupError} {P : State → Prop} (hon : hubOn s = true)
    (hrx : rState s r = 4) (hlast : m.last = false) (hlookup : lookupError s r m e = s) (h : P (sealed s (receiveMpdu s r m))) :
    Completes (.mpduReceived r m e) s P :=
  completes_act (show execMpduReceived r m e s = _ from rfl) hon (by simpa [hrx, hlast, hlookup] using h)

/-- The state in which the checks after the FCS look at an MPDU that is no beacon: it is counted, and the NAV follows it. -/
def passedFcs (s : State) (r : Nat) (m : RxMpdu) : State := navUpdate (bump s (O.rx_fcs_ok r)) r m

theorem receiveMpdu_of_oversize {m : RxMpdu} (hfcs : m.fcsOk = true) (hkind : m.kind ≠ .beacon) (hlen : 11454 < m.length) (s : State)
    (r : Nat) : receiveMpdu s r m = bump (passedFcs s r m) (O.air_rx_oversize r) := by
  simp [receiveMpdu, passedFcs, hfcs, hkind, hlen]

theorem receiveMpdu_of_notMine {m : RxMpdu} (hfcs : m.fcsOk = true) (hkind : m.kind ≠ .beacon) (hlen : m.length ≤ 11454) {s : State}
    {r : Nat} (hmine : addressCheck (passedFcs s r m) r m.ra = 0) :
    receiveMpdu s r m = bump (passedFcs s r m) (O.rx_not_mine r) := by
  simp only [passedFcs] at hmine
  simp [receiveMpdu, passedFcs, hfcs, hkind, Nat.not_lt.mpr hlen, hmine]

/-- The address check reads the BSSIDs, the join list and the backhaul link, and no counter (R117). -/
theorem addressCheck_passedFcs (s : State) (r : Fin 3) (m : RxMpdu) (ra : Octets) :
    addressCheck (passedFcs s r m) r ra = addressCheck s r ra := by
  have hcounted : addressCheck (bump s (O.rx_fcs_ok r)) r ra = addressCheck s r ra := by
    have hread : ∀ k, k ≠ O.rx_fcs_ok r → rd (bump s (O.rx_fcs_ok r)) k = rd s k := fun k hk => by simp [rd_bump, hk]
    have hoctets : rdB (bump s (O.rx_fcs_ok r)) = rdB s := funext fun k => rdB_congr _ _ _ (by simp) (by simp)
    have hserved : bssServed (bump s (O.rx_fcs_ok r)) r = bssServed s r := funext fun i => by
      unfold bssServed flag
      rw [hread (O.bss_count r) (by unfold O.bss_count O.rx_fcs_ok objKey; omega),
        hread (O.bss_enable r i) (by unfold O.bss_enable O.rx_fcs_ok objKey; omega)]
    unfold addressCheck ownAddr bssOf bhLink bhOwnAddr flag
    rw [hserved, hoctets, hread O.bh_enable (by unfold O.bh_enable O.rx_fcs_ok objKey; omega),
      hread O.bh_links (by unfold O.bh_links O.rx_fcs_ok objKey; omega)]
  exact (view_navUpdate (view := fun t => addressCheck t r ra) (Blind.of_forall fun _ _ => rfl) _ _ _).trans hcounted

/-- A counter of the filter and the count of good FCSs are both raised, and nothing arrives. -/
theorem passedFcs_counted {s : State} {r : Fin 3} {k : Nat} (htop : topOf k = 0xFFFFFFFFFFFFFFFF) (hk : k ≠ O.rx_fcs_ok r) (m : RxMpdu) :
    Counted64 s (sealed s (bump (passedFcs s r m) k)) (O.rx_fcs_ok r) ∧ Counted64 s (sealed s (bump (passedFcs s r m) k)) k ∧
      (sealed s (bump (passedFcs s r m) k)).mac.arrived = s.mac.arrived := by
  have htopOk : topOf (O.rx_fcs_ok r) = 0xFFFFFFFFFFFFFFFF := (by decide : ∀ q : Fin 3, topOf (O.rx_fcs_ok q) = 0xFFFFFFFFFFFFFFFF) r
  have hread : ∀ j, rd (passedFcs s r m) j = rd (bump s (O.rx_fcs_ok r)) j := fun j =>
    view_navUpdate (blind_rd j (by decide) (by decide)) _ _ _
  have hbase : base (bump (passedFcs s r m) k) = base s := view_navUpdate (blind_base _) (bump s (O.rx_fcs_ok r)) r m
  refine ⟨counted64_of_rd hbase htopOk ?_, counted64_of_rd hbase htop ?_, ?_⟩
  · rw [rd_bump, if_neg (Ne.symm hk), hread, rd_bump_self]
  · rw [rd_bump_self, hread, rd_bump, if_neg hk]
  · simp only [sealed_fields, bump_fields, passedFcs, navUpdate]
    split <;> simp

/-! ### The station table (R114, R115) -/

/-- The fields of one entry copied to another read as they stand there. -/
theorem rd_copyFields {i j : Nat} {l : List Nat} (hl : l.Nodup) (hkeys : ∀ k ∈ l, k < 16777216) {k : Nat} (hk : k ∈ l) (s : State) :
    rd (l.foldl (fun t k => wr t (winKey i k) (rd t (winKey j k))) s) (winKey i k) = rd s (winKey j k) := by
  induction l generalizing s with
  | nil => simp at hk
  | cons a l ih =>
    obtain ⟨hfresh, hl⟩ := List.nodup_cons.mp hl
    have ha := hkeys a (by simp)
    have hrest : ∀ b ∈ l, b < 16777216 := fun b hb => hkeys b (by simp [hb])
    by_cases hka : k = a
    · subst hka
      have hkept : ∀ t, rd (l.foldl (fun t k => wr t (winKey i k) (rd t (winKey j k))) t) (winKey i k) = rd t (winKey i k) :=
        foldl_view_mem (fun t => rd t (winKey i k)) l fun b hb t =>
          rd_wr_ne _ _ _ _ (winKey_ne (fun e : k = b => hfresh (e ▸ hb)) ha (hrest b hb) i i)
      rw [List.foldl_cons, hkept, rd_wr_self]
    · have hmem : k ∈ l := by simpa [hka] using hk
      rw [List.foldl_cons, ih hl hrest hmem, rd_wr_ne _ _ _ _ (winKey_ne hka (hrest k hmem) ha j i)]

/-- The registers of an entry that ADD fills and does not clear. -/
def staKept : List Nat := O.sta_state :: staFields

/-- What ADD writes into an entry before it clears the rest of it. -/
def staWritten (s : State) (i : Nat) : State :=
  wr (staBlobs.foldl (fun t k => wrB t (winKey i k) (rdB t (winKey staStage k)))
    (staFields.foldl (fun t k => wr t (winKey i k) (rd t (winKey staStage k))) s)) (winKey i O.sta_state) 1

/-- The counters that ADD clears, and what it does beside the entry, leave what it has written. -/
theorem rd_staBuild {k : Nat} (hk : k ∈ staKept) (s : State) (i : Nat) :
    rd (staBuild s i) (winKey i k) = rd (staWritten s i) (winKey i k) := by
  have hsmall : k < 16777216 := (by decide : ∀ a ∈ staKept, a < 16777216) k hk
  have hcount : k ≠ O.sta_in_use := fun e => (by decide : O.sta_in_use ∉ staKept) (e ▸ hk)
  have hclear : ∀ a ∈ O.sta_ps :: staCounters, HidesClear (fun t => rd t (winKey i k)) (winKey i a) := fun a ha =>
    hidesClear_rd (winKey_ne (fun e : k = a => (by decide : ∀ b ∈ O.sta_ps :: staCounters, b ∉ staKept) a ha (e ▸ hk)) hsmall
      ((by decide : ∀ b ∈ O.sta_ps :: staCounters, b < 16777216) a ha) i i)
  have hview : ∀ parts : List StatePart, .regs ∉ parts → .boot ∉ parts → Blind (fun t => rd t (winKey i k)) parts :=
    fun _ => blind_rd _
  unfold staBuild countStations
  rw [rd_wr_ne _ _ _ _ (winKey_ne_key hcount hsmall (by decide) i)]
  refine (view_setStation (hview _ (by decide) (by decide)) _ _ _).trans ((view_clearQueues (hview _ (by decide) (by decide)) _ _).trans ?_)
  exact ((hview [.twin] (by decide) (by decide)).twin rfl _ _).trans (hidden_clearKeys (view := fun t => rd t (winKey i k)) hclear _)

/-- ADD leaves the entry ADDED, with its AID that of the staging set. -/
theorem staBuild_entry (s : State) (i : Nat) :
    staState (staBuild s i) i = 1 ∧ rd (staBuild s i) (winKey i O.sta_aid) = rd s (winKey staStage O.sta_aid) := by
  have hblobs : ∀ t, rd (staBlobs.foldl (fun t k => wrB t (winKey i k) (rdB t (winKey staStage k))) t) (winKey i O.sta_aid) =
      rd t (winKey i O.sta_aid) := view_foldl (view := fun t => rd t (winKey i O.sta_aid)) (fun t k => rd_wrB t _ _ _) staBlobs
  refine ⟨(rd_staBuild (by decide) s i).trans (rd_wr_self _ _ _), (rd_staBuild (by decide) s i).trans ?_⟩
  rw [staWritten, rd_wr_ne _ _ _ _ (winKey_ne (by decide) (by decide) (by decide) i i), hblobs]
  exact rd_copyFields (by decide) (by decide) (by decide) s

/-- A mirror record leaves every register but their count. -/
theorem rd_mirror (s : State) (x : MirrorRec) {k : Nat} (hk : k ≠ O.mirror_records) : rd (mirror s x) k = rd s k :=
  hidden_mirror (view := fun t => rd t k) (blind_rd k (by decide) (by decide)) (fun t v => rd_wr_ne t _ v k hk) s x

/-- The state of an entry is as it was set, once it is mirrored and its queues have woken. -/
theorem staState_staSetState (s : State) (i v : Nat) : staState (staSetState s i v) i = v := by
  have hwake : ∀ t, rd (wakeStation t i) (winKey i O.sta_state) = rd t (winKey i O.sta_state) := fun t =>
    hidden_wakeStation (view := fun t => rd t (winKey i O.sta_state)) (blind_rd _ (by decide) (by decide))
      (fun t v => rd_wr_ne t _ v _ (winKey_ne_key (by decide) (by decide) (by decide) i)) t i
  rw [staState, staSetState, hwake, rd_mirror _ _ (winKey_ne_key (by decide) (by decide) (by decide) i), rd_wr_self]

/-- A command of the station window that answers OK, and keeps the fuses and the `system` field, completes with what its effect leaves
of the registers and of the air MAC. -/
theorem completes_staCmd {c : Instr} {s t : State} {v : Nat} {op : State → Status × State} {P : State → Prop}
    (hexec : exec c s = act s fun s => command s O.sta_cmd v op) (hr : Reaches s O.sta_cmd) (hop : op s = (.ok, t)) (hbase : base t = base s)
    (hP : ∀ u : State, u.status = .ok → (∀ k, rd u k = rd t k) → u.mac = t.mac → P u) : Completes c s P := by
  refine completes_command hexec hr ?_
  rw [hop]
  exact hP _ (by simp) (rd_sealed_commanded hbase _ _ _) (by simp)

/-- A register of an entry that goes back to its default has none of its own. -/
theorem look_clearKeys {i k : Nat} {l : List Nat} (hk : k ∈ l) (s : State) : (clearKeys s i l).regs.look (winKey i k) = none := by
  have hstays : ∀ (l : List Nat) (t : State), t.regs.look (winKey i k) = none → (clearKeys t i l).regs.look (winKey i k) = none := by
    intro l
    induction l with
    | nil => exact fun _ h => h
    | cons a l ih => exact fun t h => ih _ (by simp [Tab.look_del, h])
  induction l generalizing s with
  | nil => simp at hk
  | cons a l ih =>
    rcases List.mem_cons.mp hk with rfl | hmem
    · exact hstays l _ (by simp)
    · exact ih hmem _

/-- The state of an entry is EMPTY by default, whatever the entry (R146). -/
theorem defaultOf_staState {k : Nat} (hindex : k % 16777216 / 256 = 0x3100) (hsub : k % 256 = 3) (s : State) : defaultOf s k = 0 := by
  have hrow : (findRow 0x3100 3).map (fun r => r.dflt) = some 0 := by decide
  obtain ⟨r, hfound, hzero⟩ := Option.map_eq_some_iff.mp hrow
  simp [defaultOf, hindex, hsub, derivedDefault, hfound, hzero]

/-- An entry with no state of its own is EMPTY (R146). -/
theorem staState_of_none {s : State} {i : Nat} (h : s.regs.look (winKey i O.sta_state) = none) : staState s i = 0 := by
  have hindex : winKey i O.sta_state % 16777216 / 256 = 0x3100 := by unfold winKey O.sta_state objKey; omega
  have hsub : winKey i O.sta_state % 256 = 3 := by unfold winKey O.sta_state objKey; omega
  rw [staState, rd_eq, h, Option.getD_none, defaultOf_staState hindex hsub]

/-- REMOVE leaves the entry EMPTY, and the station is no more (R115). -/
theorem staRemove_empties {s : State} {i : Nat} (h : staState s i ≠ 0) :
    staState (staRemove s i) i = 0 ∧ (staRemove s i).mac.stations.look i = none := by
  unfold staRemove
  rw [if_neg h]
  extract_lets s1 s2 s3 s4 m t
  have hcleared : t.regs.look (winKey i O.sta_state) = none := by
    have hne : winKey i O.sta_state ≠ O.sta_in_use := winKey_ne_key (by decide) (by decide) (by decide) i
    simpa [t, s4, countStations, Tab.look_put_ne _ _ _ _ hne] using look_clearKeys (by simp) s2
  refine ⟨?_, ?_⟩
  · exact (rd_mirror _ _ (winKey_ne_key (by decide) (by decide) (by decide) i)).trans (staState_of_none hcleared)
  · rw [view_mirror (view := fun u => u.mac.stations.look i) (Blind.of_forall ⟨fun _ _ => rfl, fun _ _ => rfl, fun _ _ => rfl⟩)]
    simp [t, countStations]

/-! ### TWT agreements (R147) -/

theorem twtTeardown_of_look {s : State} {x : Twt} (h : s.mac.twt.look (rd s O.twt_select) = some x) :
    twtTeardown s = (.ok, setTwt (setMac s { s.mac with outgoing := s.mac.outgoing ++ [(x.radio, .twtTeardown x.station x.flow)] })
      (rd s O.twt_select) none) := by
  simp only [twtTeardown, h]

theorem mac_setTwt (s : State) (k : Nat) (x : Option Twt) :
    (setTwt s k x).mac = { s.mac with twt := match x with | some y => s.mac.twt.put k y | none => s.mac.twt.del k } := by
  unfold setTwt
  rw [view_mirror (view := fun u => u.mac) (Blind.of_forall ⟨fun _ _ => rfl, fun _ _ => rfl, fun _ _ => rfl⟩)]
  cases x <;> rfl

/-! ### The reorder time-out (R125) -/

/-- A window past the MPDU that it held. -/
def pastHeld (b : Scoreboard) (h : Held) : Scoreboard := { b with start := (h.sn + 1) % 4096, marked := [], held := [] }

/-- A window that starts at its one held and marked number settles past it, and lets it go. -/
theorem settle_single {b : Scoreboard} {h : Held} (hheld : b.held = [h]) (hmarked : b.marked = [h.sn]) (hstart : b.start = h.sn)
    (hsn : h.sn < 4096) (old : Nat) :
    settle old b = ([h], pastHeld b h) := by
  have hslide : slide 2048 b = { b with start := (h.sn + 1) % 4096, marked := [] } := by
    simp [slide, hmarked, hstart]
  have hpassed : snBefore ((h.sn + 1) % 4096) h.sn = true := by
    unfold snBefore snDist
    exact decide_eq_true (by omega)
  simp only [settle, hslide, hheld, List.filter_cons, hpassed, Bool.not_true, if_true, Bool.false_eq_true, if_false, List.filter_nil]
  rfl

/-- A move to the one marked number of a window starts it there, the mark kept. -/
theorem moveStart_to_marked {b : Scoreboard} {n : Nat} (hmarked : b.marked = [n]) (hahead : snBefore b.start n = false) :
    (moveStart b n).1 = { b with start := n } := by
  have hself : snBefore n n = false := by
    unfold snBefore snDist
    exact decide_eq_false (by omega)
  simp [moveStart, hahead, hmarked, hself]

theorem releaseList_nil (n : Nat) (s : State) : releaseList n [] s = s := by
  cases n <;> rfl

/-- A released MPDU has left the reorder pool, is counted, and waits for the Locksmith. -/
def handedOn (s : State) (m : Nat) (x : Arrived) : State :=
  toLocksmith (countRelease (holdBuf s x.buf false) (x.station.getD 0) x.mpdu.length) m

theorem view_handedOn {α : Type} {view : State → α} (hb : Blind view [.regs, .miller, .lock]) (s : State) (m : Nat) (x : Arrived) :
    view (handedOn s m x) = view s := by
  simp only [handedOn, view_toLocksmith (hb.sub rfl), view_countRelease (hb.sub rfl), view_holdBuf (hb.sub rfl)]

theorem input_handedOn (s : State) (m : Nat) (x : Arrived) : (handedOn s m x).lock.input = s.lock.input ++ [m] := by
  have hlock : (countRelease (holdBuf s x.buf false) (x.station.getD 0) x.mpdu.length).lock = s.lock := by
    rw [view_countRelease (view := State.lock) (Blind.of_forall fun _ _ => rfl),
      view_holdBuf (view := State.lock) (Blind.of_forall ⟨fun _ _ => rfl, fun _ _ => rfl⟩)]
  simp [handedOn, toLocksmith, hlock]

/-- The counters of a station and the pool are no gap counter of a radio. -/
theorem rd_handedOn_gaps {r : Nat} (hr : r < 3) (s : State) (m : Nat) (x : Arrived) :
    rd (handedOn s m x) (O.reorder_gap_skips r) = rd s (O.reorder_gap_skips r) := by
  have hsmall : O.reorder_gap_skips r < 16777216 := by unfold O.reorder_gap_skips objKey; omega
  have hpool : O.reorder_gap_skips r ≠ O.reorder_pool_used := by unfold O.reorder_gap_skips O.reorder_pool_used objKey; omega
  have hmpdu : O.reorder_gap_skips r ≠ winKey (x.station.getD 0) O.rx_mpdu :=
    (winKey_ne_key (by unfold O.reorder_gap_skips O.rx_mpdu objKey; omega) (by decide) hsmall _).symm
  have hbytes : O.reorder_gap_skips r ≠ winKey (x.station.getD 0) O.sta_rx_bytes :=
    (winKey_ne_key (by unfold O.reorder_gap_skips O.sta_rx_bytes objKey; omega) (by decide) hsmall _).symm
  have hhold : rd (holdBuf s x.buf false) (O.reorder_gap_skips r) = rd s (O.reorder_gap_skips r) := by
    unfold holdBuf
    split
    · split
      · rfl
      · rw [rd_wr_ne _ _ _ _ hpool, rd_setMiller]
    · rfl
  rw [handedOn, toLocksmith, rd_setLock, countRelease, rd_bumpBy, if_neg hbytes, rd_bump, if_neg hmpdu, hhold]

/-- A protected data MPDU that is released is handed on, and frees no other. -/
theorem releaseAll_protectedData {s : State} {m : Nat} {x : Arrived} (hx : s.mac.arrived.look m = some x) (hkind : x.mpdu.kind = .data)
    (hprotected : x.mpdu.isProtected = true) : releaseAll s [m] = handedOn s m x := by
  have hone : releaseOne s m = (handedOn s m x, []) := by
    simp only [releaseOne, hx, hprotected, Bool.true_or, if_true, releaseProtected, hkind, isManagement, Bool.false_and, Bool.false_eq_true,
      if_false, handedOn]
  rw [releaseAll, List.length_singleton, releaseList, hone]
  exact releaseList_nil _ _

theorem board_setBoard (s : State) (i tid : Nat) (b : Scoreboard) : board (setBoard s i tid b) i tid = b := by
  simp [board, station, setBoard, setStation]

/-- The state in which a window that has timed out settles: it starts at its held number, and the gap is counted. -/
def gapSkipped (s : State) (i tid : Nat) (h : Held) (r : Nat) : State :=
  bump (setBoard s i tid { board s i tid with start := h.sn }) (O.reorder_gap_skips r)

/-- A window whose one held MPDU is a protected data MPDU moves past it, and hands it to the Locksmith. -/
theorem settleBoard_gapSkipped {s : State} {i tid : Nat} {h : Held} {x : Arrived} (hheld : (board s i tid).held = [h])
    (hmarked : (board s i tid).marked = [h.sn]) (hsn : h.sn < 4096) (hx : s.mac.arrived.look h.mpdu = some x) (hkind : x.mpdu.kind = .data)
    (hprotected : x.mpdu.isProtected = true) (r old : Nat) :
    settleBoard (gapSkipped s i tid h r) i tid old =
      handedOn (setBoard (gapSkipped s i tid h r) i tid (pastHeld (board s i tid) h)) h.mpdu x := by
  have hboard : board (gapSkipped s i tid h r) i tid = { board s i tid with start := h.sn } := by
    rw [gapSkipped, view_bump (view := fun t => board t i tid) (fun _ _ => rfl), board_setBoard]
  have hsettle := settle_single (b := { board s i tid with start := h.sn }) hheld hmarked rfl hsn old
  rw [settleBoard, hboard, hsettle]
  refine releaseAll_protectedData ?_ hkind hprotected
  simpa [gapSkipped, setBoard, setStation] using hx

/-- A reorder time-out that finds one protected data MPDU held counts the gap before it, moves past it and hands it on. -/
theorem completes_reorderTimeout {s : State} {i tid : Nat} {h : Held} {x : Arrived} {P : State → Prop} (hon : hubOn s = true)
    (hheld : (board s i tid).held = [h]) (hmarked : (board s i tid).marked = [h.sn]) (hsn : h.sn < 4096)
    (hahead : snBefore (board s i tid).start h.sn = false) (hx : s.mac.arrived.look h.mpdu = some x) (hkind : x.mpdu.kind = .data)
    (hprotected : x.mpdu.isProtected = true) (hradio : x.radio < 3)
    (hP : ∀ u, base u = base s → board u i tid = pastHeld (board s i tid) h → u.lock.input = s.lock.input ++ [h.mpdu] →
      rd u (O.reorder_gap_skips x.radio) = min (rd s (O.reorder_gap_skips x.radio) + 1) (topOf (O.reorder_gap_skips x.radio)) →
      P (sealed s u)) : Completes (.reorderTimeout i tid) s P := by
  refine completes_act (show execReorderTimeout i tid s = _ from rfl) hon ?_
  dsimp only
  rw [hheld]
  simp only [List.foldl_cons, List.foldl_nil, hx, moveStart_to_marked hmarked hahead]
  have hsettled := settleBoard_gapSkipped hheld hmarked hsn hx hkind hprotected x.radio (board s i tid).start
  rw [gapSkipped] at hsettled
  rw [hsettled]
  refine hP _ ?_ ?_ (input_handedOn _ _ _) ?_
  · exact view_handedOn (blind_base _) _ _ _
  · rw [view_handedOn (view := fun t => board t i tid) (Blind.of_forall ⟨fun _ _ => rfl, fun _ _ => rfl, fun _ _ => rfl⟩), board_setBoard]
  · rw [rd_handedOn_gaps hradio, setBoard, setStation, rd_setMac, rd_bump_self, setBoard, setStation, rd_setMac]

/-! ### An MPDU that is not acknowledged (R128, R174) -/

theorem takeSent_of_find {s : State} {i tid sn : Nat} {u : Unacked}
    (h : s.ost.sent.find? (fun v => decide (v.station = i ∧ v.frame.tid = tid ∧ v.frame.sn = some sn)) = some u) :
    ∃ l, takeSent s i tid sn = (some u, { s with ost := { s.ost with sent := l } }) := by
  simp only [takeSent, h]
  exact ⟨_, rfl⟩

/-- A frame that goes back is in its queue. -/
theorem mem_returnFrame (s : State) (i : Nat) (f : AirFrame) : f ∈ (airQ (returnFrame s i f) (4 * i + acOf f.tid)).frames := by
  simp [returnFrame, setAirQ, airQ]

/-- An MPDU with sends left is counted as sent again, and goes back to its queue. -/
def sentAgain (s : State) (i : Nat) (l : List Unacked) (u : Unacked) : State :=
  tallyOne (returnFrame (bump (bump { s with ost := { s.ost with sent := l } } (O.air_tx_retries u.radio)) (winKey i O.sta_tx_retries)) i
    u.frame) u true

theorem completes_mpduUnacked {s : State} {i tid sn : Nat} {u : Unacked} {P : State → Prop} (hon : hubOn s = true)
    (hfind : s.ost.sent.find? (fun v => decide (v.station = i ∧ v.frame.tid = tid ∧ v.frame.sn = some sn)) = some u)
    (hsends : u.frame.sends < rd s O.retry_limit) (hP : ∀ l, P (sealed s (sentAgain s i l u))) : Completes (.mpduUnacked i tid sn) s P := by
  obtain ⟨l, htaken⟩ := takeSent_of_find hfind
  refine completes_act (show execMpduUnacked i tid sn s = _ from rfl) hon ?_
  simp only [htaken, if_neg (Nat.not_le.mpr hsends)]
  exact hP l

/-- The frame waits in the queue of its TID's access category. -/
theorem mem_sentAgain (s : State) (l : List Unacked) {i tid sn : Nat} {u : Unacked}
    (hfind : s.ost.sent.find? (fun v => decide (v.station = i ∧ v.frame.tid = tid ∧ v.frame.sn = some sn)) = some u) :
    u.frame ∈ (airQ (sentAgain s i l u) (4 * i + acOf tid)).frames := by
  have hsent := List.find?_some hfind
  simp only [decide_eq_true_eq] at hsent
  obtain ⟨-, htid, -⟩ := hsent
  rw [sentAgain, view_tallyOne (view := fun t => airQ t (4 * i + acOf tid)) (Blind.of_forall ⟨fun _ _ => rfl, fun _ _ => rfl⟩), ← htid]
  exact mem_returnFrame _ _ _

/-- The retry is counted once on its radio. -/
theorem rd_sentAgain {u : Unacked} (hr : u.radio < 3) (s : State) (i : Nat) (l : List Unacked) :
    rd (sentAgain s i l u) (O.air_tx_retries u.radio) = min (rd s (O.air_tx_retries u.radio) + 1) (topOf (O.air_tx_retries u.radio)) := by
  have hsmall : O.air_tx_retries u.radio < 16777216 := by unfold O.air_tx_retries objKey; omega
  have hstation : O.air_tx_retries u.radio ≠ winKey i O.sta_tx_retries :=
    (winKey_ne_key (by unfold O.air_tx_retries O.sta_tx_retries objKey; omega) (by decide) hsmall i).symm
  have hview : ∀ parts : List StatePart, .regs ∉ parts → .boot ∉ parts → Blind (fun t => rd t (O.air_tx_retries u.radio)) parts :=
    fun _ => blind_rd _
  rw [sentAgain, view_tallyOne (hview _ (by decide) (by decide)), view_returnFrame (hview _ (by decide) (by decide)), rd_bump, if_neg hstation,
    rd_bump_self, (hview [.ost] (by decide) (by decide)).ost rfl]

/-! ### The beacon (R138, R139) -/

/-- The templates that are taken over leave all but their counters and the air MAC. -/
theorem hidden_swapTemplates {α : Type} {view : State → α} {r : Nat} (hb : Blind view [.mac])
    (hk : ∀ i < 16, Hides view (O.template_gen r i)) (s : State) : view (swapTemplates s r) = view s := by
  refine foldl_view_mem view _ (fun i hi t => ?_) s
  simp only [apply_ite view, hidden_bump (hk i (List.mem_range.mp hi)), view_setMac (hb.mac rfl), ite_self]

/-- Which module owns the links does not depend on a template's counter. -/
theorem ownsLinks_swapTemplates (s : State) (r : Fin 3) : ownsLinks (swapTemplates s r) = ownsLinks s := by
  refine hidden_swapTemplates (view := ownsLinks) (Blind.of_forall fun _ _ => rfl) (fun i hi t v => ?_) s
  have hmode : O.package_mode ≠ O.template_gen r i := by unfold O.package_mode O.template_gen objKey; omega
  have hrole : O.service_role ≠ O.template_gen r i := by unfold O.service_role O.template_gen objKey; omega
  simp only [ownsLinks, heldRole, roleMode, packageMode, rd_wr_ne _ _ _ _ hmode, rd_wr_ne _ _ _ _ hrole]
  rfl

/-- The frames that a slot's end drops are no beacons. -/
theorem beacons_dropFrames (s : State) (sta : Nat → Bool) (goes : AirFrame → Bool) : (dropFrames s sta goes).2.ost.beacons = s.ost.beacons :=
  have hb : Blind (fun t : State => t.ost.beacons) bufParts :=
    Blind.of_forall ⟨fun _ _ => rfl, fun _ _ => rfl, fun _ _ => rfl, fun _ _ => rfl⟩
  view_foldl (view := fun t => t.ost.beacons) (fun t (f : AirFrame) => (hb.dropLeg rfl) t f.buf) _ _

/-- A beacon that is built leaves the beacons that wait. -/
theorem beacons_buildBeacon (s : State) (r : Nat) : (buildBeacon s r).2.ost.beacons = s.ost.beacons := by
  have htaken : ∀ k, (takePn s k).2.ost.beacons = s.ost.beacons := fun k => by
    unfold takePn
    dsimp only
    split
    · rfl
    · split
      · simp [slotExhaust, countSlots, beacons_dropFrames]
      · split <;> simp [setSlot]
  unfold buildBeacon
  dsimp only
  split
  · split
    next heq => exact view_of_snd (view := fun t => t.ost.beacons) heq (htaken _)
    next heq => exact view_of_snd (view := fun t => t.ost.beacons) heq (htaken _)
  · rfl

theorem beacons_swapTemplates (s : State) (r : Nat) : (swapTemplates s r).ost.beacons = s.ost.beacons :=
  view_swapTemplates (view := fun t => t.ost.beacons) (Blind.of_forall ⟨fun _ _ => rfl, fun _ _ => rfl⟩) s r

/-- The state in which the beacon that a radio has built waits. -/
def beaconWaits (s : State) (r : Nat) (c : TxContent) : State := { s with ost := { s.ost with beacons := otherBeacons s r ++ [(r, c)] } }

/-- A TBTT of a radio that serves a BSSID and is not barred builds its beacon. -/
theorem completes_tbtt {s : State} {r : Fin 3} {P : State → Prop} (hon : hubOn s = true) (howns : ownsLinks s = true)
    (hfitted : radioFitted s.fuse.part r = true) (hbss : rd s (O.bss_count r) ≠ 0) (hbarred : planBarred (swapTemplates s r) r = false)
    (hP : ∀ c, P (sealed s (beaconWaits (buildBeacon (swapTemplates s r) r).2 r c))) : Completes (.tbtt r) s P := by
  have hcount : rd (swapTemplates s r) (O.bss_count r) = rd s (O.bss_count r) :=
    hidden_swapTemplates (view := fun t => rd t (O.bss_count r)) (blind_rd _ (by decide) (by decide))
      (fun i _ t v => rd_wr_ne t _ v _ (by unfold O.bss_count O.template_gen objKey; omega)) s
  refine completes_act (show execTbtt r s = _ from rfl) hon ?_
  simp only [ownsLinks_swapTemplates, howns, hfitted, hcount, hbss, hbarred, Bool.true_eq_false, Bool.false_eq_true, or_self, if_false]
  exact hP _

/-! ### Beacons that do not come (R140 to R142) -/

/-- A bit that is cleared is clear. -/
theorem bit_clrBit (v i : Nat) : bit (clrBit v i) i = false := by
  unfold clrBit
  split
  next h =>
    have hodd : v / 2 ^ i % 2 = 1 := of_decide_eq_true h
    have hle : 2 ^ i ≤ v := by
      by_contra hlt
      rw [Nat.div_eq_of_lt (Nat.not_le.mp hlt)] at hodd
      omega
    have hless := Nat.div_eq_sub_div (Nat.two_pow_pos i) hle
    exact decide_eq_false (by omega)
  next h => exact Bool.eq_false_iff.mpr h

/-- A third beacon of the upstream AP that does not come takes the link's bit away (R142). -/
theorem upstreamMissed_of_third {s : State} {r : Nat} (hmissed : 2 ≤ s.mac.missed.getD (3 + r) 0) (hup : bit (rd s O.bh_link_state) r = true) :
    ∃ m : Mac, upstreamMissed s r =
      report (bump (bhRefresh (wr (setMac s m) O.bh_link_state (clrBit (rd s O.bh_link_state) r))) O.bh_link_lost) 0x33 (hidOf s 0 1 4 0) r := by
  refine ⟨{ s.mac with missed := s.mac.missed.put (3 + r) (s.mac.missed.getD (3 + r) 0 + 1), regained := s.mac.regained.put r 0 }, ?_⟩
  exact if_pos ⟨by omega, hup⟩

/-! ### The commands -/

/-- Settles O24, clause by clause from what each operation gives. -/
theorem airMacComplete : Obligations.AirMacComplete := by
  unfold Obligations.AirMacComplete
  refine ⟨?_, ?_, ?_, ?_, ?_, ?_, ?_, ?_, ?_, ?_, ?_, ?_, ?_⟩
  · intro s r m e hon hrx hfcs hlast
    have htop : topOf (O.air_rx_fcs_err r) = 0xFFFFFFFFFFFFFFFF :=
      (by decide : ∀ q : Fin 3, topOf (O.air_rx_fcs_err q) = 0xFFFFFFFFFFFFFFFF) r
    refine completes_mpduReceived hon hrx hlast (lookupError_of_badFcs hfcs s r e) ?_
    have hcounted : receiveMpdu s r m = bump s (O.air_rx_fcs_err r) := by simp [receiveMpdu, hfcs]
    rw [hcounted]
    refine ⟨counted64_of_rd rfl htop (rd_bump_self _ _), ?_⟩
    rw [rd_sealed_of_base (s := s) (t := bump s _) rfl, rd_bump, if_neg (by unfold O.rx_fcs_ok O.air_rx_fcs_err objKey; omega)]
  · intro s r m hon hrx hfcs hlast hkind hlen
    have htop : topOf (O.air_rx_oversize r) = 0xFFFFFFFFFFFFFFFF :=
      (by decide : ∀ q : Fin 3, topOf (O.air_rx_oversize q) = 0xFFFFFFFFFFFFFFFF) r
    refine completes_mpduReceived hon hrx hlast (lookupError_none s r m) ?_
    rw [receiveMpdu_of_oversize hfcs hkind hlen]
    exact passedFcs_counted htop (by unfold O.rx_fcs_ok O.air_rx_oversize objKey; omega) m
  · intro s r m hon hrx hfcs hlast hkind hlen hmine
    have htop : topOf (O.rx_not_mine r) = 0xFFFFFFFFFFFFFFFF :=
      (by decide : ∀ q : Fin 3, topOf (O.rx_not_mine q) = 0xFFFFFFFFFFFFFFFF) r
    refine completes_mpduReceived hon hrx hlast (lookupError_none s r m) ?_
    rw [receiveMpdu_of_notMine hfcs hkind hlen ((addressCheck_passedFcs s r m m.ra).trans hmine)]
    exact passedFcs_counted htop (by unfold O.rx_fcs_ok O.rx_not_mine objKey; omega) m
  · intro s hr hempty hok
    have hop : staAdd s =
        (.ok, mirror (staBuild s (rd s O.sta_select)) (stationRecord (staBuild s (rd s O.sta_select)) (rd s O.sta_select))) := by
      simp [staAdd, hempty, hok]
    refine completes_staCmd (show execStaAdd s = _ from rfl) hr hop ?_ fun u hstatus hread _ => ⟨hstatus, ?_, ?_⟩
    · exact (hidden_mirror (blind_base _) (fun _ _ => rfl) _ _).trans (hidden_staBuild (fun _ _ => rfl)
        (fun _ _ => ⟨fun _ _ => rfl, fun _ => rfl⟩) (fun _ _ _ _ => rfl) (blind_base _) s)
    · rw [staState, hread, rd_mirror _ _ (winKey_ne_key (by decide) (by decide) (by decide) _)]
      exact (staBuild_entry s _).1
    · rw [hread, rd_mirror _ _ (winKey_ne_key (by decide) (by decide) (by decide) _)]
      exact (staBuild_entry s _).2
  · intro s hr hused
    have hempty := staRemove_empties hused
    refine completes_staCmd (show execStaRemove s = _ from rfl) hr rfl (view_staRemove (blind_base _) s _)
      fun u hstatus hread hmac => ⟨hstatus, ?_, ?_⟩
    · exact (hread _).trans hempty.1
    · rw [hmac]
      exact hempty.2
  · intro s hr hstate
    refine completes_staCmd (show execStaAuthorize s = _ from rfl) hr (t := staSetState s (rd s O.sta_select) 2)
      (by simp [staAuthorize, hstate]) ?_ fun u hstatus hread _ => ⟨hstatus, (hread _).trans (staState_staSetState s _ 2)⟩
    exact hidden_staSetState (blind_base _) (fun _ _ _ _ => rfl) s 2
  · intro s hr hstate
    refine completes_staCmd (show execStaDeauthorize s = _ from rfl) hr (t := staSetState s (rd s O.sta_select) 1)
      (by simp [staDeauthorize, hstate]) ?_ fun u hstatus hread _ => ⟨hstatus, (hread _).trans (staState_staSetState s _ 1)⟩
    exact hidden_staSetState (blind_base _) (fun _ _ _ _ => rfl) s 1
  · intro s i tid h x hon hheld hmarked hsn hahead hx hkind hprotected hradio
    have htop : topOf (O.reorder_gap_skips x.radio) = 0xFFFFFFFFFFFFFFFF :=
      (by decide : ∀ q : Fin 3, topOf (O.reorder_gap_skips q) = 0xFFFFFFFFFFFFFFFF) ⟨x.radio, hradio⟩
    refine completes_reorderTimeout hon hheld hmarked hsn hahead hx hkind hprotected hradio fun u hbase hboard hinput hskipped => ?_
    have hsealed : board (sealed s u) i tid = pastHeld (board s i tid) h := hboard
    exact ⟨counted64_of_rd hbase htop hskipped, by rw [hsealed, pastHeld], by rw [hsealed, pastHeld], hinput⟩
  · intro s i tid sn u hon hfind hradio hsends
    have htop : topOf (O.air_tx_retries u.radio) = 0xFFFFFFFFFFFFFFFF :=
      (by decide : ∀ q : Fin 3, topOf (O.air_tx_retries q) = 0xFFFFFFFFFFFFFFFF) ⟨u.radio, hradio⟩
    refine completes_mpduUnacked hon hfind hsends fun l => ⟨counted64_of_rd ?_ htop (rd_sentAgain hradio s i l), ?_⟩
    · rw [sentAgain, view_tallyOne (blind_base _), view_returnFrame (blind_base _)]
      rfl
    · exact mem_sentAgain s l hfind
  · intro s x hr hx
    refine completes_command (show execTwtTeardown s = _ from rfl) hr ?_
    rw [twtTeardown_of_look hx]
    simp [mac_setTwt]
  · intro s r hon howns hfitted hbss hbarred
    refine completes_tbtt hon howns hfitted hbss hbarred fun c => ?_
    simp [beaconWaits, otherBeacons, beacons_buildBeacon, beacons_swapTemplates]
  · intro s r hon hrole hwatched hfew
    have htop : topOf (O.lead_beacon_missed r) = 0xFFFFFFFF := (by decide : ∀ q : Fin 3, topOf (O.lead_beacon_missed q) = 0xFFFFFFFF) r
    refine completes_act (show execBeaconWaitExpire r false s = _ from rfl) hon ?_
    have hmissed : leadBeaconMissed s r = bump (setMac s { s.mac with missed := s.mac.missed.put r (s.mac.missed.getD r 0 + 1) })
        (O.lead_beacon_missed r) := if_pos hfew
    simp only [Bool.false_eq_true, if_false, if_pos (And.intro hrole hwatched), hmissed]
    refine ⟨?_, by simp, by simp⟩
    rw [Counted, rd_sealed_of_base (by simp [base]), rd_bump_self, rd_setMac, htop]
  · intro s r hon hlink hmissed hup
    have htop : topOf O.bh_link_lost = 0xFFFFFFFF := by decide
    obtain ⟨m, hlost⟩ := upstreamMissed_of_third hmissed hup
    refine completes_act (show execBeaconWaitExpire r true s = _ from rfl) hon ?_
    simp only [if_true, if_pos hlink, hlost]
    refine ⟨?_, ?_, ?_⟩
    · rw [rd_sealed_of_base (by simp [base, bhRefresh]), rd_report _ _ _ _ _ (by decide), rd_bump, if_neg (by decide), bhRefresh,
        rd_wr_ne _ _ _ _ (by decide), rd_wr_self, bit_clrBit]
    · rw [Counted, rd_sealed_of_base (by simp [base, bhRefresh]), rd_report _ _ _ _ _ (by decide), rd_bump_self, htop, bhRefresh,
        rd_wr_ne _ _ _ _ (by decide), rd_wr_ne _ _ _ _ (by decide), rd_setMac]
    · exact raised_report _ _ _ _ _ (by simp [bhRefresh])

end Sys2Proof.Machine
end

section
/-! The Ostler's frame and TXOP complete (O25): what each of its operations gives, and what it leaves to the reader of a plan, a queue or a
register. -/

namespace Sys2Proof.Machine

/-! ### The plan's close (R151, R180) -/

/-- What a plan's close settles: that the build has ended, and the grants that it holds. -/
def buildOf (s : State) : Bool × List Allowance := (s.planClosed, s.ost.grants)

theorem buildOf_closePlan (s : State) (lo : Nat) : buildOf (closePlan s lo) = (true, []) :=
  view_announcePairs (view := buildOf) (Blind.of_forall ⟨fun _ _ => rfl, fun _ _ => rfl⟩) _ _ _

/-- The plans of some radios emptied. -/
def plansEmptied (s : State) (l : List Nat) : State := l.foldl (fun t r => setPlan t r { radioPlan t r with closed := [] }) s

/-- Beyond the plans that it empties, an error costs stations their state, and is reported (R180). -/
theorem view_planErrors_plans {α : Type} {view : State → α} (hb : Blind view [.regs, .tinker, .mac]) (s : State) (e : PlanErrors) :
    view (planErrors s e) = view (plansEmptied s (e.plans.map Fin.val)) := by
  have hstations : ∀ (l : List Nat) t,
      view (l.foldl (fun t i => setStation t i { station t i with csiAt := [], corr := [], rate := [], good := [] }) t) = view t :=
    fun l t => view_foldl (fun t i => view_setStation (hb.sub rfl) t i _) l t
  simp only [planErrors, apply_ite view, view_report (hb.regs rfl) (hb.tinker rfl), hstations, ite_self, plansEmptied, List.pure_def,
    List.bind_eq_flatMap, List.map_eq_flatMap]

theorem buildOf_plansEmptied (s : State) (l : List Nat) : buildOf (plansEmptied s l) = buildOf s := by
  have hplan : ∀ t r p, buildOf (setPlan t r p) = buildOf t := fun _ _ _ => rfl
  exact foldl_view buildOf (fun t r => hplan t r { radioPlan t r with closed := [] }) l s

theorem radioPlan_setPlan (s : State) (q r : Nat) (p : RadioPlan) :
    radioPlan (setPlan s q p) r = if r = q then p else radioPlan s r := by
  simp only [radioPlan, setPlan, Tab.getD_put]

theorem radioPlan_setPlan_self (s : State) (r : Nat) (p : RadioPlan) : radioPlan (setPlan s r p) r = p :=
  (radioPlan_setPlan s r r p).trans (if_pos rfl)

/-- A plan that is empty stays empty as plans are emptied. -/
theorem closed_plansEmptied_of_empty {s : State} {r : Nat} (h : (radioPlan s r).closed = []) (l : List Nat) :
    (radioPlan (plansEmptied s l) r).closed = [] := by
  induction l generalizing s with
  | nil => exact h
  | cons q l ih =>
    refine ih ?_
    rw [radioPlan_setPlan]
    split
    · rfl
    · exact h

theorem closed_plansEmptied {l : List Nat} {r : Nat} (hr : r ∈ l) (s : State) : (radioPlan (plansEmptied s l) r).closed = [] := by
  induction l generalizing s with
  | nil => simp at hr
  | cons q l ih =>
    rcases List.mem_cons.mp hr with rfl | hmem
    · exact closed_plansEmptied_of_empty (s := setPlan s r _) (by rw [radioPlan_setPlan_self]) l
    · exact ih hmem _

theorem buildOf_planErrors (s : State) (e : PlanErrors) : buildOf (planErrors s e) = buildOf s :=
  (view_planErrors_plans (view := buildOf) (Blind.of_forall ⟨fun _ _ => rfl, fun _ _ => rfl, fun _ _ => rfl⟩) s e).trans
    (buildOf_plansEmptied s _)

/-- A plan whose memory erred is empty (R180). -/
theorem closed_planErrors {e : PlanErrors} {r : Fin 3} (hr : r ∈ e.plans) (s : State) : (radioPlan (planErrors s e) r).closed = [] :=
  (view_planErrors_plans (view := fun t => (radioPlan t r).closed)
    (Blind.of_forall ⟨fun _ _ => rfl, fun _ _ => rfl, fun _ _ => rfl⟩) s e).trans (closed_plansEmptied (List.mem_map_of_mem hr) s)

/-! ### A grant (R325) -/

/-- A granted queue has its grant, is off the scheduler's list, and stands among the grants of the build. -/
theorem grantQueue_granted (s : State) (a : Nat) :
    (airQ (grantQueue s a) a).granted = true ∧ (grantQueue s a).miller.airSched.list.contains a = false ∧
      (grantQueue s a).ost.grants.any (fun g => decide (g.queue = a)) = true := by
  refine ⟨?_, ?_, ?_⟩ <;> simp [grantQueue, airQ, setAirQ]

/-- The first listed queue, where it is eligible, is the one granted. -/
theorem completes_grantRequest {s u : State} {a : Nat} {P : State → Prop} (hon : hubOn s = true) (hopen : s.planClosed = false)
    (hlisted : nextListed s = (some a, u)) (heligible : airEligible (ageQueue u a) a = true)
    (hP : P (sealed s (grantQueue (ageQueue u a) a))) : Completes .grantRequest s P := by
  refine completes_act (show execGrantRequest s = _ from rfl) hon ?_
  simpa only [hopen, Bool.false_eq_true, if_false, drawGrant, hlisted, heligible, if_true] using hP

/-! ### SYNC_IN (R154 to R156) -/

/-- The state in which an accepted edge has been counted and measured, and its move has begun. -/
def syncMeasured (s : State) : State :=
  startMove (wrI (bump { s with move := { s.move with edgeSeen := true } } O.sync_events) O.sync_error (syncError s))
    ((if s.move.slewing then 0 else s.move.left) + syncError s) true

theorem view_syncMeasured {α : Type} {view : State → α} (hb : Blind view [.regs, .move]) (s : State) : view (syncMeasured s) = view s := by
  rw [syncMeasured, view_startMove (hb.move rfl), view_wrI (hb.regs rfl), view_bump (hb.regs rfl), hb.move rfl]

/-- A move's beginning sets no register. -/
theorem rd_startMove (s : State) (e : Int) (sync : Bool) (k : Nat) : rd (startMove s e sync) k = rd s k :=
  view_startMove (view := fun t => rd t k) (fun _ _ => rfl) s e sync

theorem rd_syncMeasured (s : State) {k : Nat} (hk : k ≠ O.sync_error) :
    rd (syncMeasured s) k = rd (bump s O.sync_events) k := by
  rw [syncMeasured, rd_startMove, wrI, rd_wr_ne _ _ _ _ hk]
  rfl

theorem rd_syncMeasured_error (s : State) : rd (syncMeasured s) O.sync_error = ofSigned 32 (syncError s) := by
  rw [syncMeasured, rd_startMove, wrI, rd_wr_self]

/-- An edge whose error is within the step steps the phase. -/
theorem syncEdge_step {s : State} (hstate : rd s O.sync_state ≠ 3) (hnear : (syncError s).natAbs ≤ rd s O.sync_step_max * 1000) :
    syncEdge s = wr (syncMeasured s) O.sync_state 2 := by
  simp only [syncEdge, if_neg hstate, if_neg (Nat.not_lt.mpr hnear), syncMeasured]

/-- An edge whose error is beyond the step slews, and is reported. -/
theorem syncEdge_slew {s : State} (hstate : rd s O.sync_state ≠ 3) (hfar : rd s O.sync_step_max * 1000 < (syncError s).natAbs) :
    syncEdge s = report (bump (wr (syncMeasured s) O.sync_state 3) O.sync_slews) 0x39 (syncHid s) 0 := by
  simp only [syncEdge, if_neg hstate, if_pos hfar, syncMeasured]

/-- The first edge of a frame is accepted where SYNC_IN is in use and the module does not follow. -/
theorem completes_syncEdge {s : State} {P : State → Prop} (hon : hubOn s = true) (hrole : roleMode s ≠ 9) (hmode : rd s O.sync_mode ≠ 0)
    (hfirst : s.move.edgeSeen = false) (hP : P (sealed s (syncEdge s))) : Completes .syncInEdge s P := by
  refine completes_act (show execSyncInEdge s = _ from rfl) hon ?_
  simpa only [if_neg hrole, if_neg hmode, hfirst, Bool.false_eq_true, if_false] using hP

/-! ### A TXOP that is won (R170, R171) -/

/-- What waits beside the plans: the beacons, and the next tag. -/
def waiting (s : State) : List (Nat × TxContent) × Nat := (s.ost.beacons, s.ost.nextTag)

theorem waiting_sendExchange (s : State) (r slip start : Nat) (e : Exchange) : waiting (sendExchange s r slip start e) = waiting s := by
  have hb : Blind waiting [.regs, .out, .radios, .txReports, .twin] :=
    Blind.of_forall ⟨fun _ _ => rfl, fun _ _ => rfl, fun _ _ => rfl, fun _ _ => rfl, fun _ _ => rfl⟩
  have hplan : ∀ t q p l, waiting { setPlan t q p with ost := { (setPlan t q p).ost with sent := l } } = waiting t := fun _ _ _ _ => rfl
  simp only [sendExchange, view_offerCommand (hb.sub rfl), apply_ite waiting, view_varlanSend (hb.out rfl) (hb.twin rfl), hplan,
    view_bump (hb.regs rfl), ite_self]

/-- The exchanges of a TXOP take no beacon that waits, and no tag. -/
theorem waiting_runTxop (r slip : Nat) (busy : List Nat) (todo rest : List Exchange) (shift : Nat) (s : State) :
    waiting (runTxop r slip busy todo rest shift s) = waiting s := by
  have hb : Blind waiting [.regs, .mac, .miller] := Blind.of_forall ⟨fun _ _ => rfl, fun _ _ => rfl, fun _ _ => rfl⟩
  have hplan : ∀ t q p, waiting (setPlan t q p) = waiting t := fun _ _ _ => rfl
  induction todo generalizing rest shift s with
  | nil => rfl
  | cons e l ih =>
    simp only [runTxop, apply_ite waiting, ih, waiting_sendExchange, hplan, view_skipExchange hb, view_bumpBy (hb.regs rfl),
      view_giveBackUsers (hb.miller rfl), ite_self]

/-- A beacon that waits on the radio is what goes (R138). -/
theorem completes_txopBeacon {s : State} {r : Fin 3} {c : Nat × TxContent} {P : State → Prop} (hon : hubOn s = true)
    (hwaits : s.ost.beacons.find? (fun b => decide (b.1 = (r : Nat))) = some c)
    (hP : ∀ t, waiting t = (otherBeacons s r, s.ost.nextTag + 1) → P (sealed s t)) : Completes (.txopAccessComplete r []) s P := by
  refine completes_act (show execTxopAccessComplete r [] s = _ from rfl) hon ?_
  simp only [hwaits]
  exact hP _ (waiting_runTxop _ _ _ _ _ _ _)

/-- No subchannel is punctured where none is busy. -/
theorem punctureEx_nil (e : Exchange) : punctureEx [] e = (e, []) := by
  simp [punctureEx]

/-- Whether an exchange fits depends on the frame alone, and on no counter of conflicts. -/
theorem fitsAt_bumpBy (s : State) (r n : Nat) (rest : List Exchange) (e : Exchange) (start : Nat) :
    fitsAt (bumpBy s (O.nstr_conflicts r) n) rest e start = fitsAt s rest e start := by
  have hphase : rdI (bumpBy s (O.nstr_conflicts r) n) O.frame_phase = rdI s O.frame_phase := by
    rw [rdI, rd_bumpBy, if_neg (by unfold O.frame_phase O.nstr_conflicts objKey; omega), rdI]
  have hboundary : ∀ t, nextBoundary (bumpBy s (O.nstr_conflicts r) n) t = nextBoundary s t := fun t => by
    unfold nextBoundary
    rw [hphase]
    rfl
  unfold fitsAt
  rw [hboundary]
  rfl

/-- An exchange of the module's own frame that is alone in its TXOP and fits is sent, and ends the plan. -/
theorem runTxop_alone {s : State} {e : Exchange} {shift : Nat} (husers : e.users = []) (hcontent : e.content ≠ none)
    (hlength : e.ppdu ≤ e.length) (hfits : fitsAt s [] e (e.start + shift) = true) (r slip : Nat) :
    runTxop r slip [] [e] [] shift s =
      runTxop r slip [] [] [] shift (sendExchange (bumpBy s (O.nstr_conflicts r) 0) r slip (e.start + shift) e) := by
  have hsame : { e with users := [], ppdu := e.ppdu, length := e.length - e.ppdu + e.ppdu } = e := by
    rw [Nat.sub_add_cancel hlength, ← husers]
  simp only [runTxop, punctureEx_nil, husers, nstrSplit, giveBackUsers, List.foldl_nil, List.length_nil, hsame, List.append_nil,
    fitsAt_bumpBy, hfits, hcontent, false_and, and_false, if_false, true_or, if_true]

/-- An exchange that is sent waits for its end under its tag. -/
theorem sent_sendExchange {e : Exchange} (husers : e.users = []) (hpaired : e.paired = false) (s : State) (r slip start : Nat) :
    (radioPlan (sendExchange s r slip start e) r).sent.look e.tag = some e := by
  have hsame : { e with users := e.users.map (fun u => { u with frames := [] }), paired := false } = e := by
    rw [husers, List.map_nil, ← husers, ← hpaired]
  have hb : Blind (fun t => radioPlan t r) [.regs, .radios, .txReports] := Blind.of_forall ⟨fun _ _ => rfl, fun _ _ => rfl, fun _ _ => rfl⟩
  simp only [sendExchange, hpaired, Bool.false_and, Bool.false_eq_true, if_false, hsame]
  rw [view_offerCommand hb]
  simp [radioPlan, setPlan]

/-- An access in time runs the TXOP of the one exchange left, which was not to begin later than the slip allows. -/
theorem completes_txopAlone {s : State} {r : Fin 3} {e : Exchange} {P : State → Prop} (hon : hubOn s = true)
    (hwaits : s.ost.beacons.find? (fun b => decide (b.1 = (r : Nat))) = none) (hrunning : (radioPlan s r).running = [e])
    (hkind : e.kind ≠ .beacon)
    (hlate : tbNs s - s.ost.beganTb ≤ e.start + (radioPlan s r).slip + rd s (O.slip_max r) * 1000)
    (hP : ∀ p, P (sealed s (runTxop r (radioPlan s r).slip [] [e] [] (tbNs s - s.ost.beganTb - e.start) (setPlan s r p)))) :
    Completes (.txopAccessComplete r []) s P := by
  have hidle : busySecondary s r [] = [] := by simp [busySecondary]
  refine completes_act (show execTxopAccessComplete r [] s = _ from rfl) hon ?_
  simp only [hwaits, hrunning, headTxop, List.takeWhile_nil, List.dropWhile_nil, if_neg hkind, if_neg (Nat.not_lt.mpr hlate), hidle, ite_self,
    ne_eq, not_true_eq_false, false_and, if_false, if_true]
  exact hP _

/-! ### A TXOP that its deadline ends (R171) -/

/-- A skipped exchange is counted once. -/
theorem rd_skipExchange (s : State) (r : Nat) (e : Exchange) :
    rd (skipExchange s r e) (O.ost_skipped r) = min (rd s (O.ost_skipped r) + 1) (topOf (O.ost_skipped r)) := by
  have hgiven : rd (giveBackUsers s e.users) (O.ost_skipped r) = rd s (O.ost_skipped r) :=
    view_giveBackUsers (view := fun t => rd t (O.ost_skipped r)) (fun _ _ => rfl) _ _
  unfold skipExchange
  split
  · rw [rd_setMac, rd_bump_self, hgiven]
  · rw [rd_bump_self, hgiven]

/-- The deadline of a TXOP skips its first exchange, and the rest of the plan contends again. -/
theorem completes_accessDeadline {s : State} {r : Fin 3} {e : Exchange} {l : List Exchange} {P : State → Prop} (hon : hubOn s = true)
    (hrunning : (radioPlan s r).running = e :: l) (hkind : e.kind ≠ .beacon)
    (hP : P (sealed s (setPlan (skipExchange s r e) r
      { radioPlan (skipExchange s r e) r with running := reopen l, doubled := (radioPlan s r).doubled + 1 }))) :
    Completes (.accessDeadline r) s P := by
  refine completes_act (show execAccessDeadline r s = _ from rfl) hon ?_
  simpa only [hrunning, if_neg hkind] using hP

/-! ### A silent station (R174) -/

/-- None of what a list keeps has the property that it was filtered by. -/
theorem any_filter_not {α : Type} (p : α → Bool) (l : List α) : (l.filter (fun x => !(p x))).any p = false := by
  simp [List.any_filter]

/-! ### The follower's CSI (R209) -/

/-- The lead keeps what its follower measured of a station in the table. -/
theorem completes_followerCsi {s : State} {v : VHead} {i : Nat} {l : List (Nat × Nat)} {P : State → Prop} (hheard : Heard s 4 v)
    (hknown : staState s i ≠ 0) (hrole : roleMode s = 8)
    (hP : ∀ t : State, (station t i).corr.look 2 = some l → t.twin.jointCsi.look i = some s.now → P t) :
    Completes (.followerCsiReceived v i l) s P := by
  have hon : hubOn s = true := hheard.1
  have hjoint : ¬(staState (heardState s 4 v) i = 0 ∨ roleMode (heardState s 4 v) ≠ 8) := by
    simp only [staState, roleMode, packageMode, rd_heardState]
    exact not_or.mpr ⟨hknown, not_not.mpr hrole⟩
  refine completes_act (show execFollowerCsiReceived v i l s = _ from rfl) hon ?_
  rw [onMessage_heard s 4 v _ hheard, if_neg hjoint]
  refine hP _ ?_ ?_ <;> simp [station, setStation]

/-! ### The commands -/

/-- Settles O25, clause by clause from what each operation gives. -/
theorem ostlerComplete : Obligations.OstlerComplete := by
  unfold Obligations.OstlerComplete
  refine ⟨?_, ?_, ?_, ?_, ?_, ?_, ?_, ?_, ?_, ?_, ?_⟩
  · intro s e hon hopen hserves
    refine completes_act (show execPlanClose e s = _ from rfl) hon ?_
    rw [if_neg (by simp [hopen, Nat.not_lt.mpr hserves])]
    have hbuild : buildOf (planErrors (closePlan s 0) e) = (true, []) := (buildOf_planErrors _ e).trans (buildOf_closePlan s 0)
    exact ⟨congrArg Prod.fst hbuild, congrArg Prod.snd hbuild, fun r hr => closed_planErrors hr _⟩
  · intro s u a hon hopen hlisted heligible
    exact completes_grantRequest hon hopen hlisted heligible (grantQueue_granted _ a)
  · intro s hon hrole
    have htop : topOf O.sync_ignored = 0xFFFFFFFF := by decide
    refine completes_act (show execSyncInEdge s = _ from rfl) hon ?_
    rw [if_pos hrole]
    refine ⟨?_, ?_⟩
    · rw [Counted, rd_sealed_of_base (by simp [base]), rd_bump_self, htop]
    · rw [rd_sealed_of_base (by simp [base]), rd_bump, if_neg (by decide)]
  · intro s hon hrole hmode hfirst hstate hnear
    have htop : topOf O.sync_events = 0xFFFFFFFF := by decide
    have hbase : base (wr (syncMeasured s) O.sync_state 2) = base s := view_syncMeasured (blind_base _) s
    refine completes_syncEdge hon hrole hmode hfirst ?_
    rw [syncEdge_step hstate hnear, Counted]
    simp only [rd_sealed_of_base hbase]
    refine ⟨?_, ?_, rd_wr_self _ _ _⟩
    · rw [rd_wr_ne _ _ _ _ (by decide), rd_syncMeasured s (by decide), rd_bump_self, htop]
    · rw [rd_wr_ne _ _ _ _ (by decide), rd_syncMeasured_error]
  · intro s hon hrole hmode hfirst hstate hfar
    have htop : topOf O.sync_slews = 0xFFFFFFFF := by decide
    have hmeasured : base (syncMeasured s) = base s := view_syncMeasured (blind_base _) s
    have hbase : base (syncEdge s) = base s := by
      rw [syncEdge_slew hstate hfar, ← hmeasured]
      simp [base]
    refine completes_syncEdge hon hrole hmode hfirst ?_
    simp only [Counted, rd_sealed_of_base hbase]
    rw [syncEdge_slew hstate hfar]
    refine ⟨?_, ?_, raised_report _ _ _ _ _ ?_⟩
    · rw [rd_report _ _ _ _ _ (by decide), rd_bump_self, rd_wr_ne _ _ _ _ (by decide), rd_syncMeasured s (by decide), rd_bump,
        if_neg (by decide), htop]
    · rw [rd_report _ _ _ _ _ (by decide), rd_bump, if_neg (by decide), rd_wr_self]
    · exact view_syncMeasured (view := State.tinker) (Blind.of_forall ⟨fun _ _ => rfl, fun _ _ => rfl⟩) s
  · intro s hon hmode hstate
    refine completes_act (show execSyncTimeout s = _ from rfl) hon ?_
    rw [if_pos ⟨hmode, hstate⟩]
    refine ⟨?_, raised_report _ _ _ _ _ rfl⟩
    rw [rd_sealed_of_base (by simp [base]), rd_report _ _ _ _ _ (by decide), rd_wr_self]
  · intro s r e hon hwaits hrunning hkind husers hcontent hpaired hbegun hlate hlength hfits
    refine completes_txopAlone hon hwaits hrunning hkind hlate fun p => ?_
    have hstart : e.start + (tbNs s - s.ost.beganTb - e.start) = tbNs s - s.ost.beganTb := Nat.add_sub_cancel' hbegun
    have hfits' : fitsAt (setPlan s r p) [] e (e.start + (tbNs s - s.ost.beganTb - e.start)) = true := by
      rw [hstart]
      exact hfits
    rw [runTxop_alone husers hcontent hlength hfits', runTxop]
    refine ⟨congrArg RadioPlan.running (radioPlan_setPlan_self _ _ _), ?_⟩
    refine (congrArg (fun q : RadioPlan => q.sent.look e.tag) (radioPlan_setPlan_self _ _ _)).trans ?_
    exact sent_sendExchange husers hpaired _ _ _ _
  · intro s r c hon hwaits
    exact completes_txopBeacon hon hwaits fun t ht => ⟨congrArg Prod.fst ht, congrArg Prod.snd ht⟩
  · intro s r e l hon hrunning hkind
    have htop : topOf (O.ost_skipped r) = 0xFFFFFFFFFFFFFFFF := (by decide : ∀ q : Fin 3, topOf (O.ost_skipped q) = 0xFFFFFFFFFFFFFFFF) r
    refine completes_accessDeadline hon hrunning hkind ?_
    refine ⟨counted64_of_rd (view_skipExchange (blind_base _) s r e) htop (rd_skipExchange s r e), ?_, ?_⟩
    · exact congrArg RadioPlan.running (radioPlan_setPlan_self _ _ _)
    · exact congrArg RadioPlan.doubled (radioPlan_setPlan_self _ _ _)
  · intro s r i hon hawaited
    have htop : topOf (O.ul_silent r) = 0xFFFFFFFFFFFFFFFF := (by decide : ∀ q : Fin 3, topOf (O.ul_silent q) = 0xFFFFFFFFFFFFFFFF) r
    refine completes_act (show execTbPpduMissing r i s = _ from rfl) hon ?_
    dsimp only
    rw [if_pos hawaited]
    refine ⟨counted64_of_rd (by simp [base]) htop (rd_bump_self _ _), ?_⟩
    exact any_filter_not _ _
  · intro s v i l hheard hknown hrole
    exact completes_followerCsi hheard hknown hrole fun t hcorr hat => ⟨hcorr, hat⟩

end Sys2Proof.Machine
end

section
/-! O53 refuted: `flag` takes only the value 1 for enabled, so a `pair_enable` that is neither 0 nor 1 shows its suspend bit. -/

namespace Sys2Proof.Machine

/-- A module whose stored `pair_enable` is 2: not 0, and not the value 1 that `flag` asks for. -/
def pairEnableTwo : State := { regs := [(O.pair_enable, 2)] }

/-- Refutes O53: with `pair_enable` holding 2, bit 0 of the cause is set though the register is not 0. -/
theorem not_pairSuspendCauseBits : ¬ Obligations.PairSuspendCauseBits := by
  unfold Obligations.PairSuspendCauseBits
  intro h
  have hcause : bit (rd (pairRefresh pairEnableTwo) O.pair_suspend_cause) 0 = true := by decide
  have hzero : rd pairEnableTwo O.pair_enable = 0 := (h pairEnableTwo (by decide)).1.1 hcause
  exact absurd hzero (by decide)

end Sys2Proof.Machine
end

section
/-! The frame of the pair's link, key, records and timers (O42): what hides the effects of the pair's commands. -/

namespace Sys2Proof.Machine

section

variable {α : Type} {view : State → α}

/-! ### The state of the pair (R183, R207, R485) -/

theorem hidden_pairRefresh (hb : Blind view [.tinker]) (hk : HidesAll view [O.pair_state, O.pair_suspend_cause, O.msgs_dropped]) (s : State) :
    view (pairRefresh s) = view s := by
  simp only [pairRefresh, apply_ite view, hidden_report (hb.tinker rfl) (hk O.msgs_dropped (by simp)), hk O.pair_state (by simp),
    hk O.pair_suspend_cause (by simp), ite_self]

theorem hidden_alignBack (hb : Blind view [.steward]) (hk : Hides view O.maint_deferred) (s : State) : view (alignBack s) = view s := by
  unfold alignBack
  split
  · exact (hidden_bump hk _).trans (hb.steward rfl s _)
  · rfl

theorem hidden_twinTo (hb : Blind view [.tinker, .steward])
    (hk : HidesAll view [O.pair_state, O.pair_suspend_cause, O.twin_state, O.maint_deferred, O.msgs_dropped]) (s : State) (v : Nat) :
    view (twinTo s v) = view s := by
  simp only [twinTo, hidden_pairRefresh (hb.sub rfl) (hk.of_subset (by simp)), apply_ite view,
    hidden_alignBack (hb.sub rfl) (hk O.maint_deferred (by simp)), hk O.twin_state (by simp), ite_self]

theorem hidden_beginCopy (hb : Blind view [.tinker, .twin, .steward])
    (hk : HidesAll view [O.pair_state, O.pair_suspend_cause, O.twin_state, O.maint_deferred, O.msgs_dropped]) (s : State) (role : CopyRole)
    (resync : Bool) : view (beginCopy s role resync) = view s :=
  (hidden_twinTo (hb.sub rfl) hk _ 2).trans (view_setTwin (hb.twin rfl) s _)

theorem hidden_waitToSolo (hb : Blind view [.tinker, .twin]) (hboot : ∀ s x, x.straps = s.boot.straps → view { s with boot := x } = view s)
    (hk : Hides view O.msgs_dropped) (s : State) : view (waitToSolo s) = view s := by
  have hleft : view { s with boot := { s.boot with waiting := false, chosen := some 7 } } = view s := hboot s _ rfl
  simp only [waitToSolo, apply_ite view, hidden_report (hb.tinker rfl) hk, view_setTwin (hb.twin rfl), hleft, ite_self]

/-! ### The commands -/

section

variable (hseal : HidesSeal view)
include hseal

theorem view_execHeartbeatSend (hb : Blind view [.out, .twin]) (s t : State) (h : execHeartbeatSend s = .next t) : view t = view s := by
  refine view_act hseal ?_ h
  simp only [apply_ite view, view_varlanSend (hb.out rfl) (hb.twin rfl), ite_self]

theorem hidden_execHeartbeatMissed (hk : Hides view O.hb_missed) (s t : State) (h : execHeartbeatMissed s = .next t) : view t = view s := by
  refine view_act hseal ?_ h
  simp only [apply_ite view, hidden_bump hk, ite_self]

theorem view_execAliveEdgeSend (hb : Blind view [.out, .twin]) (s t : State) (h : execAliveEdgeSend s = .next t) : view t = view s := by
  refine view_act hseal ?_ h
  simp only [apply_ite view, view_send (hb.out rfl), view_setTwin (hb.twin rfl), ite_self]

theorem view_execAliveEdgeReceived (hb : Blind view [.twin]) (s t : State) (h : execAliveEdgeReceived s = .next t) : view t = view s := by
  refine view_act hseal ?_ h
  simp only [apply_ite view, view_setTwin (hb.twin rfl), ite_self]

theorem hidden_execPeerKeyWrite (hb : Blind view [.status, .out, .led, .twin]) (key : Octets) (hk : Hides view O.peer_key_set) (s t : State)
    (h : execPeerKeyWrite key s = .next t) : view t = view s := by
  refine view_act hseal (view_commandWith (hb.status rfl) (hb.out rfl) (hb.led rfl) (hb.twin rfl) s _ _ _ ?_) h
  simp only [apply_ite Prod.snd, apply_ite view, hk _ 1, hb.led rfl, ite_self]

theorem hidden_execForget (hb : Blind view [.status, .out, .led, .twin]) (hk : Hides view O.peer_key_set) (s t : State)
    (h : execForget s = .next t) : view t = view s :=
  view_act hseal (view_command (hb.status rfl) (hb.out rfl) (hb.led rfl) (hb.twin rfl) s _ _ _ ((hk _ 0).trans (hb.led rfl s _))) h

theorem hidden_execJoinReceived (hb : Blind view [.out, .tinker, .twin, .steward]) (v : VHead) (serial : Octets)
    (hk : HidesAll view [O.pair_state, O.pair_suspend_cause, O.twin_state, O.maint_deferred, O.varlan_auth_fail, O.msgs_dropped])
    (hserial : ∀ s o, view (wrB s O.peer_serial o) = view s) (s t : State) (h : execJoinReceived v serial s = .next t) :
    view t = view s := by
  refine view_act hseal (hidden_onMessage (hb.sub rfl) (hk.of_subset (by simp)) s 1 v _ fun u => ?_) h
  simp only [apply_ite view, view_varlanSend (hb.out rfl) (hb.twin rfl), hserial,
    hidden_beginCopy (hb.sub rfl) (hk.of_subset (by simp)), ite_self]

theorem view_execJoinRetry (hb : Blind view [.epoch, .twin]) (s t : State) (h : execJoinRetry s = .next t) : view t = view s := by
  refine view_act hseal ?_ h
  simp only [apply_ite view, view_askJoinCommit (hb.sub rfl), view_setTwin (hb.twin rfl), ite_self]

theorem hidden_execSearchTimeout (hb : Blind view [.tinker, .twin])
    (hboot : ∀ s x, x.straps = s.boot.straps → view { s with boot := x } = view s) (hk : Hides view O.msgs_dropped) (s t : State)
    (h : execSearchTimeout s = .next t) : view t = view s := by
  refine view_act hseal ?_ h
  have hsearched : view { s with boot := { s.boot with searched := true } } = view s := hboot s _ rfl
  simp only [apply_ite view, hidden_waitToSolo hb hboot hk, hsearched, ite_self]

theorem view_execTakeoverForce (hb : Blind view [.status, .out, .led, .twin]) (s t : State) (h : execTakeoverForce s = .next t) :
    view t = view s := by
  refine view_act hseal (view_command (hb.status rfl) (hb.out rfl) (hb.led rfl) (hb.twin rfl) s _ _ _ ?_) h
  simp only [apply_ite Prod.snd, apply_ite view, view_varlanSend (hb.out rfl) (hb.twin rfl), view_setTwin (hb.twin rfl), ite_self]

theorem hidden_execStandDownTimeout (hb : Blind view [.twin]) (hk : Hides view O.takeover_result) (s t : State)
    (h : execStandDownTimeout s = .next t) : view t = view s := by
  refine view_act hseal ?_ h
  simp only [apply_ite view, hk _ Status.timeout.code, view_setTwin (hb.twin rfl), ite_self]

theorem hidden_execMirrorAck (hb : Blind view [.tinker, .twin]) (v : VHead) (n : Nat)
    (hk : HidesAll view [O.varlan_auth_fail, O.msgs_dropped]) (s t : State) (h : execMirrorAck v n s = .next t) : view t = view s :=
  view_act hseal (hidden_onMessage hb hk s 3 v _ fun u => view_ackRecords (hb.sub rfl) u n) h

theorem hidden_execPairTxReceived (hb : Blind view [.tinker, .twin]) (v : VHead) (c : TxCmd)
    (hk : HidesAll view [O.varlan_auth_fail, O.msgs_dropped]) (s t : State) (h : execPairTxReceived v c s = .next t) : view t = view s := by
  refine view_act hseal (hidden_onMessage hb hk s 4 v _ fun u => ?_) h
  simp only [apply_ite view, view_setTwin (hb.twin rfl), ite_self]

theorem hidden_execPairGoReceived (hb : Blind view [.tinker, .txReports, .twin]) (hr : HidesRadio view 2) (v : VHead) (tag start : Nat)
    (hk : HidesAll view [O.varlan_auth_fail, O.msgs_dropped]) (hresults : HidesAll view (resultKeys 2)) (s t : State)
    (h : execPairGoReceived v tag start s = .next t) : view t = view s := by
  refine view_act hseal (hidden_onMessage (hb.sub rfl) hk s 4 v _ fun u => ?_) h
  split
  · simp only [apply_ite view, hidden_offerCommand (hb.txReports rfl) hr hresults, view_setTwin (hb.twin rfl), ite_self]
  · rfl

theorem hidden_execPairResultReceived (hb : Blind view [.tinker, .twin]) (hr : HidesRadio view 2) (v : VHead) (tag : Nat) (sent : Bool)
    (hk : HidesAll view [O.pair_fallback, O.varlan_auth_fail, O.msgs_dropped]) (s t : State)
    (h : execPairResultReceived v tag sent s = .next t) : view t = view s := by
  refine view_act hseal (hidden_onMessage hb (hk.of_subset (by simp)) s 4 v _ fun u => ?_) h
  simp only [apply_ite view, hidden_bump (hk O.pair_fallback (by simp)), unpair, hr _ _, view_setTwin (hb.twin rfl), ite_self]

theorem hidden_execPairCancelReceived (hb : Blind view [.tinker, .twin]) (hr : HidesRadio view 2) (v : VHead) (tag : Nat)
    (hk : HidesAll view [O.varlan_auth_fail, O.msgs_dropped]) (s t : State) (h : execPairCancelReceived v tag s = .next t) :
    view t = view s :=
  view_act hseal (hidden_onMessage hb hk s 4 v _ fun u => (hr _ _).trans (view_setTwin (hb.twin rfl) u _)) h

theorem hidden_execAlignAgeExpire (hb : Blind view [.tinker, .twin])
    (hk : HidesAll view [O.pair_state, O.pair_suspend_cause, O.msgs_dropped]) (s t : State) (h : execAlignAgeExpire s = .next t) :
    view t = view s := by
  refine view_act hseal ?_ h
  simp only [apply_ite view, hidden_pairRefresh (hb.sub rfl) hk, hb.twin rfl, ite_self]

end

end

/-! ### The frame -/

/-- JOIN sets no register but the pair's, and no part that its copy does not begin with (R183). -/
theorem joinReceived_leaves (v : VHead) (serial : Octets) : Leaves (.joinReceived v serial) fun s t =>
    t = { s with regs := t.regs, blobs := t.blobs, out := t.out, boot := t.boot, tinker := t.tinker, twin := t.twin, steward := t.steward } ∧
    Only s t [O.pair_state, O.pair_suspend_cause, O.twin_state, O.maint_deferred, O.varlan_auth_fail, O.msgs_dropped] :=
  leaves_only_of_blind fun hseal hb hk t => hidden_execJoinReceived hseal hb v serial hk (fun _ _ => rfl) _ t

/-- Every octet object but the peer's serial is as JOIN found it (R183). -/
theorem joinReceived_onlyOctets (v : VHead) (serial : Octets) : Leaves (.joinReceived v serial) fun s t =>
    OnlyOctets s t [O.peer_serial] := by
  intro s t h k hk
  have hfuse : t.fuse = s.fuse := (congrArg State.fuse (joinReceived_leaves v serial s t h).1).trans rfl
  refine rdB_congr s t k ?_ hfuse
  exact hidden_execJoinReceived (view := fun s => s.blobs.look k) (fun _ _ e => e)
    (Blind.of_forall ⟨fun _ _ => rfl, fun _ _ => rfl, fun _ _ => rfl, fun _ _ => rfl⟩) v serial (fun _ _ _ _ => rfl)
    (fun u o => Tab.look_put_ne u.blobs O.peer_serial o k fun e => hk (by simp [e])) s t h

/-- Settles O42: of each command, the view of its frame hides all that the command sets. -/
theorem pairFrame : Obligations.PairFrame := by
  unfold Obligations.PairFrame
  refine ⟨?_, ?_, ?_, ?_, fun key => ?_, ?_, fun v serial => ?_, ?_, ?_, ?_, ?_, fun v n => ?_, fun v c => ?_, fun v tag start => ?_,
    fun v tag sent => ?_, fun v tag => ?_, ?_⟩
  · exact leaves_of_blind fun _ hseal hb => view_execHeartbeatSend hseal hb
  · exact leaves_only fun v s t hseal hk => hidden_execHeartbeatMissed hseal (hk _ (by simp)) s t
  · exact leaves_of_blind fun _ hseal hb => view_execAliveEdgeSend hseal hb
  · exact leaves_of_blind fun _ hseal hb => view_execAliveEdgeReceived hseal hb
  · exact leaves_only_of_blind fun hseal hb hk t => hidden_execPeerKeyWrite hseal hb key (hk _ (by simp)) _ t
  · exact leaves_only_of_blind fun hseal hb hk t => hidden_execForget hseal hb (hk _ (by simp)) _ t
  · intro s t h
    obtain ⟨hparts, honly⟩ := joinReceived_leaves v serial s t h
    exact ⟨hparts, honly, joinReceived_onlyOctets v serial s t h⟩
  · exact leaves_of_blind fun _ hseal hb => view_execJoinRetry hseal hb
  · exact leaves_only_of_blind fun hseal hb hk t =>
      hidden_execSearchTimeout hseal hb (hidesBoot_shown (fun _ _ => rfl) _ _) (hk _ (by simp)) _ t
  · exact leaves_of_blind fun _ hseal hb => view_execTakeoverForce hseal hb
  · exact leaves_only_of_blind fun hseal hb hk t => hidden_execStandDownTimeout hseal hb (hk _ (by simp)) _ t
  · exact leaves_only_of_blind fun hseal hb hk t => hidden_execMirrorAck hseal hb v n hk _ t
  · exact leaves_only_of_blind fun hseal hb hk t => hidden_execPairTxReceived hseal hb v c hk _ t
  · refine leaves_of_shown (keys := fun _ => _) 2 fun u s t hseal => ?_
    have hk := hidesAll_shown (parts := fun s => { s with
      regs := u.regs, boot := u.boot, tinker := u.tinker, radios := u.radios, txReports := u.txReports, twin := u.twin }) (fun _ _ => rfl)
      ([O.varlan_auth_fail, O.msgs_dropped] ++ resultKeys 2) 2
    exact hidden_execPairGoReceived hseal (Blind.of_forall ⟨fun _ _ => rfl, fun _ _ => rfl, fun _ _ => rfl⟩)
      (hidesRadio_shown (fun _ _ => rfl) _ _) v tag start (hk.of_subset (by simp)) (hk.of_subset (by simp)) s t
  · refine leaves_of_shown (keys := fun _ => _) 2 fun u s t hseal => ?_
    exact hidden_execPairResultReceived hseal (Blind.of_forall ⟨fun _ _ => rfl, fun _ _ => rfl⟩)
      (hidesRadio_shown (fun _ _ => rfl) _ _) v tag sent (hidesAll_shown (fun _ _ => rfl) _ _) s t
  · refine leaves_of_shown (keys := fun _ => _) 2 fun u s t hseal => ?_
    exact hidden_execPairCancelReceived hseal (Blind.of_forall ⟨fun _ _ => rfl, fun _ _ => rfl⟩)
      (hidesRadio_shown (fun _ _ => rfl) _ _) v tag (hidesAll_shown (fun _ _ => rfl) _ _) s t
  · exact leaves_only_of_blind fun hseal hb hk t => hidden_execAlignAgeExpire hseal hb hk _ t

end Sys2Proof.Machine
end

section
/-! The rules of the pair's state, lanes and messages: what the shared operations of the twin give, and what they leave. -/

namespace Sys2Proof.Machine

/-! ### A message that is heard, and a command with octets -/

/-- A Varlan message that is heard completes with what holds of its effect. -/
theorem completes_heard {c : Instr} {s : State} {cls : Nat} {v : VHead} {op : State → State} {P : State → Prop}
    (hexec : exec c s = act s fun s => onMessage s cls v op) (h : Heard s cls v) (hP : P (sealed s (op (heardState s cls v)))) :
    Completes c s P :=
  completes_act hexec h.1 (by simpa only [onMessage_heard s cls v op h] using hP)

/-- A command with octets completes with what holds of its effect, where its value reaches the object. -/
theorem completes_commandWith {c : Instr} {s : State} {k : Nat} {o : Octets} {op : State → Status × State} {P : State → Prop}
    (hexec : exec c s = act s fun s => commandWith s k o op) (h : Reaches s k) (hP : P (sealed s (commanded k o (op s)))) :
    Completes c s P :=
  completes_act hexec h.1 (by simpa only [commandWith_reaches s k o op h] using hP)

/-! ### Roles -/

theorem roleMode_congr {s t : State} (hmode : rd t O.package_mode = rd s O.package_mode) (hrole : rd t O.service_role = rd s O.service_role) :
    roleMode t = roleMode s := by
  unfold roleMode packageMode
  rw [hmode, hrole]

theorem followsPair_congr {s t : State} (hrole : roleMode t = roleMode s) (hstate : twinState t = twinState s)
    (hresync : t.twin.resync = s.twin.resync) : followsPair t = followsPair s := by
  simp only [followsPair, hrole, hstate, hresync]

theorem leadsPair_congr {s t : State} (hmode : rd t O.package_mode = rd s O.package_mode) (hrole : roleMode t = roleMode s)
    (hstate : twinState t = twinState s) (hresync : t.twin.resync = s.twin.resync) (hleft : t.tinker.roleLeft = s.tinker.roleLeft) :
    leadsPair t = leadsPair s := by
  unfold leadsPair heldRole packageMode
  rw [hmode, hrole, hstate, hresync, hleft]

/-! ### Messages raised one after another (R464, R466) -/

theorem mem_insertMsg_of_mem {m x : FaultMsg} {l : List FaultMsg} (h : x ∈ l) : x ∈ insertMsg m l := by
  induction l with
  | nil => simp at h
  | cons y l ih =>
    unfold insertMsg
    split
    · exact List.mem_cons_of_mem _ h
    · rcases List.mem_cons.mp h with rfl | hmem
      · exact List.mem_cons_self
      · exact List.mem_cons_of_mem _ (ih hmem)

/-- The collector keeps every message that waits. -/
theorem mem_queue_collect {s : State} {x : FaultMsg} (h : x ∈ s.tinker.queue) (m : FaultMsg) : x ∈ (collect s m).tinker.queue := by
  unfold collect
  dsimp only
  split
  · by_cases hx : 2 ≤ effectiveReaction s x
    · exact List.mem_append_left _ (mem_insertMsg_of_mem (by simp [h, hx]))
    · exact List.mem_append_right _ (by simp [h]; omega)
  · split
    · by_cases hx : 2 ≤ effectiveReaction s x
      · exact List.mem_append_left _ (by simp [h, hx])
      · exact List.mem_append_right _ (mem_insertMsg_of_mem (by simp [h]; omega))
    · simpa using h

/-- The collector keeps the note of a full queue. -/
theorem fullOwed_collect {s : State} (h : s.tinker.fullOwed = true) (m : FaultMsg) : (collect s m).tinker.fullOwed = true := by
  unfold collect
  dsimp only
  split
  · exact h
  · split
    · exact h
    · simp

theorem seqs_collect (s : State) (m : FaultMsg) : (collect s m).tinker.seqs = s.tinker.seqs := by
  unfold collect
  dsimp only
  split
  · rfl
  · split
    · rfl
    · simp

theorem mem_queue_report {s : State} {x : FaultMsg} (h : x ∈ s.tinker.queue) (k source a : Nat) :
    x ∈ (report s k source a).tinker.queue := by
  unfold report reportWith
  exact mem_queue_collect (by exact h) _

theorem fullOwed_report {s : State} (h : s.tinker.fullOwed = true) (k source a : Nat) :
    (report s k source a).tinker.fullOwed = true := by
  unfold report reportWith
  exact fullOwed_collect (by exact h) _

/-- A report takes no SEQUENCE of another source. -/
theorem seqs_report {s : State} {h source : Nat} (hne : h ≠ source) (k a : Nat) :
    (report s k source a).tinker.seqs.getD h 0 = s.tinker.seqs.getD h 0 := by
  simp only [report, reportWith, seqs_collect, Tab.getD_put, if_neg hne]

/-- What was raised stays raised when another source reports. -/
theorem raised_report_other {s t : State} {k h source : Nat} (hr : Raised s t k h) (hne : h ≠ source) (k' a : Nat) :
    Raised s (report t k' source a) k h := by
  obtain ⟨hseq, hwaits⟩ := hr
  refine ⟨(seqs_report hne k' a).trans hseq, hwaits.imp ?_ fun hfull => ?_⟩
  · rintro ⟨m, hmem, hm⟩
    exact ⟨m, mem_queue_report hmem _ _ _, hm⟩
  · exact fullOwed_report hfull _ _ _

/-! ### The pair state's followers (R207, R183, R485) -/

theorem rd_pairRefresh (s : State) {j : Nat} (hj : j ∉ [O.pair_state, O.pair_suspend_cause, O.msgs_dropped]) :
    rd (pairRefresh s) j = rd s j :=
  hidden_pairRefresh (view := fun t => rd t j) (blind_rd j (by decide) (by decide)) (hidesAll_rd hj) s

@[simp] theorem twin_pairRefresh (s : State) : (pairRefresh s).twin = s.twin :=
  view_pairRefresh (view := State.twin) (fun _ _ => rfl) (fun _ _ => rfl) s

@[simp] theorem base_pairRefresh (s : State) : base (pairRefresh s) = base s :=
  view_pairRefresh (view := base) (fun _ _ => rfl) (fun _ _ => rfl) s

/-- The pair state's own report has its own source. -/
theorem raised_pairRefresh {s t : State} {k h : Nat} (hr : Raised s t k h) (hne : h ≠ hidOf t 0 2 4 0) :
    Raised s (pairRefresh t) k h := by
  unfold pairRefresh
  dsimp only
  repeat' split
  · exact hr
  · exact hr
  · exact hr
  · exact hr
  · exact raised_report_other (t := wr (wr t O.pair_suspend_cause _) O.pair_state 2) hr hne _ _

/-- The registers that a change of the pair state sets. -/
def twinToKeys : List Nat := [O.pair_state, O.pair_suspend_cause, O.twin_state, O.maint_deferred, O.msgs_dropped]

theorem rd_twinTo (s : State) (v : Nat) {j : Nat} (hj : j ∉ twinToKeys) : rd (twinTo s v) j = rd s j :=
  hidden_twinTo (view := fun t => rd t j) (blind_rd j (by decide) (by decide)) (hidesAll_rd hj) s v

@[simp] theorem twinState_twinTo (s : State) (v : Nat) : twinState (twinTo s v) = v := by
  have hback : ∀ t, rd (alignBack t) O.twin_state = rd t O.twin_state := fun t =>
    hidden_alignBack (view := fun t => rd t O.twin_state) (blind_rd _ (by decide) (by decide)) (fun u x => rd_wr_ne u _ x _ (by decide)) t
  refine (rd_pairRefresh _ (by decide)).trans ?_
  split
  · exact (hback _).trans (rd_wr_self _ _ _)
  · exact rd_wr_self _ _ _

@[simp] theorem twin_twinTo (s : State) (v : Nat) : (twinTo s v).twin = s.twin :=
  view_twinTo (view := State.twin) (fun _ _ => rfl) (fun _ _ => rfl) (fun _ _ => rfl) s v

@[simp] theorem base_twinTo (s : State) (v : Nat) : base (twinTo s v) = base s :=
  view_twinTo (view := base) (fun _ _ => rfl) (fun _ _ => rfl) (fun _ _ => rfl) s v

/-- With no verdict held, none is released. -/
theorem releaseHeld_of_none {s : State} (h : s.twin.rxpnHeld = []) : releaseHeld s = s := by
  simp only [releaseHeld, h, List.map_nil, List.foldl_nil, setTwin]
  rw [← h]

/-! ### Lanes (R186) -/

/-- A bit that was set and is cleared is one bit fewer. -/
theorem popCount_clrBit {n i : Nat} (hi : i < n) {v : Nat} (h : bit v i = true) : popCount n (clrBit v i) + 1 = popCount n v := by
  rw [clrBit, if_pos h]
  have hodd : v / 2 ^ i % 2 = 1 := of_decide_eq_true h
  clear h
  induction n generalizing i v with
  | zero => omega
  | succ n ih =>
    cases i with
    | zero =>
      simp only [pow_zero, Nat.div_one] at hodd
      have hhalf : (v - 2 ^ 0) / 2 = v / 2 := by omega
      have hlow : (v - 2 ^ 0) % 2 = 0 := by omega
      simp only [popCount, hhalf, hlow, hodd]
      omega
    | succ i =>
      have hdiv : v / 2 / 2 ^ i % 2 = 1 := by rwa [Nat.div_div_eq_div_mul, ← Nat.pow_succ']
      have hle : 2 ^ i ≤ v / 2 := by
        by_contra hlt
        rw [Nat.div_eq_of_lt (Nat.not_le.mp hlt)] at hdiv
        omega
      have htwice : 2 ^ (i + 1) = 2 * 2 ^ i := Nat.pow_succ'
      have hhalf : (v - 2 ^ (i + 1)) / 2 = v / 2 - 2 ^ i := by omega
      have hlow : (v - 2 ^ (i + 1)) % 2 = v % 2 := by omega
      have hrest := ih (Nat.lt_of_succ_lt_succ hi) hdiv
      simp only [popCount, hhalf, hlow]
      omega

end Sys2Proof.Machine
end

section
/-! Heartbeats, the alive line, the lanes and the peer key complete (O26). -/

namespace Sys2Proof.Machine

/-! ### Messages that leave (R186, R190) -/

/-- A message that leaves takes the next counter of its class. -/
theorem tx_varlanSend {s : State} (hlanes : lanesUp s ≠ 0) (hboot : rd s O.boot_count ≠ 0xFFFF) (c : Nat) (m : VMsg) :
    (varlanSend s c m).twin.tx.getD c 0 = s.twin.tx.getD c 0 + 1 := by
  simp [varlanSend, hlanes, hboot, send]

/-! ### Heartbeats (R183, R190, R205) -/

/-- The state in which a heartbeat is kept and shows the peer. -/
def heartbeatKept (s : State) (h : HbMsg) : State :=
  wr (wr (setTwin s { s.twin with hbFresh := true, hb := some h, hbAt := s.tb, hbSeen := some s.now }) O.peer_mode h.mode) O.peer_present 1

theorem rd_heartbeatKept (s : State) (h : HbMsg) {k : Nat} (hk : k ∉ [O.peer_mode, O.peer_present]) : rd (heartbeatKept s h) k = rd s k := by
  obtain ⟨hmode, hpresent⟩ : k ≠ O.peer_mode ∧ k ≠ O.peer_present := by simpa using hk
  exact (rd_wr_ne _ _ _ _ hpresent).trans (rd_wr_ne _ _ _ _ hmode)

theorem roleMode_heartbeatKept (s : State) (h : HbMsg) : roleMode (heartbeatKept s h) = roleMode s :=
  roleMode_congr (rd_heartbeatKept s h (by decide)) (rd_heartbeatKept s h (by decide))

/-- What a heartbeat shows of the peer stays in a state that keeps the registers and the twin's part of one that has kept it. -/
theorem peerShown {s t : State} {h : HbMsg} (hregs : ∀ k ∈ [O.peer_mode, O.peer_present], rd t k = rd (heartbeatKept s h) k) :
    rd t O.peer_mode = h.mode ∧ rd t O.peer_present = 1 := by
  refine ⟨(hregs _ (by simp)).trans ?_, (hregs _ (by simp)).trans (rd_wr_self _ _ _)⟩
  exact (rd_wr_ne _ _ _ _ (by decide)).trans (rd_wr_self _ _ _)

/-- Without a fault of the peer, a lead in SYNCED stays as it is. -/
theorem pairStep_lead {s : State} {h : HbMsg} (hfault : h.fault = false) (hstate : twinState s = 3) (hrole : roleMode s = 8) :
    pairStep s h = s := by
  simp [pairStep, hfault, hstate, hrole]

/-- So does a follower in UNSYNCED that its peer does not hear. -/
theorem pairStep_unheard {s : State} {h : HbMsg} (hfault : h.fault = false) (hhears : h.hears = false) (hstate : twinState s = 4) :
    pairStep s h = s := by
  simp [pairStep, hfault, hhears, hstate]

/-- From a peer that does not hear, a follower takes the frame's phase alone. -/
theorem followTime_unheard {s : State} {h : HbMsg} (hkept : s.twin.hb = some h) (hhears : h.hears = false) :
    followTime s h = rephase s h.phase := by
  simp [followTime, hbOffset, hkept, hhears]

/-- A new phase sets no other register. -/
theorem rd_rephase (s : State) (p : Int) {k : Nat} (hk : k ≠ O.frame_phase) : rd (rephase s p) k = rd s k :=
  (rd_wr_ne _ _ _ _ hk).trans (rd_congr s _ k rfl rfl rfl rfl)

/-- On a lead in SYNCED, a heartbeat without a fault is kept, and acknowledges records. -/
theorem heartbeat_lead {s : State} {h : HbMsg} (hfault : h.fault = false) (hstate : twinState s = 3) (hrole : roleMode s = 8) :
    pairStep (pairRefresh (ackRecords (heartbeatKept s h) h.mirrorAck)) h = pairRefresh (ackRecords (heartbeatKept s h) h.mirrorAck) := by
  have hread : ∀ k, k ∉ [O.pair_state, O.pair_suspend_cause, O.msgs_dropped] → k ∉ [O.peer_mode, O.peer_present] →
      rd (pairRefresh (ackRecords (heartbeatKept s h) h.mirrorAck)) k = rd s k := fun k hpair hpeer =>
    (rd_pairRefresh _ hpair).trans ((view_ackRecords (blind_rd k (by decide) (by decide)) _ _).trans (rd_heartbeatKept s h hpeer))
  exact pairStep_lead hfault ((hread _ (by decide) (by decide)).trans hstate)
    ((roleMode_congr (hread _ (by decide) (by decide)) (hread _ (by decide) (by decide))).trans hrole)

/-- On a follower in UNSYNCED that its peer does not hear, a heartbeat without a fault is kept, and gives the frame's phase. -/
theorem heartbeat_unheard {s : State} {h : HbMsg} (hfault : h.fault = false) (hhears : h.hears = false) (hstate : twinState s = 4) :
    pairStep (pairRefresh (followTime (heartbeatKept s h) h)) h = pairRefresh (rephase (heartbeatKept s h) h.phase) := by
  rw [followTime_unheard rfl hhears]
  refine pairStep_unheard hfault hhears ?_
  exact (rd_pairRefresh _ (by decide)).trans ((rd_rephase _ _ (by decide)).trans ((rd_heartbeatKept s h (by decide)).trans hstate))

/-- A heartbeat that is heard completes with what holds of its effect on a lead. -/
theorem completes_heartbeat_lead {s : State} {v : VHead} {h : HbMsg} {P : State → Prop} (hheard : Heard s 0 v) (hfault : h.fault = false)
    (hstate : twinState s = 3) (hrole : roleMode s = 8)
    (hP : P (sealed s (pairRefresh (ackRecords (heartbeatKept (heardState s 0 v) h) h.mirrorAck)))) :
    Completes (.heartbeatReceived v h) s P := by
  refine completes_heard (show execHeartbeatReceived v h s = _ from rfl) hheard ?_
  have hrole' : roleMode (heardState s 0 v) = 8 := (roleMode_congr (rd_heardState _ _ _ _) (rd_heardState _ _ _ _)).trans hrole
  have hkept : roleMode (heartbeatKept (heardState s 0 v) h) = 8 := (roleMode_heartbeatKept _ h).trans hrole'
  have heffect := heartbeat_lead hfault ((rd_heardState s 0 v _).trans hstate) hrole'
  simp only [heartbeatKept] at hkept heffect hP ⊢
  simpa only [hkept, if_true, (by decide : (8 : Nat) ≠ 9), if_false, heffect] using hP

/-- The same on a follower that its peer does not hear. -/
theorem completes_heartbeat_unheard {s : State} {v : VHead} {h : HbMsg} {P : State → Prop} (hheard : Heard s 0 v)
    (hfault : h.fault = false) (hhears : h.hears = false) (hstate : twinState s = 4) (hrole : roleMode s = 9)
    (hP : P (sealed s (pairRefresh (rephase (heartbeatKept (heardState s 0 v) h) h.phase)))) :
    Completes (.heartbeatReceived v h) s P := by
  refine completes_heard (show execHeartbeatReceived v h s = _ from rfl) hheard ?_
  have hrole' : roleMode (heardState s 0 v) = 9 := (roleMode_congr (rd_heardState _ _ _ _) (rd_heardState _ _ _ _)).trans hrole
  have hkept : roleMode (heartbeatKept (heardState s 0 v) h) = 9 := (roleMode_heartbeatKept _ h).trans hrole'
  have hfollowed : roleMode (followTime (heartbeatKept (heardState s 0 v) h) h) = 9 := by
    rw [followTime_unheard rfl hhears]
    exact (roleMode_congr (rd_rephase _ _ (by decide)) (rd_rephase _ _ (by decide))).trans hkept
  have heffect := heartbeat_unheard hfault hhears ((rd_heardState s 0 v _).trans hstate)
  simp only [heartbeatKept] at hkept hfollowed heffect hP ⊢
  simpa only [hkept, hfollowed, if_true, (by decide : (9 : Nat) ≠ 8), if_false, heffect] using hP

/-! ### A stale peer (R183, R190, R198) -/

/-- The state in which the peer's heartbeat is stale. -/
def staled (s : State) : State := wr (wr (setTwin s { s.twin with hbFresh := false }) O.peer_present 0) O.peer_mode 1

theorem rd_staled (s : State) {k : Nat} (hk : k ∉ [O.peer_present, O.peer_mode]) : rd (staled s) k = rd s k := by
  obtain ⟨hpresent, hmode⟩ : k ≠ O.peer_present ∧ k ≠ O.peer_mode := by simpa using hk
  exact (rd_wr_ne _ _ _ _ hmode).trans (rd_wr_ne _ _ _ _ hpresent)

theorem roleMode_staled (s : State) : roleMode (staled s) = roleMode s :=
  roleMode_congr (rd_staled s (by decide)) (rd_staled s (by decide))

theorem followsPair_staled (s : State) : followsPair (staled s) = followsPair s :=
  followsPair_congr (roleMode_staled s) (rd_staled s (by decide)) rfl

theorem leadsPair_staled (s : State) : leadsPair (staled s) = leadsPair s :=
  leadsPair_congr (rd_staled s (by decide)) (roleMode_staled s) (rd_staled s (by decide)) rfl rfl

/-- A stale heartbeat's effect, in the words of that state. -/
theorem execHeartbeatStale_eq (s : State) : execHeartbeatStale s = act s fun s =>
    if s.twin.aliveFresh = false then peerLost (staled s) 2
    else if followsPair (staled s) ∧ [0, 1, 2].any (fun r => decide (3 ≤ s.mac.missed.getD r 0)) then takeover (staled s) 3
    else if roleMode (staled s) = 9 then sourceLost (staled s)
    else staled s := rfl

/-- A lead of a pair whose peer is lost has lost its follower. -/
theorem peerLost_of_leads {s : State} (hfollows : followsPair s = false) (hleads : leadsPair s = true) (n : Nat) :
    peerLost s n = followerLost s := by
  simp [peerLost, hfollows, hleads]

/-- A lead whose follower is lost, before its report: back in SEARCHING, without a copy. -/
def leadAlone (s : State) : State := twinTo (dropCopy (bump s O.peer_lost)) 1

/-- The same with the automatic commit to SOLO asked for. -/
def soloAsked (s : State) : State :=
  { leadAlone s with epoch :=
    { (leadAlone s).epoch with autoWaiting := some (if packageBit s = 0 then 7 else 0, if packageBit s = 1 then 7 else 0) } }

/-- With no verdict held, losing the follower changes the pair state, asks for SOLO, and is reported. -/
theorem followerLost_of_none {s : State} (h : s.twin.rxpnHeld = []) : followerLost s = report (soloAsked s) 0x48 (twinHid s) 0 := by
  have hheld : (leadAlone s).twin.rxpnHeld = [] := (congrArg Twin.rxpnHeld (twin_twinTo _ _)).trans h
  unfold followerLost
  rw [show twinTo (dropCopy (bump s O.peer_lost)) 1 = leadAlone s from rfl, releaseHeld_of_none hheld]
  rfl

theorem rd_dropCopy (s : State) (k : Nat) : rd (dropCopy s) k = rd s k := rd_congr s _ k rfl rfl rfl rfl

theorem base_leadAlone (s : State) : base (leadAlone s) = base s := (base_twinTo _ 1).trans (by simp [base, dropCopy, setTwin])

/-- A lost follower leaves no other register than those of the pair state and its own count. -/
theorem rd_followerLost {s : State} (h : s.twin.rxpnHeld = []) {k : Nat} (hk : k ≠ O.msgs_dropped) :
    rd (followerLost s) k = rd (leadAlone s) k := by
  rw [followerLost_of_none h, rd_report _ _ _ _ _ hk]
  exact rd_congr _ _ _ rfl rfl rfl rfl

theorem base_followerLost {s : State} (h : s.twin.rxpnHeld = []) : base (followerLost s) = base s := by
  rw [followerLost_of_none h]
  exact (by simp [base, soloAsked] : base (report (soloAsked s) 0x48 (twinHid s) 0) = base (leadAlone s)).trans (base_leadAlone s)

theorem rd_leadAlone_peerLost (s : State) : rd (leadAlone s) O.peer_lost = min (rd s O.peer_lost + 1) 0xFFFFFFFF :=
  (rd_twinTo _ 1 (by decide)).trans ((rd_dropCopy _ _).trans (rd_bump_self s O.peer_lost))

/-! ### Lanes (R186) -/

/-- The state in which a lane has failed, before the pair state follows. -/
def laneLost (s : State) (lane : Nat) : State :=
  report (bump (wr (setTwin s { s.twin with training := setBit s.twin.training lane }) O.varlan_lanes (clrBit (rd s O.varlan_lanes) lane))
    O.lane_downs) 0x4C (laneHid s lane) 0

/-- A lane that fails, in the words of that state. -/
theorem execLaneDown_eq (lane : Fin 4) (s : State) : execLaneDown lane s = act s fun s =>
    if bit (rd s O.varlan_lanes) lane then
      if lanesUp (laneRefresh (laneLost s lane)) = 0 then unsync (laneRefresh (laneLost s lane)) else laneRefresh (laneLost s lane)
    else s := rfl

/-- The state in which a lane has trained, before the pair state follows. -/
def laneTrained (s : State) (lane : Nat) : State :=
  wr (setTwin s { s.twin with training := clrBit s.twin.training lane }) O.varlan_lanes (setBit (rd s O.varlan_lanes) lane)

/-- A lane that has trained, in the words of that state. -/
theorem execLaneUp_eq (lane : Fin 4) (s : State) : execLaneUp lane s = act s fun s =>
    if bit s.twin.training lane then drainVarlan (laneRefresh (laneTrained s lane)) (laneRefresh (laneTrained s lane)).miller.varlan
    else s := rfl

theorem rd_laneRefresh (s : State) {k : Nat} (hk : k ∉ [O.pair_state, O.pair_suspend_cause, O.msgs_dropped]) (hstate : k ≠ O.varlan_state) :
    rd (laneRefresh s) k = rd s k :=
  (rd_pairRefresh _ hk).trans (rd_wr_ne _ _ _ _ hstate)

@[simp] theorem twin_laneRefresh (s : State) : (laneRefresh s).twin = s.twin := (twin_pairRefresh _).trans rfl

@[simp] theorem miller_laneRefresh (s : State) : (laneRefresh s).miller = s.miller :=
  (view_pairRefresh (view := State.miller) (fun _ _ => rfl) (fun _ _ => rfl) _).trans rfl

theorem base_laneRefresh (s : State) : base (laneRefresh s) = base s := (base_pairRefresh _).trans rfl

theorem rd_laneLost_lanes (s : State) (lane : Nat) : rd (laneLost s lane) O.varlan_lanes = clrBit (rd s O.varlan_lanes) lane := by
  rw [laneLost, rd_report _ _ _ _ _ (by decide), rd_bump, if_neg (by decide), rd_wr_self]

theorem rd_laneLost_downs (s : State) (lane : Nat) : rd (laneLost s lane) O.lane_downs = min (rd s O.lane_downs + 1) 0xFFFFFFFF := by
  rw [laneLost, rd_report _ _ _ _ _ (by decide), rd_bump_self, rd_wr_ne _ _ _ _ (by decide)]
  exact congrArg (min · (topOf O.lane_downs)) (congrArg (· + 1) (rd_congr s _ _ rfl rfl rfl rfl))

/-- With two lanes up, one is left when a lane fails. -/
theorem lanesUp_laneLost {s : State} {lane : Fin 4} (hup : bit (rd s O.varlan_lanes) lane = true) (htwo : 2 ≤ lanesUp s) :
    lanesUp (laneRefresh (laneLost s lane)) ≠ 0 := by
  have hcount : popCount 4 (clrBit (rd s O.varlan_lanes) lane) + 1 = lanesUp s := popCount_clrBit lane.isLt hup
  rw [lanesUp, rd_laneRefresh _ (by decide) (by decide), rd_laneLost_lanes]
  omega

/-- A lane and the Varlan direct connection are different sources (R181). -/
theorem laneHid_ne_pairHid (s t : State) (hbase : base t = base s) (hstraps : t.boot.straps = s.boot.straps) (lane : Fin 4) :
    laneHid s lane ≠ hidOf t 0 2 4 0 := by
  have hfuse : t.fuse = s.fuse := congrArg Prod.fst hbase
  have hsystem : t.system = s.system := congrArg Prod.snd hbase
  have hpackage : packageBit t = packageBit s := by
    unfold packageBit twinRole twinRoleStrap
    rw [hfuse, hstraps]
  simp only [laneHid, hidOf, hsystem, hpackage]
  omega

/-- Settles O26: each event of the link has its rule, and what follows it is read through the rules of the pair state. -/
theorem varlanLinkComplete : Obligations.VarlanLinkComplete := by
  unfold Obligations.VarlanLinkComplete
  refine ⟨?_, ?_, ?_, ?_, ?_, ?_, ?_, ?_, ?_, ?_, ?_, ?_, ?_⟩
  · intro s hon htwin hlanes hboot
    refine completes_act (show execHeartbeatSend s = _ from rfl) hon ?_
    rw [if_neg htwin]
    exact ⟨varlanSend_out s 0 _ hlanes hboot, tx_varlanSend hlanes hboot 0 _⟩
  · intro s v h hheard hfault hstate hrole
    refine completes_heartbeat_lead hheard hfault hstate hrole ?_
    have hbase : base (pairRefresh (ackRecords (heartbeatKept (heardState s 0 v) h) h.mirrorAck)) = base s := base_pairRefresh _
    have hread : ∀ k ∈ [O.peer_mode, O.peer_present],
        rd (sealed s (pairRefresh (ackRecords (heartbeatKept (heardState s 0 v) h) h.mirrorAck))) k =
          rd (heartbeatKept (heardState s 0 v) h) k := fun k hk =>
      (rd_sealed_of_base hbase k).trans ((rd_pairRefresh _ (by revert k; decide)).trans
        (view_ackRecords (blind_rd k (by decide) (by decide)) _ _))
    obtain ⟨hmode, hpresent⟩ := peerShown hread
    simp only [sealed_fields, twin_pairRefresh]
    exact ⟨rfl, rfl, hmode, hpresent, rfl⟩
  · intro s v h hheard hfault hhears hstate hrole
    refine completes_heartbeat_unheard hheard hfault hhears hstate hrole ?_
    have hbase : base (pairRefresh (rephase (heartbeatKept (heardState s 0 v) h) h.phase)) = base s := base_pairRefresh _
    have hread : ∀ k ∈ [O.peer_mode, O.peer_present],
        rd (sealed s (pairRefresh (rephase (heartbeatKept (heardState s 0 v) h) h.phase))) k =
          rd (heartbeatKept (heardState s 0 v) h) k := fun k hk =>
      (rd_sealed_of_base hbase k).trans ((rd_pairRefresh _ (by revert k; decide)).trans (rd_rephase _ _ (by revert k; decide)))
    obtain ⟨hmode, hpresent⟩ := peerShown hread
    simp only [sealed_fields, twin_pairRefresh]
    exact ⟨rfl, rfl, hmode, hpresent⟩
  · intro s hon htwin
    refine completes_act (show execHeartbeatMissed s = _ from rfl) hon ?_
    rw [if_neg htwin, Counted, rd_sealed_of_base (by simp [base]), rd_bump_self]
    rfl
  · intro s hon halive hfollows hrole
    refine completes_act (execHeartbeatStale_eq s) hon ?_
    have hfollows' : ¬(followsPair (staled s) = true ∧ [0, 1, 2].any (fun r => decide (3 ≤ s.mac.missed.getD r 0)) = true) := by
      rw [followsPair_staled, hfollows]
      exact fun h => Bool.noConfusion h.1
    have hrole' : roleMode (staled s) ≠ 9 := by rwa [roleMode_staled]
    rw [if_neg (ne_false_of_eq_true halive), if_neg hfollows', if_neg hrole']
    have hread : ∀ k, rd (sealed s (staled s)) k = rd (staled s) k := rd_sealed_of_base rfl
    simp only [twinState, hread]
    exact ⟨rfl, (rd_wr_ne _ _ _ _ (by decide)).trans (rd_wr_self _ _ _), rd_wr_self _ _ _, rd_staled s (by decide)⟩
  · intro s hon halive hfollows hleads hheld
    refine completes_act (execHeartbeatStale_eq s) hon ?_
    have hlost : peerLost (staled s) 2 = followerLost (staled s) :=
      peerLost_of_leads ((followsPair_staled s).trans hfollows) ((leadsPair_staled s).trans hleads) 2
    rw [if_pos halive, hlost]
    have hnone : (staled s).twin.rxpnHeld = [] := hheld
    have hbase : base (followerLost (staled s)) = base s := (base_followerLost hnone).trans rfl
    simp only [twinState, Counted, rd_sealed_of_base hbase]
    rw [rd_followerLost hnone (by decide), rd_followerLost hnone (by decide), rd_leadAlone_peerLost, rd_staled s (by decide),
      followerLost_of_none hnone]
    refine ⟨?_, twinState_twinTo _ 1, rfl, ?_⟩
    · simp only [sealed_fields, report_fields, soloAsked, leadAlone, twin_twinTo]
      rfl
    · simp only [sealed_fields, report_fields, soloAsked, Option.isSome_some]
  · intro s hon htwin
    refine completes_act (show execAliveEdgeSend s = _ from rfl) hon ?_
    rw [if_neg htwin]
    exact ⟨rfl, rfl⟩
  · intro s hon htwin
    refine completes_act (show execAliveEdgeReceived s = _ from rfl) hon ?_
    rw [if_neg htwin]
    exact ⟨rfl, rfl⟩
  · intro s hon htwin hfresh
    refine completes_act (show execAliveSilent s = _ from rfl) hon ?_
    dsimp only
    rw [if_neg htwin, if_pos hfresh]
    refine ⟨by simp [setTwin], raised_report s (setTwin s _) _ _ _ rfl, ?_⟩
    exact (rd_sealed_of_base (by simp [base, setTwin]) _).trans (rd_report _ _ _ _ _ (by decide))
  · intro s l hon hup htwo
    refine completes_act (execLaneDown_eq l s) hon ?_
    rw [if_pos hup, if_neg (lanesUp_laneLost hup htwo)]
    have hbase : base (laneRefresh (laneLost s l)) = base s := (base_laneRefresh _).trans (by simp [base, laneLost, setTwin])
    simp only [Counted, rd_sealed_of_base hbase, sealed_fields, twin_laneRefresh]
    refine ⟨?_, ?_, ?_, ?_⟩
    · rw [rd_laneRefresh _ (by decide) (by decide), rd_laneLost_lanes]
      exact bit_clrBit _ _
    · simp only [laneLost, report_fields, bump_fields, wr_fields]
      exact bit_setBit_self _ _
    · rw [rd_laneRefresh _ (by decide) (by decide), rd_laneLost_downs]
    · refine raised_pairRefresh (raised_report s _ 0x4C (laneHid s l) 0 rfl) ?_
      exact laneHid_ne_pairHid s _ (by simp [base, laneLost, setTwin]) (by simp [laneLost, setTwin]) l
  · intro s l hon htraining hempty
    refine completes_act (execLaneUp_eq l s) hon ?_
    have hwaits : (laneRefresh (laneTrained s l)).miller.varlan = [] := (congrArg Miller.varlan (miller_laneRefresh _)).trans hempty
    rw [if_pos htraining, hwaits, drainVarlan]
    have hbase : base (setMiller (laneRefresh (laneTrained s l)) { (laneRefresh (laneTrained s l)).miller with varlan := [] }) = base s :=
      base_laneRefresh _
    rw [rd_sealed_of_base hbase]
    refine ⟨?_, ?_⟩
    · have hlanes : rd (laneRefresh (laneTrained s l)) O.varlan_lanes = setBit (rd s O.varlan_lanes) l :=
        (rd_laneRefresh _ (by decide) (by decide)).trans (rd_wr_self _ _ _)
      exact (congrArg (bit · l) ((rd_congr _ _ _ rfl rfl rfl rfl).trans hlanes)).trans (bit_setBit_self _ _)
    · exact (congrArg (fun x : Twin => bit x.training l) (twin_laneRefresh (laneTrained s l))).trans (bit_clrBit _ _)
  · intro s k hreach hlength
    refine completes_commandWith (show execPeerKeyWrite k s = _ from rfl) hreach ?_
    rw [if_neg (not_not.mpr hlength)]
    exact ⟨by simp, by simp, (rd_sealed_commanded (by simp [base]) _ _ _ _).trans (rd_wr_self _ _ _)⟩
  · intro s hreach
    refine completes_command (show execForget s = _ from rfl) hreach ?_
    exact ⟨by simp, by simp, (rd_sealed_commanded (by simp [base]) _ _ _ _).trans (rd_wr_self _ _ _)⟩

end Sys2Proof.Machine
end

section
/-! O27 refuted: a host queue's counters stand at objects that its number displaces, and a queue that no module has displaces one of them to
`rxpn_unacked`. -/

namespace Sys2Proof.Machine

/-- A null-data MPDU that has arrived in buffer 0: it is neither presented to the host nor handled by the MAC. -/
def nullArrived : Arrived :=
  { radio := 0, station := none, stamp := 0, buf := 0,
    mpdu := { kind := .nullData, fcsOk := true, length := 30, ra := [], ta := [], addr3 := [], addr4 := [], toDs := true, fromDs := false,
              duration := 0, retry := false, powerSave := false, endOfService := false, isProtected := true, extIv := true, header := 1, keyId := 0,
              pn := 1, mme := none, sn := 5, frag := 0, tid := none, noAck := false, form := .single, last := false, amsdu := false, body := [],
              bsr := none, rssi := -40 } }

/-- A write-back of 5 bytes moved. -/
def fiveBytes : WriteBack := { result := 0, length := 5, flags := 0, cookie := 0, port := 0, tid := 0, reason := 0, info := 0, stamp := 0 }

/-- A lead in UNSYNCED that holds the verdict of token 4 on that MPDU, while a descriptor of queue 12227 waits for the buffer's first leg: the
`bytes` object of that queue is the register of `rxpn_unacked`. -/
def displacedQueue : State :=
  { regs := [(O.package_mode, 8), (O.twin_state, 4)],
    twin := { rxpnHeld := [(4, 1)] },
    mac := { arrived := [(1, nullArrived)] },
    miller := { bufs := [(0, { onDie := 1, spilled := 0, reserved := false, held := false, legs := 1, stampFor := some (12227, 0) })] },
    hostq := [(12227, { held := [(0, fiveBytes, true)] })] }

/-- Refutes O27: as the wait ends, the verdict's buffer is freed, the descriptor that waited for it counts its 5 bytes, and `rxpn_unacked` reads
6 where one more than before is 1. -/
theorem not_mirrorAndPairingComplete : ¬ Obligations.MirrorAndPairingComplete := by
  unfold Obligations.MirrorAndPairingComplete
  rintro ⟨-, -, -, -, -, -, hexpire, -⟩
  obtain ⟨t, hexec, -, -, hcounted⟩ := hexpire displacedQueue 4 1 nullArrived (by decide) (by decide) (by decide) (by decide) (by decide)
    (by decide)
  have hruns : exec (.rxpnWaitExpire 4) displacedQueue = _ := act_on displacedQueue _ (by decide)
  have ht := Host.Outcome.next.inj (hruns.symm.trans hexec)
  rw [Counted, ← ht] at hcounted
  exact absurd hcounted (by decide)

end Sys2Proof.Machine
end

section
/-! The rules of the Steward: what a request is answered, what an activity leaves as it begins and ends, and the queue's scan. -/

namespace Sys2Proof.Machine

/-- Effects that agree on a state are the same on it. -/
theorem act_congr {s : State} {op op' : State → State} (h : op s = op' s) : act s op = act s op' := by
  rw [act, act, h]

/-! ### Registers of different sub-indices -/

theorem objKey_ne {i j a b : Nat} (ha : a < 256) (hb : b < 256) (h : a ≠ b) : objKey i a ≠ objKey j b := by
  simp only [objKey]
  omega

/-- A view of a register hides those of other sub-indices. -/
theorem hides_rd_sub {i j a b : Nat} (ha : a < 256) (hb : b < 256) (h : a ≠ b) : Hides (fun s => rd s (objKey i a)) (objKey j b) :=
  fun s v => rd_wr_ne s _ v _ (objKey_ne ha hb h)

/-! ### Starts and ends (R483) -/

section

variable {α : Type} {view : State → α}

theorem hidden_startActivity (hb : Blind view [.radios, .steward]) (hstate : ∀ r, Hides view (O.radio_state r))
    (hk : HidesAll view [O.region_status, O.dram_state]) (s : State) (e : Activity) (hruns : Hides view (O.act_runs e.activity)) :
    view (startActivity s e) = view s := by
  have hretrain : ∀ t, view (retrainStart t) = view t := fun t => by
    simp only [retrainStart, hk O.dram_state (by simp) _ _, hk O.region_status (by simp) _ _, hb.steward rfl]
  simp only [startActivity, apply_ite view, hidden_setRState (fun s x => hb.radios rfl s _) (hstate _), view_setRadio (hb.radios rfl),
    hretrain, hidden_bump hruns, ite_self]

theorem hidden_stopEngine (hb : Blind view [.radios]) (hstate : ∀ r, HidesAll view [O.synth_locked r, O.radio_state r])
    (hk : HidesAll view [O.region_status, O.dram_state]) (s : State) (e : Activity) : view (stopEngine s e) = view s := by
  have hradio : ∀ r, HidesRadio view r := fun r s x => hb.radios rfl s _
  have hretrain : ∀ t, view (retrainStop t) = view t := fun t => by
    simp only [retrainStop, apply_ite view, hk O.dram_state (by simp) _ _, hk O.region_status (by simp) _ _, ite_self]
  have hset : ∀ r t v, view (setRState t r v) = view t := fun r => hidden_setRState (hradio r) (hstate r (O.radio_state r) (by simp))
  simp only [stopEngine, apply_ite view, hidden_follow (hradio _) (hstate _), hset, hradio _ _ _, hretrain, ite_self]

theorem hidden_recordEnd (s : State) (e : Activity) (st : Status)
    (hk : HidesAll view [O.act_last_result e.activity, O.act_last_end e.activity, O.cal_result (activityRadio e.activity e.target)]) :
    view (recordEnd s e st) = view s := by
  simp only [recordEnd, apply_ite view, hk (O.cal_result (activityRadio e.activity e.target)) (by simp) _ _,
    hk (O.act_last_end e.activity) (by simp) _ _, hk (O.act_last_result e.activity) (by simp) _ _, ite_self]

end

/-- An end leaves its result. -/
theorem rd_recordEnd_result (s : State) (e : Activity) (st : Status) : rd (recordEnd s e st) (O.act_last_result e.activity) = st.code := by
  have hcal : ∀ (u : State) r v, rd (wr u (O.cal_result r) v) (O.act_last_result e.activity) = rd u (O.act_last_result e.activity) :=
    fun u r v => hides_rd_sub (by decide) (by decide) (by decide) u v
  unfold recordEnd
  rw [apply_ite (fun u => rd u (O.act_last_result e.activity))]
  simp only [hcal, ite_self]
  exact (rd_wr_ne _ _ _ _ (objKey_ne (by decide) (by decide) (by decide))).trans (rd_wr_self _ _ _)

/-- An end leaves a register of another sub-index than those of its record. -/
theorem rd_recordEnd (s : State) (e : Activity) (st : Status) {i j : Nat} (hj : j < 256) (hne : j ≠ 2 ∧ j ≠ 3 ∧ j ≠ 4) :
    rd (recordEnd s e st) (objKey i j) = rd s (objKey i j) := by
  obtain ⟨hresult, hend, hcal⟩ := hne
  refine hidden_recordEnd (view := fun u => rd u (objKey i j)) s e st ?_
  simp only [HidesAll, List.forall_mem_cons, List.not_mem_nil, false_implies, implies_true, and_true]
  exact ⟨hides_rd_sub hj (by decide) hresult, hides_rd_sub hj (by decide) hend, hides_rd_sub hj (by decide) hcal⟩

/-- A stop leaves a register of another sub-index than those of a radio's state and of the DRAM. -/
theorem rd_stopEngine (s : State) (e : Activity) {i j : Nat} (hj : j < 256) (hne : j ≠ 2 ∧ j ≠ 6)
    (hk : objKey i j ∉ [O.region_status, O.dram_state]) : rd (stopEngine s e) (objKey i j) = rd s (objKey i j) := by
  refine hidden_stopEngine (view := fun u => rd u (objKey i j)) (blind_rd _ (by decide) (by decide)) (fun r => ?_) (hidesAll_rd hk) s e
  simp only [HidesAll, List.forall_mem_cons, List.not_mem_nil, false_implies, implies_true, and_true]
  exact ⟨hides_rd_sub hj (by decide) hne.2, hides_rd_sub hj (by decide) hne.1⟩

/-! ### The tables (R478, R485) -/

/-- The Steward's tables but the regions that a retrain takes: what runs, what is in flight, what waits, and the lead's request. -/
def tablesOf (s : State) : List Activity × Option Activity × List Activity × Bool :=
  (s.steward.running, s.steward.inflight, s.steward.queue, s.steward.waitingPeer)

/-- An activity that begins leaves the tables. -/
theorem tablesOf_startActivity (s : State) (e : Activity) : tablesOf (startActivity s e) = tablesOf s := by
  have hretrain : ∀ t, tablesOf (retrainStart t) = tablesOf t := fun _ => rfl
  simp only [startActivity, apply_ite tablesOf, view_setRState (view := tablesOf) (fun _ _ => rfl) (fun _ _ => rfl),
    view_setRadio (view := tablesOf) (fun _ _ => rfl), hretrain, view_bump (view := tablesOf) (fun _ _ => rfl), ite_self]

/-- An activity that is taken runs, and leaves the other tables. -/
theorem tablesOf_enterRunning (s : State) (e : Activity) : ∃ o : Activity, o.activity = e.activity ∧ o.target = e.target ∧
    tablesOf (enterRunning s e) = (s.steward.running ++ [o], s.steward.inflight, s.steward.queue, s.steward.waitingPeer) := by
  unfold enterRunning
  dsimp only
  split
  · exact ⟨{ e with state := 2, late := s.planClosed }, rfl, rfl, rfl⟩
  · exact ⟨{ e with state := 3, since := tbNs s }, rfl, rfl, (tablesOf_startActivity _ _).trans rfl⟩

/-- Whether an activity is among some. -/
def listed (a target : Nat) (l : List Activity) : Bool := l.any (fun o => decide (o.activity = a ∧ o.target = target))

theorem listed_append (a target : Nat) (l m : List Activity) : listed a target (l ++ m) = (listed a target l || listed a target m) :=
  List.any_append

theorem listed_singleton {o : Activity} {a target : Nat} (ha : o.activity = a) (ht : o.target = target) : listed a target [o] = true := by
  simp [listed, ha, ht]

theorem running_enterRunning (s : State) (e : Activity) : listed e.activity e.target (enterRunning s e).steward.running = true := by
  obtain ⟨o, ha, ht, htables⟩ := tablesOf_enterRunning s e
  have hruns : (enterRunning s e).steward.running = s.steward.running ++ [o] := congrArg Prod.fst htables
  rw [hruns, listed_append, listed_singleton ha ht, Bool.or_true]

theorem inflight_enterRunning (s : State) (e : Activity) : (enterRunning s e).steward.inflight = s.steward.inflight := by
  obtain ⟨o, -, -, htables⟩ := tablesOf_enterRunning s e
  exact congrArg (fun x => x.2.1) htables

theorem waitingPeer_enterRunning (s : State) (e : Activity) : (enterRunning s e).steward.waitingPeer = s.steward.waitingPeer := by
  obtain ⟨o, -, -, htables⟩ := tablesOf_enterRunning s e
  exact congrArg (fun x => x.2.2.2) htables

theorem base_enterRunning (s : State) (e : Activity) : base (enterRunning s e) = base s :=
  view_enterRunning (view := base) (fun _ _ => rfl) (fun _ _ => rfl) (fun _ _ => rfl) s e

/-- An activity that is taken is counted. -/
theorem rd_enterRunning_admitted (s : State) (e : Activity) :
    rd (enterRunning s e) O.maint_admitted = min (rd s O.maint_admitted + 1) 0xFFFFFFFF := by
  have hstart : ∀ t, rd (startActivity t e) O.maint_admitted = rd t O.maint_admitted := fun t =>
    hidden_startActivity (view := fun u => rd u O.maint_admitted) (blind_rd _ (by decide) (by decide))
      (fun r => hides_rd_sub (by decide) (by decide) (by decide)) (hidesAll_rd (by decide)) t e (hides_rd_sub (by decide) (by decide) (by decide))
  have hcounted : ∀ x : Steward, rd { bump s O.maint_admitted with steward := x } O.maint_admitted = min (rd s O.maint_admitted + 1) 0xFFFFFFFF :=
    fun x => (rd_congr _ _ _ rfl rfl rfl rfl).trans (rd_bump_self s O.maint_admitted)
  unfold enterRunning
  dsimp only
  split
  · exact hcounted _
  · exact (hstart _).trans (hcounted _)

/-- A JOINT_ALIGN of a lead is in flight, and every other activity runs. -/
theorem admitActivity_of_other {e : Activity} (h : e.activity ≠ 4) (s : State) : admitActivity s e = enterRunning s e :=
  if_neg fun hlead => h hlead.1

theorem steward_varlanSend (s : State) (c : Nat) (m : VMsg) : (varlanSend s c m).steward = s.steward := by simp

theorem steward_admitActivity_align {s : State} {e : Activity} (h : e.activity = 4) (hrole : roleMode s = 8) :
    (admitActivity s e).steward = { s.steward with inflight := some e, answeredWait := false } := by
  rw [admitActivity, if_pos ⟨h, hrole⟩, steward_varlanSend]

/-- What is admitted is among what runs (R481). -/
theorem runningNow_admitActivity (s : State) (e : Activity) : listed e.activity e.target (runningNow (admitActivity s e)) = true := by
  by_cases hlead : e.activity = 4 ∧ roleMode s = 8
  · rw [runningNow, steward_admitActivity_align hlead.1 hlead.2, listed_append]
    simp [listed]
  · rw [admitActivity, if_neg hlead, runningNow, listed_append, running_enterRunning, Bool.true_or]

/-- With nothing queued and no request of the lead waiting, the scan finds nothing. -/
theorem scanQueue_idle {s : State} (hqueue : s.steward.queue = []) (hwaiting : s.steward.waitingPeer = false) : scanQueue s = s := by
  have hscan : scanFrom s [] s.steward.queue = s := by
    rw [hqueue, scanFrom, ← hqueue]
  simp only [scanQueue, hscan, hwaiting, Bool.false_and, Bool.false_eq_true, if_false]

/-! ### Requests (R480) -/

/-- The entry of a new request. -/
def requested (s : State) (a target requester kind : Nat) : Activity :=
  { activity := a, target := target, requester := requester, kind := kind, state := 1, since := tbNs s, late := false }

/-- A request is refused with the state as it was, is queued already, is admitted, or enters the queue. -/
theorem stewardRequest_cases (s : State) (a target requester kind : Nat) :
    (∃ st, st ≠ .ok ∧ st ≠ .deferred ∧ stewardRequest s a target requester kind = (st, s)) ∨
    (listed a target s.steward.queue = true ∧ stewardRequest s a target requester kind = (.deferred, s)) ∨
    stewardRequest s a target requester kind = (.ok, admitActivity s (requested s a target requester kind)) ∨
    stewardRequest s a target requester kind = (.deferred, bump { s with steward :=
      { s.steward with queue := s.steward.queue ++ [requested s a target requester kind] } } O.maint_deferred) := by
  unfold stewardRequest
  split
  · exact .inl ⟨_, by decide, by decide, rfl⟩
  split
  · exact .inl ⟨_, by decide, by decide, rfl⟩
  split
  · exact .inl ⟨_, by decide, by decide, rfl⟩
  split
  · exact .inl ⟨_, by decide, by decide, rfl⟩
  split
  next hqueued => exact .inr (.inl ⟨hqueued, rfl⟩)
  dsimp only
  split
  · exact .inr (.inr (.inl rfl))
  · exact .inr (.inr (.inr rfl))

/-- A request that is answered OK is admitted. -/
theorem stewardRequest_of_ok {s : State} {a target requester kind : Nat} (h : (stewardRequest s a target requester kind).1 = .ok) :
    stewardRequest s a target requester kind = (.ok, admitActivity s (requested s a target requester kind)) := by
  rcases stewardRequest_cases s a target requester kind with ⟨st, hok, -, heq⟩ | ⟨-, heq⟩ | heq | heq
  · exact absurd (by rwa [heq] at h) hok
  · rw [heq] at h
    cases h
  · exact heq
  · rw [heq] at h
    cases h

/-- A request that is answered DEFERRED waits. -/
theorem queue_stewardRequest_of_deferred {s : State} {a target requester kind : Nat}
    (h : (stewardRequest s a target requester kind).1 = .deferred) :
    listed a target (stewardRequest s a target requester kind).2.steward.queue = true := by
  rcases stewardRequest_cases s a target requester kind with ⟨st, -, hdeferred, heq⟩ | ⟨hqueued, heq⟩ | heq | heq
  · exact absurd (by rwa [heq] at h) hdeferred
  · rw [heq]
    exact hqueued
  · rw [heq] at h
    cases h
  · rw [heq]
    simp only [bump_fields]
    rw [listed_append, show listed a target [requested s a target requester kind] = true from listed_singleton rfl rfl, Bool.or_true]

/-- A request that is answered RANGE changes nothing. -/
theorem stewardRequest_of_range {s : State} {a target requester kind : Nat} (h : (stewardRequest s a target requester kind).1 = .range) :
    stewardRequest s a target requester kind = (.range, s) := by
  rcases stewardRequest_cases s a target requester kind with ⟨st, -, -, heq⟩ | ⟨-, heq⟩ | heq | heq
  · rw [heq] at h ⊢
    exact congrArg (·, s) h
  · rw [heq] at h
    cases h
  · rw [heq] at h
    cases h
  · rw [heq] at h
    cases h

/-- A unit's request that is answered OK is admitted. -/
theorem stewardRaise_of_ok {s : State} {a target requester kind : Nat} (h : (stewardRequest s a target requester kind).1 = .ok) :
    stewardRaise s a target requester kind = admitActivity s (requested s a target requester kind) := by
  rw [stewardRaise, stewardRequest_of_ok h]

/-- A unit's request that is answered RANGE is counted and reported. -/
theorem stewardRaise_of_range {s : State} {a target requester kind : Nat} (h : (stewardRequest s a target requester kind).1 = .range) :
    stewardRaise s a target requester kind = report (bump s O.maint_refused) 0x81 (stewardHid s) (a + target * 256) := by
  rw [stewardRaise, stewardRequest_of_range h]

end Sys2Proof.Machine
end

section
/-! Maintenance completes (O36). -/

namespace Sys2Proof.Machine

/-- A command's value and status leave the Steward as its effect does. -/
theorem steward_sealed_commanded (s : State) (k : Nat) (o : Octets) (r : Status × State) :
    (sealed s (commanded k o r)).steward = r.2.steward := by
  simp

/-! ### Ends of the running activity (R483) -/

theorem findRunning_alone {s : State} {e : Activity} (h : s.steward.running = [e]) : findRunning s e.activity e.target = some e := by
  simp [findRunning, h]

theorem running_dropRunning_alone {s : State} {e : Activity} (h : s.steward.running = [e]) :
    (dropRunning s e.activity e.target).steward.running = [] := by
  simp [dropRunning, h]

/-- The state in which an activity has left its result and its end. -/
def endRecorded (s : State) (e : Activity) (r : ActivityReport) : State :=
  wr (wr (dropRunning s e.activity e.target) (O.act_last_result e.activity) (endResult s e r)) (O.act_last_end e.activity) (now80 s)

/-- Beyond that, a MEM_SURVEY tells of its weak words. -/
def endReported (s : State) (e : Activity) (r : ActivityReport) : State :=
  if e.activity = 7 then
    { endRecorded s e r with survey := { s.survey with weak := s.survey.weak.put (hidRegion e.target) r.weak } }
  else endRecorded s e r

theorem view_endReported {α : Type} {view : State → α} (hb : Blind view [.survey]) (s : State) (e : Activity) (r : ActivityReport) :
    view (endReported s e r) = view (endRecorded s e r) := by
  unfold endReported
  split
  · exact hb.survey rfl _ _
  · rfl

theorem base_endReported (s : State) (e : Activity) (r : ActivityReport) : base (endReported s e r) = base s :=
  view_endReported (blind_base _) s e r

theorem steward_endReported (s : State) (e : Activity) (r : ActivityReport) :
    (endReported s e r).steward = (dropRunning s e.activity e.target).steward :=
  view_endReported (view := State.steward) (Blind.of_forall fun _ _ => rfl) s e r

theorem rd_endReported (s : State) (e : Activity) (r : ActivityReport) (k : Nat) : rd (endReported s e r) k = rd (endRecorded s e r) k :=
  view_endReported (blind_rd k (by decide) (by decide)) s e r

/-- Once its engine is done, an activity that runs alone ends with its result. -/
theorem execActivityEnd_alone {s : State} {e : Activity} {r : ActivityReport} (hrunning : s.steward.running = [e])
    (hdone : engineDone s e = true) (halign : e.activity ≠ 4) (hsurvey : e.activity ≠ 6) :
    execActivityEnd e.activity e.target r s = act s fun _ => scanQueue (endReported s e r) := by
  refine act_congr ?_
  rw [findRunning_alone hrunning]
  dsimp only
  rw [if_pos hdone, if_neg halign, if_neg hsurvey]
  rfl

/-- Then nothing queued starts. -/
theorem completes_activityEnd {s : State} {e : Activity} {r : ActivityReport} {P : State → Prop} (hon : hubOn s = true)
    (hrunning : s.steward.running = [e]) (hqueue : s.steward.queue = []) (hwaiting : s.steward.waitingPeer = false)
    (hdone : engineDone s e = true) (halign : e.activity ≠ 4) (hsurvey : e.activity ≠ 6) (hP : P (sealed s (endReported s e r))) :
    Completes (.activityEnd e.activity e.target r) s P := by
  have hsteward := steward_endReported s e r
  refine completes_act (op := fun _ => scanQueue (endReported s e r)) (execActivityEnd_alone hrunning hdone halign hsurvey) hon ?_
  rwa [scanQueue_idle ((congrArg Steward.queue hsteward).trans hqueue) ((congrArg Steward.waitingPeer hsteward).trans hwaiting)]

/-- The state in which an activity has been stopped at its bound. -/
def boundEnded (s : State) (e : Activity) : State :=
  recordEnd (stopEngine (bump (dropRunning s e.activity e.target) O.maint_timeouts) e) e .timeout

theorem steward_boundEnded (s : State) (e : Activity) : (boundEnded s e).steward = (dropRunning s e.activity e.target).steward :=
  (view_recordEnd (view := State.steward) (fun _ _ => rfl) _ _ _).trans
    ((view_stopEngine (view := State.steward) (fun _ _ => rfl) (fun _ _ => rfl) _ _).trans rfl)

theorem tinker_boundEnded (s : State) (e : Activity) : (boundEnded s e).tinker = s.tinker :=
  (view_recordEnd (view := State.tinker) (fun _ _ => rfl) _ _ _).trans
    ((view_stopEngine (view := State.tinker) (fun _ _ => rfl) (fun _ _ => rfl) _ _).trans rfl)

theorem base_boundEnded (s : State) (e : Activity) : base (boundEnded s e) = base s :=
  (view_recordEnd (view := base) (fun _ _ => rfl) _ _ _).trans
    ((view_stopEngine (view := base) (fun _ _ => rfl) (fun _ _ => rfl) _ _).trans rfl)

theorem rd_boundEnded_timeouts (s : State) (e : Activity) :
    rd (boundEnded s e) O.maint_timeouts = min (rd s O.maint_timeouts + 1) 0xFFFFFFFF :=
  (rd_recordEnd _ _ _ (by decide) (by decide)).trans
    ((rd_stopEngine _ _ (by decide) (by decide) (by decide)).trans (rd_bump_self (dropRunning s e.activity e.target) _))

/-- A bound that passes stops the activity that runs alone, and is reported. -/
theorem completes_activityBound {s : State} {e : Activity} {P : State → Prop} (hon : hubOn s = true) (hrunning : s.steward.running = [e])
    (hqueue : s.steward.queue = []) (hwaiting : s.steward.waitingPeer = false) (hruns : e.state = 3) (hchain : e.activity ≠ 3)
    (hP : P (sealed s (report (boundEnded s e) 0x80 (stewardHid s) (e.activity + e.target * 256)))) :
    Completes (.activityBound e.activity e.target) s P := by
  have hexec : execActivityBound e.activity e.target s =
      act s fun s => scanQueue (report (boundEnded s e) 0x80 (stewardHid s) (e.activity + e.target * 256)) := by
    refine act_congr ?_
    rw [findRunning_alone hrunning]
    dsimp only
    rw [if_pos ⟨hruns, hchain⟩]
    rfl
  refine completes_act (op := fun s => scanQueue (report (boundEnded s e) 0x80 (stewardHid s) (e.activity + e.target * 256))) hexec hon ?_
  have hsteward : (report (boundEnded s e) 0x80 (stewardHid s) (e.activity + e.target * 256)).steward =
      (dropRunning s e.activity e.target).steward := by simp [steward_boundEnded]
  rwa [scanQueue_idle ((congrArg Steward.queue hsteward).trans hqueue) ((congrArg Steward.waitingPeer hsteward).trans hwaiting)]

/-! ### Entries that are taken, and that leave the queue (R482, R492) -/

theorem counted_enterRunning {s u : State} (hbase : base u = base s) (hkept : rd u O.maint_admitted = rd s O.maint_admitted) (e : Activity) :
    Counted s (sealed s (enterRunning u e)) O.maint_admitted := by
  rw [Counted, rd_sealed_of_base ((base_enterRunning u e).trans hbase), rd_enterRunning_admitted, hkept]

/-- The state in which the requested activity has been taken out of the queue. -/
def cancelled (s : State) (e : Activity) : State :=
  recordEnd { s with steward := { s.steward with queue := s.steward.queue.filter (fun o =>
    !(decide (o.activity = rd s O.mreq_activity) && decide (o.target = rd s O.mreq_target))) } } e .denied

theorem maintCancel_of_queued {s : State} {e : Activity}
    (hrunning : (runningNow s).any (fun o => decide (o.activity = rd s O.mreq_activity ∧ o.target = rd s O.mreq_target)) = false)
    (hqueued : s.steward.queue.find? (fun o => decide (o.activity = rd s O.mreq_activity ∧ o.target = rd s O.mreq_target)) = some e) :
    maintCancel s = (.ok, cancelled s e) := by
  rw [maintCancel]
  dsimp only
  rw [if_neg (Bool.eq_false_iff.mp hrunning), hqueued]
  rfl

theorem base_cancelled (s : State) (e : Activity) : base (cancelled s e) = base s :=
  view_recordEnd (view := base) (fun _ _ => rfl) _ e _

theorem queue_cancelled (s : State) (e : Activity) :
    listed (rd s O.mreq_activity) (rd s O.mreq_target) (cancelled s e).steward.queue = false := by
  have hsteward := view_recordEnd (view := State.steward) (fun _ _ => rfl) { s with steward := { s.steward with
    queue := s.steward.queue.filter (fun o => !(decide (o.activity = rd s O.mreq_activity) && decide (o.target = rd s O.mreq_target))) } } e .denied
  rw [cancelled, hsteward]
  simp only [← Bool.decide_and]
  exact any_filter_not _ _

/-- The state in which an entry has left the queue at its limit. -/
def limitEnded (s : State) (i : Nat) (e : Activity) : State :=
  bump (recordEnd { s with steward := { s.steward with queue := s.steward.queue.eraseIdx i } } e .timeout) O.maint_expired

theorem view_limitEnded {α : Type} {view : State → α} (hb : Blind view [.regs]) (s : State) (i : Nat) (e : Activity) :
    view (limitEnded s i e) = view { s with steward := { s.steward with queue := s.steward.queue.eraseIdx i } } := by
  rw [limitEnded, view_bump (hb.regs rfl), view_recordEnd (hb.regs rfl)]

theorem rd_limitEnded_expired (s : State) (i : Nat) (e : Activity) :
    rd (limitEnded s i e) O.maint_expired = min (rd s O.maint_expired + 1) 0xFFFFFFFF := by
  rw [limitEnded, rd_bump_self, rd_recordEnd _ _ _ (by decide) (by decide)]
  rfl

/-! ### The day's close (R490, R491) -/

theorem item_setItem (s : State) (j i : Nat) (m : MarginItem) : item (setItem s j m) i = if i = j then m else item s i :=
  Tab.getD_put _ _ _ _ _

theorem day_closeDay (s : State) (i : Nat) : (closeDay s i).survey.day = s.survey.day := by
  unfold closeDay
  dsimp only
  split <;> rfl

theorem day_closeDays (s : State) (l : List Nat) : (l.foldl closeDay s).survey.day = s.survey.day :=
  foldl_view (fun t => t.survey.day) day_closeDay l s

theorem count_closeDay_self (s : State) (i : Nat) : (item (closeDay s i) i).count = 0 := by
  unfold closeDay
  dsimp only
  split
  next hempty => exact hempty
  next => rw [item_setItem, if_pos rfl]

/-- Sums that are empty stay empty as days are closed. -/
theorem count_closeDay_of_empty {s : State} {i : Nat} (h : (item s i).count = 0) (j : Nat) : (item (closeDay s j) i).count = 0 := by
  by_cases hij : i = j
  · rw [hij]
    exact count_closeDay_self s j
  · unfold closeDay
    dsimp only
    split
    · exact h
    · rw [item_setItem, if_neg hij]
      exact h

theorem count_closeDays_of_empty {s : State} {i : Nat} (h : (item s i).count = 0) (l : List Nat) :
    (item (l.foldl closeDay s) i).count = 0 := by
  induction l generalizing s with
  | nil => exact h
  | cons j l ih => exact ih (count_closeDay_of_empty h j)

theorem count_closeDays {l : List Nat} {i : Nat} (hi : i ∈ l) (s : State) : (item (l.foldl closeDay s) i).count = 0 := by
  induction l generalizing s with
  | nil => simp at hi
  | cons j l ih =>
    rcases List.mem_cons.mp hi with rfl | hmem
    · exact count_closeDays_of_empty (count_closeDay_self s i) l
    · exact ih hmem _

/-- The margins' sums and the day, which the life estimate leaves. -/
def sumsOf (s : State) : Tab MarginItem × Nat := (s.survey.items, s.survey.day)

theorem sumsOf_lifeEstimate (s : State) : sumsOf (lifeEstimate s) = sumsOf s := by
  have hregs : ∀ t x, sumsOf { t with regs := x } = sumsOf t := fun _ _ => rfl
  have hwarned : ∀ t b, sumsOf { t with survey := { t.survey with warned := b } } = sumsOf t := fun _ _ => rfl
  have htrends : ∀ (l : List Nat) t, sumsOf (l.foldl (fun t i =>
      if itemFitted s.fuse.part i then wr (wr t (O.mi_next_step i) (itemLife t i).1) (O.mi_life i) (itemLife t i).2 else t) t) = sumsOf t :=
    fun l t => view_foldl (view := sumsOf) (fun u i => by simp only [apply_ite sumsOf, view_wr hregs, ite_self]) l t
  simp only [lifeEstimate, apply_ite sumsOf, view_report (view := sumsOf) hregs (fun _ _ => rfl), hwarned, view_wr hregs, htrends, ite_self]

theorem day_lifeEstimate (s : State) : (lifeEstimate s).survey.day = s.survey.day := congrArg Prod.snd (sumsOf_lifeEstimate s)

theorem item_lifeEstimate (s : State) (i : Nat) : item (lifeEstimate s) i = item s i :=
  congrArg (fun x : Tab MarginItem × Nat => x.1.getD i {}) (sumsOf_lifeEstimate s)

/-- The day that follows. -/
def nextDay (s : State) : State := { s with survey := { s.survey with day := s.survey.day + 1 } }

theorem day_nextDay (s : State) : (nextDay s).survey.day = s.survey.day + 1 := rfl

theorem item_nextDay (s : State) (i : Nat) : item (nextDay s) i = item s i := rfl

theorem item_sealed (s t : State) (i : Nat) : item (sealed s t) i = item t i := rfl

/-- A message that is heard leaves what the Steward's table admits. -/
theorem alignFits_heardState (s : State) (c : Nat) (v : VHead) : alignFits (heardState s c v) = alignFits s := by
  have hmax := rd_heardState s c v O.radio_wide_max
  unfold alignFits fits
  rw [hmax]
  rfl

/-- Settles O36: a request by the cases of its answer, an end by what it records, and the rest by the tables that each event changes. -/
theorem maintenanceComplete : Obligations.MaintenanceComplete := by
  unfold Obligations.MaintenanceComplete
  refine ⟨?_, ?_, ?_, ?_, ?_, ?_, ?_, ?_, ?_, ?_, ?_, ?_, ?_, ?_, ?_, ?_⟩
  · intro s hreach
    refine completes_command (show execMaintRequest none s = _ from rfl) hreach ?_
    refine ⟨by simp, fun hok => ?_, fun hdeferred => ?_⟩
    · simp only [sealed_fields, commanded_status] at hok
      rw [runningNow, steward_sealed_commanded, stewardRequest_of_ok hok]
      exact runningNow_admitActivity s _
    · simp only [sealed_fields, commanded_status] at hdeferred
      rw [steward_sealed_commanded]
      exact queue_stewardRequest_of_deferred hdeferred
  · intro s x hon hrange
    refine completes_act (show execMaintRequest (some x) s = _ from rfl) hon ?_
    dsimp only
    rw [stewardRaise_of_range hrange]
    refine ⟨?_, raised_report s _ _ _ _ (by simp), by simp⟩
    exact (rd_sealed_of_base (by simp [base]) _).trans ((rd_report _ _ _ _ _ (by decide)).trans (rd_bump_self s _))
  · intro s e hreach hrunning hqueued
    refine completes_command (show execMaintCancel s = _ from rfl) hreach ?_
    obtain ⟨hactivity, -⟩ : e.activity = rd s O.mreq_activity ∧ e.target = rd s O.mreq_target := by simpa using List.find?_some hqueued
    rw [maintCancel_of_queued hrunning hqueued, rd_sealed_commanded (base_cancelled s e), steward_sealed_commanded]
    exact ⟨by simp, hactivity ▸ rd_recordEnd_result _ e _, queue_cancelled s e⟩
  · intro s e r hon hrunning hqueue hwaiting hdone halign hsurvey
    refine completes_activityEnd hon hrunning hqueue hwaiting hdone halign hsurvey ?_
    rw [rd_sealed_of_base (base_endReported s e r), rd_sealed_of_base (base_endReported s e r), rd_endReported, rd_endReported]
    refine ⟨?_, ?_, rd_wr_self _ _ _⟩
    · exact (congrArg Steward.running (steward_endReported s e r)).trans (running_dropRunning_alone hrunning)
    · exact (rd_wr_ne _ _ _ _ (objKey_ne (by decide) (by decide) (by decide))).trans (rd_wr_self _ _ _)
  · intro s e hon hrunning hqueue hwaiting hruns hchain
    refine completes_activityBound hon hrunning hqueue hwaiting hruns hchain ?_
    have hread : ∀ k, k ≠ O.msgs_dropped →
        rd (sealed s (report (boundEnded s e) 0x80 (stewardHid s) (e.activity + e.target * 256))) k = rd (boundEnded s e) k := fun k hk =>
      (rd_sealed_of_base ((by simp [base] : base (report (boundEnded s e) _ _ _) = base (boundEnded s e)).trans (base_boundEnded s e)) k).trans
        (rd_report _ _ _ _ _ hk)
    rw [Counted, hread _ (by decide), hread _ (objKey_ne (by decide) (by decide) (by decide)), rd_boundEnded_timeouts]
    refine ⟨?_, rfl, rd_recordEnd_result _ _ _, raised_report s _ _ _ _ (tinker_boundEnded s e)⟩
    simpa [steward_boundEnded] using running_dropRunning_alone hrunning
  · intro s i e hon hqueued
    refine completes_act (show execQueueLimitExpire i s = _ from rfl) hon ?_
    rw [hqueued]
    change (fun t => t.steward.queue = s.steward.queue.eraseIdx i ∧ Counted s t O.maint_expired ∧ Raised s t 0x80 (stewardHid s))
      (sealed s (report (limitEnded s i e) 0x80 (stewardHid s) (e.activity + e.target * 256)))
    have hbase : base (report (limitEnded s i e) 0x80 (stewardHid s) (e.activity + e.target * 256)) = base s :=
      (by simp [base] : base (report (limitEnded s i e) _ _ _) = base (limitEnded s i e)).trans (view_limitEnded (blind_base _) s i e)
    have htinker : (limitEnded s i e).tinker = s.tinker := view_limitEnded (view := State.tinker) (Blind.of_forall fun _ _ => rfl) s i e
    refine ⟨?_, ?_, raised_report s _ _ _ _ htinker⟩
    · simpa using congrArg Steward.queue (view_limitEnded (view := State.steward) (Blind.of_forall fun _ _ => rfl) s i e)
    · rw [Counted, rd_sealed_of_base hbase, rd_report _ _ _ _ _ (by decide), rd_limitEnded_expired]
  · intro s v e hheard hinflight
    refine completes_heard (show execAlignAnswer v true s = _ from rfl) hheard ?_
    have hinflight' : (heardState s 1 v).steward.inflight = some e := hinflight
    rw [hinflight']
    dsimp only
    rw [if_pos rfl]
    refine ⟨inflight_enterRunning _ _, running_enterRunning _ { e with since := tbNs (heardState s 1 v) }, ?_⟩
    apply counted_enterRunning
    · rfl
    · exact rd_congr _ _ _ rfl rfl rfl rfl
  · intro s v e hheard hinflight
    refine completes_heard (show execAlignAnswer v false s = _ from rfl) hheard ?_
    have hinflight' : (heardState s 1 v).steward.inflight = some e := hinflight
    rw [hinflight']
    rfl
  · intro s e hon hinflight hanswered
    refine completes_act (show execAlignAnswerTimeout s = _ from rfl) hon ?_
    rw [if_neg (Bool.eq_false_iff.mp hanswered), alignBack, hinflight]
    refine ⟨by simp, by simp, ?_⟩
    rw [Counted, rd_sealed_of_base (by simp [base]), rd_bump_self]
    rfl
  · intro s hon hpaired hrole hstate hok
    refine completes_act (show execAlignTimer s = _ from rfl) hon ?_
    have hadmitted : admittedIn s 4 0 = true := by simp [admittedIn, hrole, hstate]
    rw [hpaired, hadmitted, Bool.true_and, if_pos rfl, stewardRaise_of_ok hok]
    simp only [sealed_fields, steward_admitActivity_align (e := requested s 4 _ _ _) rfl hrole, Option.isSome_some, and_self]
  · intro s hon hok
    refine completes_act (show execSurveyTimer s = _ from rfl) hon ?_
    rw [stewardRaise_of_ok hok, admitActivity_of_other (by simp [requested])]
    exact running_enterRunning s (requested s 6 (packageHid s) _ 0)
  · intro s g hon hregion hok
    refine completes_act (show execMemSurveyTimer s = _ from rfl) hon ?_
    rw [hregion, List.foldl_cons, List.foldl_nil, stewardRaise_of_ok hok, admitActivity_of_other (by simp [requested])]
    exact running_enterRunning s (requested s 7 (hidOf s 0 g 63 255) _ 0)
  · intro s hon
    refine completes_act (op := fun s => nextDay (lifeEstimate ((List.range 24).foldl closeDay s))) (show execDailyMean s = _ from rfl) hon ?_
    refine ⟨?_, fun i => ?_⟩
    · simp only [sealed_fields, day_nextDay, day_lifeEstimate, day_closeDays]
    · rw [item_sealed, item_nextDay, item_lifeEstimate]
      exact count_closeDays (List.mem_range.mpr i.isLt) s
  · intro s hon haligned
    refine completes_act (show execAlignAgeExpire s = _ from rfl) hon ?_
    rw [if_pos haligned]
    simp only [sealed_fields, twin_pairRefresh, and_self]
  · intro s v hheard hrole hfits
    refine completes_heard (show execAlignRequestReceived v s = _ from rfl) hheard ?_
    have hrole' : roleMode (heardState s 1 v) = 9 := (roleMode_congr (rd_heardState _ _ _ _) (rd_heardState _ _ _ _)).trans hrole
    have hfits' : alignFits (heardState s 1 v) = true := (alignFits_heardState s 1 v).trans hfits
    have hsent : ∀ u m, (sealed s (varlanSend u 1 m)).steward = u.steward := fun u m => steward_varlanSend u 1 m
    rw [if_pos hrole', if_pos hfits', reserveAlign, hsent]
    exact ⟨waitingPeer_enterRunning _ _, running_enterRunning _ _⟩
  · intro s v hheard hrole hfits
    refine completes_heard (show execAlignRequestReceived v s = _ from rfl) hheard ?_
    have hrole' : roleMode (heardState s 1 v) = 9 := (roleMode_congr (rd_heardState _ _ _ _) (rd_heardState _ _ _ _)).trans hrole
    have hfits' : ¬alignFits (heardState s 1 v) = true := by rw [alignFits_heardState, hfits]; decide
    rw [if_pos hrole', if_neg hfits']
    exact steward_varlanSend _ _ _

end Sys2Proof.Machine
end

section
/-! The frame of the key commands, the parse graph's staging and the rule log (O43): what hides the effects of these commands. -/

namespace Sys2Proof.Machine

section

variable {α : Type} {view : State → α}

/-! ### Key slots (R222 to R225) -/

/-- The registers of a slot that INSTALL sets. -/
def installKeys : List Nat := slotKeys ++ [O.key_state, O.key_use, O.slot_rx_ok, O.slot_mic_fail, O.slot_replays, O.slot_tx]

theorem hidden_countSlots (hk : HidesAll view [O.exhausted_slots, O.slots_in_use]) (s : State) : view (countSlots s) = view s := by
  simp only [countSlots, hk O.exhausted_slots (by simp), hk O.slots_in_use (by simp)]

theorem view_forgetMirrored (hb : Blind view [.twin]) (s : State) (pick : Nat → Bool) : view (forgetMirrored s pick) = view s :=
  hb.twin rfl s _

theorem view_keyZeroise (hb : Blind view [.lock]) (s : State) : view (keyZeroise s) = view s := view_setLock hb s _

/-- Values written to registers of one slot do not show where the slot's registers are hidden. -/
theorem hidden_slotWrites {k : Nat} (l : List Nat) (hk : ∀ x ∈ l, Hides view (winKey k x)) (v : Nat → Nat) (s : State) :
    view (l.foldl (fun t x => wr t (winKey k x) (v x)) s) = view s :=
  foldl_view_mem view l (fun x hx t => hk x hx t _) s

theorem hidden_slotLoad {k : Nat} (hb : Blind view [.twin, .mac, .lock]) (hcount : HidesAll view [O.exhausted_slots, O.slots_in_use])
    (hslot : ∀ x ∈ installKeys, Hides view (winKey k x)) (s : State) : view (slotLoad s k) = view s := by
  have hstaged : ∀ t, view ([O.key_cipher, O.key_owner_kind, O.key_owner, O.key_id, O.key_rsc].foldl
      (fun t x => wr t (winKey k x) (keyStaged s x)) t) = view t :=
    hidden_slotWrites _ (fun x hx => hslot x (by revert x; decide)) _
  have hcleared : ∀ t, view (clearSlotCounters t k) = view t :=
    hidden_slotWrites _ (fun x hx => hslot x (by revert x; decide)) _
  unfold slotLoad
  extract_lets rsc s1 s2 x kind bss s3 mac s4
  have hwritten : view s2 = view s := by
    simp only [s2, s1, hslot O.key_tx_pn (by decide), hslot O.key_use (by decide), hslot O.key_state (by decide), hstaged]
  have hforgotten : view s3 = view s2 := (view_forgetMirrored (hb.sub rfl) _ _).trans (hcleared s2)
  have hwarmed : view s4 = view s3 := by
    unfold s4
    split
    · exact hb.mac rfl s3 _
    · rfl
  exact (hidden_countSlots hcount _).trans ((view_setSlot (hb.sub rfl) s4 k x).trans (hwarmed.trans (hforgotten.trans hwritten)))

theorem hidden_keyInstall (hb : Blind view [.out, .twin, .mac, .lock]) (s : State)
    (hcount : HidesAll view [O.exhausted_slots, O.slots_in_use, O.mirror_records])
    (hslot : ∀ x ∈ installKeys, Hides view (winKey (rd s O.key_select) x)) : view (keyInstall s).2 = view s := by
  unfold keyInstall
  dsimp only
  split
  · exact view_keyZeroise (hb.sub rfl) s
  · split
    · simp only [hidden_mirror (hb.sub rfl) (hcount O.mirror_records (by simp)), view_keyZeroise (hb.sub rfl),
        hidden_slotLoad (hb.sub rfl) (hcount.of_subset (by simp)) hslot]
    · exact view_keyZeroise (hb.sub rfl) s

theorem hidden_setTx (hb : Blind view [.out, .twin]) (s : State) (hmirror : Hides view O.mirror_records)
    (huse : ∀ j ∈ slotsInUse s, Hides view (winKey j O.key_use)) : view (setTx s).2 = view s := by
  unfold setTx
  dsimp only
  split
  · rfl
  · exact (view_foldl (fun t j => hidden_mirror hb hmirror t _) _ _).trans
      (foldl_view_mem view _ (fun j hj t => huse j (List.mem_of_mem_filter hj) t _) s)

/-! ### The parse graph's check and the rule log (R263, R276, R277, R283) -/

theorem hidden_graphChecked (hk : HidesAll view [O.graph_bad_index, O.graph_status]) (s : State) : view (graphChecked s).2 = view s := by
  simp only [graphChecked, checkStaged, hk O.graph_bad_index (by simp), hk O.graph_status (by simp)]

theorem hidden_logChange (hb : Blind view [.rules]) (hk : Hides view O.rule_log_used) (s : State) (r : Rules) :
    view (logChange s r).2 = view s := by
  simp only [logChange, apply_ite Prod.snd, apply_ite view, hk _ _, view_setRules hb, ite_self]

/-- A write to a rule object changes the log, or is refused and leaves the state (R276). -/
theorem ruleStage_refuses_or_changes (s : State) (w : RuleWrite) : (ruleStage s w).2 = s ∨ ∃ r, ruleStage s w = logChange s r := by
  cases w with
  | width v => exact .inr ⟨_, rfl⟩
  | miss a =>
    dsimp only [ruleStage]
    split
    exacts [.inr ⟨_, rfl⟩, .inl rfl]
  | valid b =>
    dsimp only [ruleStage]
    split
    exacts [.inl rfl, .inr ⟨_, rfl⟩]
  | value o =>
    dsimp only [ruleStage]
    split_ifs
    exacts [.inl rfl, .inl rfl, .inr ⟨_, rfl⟩]
  | mask o =>
    dsimp only [ruleStage]
    split_ifs
    exacts [.inl rfl, .inl rfl, .inr ⟨_, rfl⟩]
  | action a =>
    dsimp only [ruleStage]
    split
    · exact .inl rfl
    · split
      exacts [.inr ⟨_, rfl⟩, .inl rfl]

theorem hidden_ruleStage (hb : Blind view [.rules]) (hk : Hides view O.rule_log_used) (s : State) (w : RuleWrite) :
    view (ruleStage s w).2 = view s := by
  rcases ruleStage_refuses_or_changes s w with hrefused | ⟨r, hchanged⟩
  · rw [hrefused]
  · rw [hchanged, hidden_logChange hb hk]

theorem hidden_ruleError (hb : Blind view [.tinker, .rules]) (hk : HidesAll view [O.ecc_corrected, O.ecc_uncorrected, O.msgs_dropped])
    (s : State) (e : RowError) : view (ruleError s e) = view s := by
  simp only [ruleError, apply_ite view, view_setRules (hb.sub rfl), hidden_report (hb.tinker rfl) (hk O.msgs_dropped (by simp)),
    hidden_bump (hk O.ecc_corrected (by simp)), hidden_bump (hk O.ecc_uncorrected (by simp)), ite_self]

/-! ### The commands -/

section

variable (hseal : HidesSeal view)
include hseal

theorem hidden_execKeyInstall (hb : Blind view [.status, .out, .led, .twin, .mac, .lock]) (s t : State)
    (hcount : HidesAll view [O.exhausted_slots, O.slots_in_use, O.mirror_records])
    (hslot : ∀ x ∈ installKeys, Hides view (winKey (rd s O.key_select) x)) (h : execKeyInstall s = .next t) : view t = view s :=
  view_act hseal (view_command (hb.status rfl) (hb.out rfl) (hb.led rfl) (hb.twin rfl) s _ _ _
    (hidden_keyInstall (hb.sub rfl) s hcount hslot)) h

theorem hidden_execSetTx (hb : Blind view [.status, .out, .led, .twin]) (s t : State) (hmirror : Hides view O.mirror_records)
    (huse : ∀ j ∈ slotsInUse s, Hides view (winKey j O.key_use)) (h : execSetTx s = .next t) : view t = view s :=
  view_act hseal (view_command (hb.status rfl) (hb.out rfl) (hb.led rfl) (hb.twin rfl) s _ _ _
    (hidden_setTx (hb.sub rfl) s hmirror huse)) h

theorem view_execSaInstall (hb : Blind view [.status, .out, .led, .twin, .lock]) (s t : State) (h : execSaInstall s = .next t) :
    view t = view s :=
  view_act hseal (view_command (hb.status rfl) (hb.out rfl) (hb.led rfl) (hb.twin rfl) s _ _ _ (view_saInstall (hb.sub rfl) s)) h

theorem hidden_execGraphCheck (hb : Blind view [.status, .out, .led, .twin]) (hk : HidesAll view [O.graph_bad_index, O.graph_status])
    (s t : State) (h : execGraphCheck s = .next t) : view t = view s :=
  view_act hseal (view_command (hb.status rfl) (hb.out rfl) (hb.led rfl) (hb.twin rfl) s _ _ _ (hidden_graphChecked hk s)) h

theorem view_execGraphDefault (hb : Blind view [.status, .out, .led, .twin, .graph]) (s t : State) (h : execGraphDefault s = .next t) :
    view t = view s :=
  view_act hseal (view_command (hb.status rfl) (hb.out rfl) (hb.led rfl) (hb.twin rfl) s _ _ _ (view_graphDefaulted (hb.sub rfl) s)) h

theorem view_execShadowCopyDone (hb : Blind view [.graph]) (s t : State) (h : execShadowCopyDone s = .next t) : view t = view s := by
  refine view_act hseal ?_ h
  simp only [apply_ite view, view_setGraph hb, ite_self]

theorem hidden_execRuleStageWrite (hb : Blind view [.status, .out, .led, .twin, .rules]) (w : RuleWrite) (hk : Hides view O.rule_log_used)
    (s t : State) (h : execRuleStageWrite w s = .next t) : view t = view s :=
  view_act hseal (view_commandWith (hb.status rfl) (hb.out rfl) (hb.led rfl) (hb.twin rfl) s _ _ _
    (hidden_ruleStage (hb.sub rfl) hk s w)) h

theorem hidden_execRuleDiscard (hb : Blind view [.status, .out, .led, .twin, .rules]) (hk : Hides view O.rule_log_used) (s t : State)
    (h : execRuleDiscard s = .next t) : view t = view s :=
  view_act hseal (view_command (hb.status rfl) (hb.out rfl) (hb.led rfl) (hb.twin rfl) s _ _ _
    ((hk _ 0).trans (view_setRules (hb.sub rfl) s _))) h

theorem hidden_execCatchUpDone (hb : Blind view [.rules]) (hk : Hides view O.rule_state) (s t : State) (h : execCatchUpDone s = .next t) :
    view t = view s := by
  refine view_act hseal ?_ h
  simp only [apply_ite view, hk _ 0, view_setRules hb, ite_self]

theorem hidden_execRuleScrub (hb : Blind view [.tinker, .rules]) (errors : List RowError)
    (hk : HidesAll view [O.ecc_corrected, O.ecc_uncorrected, O.msgs_dropped]) (s t : State) (h : execRuleScrub errors s = .next t) :
    view t = view s :=
  view_act hseal (view_foldl (hidden_ruleError hb hk) errors s) h

end

end

/-! ### The frame -/

/-- Settles O43: of each command, the view of its frame hides all that the command sets. -/
theorem locksmithAndRulesFrame : Obligations.LocksmithAndRulesFrame := by
  unfold Obligations.LocksmithAndRulesFrame
  refine ⟨?_, ?_, ?_, ?_, ?_, ?_, fun w => ?_, ?_, ?_, fun errors => ?_⟩
  · exact leaves_only_of_blind fun hseal hb hk t => hidden_execKeyInstall hseal hb _ t (hk.of_subset (List.subset_append_left _ _))
      fun x hx => hk _ (List.mem_append_right _ (List.mem_map_of_mem hx))
  · exact leaves_only_of_blind fun hseal hb hk t => hidden_execSetTx hseal hb _ t (hk _ (by simp))
      fun j hj => hk _ (List.mem_append_right _ (List.mem_map_of_mem hj))
  · exact leaves_of_blind fun _ hseal hb => view_execSaInstall hseal hb
  · exact leaves_only_of_blind fun hseal hb hk t => hidden_execGraphCheck hseal hb hk _ t
  · exact leaves_of_blind fun _ hseal hb => view_execGraphDefault hseal hb
  · exact leaves_of_blind fun _ hseal hb => view_execShadowCopyDone hseal hb
  · exact leaves_only_of_blind fun hseal hb hk t => hidden_execRuleStageWrite hseal hb w (hk _ (by simp)) _ t
  · exact leaves_only_of_blind fun hseal hb hk t => hidden_execRuleDiscard hseal hb (hk _ (by simp)) _ t
  · exact leaves_only_of_blind fun hseal hb hk t => hidden_execCatchUpDone hseal hb (hk _ (by simp)) _ t
  · exact leaves_only_of_blind fun hseal hb hk t => hidden_execRuleScrub hseal hb errors hk _ t

end Sys2Proof.Machine
end

section
/-! O29 refuted: the counter of completed frames of a host queue stands at an object that the queue's number displaces, and a queue that no
module has displaces it to `gate_faults`. -/

namespace Sys2Proof.Machine

/-- The null-data MPDU 1, in flight under slot 3. -/
def flightAtGate : InFlight := { id := 1, slot := 3, counter := 0, pn := 1, macsec := false, len := 30, refused := false }

/-- A module that waits for the verdict of that MPDU, in buffer 0, while a descriptor of queue 14280 waits for the buffer's first leg: the `frames`
object of that queue is the register of `gate_faults`. -/
def displacedAtGate : State :=
  { regs := [(O.package_mode, 7)],
    lock := { flight := [flightAtGate] },
    mac := { arrived := [(1, nullArrived)] },
    miller := { bufs := [(0, { onDie := 1, spilled := 0, reserved := false, held := false, legs := 1, stampFor := some (14280, 0) })] },
    hostq := [(14280, { held := [(0, fiveBytes, true)] })] }

/-- Refutes O29: at the time-out of the verdict (R236) the MPDU's buffer is freed, the descriptor that waited for it completes and counts its
frame, and `gate_faults` reads 2 where one more than before is 1. -/
theorem not_locksmithComplete : ¬ Obligations.LocksmithComplete := by
  unfold Obligations.LocksmithComplete
  rintro ⟨-, -, -, -, -, -, -, -, htimeout, -⟩
  obtain ⟨t, hexec, -, hcounted, -⟩ := htimeout displacedAtGate 1 flightAtGate nullArrived (by decide) rfl rfl rfl rfl rfl (by decide)
  have hruns : exec (.verdictTimeout 1) displacedAtGate = _ := act_on displacedAtGate (giveVerdict · 1 .fault) (by decide)
  have ht := Host.Outcome.next.inj (hruns.symm.trans hexec)
  rw [Counted, ← ht] at hcounted
  exact absurd hcounted (by decide)

end Sys2Proof.Machine
end

section
/-! The parse graph and the rule store (O30): what a walk, a write to the log, a commit, a lookup, the end of a drain and an error in the store
give. -/

namespace Sys2Proof.Machine

/-! ### Tokens (R341, R342, R347) -/

/-- A token that still waits for an operand stays in the store. -/
theorem tryRelease_of_waiting {s : State} {id : Nat}
    (h : ∀ t ∈ s.carter.tokens, t.id = id → (t.verdict && t.fate.isSome) = false) : tryRelease s id = s := by
  unfold tryRelease
  cases hfound : s.carter.tokens.find? (fun t => t.id = id) with
  | none => rfl
  | some t =>
    have hwaits := h t (List.mem_of_find?_eq_some hfound) (by simpa using List.find?_some hfound)
    dsimp only
    rw [hwaits, Bool.false_and]
    exact if_neg Bool.false_ne_true

/-- No token is released while all wait for their verdicts. -/
theorem tryAll_of_unverified {s : State} (h : ∀ t ∈ s.carter.tokens, t.verdict = false) (ids : List Nat) : tryAll s ids = s := by
  induction ids with
  | nil => rfl
  | cons id ids ih => rw [tryAll, List.foldl_cons, tryRelease_of_waiting fun t ht _ => by rw [h t ht, Bool.false_and]]; exact ih

theorem setToken_alone {s : State} {k t : Token} (htokens : s.carter.tokens = [k]) (hid : k.id = t.id) :
    (setToken s t).carter.tokens = [t] := by
  simp [setToken, htokens, hid]

/-- A fate given to the one token of the store stands there while its verdict is awaited. -/
theorem setFate_alone {s : State} {k t : Token} (htokens : s.carter.tokens = [k]) (hid : k.id = t.id) (hverdict : t.verdict = false)
    (fate : Fate) : (setFate s t fate).carter.tokens = [{ t with fate := some fate, bucket := none }] := by
  have hone := setToken_alone (t := { t with fate := some fate, bucket := none }) htokens hid
  rw [setFate, tryRelease_of_waiting, hone]
  intro x hx _
  rw [hone, List.mem_singleton] at hx
  rw [hx, hverdict, Bool.false_and]

theorem carter_putToken (s : State) (t : Token) :
    (putToken s t).carter = { s.carter with tokens := s.carter.tokens ++ [t], next := t.id + 1 } := by
  simp [putToken]

/-- A token put into the store is counted. -/
theorem rd_putToken_issued (s : State) (t : Token) :
    rd (putToken s t) O.tokens_issued = min (rd s O.tokens_issued + 1) (topOf O.tokens_issued) := by
  unfold putToken
  rw [rd_bump_self, rd_wr_ne _ _ _ _ (by decide)]
  exact congrArg (fun n => min (n + 1) (topOf O.tokens_issued)) (rd_congr _ _ _ rfl rfl rfl rfl)

/-- A token put into the store without a fate stays there. -/
theorem tryRelease_putToken {s : State} {t : Token} (hfate : t.fate = none) (hnew : ∀ x ∈ s.carter.tokens, x.id ≠ t.id) :
    tryRelease (putToken s t) t.id = putToken s t := by
  refine tryRelease_of_waiting fun x hx hid => ?_
  rw [carter_putToken] at hx
  rcases List.mem_append.mp hx with hold | hlast
  · exact absurd hid (hnew x hold)
  · rw [List.mem_singleton.mp hlast, hfate, Option.isSome_none, Bool.and_false]

/-! ### A walk (R256, R266) -/

/-- A walk's token has the number that the store gives next (R341). -/
theorem id_walkToken (s : State) (f : Frame) (w : Walk) : (walkToken s f w).id = s.carter.next := by
  unfold walkToken
  dsimp only
  split <;> rfl

/-- What a walk does about a faulty entry leaves a register but the counts of repairs and of lost messages. -/
theorem rd_graphFaulted (s : State) (e : Option Nat) {j : Nat} (hj : j ∉ [O.graph_repairs, O.msgs_dropped]) :
    rd (graphFaulted s e) j = rd s j := by
  obtain ⟨hrepairs, hdropped⟩ : j ≠ O.graph_repairs ∧ j ≠ O.msgs_dropped := by simpa using hj
  have hgraph : ∀ u g, rd (setGraph u g) j = rd u j := fun _ _ => rd_congr _ _ _ rfl rfl rfl rfl
  have hfault : ∀ u, rd (graphFaultReport u) j = rd u j := fun u => by
    simp only [graphFaultReport, apply_ite (fun u => rd u j), rd_report _ _ _ _ _ hdropped, hgraph, ite_self]
  unfold graphFaulted
  split
  · split
    · exact (hfault _).trans (hgraph _ _)
    · rw [rd_report _ _ _ _ _ hdropped, rd_bump, if_neg hrepairs]
  · exact hfault s

/-- The state in which a walk's token is put into the store. -/
def walked (s : State) (w : Walk) : State := if w.cls = 7 then graphFaulted s none else s

theorem view_walked {α : Type} {view : State → α} (hb : Blind view [.regs, .tinker, .graph]) (s : State) (w : Walk) :
    view (walked s w) = view s := by
  simp only [walked, apply_ite view, view_graphFaulted hb, ite_self]

theorem rd_walked (s : State) (w : Walk) {j : Nat} (hj : j ∉ [O.graph_repairs, O.msgs_dropped]) : rd (walked s w) j = rd s j := by
  simp only [walked, apply_ite (fun u => rd u j), rd_graphFaulted s none hj, ite_self]

theorem carter_walked (s : State) (w : Walk) : (walked s w).carter = s.carter :=
  view_walked (view := State.carter) (Blind.of_forall ⟨fun _ _ => rfl, fun _ _ => rfl, fun _ _ => rfl⟩) s w

theorem entering_walked (s : State) (w : Walk) : (walked s w).entering = s.entering :=
  view_walked (view := State.entering) (Blind.of_forall ⟨fun _ _ => rfl, fun _ _ => rfl, fun _ _ => rfl⟩) s w

/-- A walk that leaves its token without a fate completes with the token in the store. -/
theorem completes_parseWalk {s : State} {f : Frame} {l : List Frame} {w : Walk} {t : Token} {P : State → Prop} (hon : hubOn s = true)
    (hentering : s.entering = f :: l) (hroom : s.carter.tokens.length < 16384) (hw : walkOf { s with entering := l } f none = w)
    (ht : walkToken { s with entering := l } f w = t) (hfate : t.fate = none) (hnew : ∀ x ∈ s.carter.tokens, x.id ≠ t.id)
    (h : P (sealed s (putToken (walked { s with entering := l } w) t))) : Completes (.parseWalk none) s P := by
  refine completes_act (show execParseWalk none s = _ from rfl) hon ?_
  have hput := tryRelease_putToken (s := walked { s with entering := l } w) hfate (by rwa [carter_walked])
  rw [hentering]
  dsimp only
  rw [if_neg (Nat.not_le.mpr hroom), hw, ht]
  exact hput.symm ▸ h

/-! ### The check of the staged graph (R263, R264) -/

/-- The verdict decides the status and fills the two registers of the check. -/
theorem graphChecked_eq (s : State) : graphChecked s =
    (if (graphCheck s.graph.shadow (stagedStart s)).1 = 0 then .ok else .range,
      wr (wr s O.graph_status (graphCheck s.graph.shadow (stagedStart s)).1) O.graph_bad_index
        (graphCheck s.graph.shadow (stagedStart s)).2) := by
  simp [graphChecked, checkStaged]

/-! ### The rule log (R276, R277) -/

/-- A change that fits into the log is made. -/
theorem logChange_of_fits {s : State} {r : Rules} (h : logUsed (setRules s r) ≤ 1024) :
    logChange s r = (.ok, wr (setRules s r) O.rule_log_used (logUsed (setRules s r))) :=
  if_neg (Nat.not_lt.mpr h)

/-- A write that puts a row into the log, which has room for it, completes with the row in the log. -/
theorem completes_ruleStageWrite {s : State} {w : RuleWrite} {row : Nat} {x : RowStage} (h : Reaches s (ruleKey w))
    (hwrite : ruleStage s w = logRow s row x) (hfits : logUsed (setRules s { s.rules with logRows := s.rules.logRows.put row x }) ≤ 1024) :
    Completes (.ruleStageWrite w) s fun t =>
      t.status = .ok ∧ t.rules.current = s.rules.current ∧ t.rules.logRows.look row = some x := by
  refine completes_commandWith (show execRuleStageWrite w s = _ from rfl) h ?_
  rw [hwrite, logRow, logChange_of_fits hfits]
  exact ⟨by simp, by simp, by simp⟩

/-- `rule_valid` of a row in a narrow block is written into the log. -/
theorem ruleStage_valid_of_narrow {s : State} (h : wideBlock (stagedWidth s) (rd s O.rule_select) = false) (b : Bool) :
    ruleStage s (.valid b) = logRow s (rd s O.rule_select) { rowStaged s (rd s O.rule_select) with valid := b } :=
  if_neg (by simp [h])

/-- An action word that passes its check, of a row in a narrow block, is written into the log. -/
theorem ruleStage_action_of_narrow {s : State} {a : Nat} (h : wideBlock (stagedWidth s) (rd s O.rule_select) = false)
    (hword : actionWord s a = .ok) :
    ruleStage s (.action a) = logRow s (rd s O.rule_select) { rowStaged s (rd s O.rule_select) with action := a } := by
  simp [ruleStage, h, hword]

/-! ### Versions (R280, R281) -/

/-- The end of a drain leaves the registers but its own. -/
theorem rd_drainCheck (s : State) {j : Nat} (hj : j ∉ [O.drain_time, O.rule_state, O.rule_old_version]) : rd (drainCheck s) j = rd s j := by
  obtain ⟨htime, hstate, hold⟩ : j ≠ O.drain_time ∧ j ≠ O.rule_state ∧ j ≠ O.rule_old_version := by simpa using hj
  simp only [drainCheck, apply_ite (fun u => rd u j), rd_wr_ne _ _ _ _ htime, rd_wr_ne _ _ _ _ hstate, rd_wr_ne _ _ _ _ hold, ite_self]

/-- With no frame on the old version, the drain ends and the catch-up begins. -/
theorem rd_drainCheck_state {s : State} (hdrains : rd s O.rule_state = 1) (hfree : holders s (rd s O.rule_old_version) = 0) :
    rd (drainCheck s) O.rule_state = 2 := by
  rw [drainCheck, if_pos ⟨hdrains, hfree⟩, rd_wr_ne _ _ _ _ (by decide), rd_wr_self]

theorem carter_drainCheck (s : State) : (drainCheck s).carter = s.carter :=
  view_drainCheck (view := State.carter) (Blind.of_forall fun _ _ => rfl) s

/-- The clearing of the rows' counters leaves every register of another object. -/
theorem rd_clearRowCounters (s : State) (r : Rules) {j : Nat} (hj : j % 16777216 ≠ O.rule_hits ∧ j % 16777216 ≠ O.rule_bytes) :
    rd (clearRowCounters s r) j = rd s j := by
  refine rd_congr _ _ _ ?_ rfl rfl rfl
  refine (Tab.look_filter s.regs (fun k => !((decide (k % 16777216 = O.rule_hits) || decide (k % 16777216 = O.rule_bytes)) &&
    commitWrites r (k / 16777216))) j).trans ?_
  simp [hj]

/-- The switch puts the log in force and empties it. -/
theorem rules_ruleSwitch (s : State) : (ruleSwitch s).rules.current = nextBank s.rules ∧ (ruleSwitch s).rules.logRows = [] ∧
    (ruleSwitch s).rules.logWidth = none ∧ (ruleSwitch s).rules.logMiss = none := by
  have hdrain : ∀ u, (drainCheck u).rules = u.rules := view_drainCheck (view := State.rules) (Blind.of_forall fun _ _ => rfl)
  simp [ruleSwitch, hdrain]

theorem base_ruleSwitch (s : State) : base (ruleSwitch s) = base s := view_ruleSwitch (blind_base _) s

/-- The switch counts a commit, takes the next version and leaves no entry of the log in use. -/
theorem rd_ruleSwitch (s : State) : rd (ruleSwitch s) O.rule_version = (rd s O.rule_version + 1) % 16 ∧
    rd (ruleSwitch s) O.rule_log_used = 0 ∧ rd (ruleSwitch s) O.commits = min (rd s O.commits + 1) (topOf O.commits) := by
  unfold ruleSwitch
  simp only [rd_drainCheck _ (show O.rule_version ∉ _ by decide), rd_drainCheck _ (show O.rule_log_used ∉ _ by decide),
    rd_drainCheck _ (show O.commits ∉ _ by decide)]
  refine ⟨?_, ?_, ?_⟩
  · simp [rd_bump, rd_wr]
  · simp [rd_bump]
  · simp [rd_wr, rd_clearRowCounters s s.rules (j := O.commits) (by decide)]

/-- A log that holds a change is put in force where no version drains and the peer is not busy. -/
theorem ruleCommit_of_idle {s : State} (hlog : logEmpty s.rules = false) (hidle : rd s O.rule_state = 0) :
    ruleCommit s false = (.ok, ruleSwitch s) := by
  simp [ruleCommit, hlog, hidle]

/-! ### The lookup (R271, R274, R290) -/

/-- An action that needs no decision of a LOOKUP gives the one token its fate, which stands while its verdict is awaited. -/
theorem actionFate_alone {s : State} {k t : Token} (htokens : s.carter.tokens = [k]) (hid : k.id = t.id) (hverdict : t.verdict = false)
    (hdirect : bits t.action 31 30 = 0 ∨ bits t.action 29 27 ≠ 0) :
    ∃ fate, (actionFate s t).carter.tokens = [{ t with fate := some fate, bucket := none }] := by
  unfold actionFate
  by_cases hdrop : bits t.action 31 30 = 0
  · rw [if_pos hdrop]
    exact ⟨_, setFate_alone htokens hid hverdict _⟩
  · rw [if_neg hdrop, if_neg (hdirect.resolve_left hdrop)]
    exact ⟨_, setFate_alone htokens hid hverdict _⟩

/-- A token whose lookup has been made: it no longer holds its version. -/
def lookedUp (t : Token) : Token := { t with toLook := false, holds := false }

/-- A lookup of the one token that hits a row with such an action leaves the token with the row, the action and a fate. -/
theorem completes_ruleLookup_hit {s : State} {k : Token} {row a : Nat} (hon : hubOn s = true) (htokens : s.carter.tokens = [k])
    (hlook : k.toLook = true) (hverdict : k.verdict = false) (hhit : lookupBank s (bankOf s k.version) k.key = .hit row a)
    (hdirect : bits a 31 30 = 0 ∨ bits a 29 27 ≠ 0) :
    Completes .ruleLookup s fun t =>
      t.carter.tokens.map (fun x => (x.id, x.row, x.action, x.toLook, x.fate.isSome)) = [(k.id, some row, a, false, true)] := by
  refine completes_act (show execRuleLookup s = _ from rfl) hon ?_
  have hfound : s.carter.tokens.find? (fun t => t.toLook) = some k := by simp [htokens, hlook]
  have hone : (drainCheck (setToken s (lookedUp k))).carter.tokens = [lookedUp k] :=
    (congrArg Carter.tokens (carter_drainCheck _)).trans (setToken_alone htokens rfl)
  obtain ⟨fate, hfate⟩ := actionFate_alone (t := { lookedUp k with row := some row, action := a }) hone rfl hverdict hdirect
  rw [hfound]
  dsimp only
  rw [hhit]
  exact congrArg (List.map _) hfate

/-! ### The drain limit (R280) -/

/-- A token as the drain limit leaves it: forced to DROP where it holds the version that drains. -/
def forcedOf (v : Nat) (t : Token) : Token :=
  if t.holds && decide (t.version = v) then { t with holds := false, toLook := false, fate := some (.forced true) } else t

/-- The state in which every token that holds the old version is forced. -/
def oldForced (s : State) : State :=
  setCarter s { s.carter with tokens := s.carter.tokens.map (forcedOf (rd s O.rule_old_version)) }

theorem holds_forcedOf (v : Nat) (t : Token) : ((forcedOf v t).holds && decide ((forcedOf v t).version = v)) = false := by
  unfold forcedOf
  split
  · rfl
  next hkept => exact Bool.eq_false_iff.mpr hkept

theorem verdict_forcedOf (v : Nat) (t : Token) : (forcedOf v t).verdict = t.verdict := by
  unfold forcedOf
  split <;> rfl

/-- No token holds the old version once its tokens are forced. -/
theorem released_oldForced {s : State} {t : Token} (h : t ∈ (oldForced s).carter.tokens) :
    (t.holds && decide (t.version = rd s O.rule_old_version)) = false := by
  obtain ⟨x, -, rfl⟩ := List.mem_map.mp h
  exact holds_forcedOf _ x

theorem holders_oldForced (s : State) : holders (oldForced s) (rd s O.rule_old_version) = 0 :=
  List.length_eq_zero_iff.mpr (List.filter_eq_nil_iff.mpr fun _ ht => Bool.eq_false_iff.mp (released_oldForced ht))

theorem rd_oldForced (s : State) (j : Nat) : rd (oldForced s) j = rd s j := rd_congr _ _ _ rfl rfl rfl rfl

/-- The drain limit, with every token still waiting for its verdict, completes with what holds of the report. -/
theorem completes_drainLimitExpire {s : State} {P : State → Prop} (hon : hubOn s = true) (hdrains : rd s O.rule_state = 1)
    (hwaits : ∀ t ∈ s.carter.tokens, t.verdict = false)
    (h : P (sealed s (report (drainCheck (oldForced s)) 0x53 (versionUnitHid s) 0))) : Completes .drainLimitExpire s P := by
  refine completes_act (show execDrainLimitExpire s = _ from rfl) hon ?_
  rw [if_neg (not_not.mpr hdrains)]
  have hunverified : ∀ t ∈ (report (drainCheck (oldForced s)) 0x53 (versionUnitHid s) 0).carter.tokens, t.verdict = false := by
    simpa [carter_drainCheck, oldForced, verdict_forcedOf] using hwaits
  exact (tryAll_of_unverified hunverified _).symm ▸ h

/-! ### Errors in the store (R283) -/

/-- The rule memory with a row of the current bank among its faulty ones. -/
def rowFaulty (r : Rules) (row : Nat) : Rules :=
  { r with current := { r.current with faulty := row :: r.current.faulty.filter (fun n => n ≠ row) } }

/-- An error that cannot be corrected, of a row whose copy in the store is bad as well: the row stays in the current bank as a faulty one. -/
theorem ruleError_of_lost {s : State} {e : RowError} (hcorrectable : e.correctable = false) (hcurrent : e.current = true)
    (hbad : e.storeBad = true) :
    ruleError s e = setRules (report (bump s O.ecc_uncorrected) 0x52 (ruleBankHid s) 0) (rowFaulty s.rules e.row) := by
  simp [ruleError, hcorrectable, hcurrent, hbad, rowFaulty]

/-! ### The statement -/

/-- Settles O30, command by command. -/
theorem graphAndRulesComplete : Obligations.GraphAndRulesComplete := by
  unfold Obligations.GraphAndRulesComplete
  refine ⟨?_, ?_, ?_, ?_, ?_, ?_, ?_, ?_, ?_, ?_, ?_, ?_, ?_⟩
  · intro s f l hon hentering hroom hfate hnew
    refine completes_parseWalk hon hentering hroom rfl rfl hfate (by simpa [id_walkToken] using hnew) ⟨?_, ?_, ?_⟩
    · simp [putToken, entering_walked]
    · refine counted64_of_rd ?_ (by decide) ?_
      · exact (view_putToken (blind_base _) _ _).trans (view_walked (blind_base _) _ _)
      · rw [rd_putToken_issued, rd_walked _ _ (by decide)]
        exact congrArg (fun n => min (n + 1) (topOf O.tokens_issued)) (rd_congr _ _ _ rfl rfl rfl rfl)
    · simp [carter_putToken, carter_walked]
  · intro s hreach
    refine completes_command (show execGraphCheck s = _ from rfl) hreach ?_
    rw [graphChecked_eq, rd_sealed_commanded (by simp [base]), rd_sealed_commanded (by simp [base])]
    exact ⟨(rd_wr_ne _ _ _ _ (by decide)).trans (rd_wr_self _ _ _), rd_wr_self _ _ _, by simp⟩
  · intro s hreach hcopying
    refine completes_command (show execGraphDefault s = _ from rfl) hreach ?_
    rw [graphDefaulted, if_neg (Bool.eq_false_iff.mp hcopying)]
    simp
  · intro s hon hcopying
    refine completes_act (show execShadowCopyDone s = _ from rfl) hon ?_
    rw [if_pos hcopying]
    simp
  · intro s b hreach hnarrow hfits
    exact completes_ruleStageWrite hreach (ruleStage_valid_of_narrow hnarrow b) hfits
  · intro s a hreach hnarrow hword hfits
    exact completes_ruleStageWrite hreach (ruleStage_action_of_narrow hnarrow hword) hfits
  · intro s hreach hlog hidle
    refine completes_command (show execRuleCommit false s = _ from rfl) hreach ?_
    rw [ruleCommit_of_idle hlog hidle]
    obtain ⟨hversion, hused, hcommits⟩ := rd_ruleSwitch s
    obtain ⟨hcurrent, hrows, hwidth, hmiss⟩ := rules_ruleSwitch s
    simp only [Counted, rd_sealed_commanded (base_ruleSwitch s), sealed_fields, commanded_fields, commanded_status]
    exact ⟨trivial, hversion, hcurrent, hrows, hwidth, hmiss, hused, hcommits⟩
  · intro s hreach
    refine completes_command (show execRuleDiscard s = _ from rfl) hreach ?_
    refine ⟨by simp, ?_, by simp [ruleDiscard]⟩
    exact (rd_sealed_commanded (by simp [base, ruleDiscard]) _ _ _ _).trans (rd_wr_self _ _ _)
  · intro s k row a hon htokens hlook hverdict hhit hdirect
    exact completes_ruleLookup_hit hon htokens hlook hverdict hhit hdirect
  · intro s hon hdrains hwaits
    have hbase : base (report (drainCheck (oldForced s)) 0x53 (versionUnitHid s) 0) = base s :=
      (by simp [base] : _ = base (drainCheck (oldForced s))).trans (view_drainCheck (blind_base _) (oldForced s))
    refine completes_drainLimitExpire hon hdrains (by simpa using hwaits) ⟨?_, ?_, ?_⟩
    · rw [rd_sealed_of_base hbase, rd_report _ _ _ _ _ (by decide)]
      exact rd_drainCheck_state ((rd_oldForced s _).trans hdrains) (by rw [rd_oldForced, holders_oldForced])
    · exact raised_report s _ _ _ _ (view_drainCheck (view := State.tinker) (Blind.of_forall fun _ _ => rfl) _)
    · refine List.all_eq_true.mpr fun t ht => ?_
      have hmem : t ∈ (oldForced s).carter.tokens := by simpa [carter_drainCheck] using ht
      rw [released_oldForced hmem]
      rfl
  · intro s hon hstate
    refine completes_act (show execCatchUpDone s = _ from rfl) hon ?_
    rw [if_pos hstate]
    exact ⟨(rd_sealed_of_base (by simp [base]) _).trans (rd_wr_self _ _ _), by simp⟩
  · intro s e hon hcorrectable
    refine completes_act (show execRuleScrub [e] s = _ from rfl) hon ?_
    rw [List.foldl_cons, List.foldl_nil, ruleError, if_pos hcorrectable]
    exact ⟨(rd_sealed_of_base (by simp [base]) _).trans (rd_bump_self _ _), by simp, by simp⟩
  · intro s e hon hcorrectable hcurrent hbad
    refine completes_act (show execRuleScrub [e] s = _ from rfl) hon ?_
    rw [List.foldl_cons, List.foldl_nil, ruleError_of_lost hcorrectable hcurrent hbad]
    refine ⟨?_, raised_report s _ _ _ _ (by simp), List.mem_cons_self, rfl⟩
    have hbase : base (report (bump s O.ecc_uncorrected) 0x52 (ruleBankHid s) 0) = base s := by simp [base]
    exact (rd_sealed_of_base hbase _).trans ((rd_congr _ _ _ rfl rfl rfl rfl).trans ((rd_report _ _ _ _ _ (by decide)).trans (rd_bump_self _ _)))

end Sys2Proof.Machine
end

section
/-! The frame of the ports, routes, flow records, forwarding database and buffers (O44): what hides the effects of the switch's, the Draper's
and the Carter's commands. -/

namespace Sys2Proof.Machine

section

variable {α : Type} {view : State → α}

/-! ### Cells and buffers (R316, R317, R319) -/

theorem hidden_takeCells (hk : HidesAll view [O.cells_free, O.cells_low]) (s : State) (n : Nat) : view (takeCells s n) = view s := by
  simp only [takeCells, hk O.cells_free (by simp), hk O.cells_low (by simp)]

theorem hidden_giveCells (hk : Hides view O.cells_free) (s : State) (n : Nat) : view (giveCells s n) = view s := hk s _

theorem hidden_takeBuf (hb : Blind view [.miller]) (hk : HidesAll view [O.direct_spills, O.overflow_used, O.cells_free, O.cells_low])
    (s : State) (n : Nat) (reserved held : Bool) (stampFor : Option (Nat × Nat)) : view (takeBuf s n reserved held stampFor).2 = view s := by
  unfold takeBuf
  split
  · rfl
  · simp only [view_setMiller (hb.miller rfl), apply_ite view, hidden_bump (hk O.direct_spills (by simp)), hk O.overflow_used (by simp),
      hidden_takeCells (hk.of_subset (by simp)), ite_self]

theorem hidden_noCellDrop (hb : Blind view [.tinker, .miller]) (hk : HidesAll view [O.no_cell_drop, O.msgs_dropped]) (s : State) :
    view (noCellDrop s) = view s := by
  simp only [noCellDrop, apply_ite view, hidden_report (hb.tinker rfl) (hk O.msgs_dropped (by simp)), view_setMiller (hb.miller rfl),
    hidden_bump (hk O.no_cell_drop (by simp)), ite_self]

theorem hidden_enterFrame (hb : Blind view [.tinker, .entering, .miller])
    (hk : HidesAll view [O.no_cell_drop, O.direct_spills, O.overflow_used, O.cells_free, O.cells_low, O.msgs_dropped]) (s : State) (f : Frame)
    (prio : Nat) (stampFor : Option (Nat × Nat)) : view (enterFrame s f prio stampFor) = view s := by
  unfold enterFrame
  split
  next heq =>
    exact (hb.entering rfl _ _).trans (view_of_snd heq (hidden_takeBuf (hb.sub rfl) (hk.of_subset (by simp)) s _ _ _ _))
  next => exact hidden_noCellDrop (hb.sub rfl) (hk.of_subset (by simp)) s

/-! ### Requests to the DRAM (R349, R358) -/

/-- The registers of the real-time ports' panic. -/
def panicKeys : List Nat := [0, 1, 2].flatMap fun i => [O.dp_panic i, O.dp_panic_events i, O.dp_panic_us i]

theorem hidden_panicLevel {k : Nat} (hb : Blind view [.dram]) (hk : HidesAll view [O.dp_panic k, O.dp_panic_events k, O.dp_panic_us k])
    (s : State) : view (panicLevel s k) = view s := by
  have hpanic := hk (O.dp_panic k) (by simp)
  unfold panicLevel
  split
  · simp only [apply_ite view, hidden_bump (hk (O.dp_panic_events k) (by simp)), hpanic, view_setDram hb, ite_self]
  · simp only [apply_ite view, hidden_bumpBy (hk (O.dp_panic_us k) (by simp)), hpanic, view_setDram hb, ite_self]

theorem hidden_panicLevels (hb : Blind view [.dram]) (hk : HidesAll view panicKeys) (s : State) : view (panicLevels s) = view s := by
  simp only [panicLevels, hidden_panicLevel (k := 0) hb (hk.of_subset (by simp [panicKeys])),
    hidden_panicLevel (k := 1) hb (hk.of_subset (by simp [panicKeys])), hidden_panicLevel (k := 2) hb (hk.of_subset (by simp [panicKeys]))]

theorem hidden_dramRequest (hb : Blind view [.dram]) (hk : HidesAll view panicKeys) (s : State) (port a : Nat) (write : Bool) :
    view (dramRequest s port a write) = view s := by
  simp only [dramRequest, hidden_panicLevels hb hk, view_setChannel hb]

theorem hidden_cellRequests (hb : Blind view [.free, .dram]) (hk : HidesAll view panicKeys) (write : Bool) (n : Nat) (s : State) :
    view (cellRequests write n s) = view s := by
  induction n generalizing s with
  | zero => rfl
  | succ n ih => exact (ih _).trans ((hidden_dramRequest (hb.sub rfl) hk _ _ _ _).trans (view_freeNext (hb.free rfl) s))

theorem hidden_ringRequests (hb : Blind view [.dram]) (hk : HidesAll view panicKeys) (urgent write : Bool) (n : Nat) (s : State) :
    view (ringRequests urgent write n s) = view s := by
  induction n generalizing s with
  | zero => rfl
  | succ n ih =>
    have hone : view (ringRequest s urgent write) = view s := (hidden_dramRequest hb hk _ _ _ _).trans (view_setDram hb s _)
    exact (ih _).trans hone

theorem hidden_spillOne (hb : Blind view [.free, .miller, .dram]) (hk : HidesAll view [O.cells_free, O.spills, O.overflow_used])
    (hpanic : HidesAll view panicKeys) (s : State) (b : Nat) : view (spillOne s b) = view s := by
  unfold spillOne
  split
  · simp only [apply_ite view, hidden_cellRequests (hb.sub rfl) hpanic, hidden_bump (hk O.spills (by simp)),
      hidden_giveCells (hk O.cells_free (by simp)), hk O.overflow_used (by simp), view_setMiller (hb.miller rfl), ite_self]
  · rfl

/-! ### Flow records, the forwarding database and routes (R292, R295, R304, R311) -/

theorem hidden_freeRec (hb : Blind view [.switch]) (hk : Hides view O.flows_in_use) (s : State) (i : Nat) : view (freeRec s i) = view s :=
  (hk _ _).trans (view_setSwitch hb s _)

theorem hidden_flowDelete (hb : Blind view [.switch]) (hk : Hides view O.flows_in_use) (s : State) : view (flowDelete s).2 = view s := by
  simp only [flowDelete, apply_ite view, hidden_freeRec hb hk, ite_self]

theorem hidden_flowFlush (hb : Blind view [.switch]) (hk : Hides view O.flow_flush_active) (s : State) : view (flowFlush s).2 = view s := by
  simp only [flowFlush, apply_ite Prod.snd, apply_ite view, hk _ 1, view_setSwitch hb, ite_self]

theorem hidden_setFdb (hb : Blind view [.switch]) (hk : Hides view O.fdb_in_use) (s : State) (l : List FdbEntry) : view (setFdb s l) = view s :=
  (hk _ _).trans (view_setSwitch hb s _)

/-- The registers that a change of a route sets. -/
def routeKeys : List Nat := [O.route_gen, O.rt_count_v4, O.rt_count_v6]

theorem hidden_routesChanged (hb : Blind view [.switch]) (hk : HidesAll view routeKeys) (s : State) (v6 : Bool) (l : List Route) :
    view (routeChanged (setRoutes s v6 l)) = view s := by
  have hcount : Hides view (if v6 then O.rt_count_v6 else O.rt_count_v4) := hk _ (by cases v6 <;> simp [routeKeys])
  simp only [routeChanged, setRoutes, hk O.route_gen (by simp [routeKeys]), hcount _ _, view_setSwitch hb]

theorem hidden_routeAdd (hb : Blind view [.switch]) (hk : HidesAll view routeKeys) (s : State) : view (routeAdd s).2 = view s := by
  simp only [routeAdd, apply_ite Prod.snd, apply_ite view, hidden_routesChanged hb hk, ite_self]

theorem hidden_routeDelete (hb : Blind view [.switch]) (hk : HidesAll view routeKeys) (s : State) : view (routeDelete s).2 = view s := by
  simp only [routeDelete, apply_ite Prod.snd, apply_ite view, hidden_routesChanged hb hk, ite_self]

theorem hidden_routeFind (hk : HidesAll view [O.rt_found, O.rt_len, O.rt_nexthop]) (s : State) : view (routeFind s).2 = view s := by
  have hfound := hk O.rt_found (by simp)
  unfold routeFind
  split
  · rfl
  split
  · simp only [hk O.rt_nexthop (by simp), hk O.rt_len (by simp), hfound]
  · exact hfound s 0

/-! ### The commands -/

section

variable (hseal : HidesSeal view)
include hseal

theorem hidden_execVarlanFrameRx (hb : Blind view [.tinker, .entering, .miller]) (crcOk : Bool) (bytes : Octets)
    (hk : HidesAll view [O.no_cell_drop, O.direct_spills, O.overflow_used, O.cells_free, O.cells_low, O.msgs_dropped]) (s t : State)
    (h : execVarlanFrameRx crcOk bytes s = .next t) : view t = view s := by
  refine view_act hseal ?_ h
  simp only [apply_ite view, hidden_enterFrame hb hk, ite_self]

theorem hidden_execPortUp (port : Fin 8) (hk : Hides view (O.port_state port)) (s t : State) (h : execPortUp port s = .next t) :
    view t = view s := by
  refine view_act hseal ?_ h
  simp only [apply_ite view, hk _ 2, ite_self]

/-- A command of the switch's windows shows no more than its operation does. -/
theorem view_windowCommand (hb : Blind view [.status, .out, .led, .twin]) {k v : Nat} {op : State → Status × State} {s t : State}
    (hop : view (op s).2 = view s) (h : act s (fun s => command s k v op) = .next t) : view t = view s :=
  view_act hseal (view_command (hb.status rfl) (hb.out rfl) (hb.led rfl) (hb.twin rfl) s k v op hop) h

theorem hidden_execRouteAdd (hb : Blind view [.status, .out, .led, .twin, .switch]) (hk : HidesAll view routeKeys) (s t : State)
    (h : execRouteAdd s = .next t) : view t = view s :=
  view_windowCommand hseal (hb.sub rfl) (hidden_routeAdd (hb.sub rfl) hk s) h

theorem hidden_execRouteDelete (hb : Blind view [.status, .out, .led, .twin, .switch]) (hk : HidesAll view routeKeys) (s t : State)
    (h : execRouteDelete s = .next t) : view t = view s :=
  view_windowCommand hseal (hb.sub rfl) (hidden_routeDelete (hb.sub rfl) hk s) h

theorem hidden_execRouteLookup (hb : Blind view [.status, .out, .led, .twin]) (hk : HidesAll view [O.rt_found, O.rt_len, O.rt_nexthop])
    (s t : State) (h : execRouteLookup s = .next t) : view t = view s :=
  view_windowCommand hseal hb (hidden_routeFind hk s) h

theorem hidden_execFlowDelete (hb : Blind view [.status, .out, .led, .twin, .switch]) (hk : Hides view O.flows_in_use) (s t : State)
    (h : execFlowDelete s = .next t) : view t = view s :=
  view_windowCommand hseal (hb.sub rfl) (hidden_flowDelete (hb.sub rfl) hk s) h

theorem hidden_execFlowFlush (hb : Blind view [.status, .out, .led, .twin, .switch]) (hk : Hides view O.flow_flush_active) (s t : State)
    (h : execFlowFlush s = .next t) : view t = view s :=
  view_windowCommand hseal (hb.sub rfl) (hidden_flowFlush (hb.sub rfl) hk s) h

theorem hidden_execFlowFlushDone (hb : Blind view [.switch]) (hk : HidesAll view [O.flow_flush_active, O.flows_in_use]) (s t : State)
    (h : execFlowFlushDone s = .next t) : view t = view s := by
  refine view_act hseal ?_ h
  have hfreed : ∀ gone : List Nat, view (gone.foldl freeRec s) = view s := fun gone =>
    view_foldl (hidden_freeRec hb (hk O.flows_in_use (by simp))) gone s
  simp only [apply_ite view, hk O.flow_flush_active (by simp), view_setSwitch hb, hfreed, ite_self]

theorem hidden_execAgeScan (hb : Blind view [.switch]) (hk : HidesAll view [O.aged_out, O.flows_in_use]) (s t : State)
    (h : execAgeScan s = .next t) : view t = view s :=
  view_act hseal ((hidden_bumpBy (hk O.aged_out (by simp)) _ _).trans
    (view_foldl (hidden_freeRec hb (hk O.flows_in_use (by simp))) _ s)) h

theorem hidden_execFdbAgeExpire (hb : Blind view [.switch]) (hk : Hides view O.fdb_in_use) (s t : State) (h : execFdbAgeExpire s = .next t) :
    view t = view s :=
  view_act hseal (hidden_setFdb hb hk s _) h

theorem hidden_execSpill (hb : Blind view [.free, .miller, .dram]) (hk : HidesAll view [O.cells_free, O.spills, O.overflow_used])
    (hpanic : HidesAll view panicKeys) (s t : State) (h : execSpill s = .next t) : view t = view s := by
  refine view_act hseal ?_ h
  split
  · split
    · exact hidden_spillOne hb hk hpanic s _
    · rfl
  · rfl

theorem hidden_execOverflowUnavailable (hb : Blind view [.tinker, .miller]) (hk : Hides view O.msgs_dropped) (s t : State)
    (h : execOverflowUnavailable s = .next t) : view t = view s := by
  refine view_act hseal ?_ h
  simp only [apply_ite view, hidden_report (hb.tinker rfl) hk, view_setMiller (hb.miller rfl), ite_self]

theorem hidden_execAuditReclaim (hb : Blind view [.miller]) (hk : HidesAll view [O.audit_reclaimed, O.cells_free]) (s t : State)
    (h : execAuditReclaim s = .next t) : view t = view s := by
  refine view_act hseal ?_ h
  simp only [hidden_bumpBy (hk O.audit_reclaimed (by simp)), hidden_giveCells (hk O.cells_free (by simp)),
    view_setMiller (hb.miller rfl)]

theorem view_execTaskLeaveService (hb : Blind view [.carter]) (n : Nat) (s t : State) (h : execTaskLeaveService n s = .next t) :
    view t = view s := by
  refine view_act hseal ?_ h
  dsimp only
  split
  · rfl
  · simp only [apply_ite view, view_setCarter hb, ite_self]

theorem hidden_execRingRefill (hb : Blind view [.carter, .dram]) (urgent : Bool) (hk : HidesAll view panicKeys) (s t : State)
    (h : execRingRefill urgent s = .next t) : view t = view s := by
  refine view_act hseal ?_ h
  exact (hidden_ringRequests (hb.sub rfl) hk _ _ _ _).trans (view_setCarter (hb.sub rfl) s _)

end

end

/-! ### The frame -/

/-- Settles O44: of each command, the view of its frame hides all that the command sets. -/
theorem switchAndMillerFrame : Obligations.SwitchAndMillerFrame := by
  unfold Obligations.SwitchAndMillerFrame
  refine ⟨fun crcOk bytes => ?_, fun port => ?_, ?_, ?_, ?_, ?_, ?_, ?_, ?_, ?_, ?_, ?_, ?_, fun n => ?_, fun urgent => ?_⟩
  · exact leaves_only_of_blind fun hseal hb hk t => hidden_execVarlanFrameRx hseal hb crcOk bytes hk _ t
  · exact leaves_only fun v s t hseal hk => hidden_execPortUp hseal port (hk _ (by simp)) s t
  · exact leaves_only_of_blind fun hseal hb hk t => hidden_execRouteAdd hseal hb hk _ t
  · exact leaves_only_of_blind fun hseal hb hk t => hidden_execRouteDelete hseal hb hk _ t
  · exact leaves_only_of_blind fun hseal hb hk t => hidden_execRouteLookup hseal hb hk _ t
  · exact leaves_only_of_blind fun hseal hb hk t => hidden_execFlowDelete hseal hb (hk _ (by simp)) _ t
  · exact leaves_only_of_blind fun hseal hb hk t => hidden_execFlowFlush hseal hb (hk _ (by simp)) _ t
  · exact leaves_only_of_blind fun hseal hb hk t => hidden_execFlowFlushDone hseal hb hk _ t
  · exact leaves_only_of_blind fun hseal hb hk t => hidden_execAgeScan hseal hb hk _ t
  · exact leaves_only_of_blind fun hseal hb hk t => hidden_execFdbAgeExpire hseal hb (hk _ (by simp)) _ t
  · exact leaves_only_of_blind fun hseal hb hk t => hidden_execSpill hseal hb (hk.of_subset (List.subset_append_left _ _))
      (hk.of_subset (List.subset_append_right _ _)) _ t
  · exact leaves_only_of_blind fun hseal hb hk t => hidden_execOverflowUnavailable hseal hb (hk _ (by simp)) _ t
  · exact leaves_only_of_blind fun hseal hb hk t => hidden_execAuditReclaim hseal hb hk _ t
  · exact leaves_of_blind fun _ hseal hb => view_execTaskLeaveService hseal hb n
  · exact leaves_only_of_blind fun hseal hb hk t => hidden_execRingRefill hseal hb urgent hk _ t

end Sys2Proof.Machine
end

section
/-! O32 refuted: the counter of a host queue's descriptors of invalid length stands at an object that the queue's number displaces, and a queue
that no module has displaces it to `ecc_cancels`. -/

namespace Sys2Proof.Machine

/-- A frame of 30 bytes in buffer 0. -/
def taskFrame : Frame :=
  { buf := 0, bytes := zeros 30, source := 0, tid := 0, bss := 0, isProtected := false, subframe := false, stamp := 0, colour := 0, awaits := none,
    toHost := none, cls := 0 }

/-- The primary task of the token of that frame, which a faulty row forced to DROP (R283). -/
def dropTask : Task :=
  { token := { id := 1, frame := taskFrame, walk := noWalk taskFrame, key := [], tag := 0, since := 0, verdict := true,
               fate := some (.forced false), version := 0, commit := 0, holds := false, toLook := false, bucket := none, row := none, action := 0 },
    leg := none, since := 0, urgent := false, blocked := false, held := false }

/-- A module whose NORMAL list holds that task, while a descriptor of queue 22465, whose length was invalid, waits for the first leg of the task's
buffer: the `len_range` object of that queue is the register of `ecc_cancels`. -/
def displacedAtTask : State :=
  { regs := [(O.package_mode, 7)],
    carter := { normal := [dropTask] },
    miller := { bufs := [(0, { onDie := 1, spilled := 0, reserved := false, held := false, legs := 1, stampFor := some (22465, 0) })] },
    hostq := [(22465, { held := [(0, { fiveBytes with result := 1 }, true)] })] }

/-- An executor that is free meets the slot's error in the task that it takes, whose token is cancelled (R348, R351). -/
theorem exec_taskDispatch_slot {s u : State} {k : Task} (hon : hubOn s = true) (hroom : s.carter.service.length < 32)
    (htake : takeTask s = (some k, u)) : exec (.taskDispatch .slot) s = .next (sealed s (taskError u k false)) := by
  change execTaskDispatch .slot s = _
  rw [execTaskDispatch, act_on s _ hon, if_neg (Nat.not_le.mpr hroom), htake]

/-- Refutes O32: as the error in the task's slot cancels its token (R351), the task's buffer is freed, the descriptor that waited for it counts
as one of invalid length, and `ecc_cancels` reads 2 where one more than before is 1. -/
theorem not_millerAndCarterComplete : ¬ Obligations.MillerAndCarterComplete := by
  unfold Obligations.MillerAndCarterComplete
  rintro ⟨-, -, -, -, -, -, -, -, hslot, -⟩
  have hon : hubOn displacedAtTask = true := by decide
  have hroom : displacedAtTask.carter.service.length < 32 := by decide
  have htake : takeTask displacedAtTask = (some dropTask, (takeTask displacedAtTask).2) := by decide
  obtain ⟨t, hexec, -, hcounted, -⟩ := hslot _ _ _ hon hroom htake
  have ht := Host.Outcome.next.inj ((exec_taskDispatch_slot hon hroom htake).symm.trans hexec)
  rw [Counted, ← ht] at hcounted
  exact absurd hcounted (by decide)

end Sys2Proof.Machine
end

section
/-! The idle cycle (O2): what the crystal's tick and the time base's cycle leave as it was. -/

namespace Sys2Proof.Machine

/-- The crystal's tick touches its own counters only. -/
theorem crystalCycle_leaves (s : State) : crystalCycle s = { s with regs := (crystalCycle s).regs, watch := (crystalCycle s).watch } ∧
    Only s (crystalCycle s) [O.bak_prescaler, O.bak_ticks] := by
  unfold crystalCycle
  dsimp only
  split_ifs
  · exact ⟨rfl, fun _ _ => rfl⟩
  · exact ⟨rfl, fun _ _ => rd_congr _ _ _ rfl rfl rfl rfl⟩
  · refine ⟨rfl, fun k hk => ?_⟩
    rw [List.mem_cons, List.mem_singleton, not_or] at hk
    exact (rd_wr_ne _ _ _ _ hk.2).trans ((rd_wr_ne _ _ _ _ hk.1).trans (rd_congr _ _ _ rfl rfl rfl rfl))
  · exact ⟨rfl, fun _ _ => rd_congr _ _ _ rfl rfl rfl rfl⟩

/-- Where the TIME domain runs, TB96 has its cycle after the crystal's tick; elsewhere it stands (R391). -/
theorem idleCycle_eq (s : State) : idleCycle s =
    if clkState s 12 = 1 then timeCycle (crystalCycle { s with now := s.now + 1 }) else crystalCycle { s with now := s.now + 1 } := by
  have hclk : clkState (crystalCycle { s with now := s.now + 1 }) 12 = clkState s 12 :=
    (crystalCycle_leaves { s with now := s.now + 1 }).2 _ (by decide)
  simp only [idleCycle, hclk]

/-- With no SLEW and no adjustment in force a cycle adds exactly 1 ns, 65,536 units of TB96 (R391, R394). -/
theorem timeCycle_tb {s : State} (hslew : s.time.slewLeft = 0) (hfreq : s.time.freq = 0) (hacc : s.time.acc < 1000000000000) :
    (timeCycle s).tb = s.tb + 65536 := by
  have hadjust : cycleAdjust s = 0 := by simp [cycleAdjust, hslew, hfreq]
  simp only [timeCycle, hadjust]
  omega

/-- Settles O2: an idle step is the crystal's tick and, where TIME runs, the time base's cycle. -/
theorem idleStep : Obligations.IdleStep := by
  unfold Obligations.IdleStep
  intro s hpending
  obtain ⟨hparts, honly⟩ := crystalCycle_leaves { s with now := s.now + 1 }
  refine ⟨idleCycle s, by rw [step, hpending], ?_⟩
  rw [idleCycle_eq]
  split_ifs with hruns
  · refine ⟨?_, ?_, ?_, ?_, fun k hk => honly k hk, fun hstands => absurd hruns hstands, fun _ hslew hfreq hacc => ?_⟩
    · rw [timeCycle, hparts]
    · rw [timeCycle, hparts]; exact hpending
    · rw [timeCycle, hparts]
    · rw [timeCycle, hparts]
    · rw [hparts]; exact timeCycle_tb hslew hfreq hacc
  · refine ⟨?_, ?_, ?_, ?_, honly, fun _ => ?_, fun hrunning => absurd hrunning hruns⟩
    · rw [hparts]
    · rw [hparts]; exact hpending
    · rw [hparts]
    · rw [hparts]
    · rw [hparts]

end Sys2Proof.Machine
end

section
/-! O35 refuted: a host queue that no module has displaces its counter of frames to `q_host_entries`. -/

namespace Sys2Proof.Machine

/-- A lead of a SYNCED pair that holds the verdict of token 4 on its own null-data MPDU, while a descriptor of queue 26560 waits for the first leg
of the MPDU's buffer: the `frames` object of that queue is the register of `q_host_entries`. -/
def displacedAtEntry : State :=
  { regs := [(O.package_mode, 8), (O.clk_state 1, 1), (O.twin_state, 3)],
    boot := { step := 4 },
    twin := { rxpnHeld := [(4, 1)] },
    mac := { arrived := [(1, nullArrived)] },
    miller := { bufs := [(0, { onDie := 1, spilled := 0, reserved := false, held := false, legs := 1, stampFor := some (26560, 0) })] },
    hostq := [(26560, { held := [(0, fiveBytes, true)] })] }

/-- Refutes O35: as ENTER breaks the pair, the held MPDU is dropped (R473), its buffer is freed, the frame of the descriptor that waited for it
is counted, and `q_host_entries` reads 2 where one more than before is 1. -/
theorem not_tinkerComplete : ¬ Obligations.TinkerComplete := by
  unfold Obligations.TinkerComplete
  rintro ⟨-, -, -, henter, -⟩
  have hreach : Reaches displacedAtEntry O.q_cmd := by decide
  obtain ⟨t, hexec, -, -, -, -, -, -, hcounted⟩ := henter displacedAtEntry hreach (by decide)
  have hruns : exec .qEnter displacedAtEntry = _ := act_on displacedAtEntry (fun s => command s O.q_cmd 1 qEnter) hreach.1
  have ht := Host.Outcome.next.inj (hruns.symm.trans hexec)
  rw [Counted, ← ht] at hcounted
  exact absurd hcounted (by decide +kernel)

end Sys2Proof.Machine
end

section
/-! The frame of the DRAM's channels, training and regions (O45): what hides the effects of the Cellarer's commands. -/

namespace Sys2Proof.Machine

/-! ### The choice of a channel (R359, R360) -/

/-- A request among which a channel chooses is one that waits at it. -/
theorem mem_of_eligible {c : Channel} {q : DramReq} (h : q ∈ eligibleReqs c) : q ∈ c.reqs ++ c.writes := by
  have hmem := (List.mem_filter.mp h).1
  split at hmem
  · exact List.mem_append_right _ hmem
  · exact List.mem_append_left _ hmem

/-- The first request of a port in panic, if one waits, is one of those given. -/
theorem mem_of_panic {l : List DramReq} (ports : List (Nat × Nat)) (a : Option DramReq) (ha : ∀ q, a = some q → q ∈ l) (q : DramReq)
    (h : ports.foldl (fun (a : Option DramReq) e => match a with
      | some q => some q
      | none => l.find? (fun q => q.port = e.1)) a = some q) : q ∈ l := by
  induction ports generalizing a with
  | nil => exact ha q h
  | cons e ports ih =>
    refine ih _ (fun x hx => ?_) h
    cases a with
    | some y => exact ha x hx
    | none => exact List.mem_of_find?_eq_some hx

/-- Rules 2 to 4 choose a request that may go. -/
theorem mem_of_urgent {s : State} {c : Channel} {q : DramReq} (h : urgentReq s c = some q) : q ∈ c.reqs ++ c.writes := by
  refine mem_of_eligible ?_
  unfold urgentReq at h
  dsimp only at h
  split at h
  next hfloor =>
    rw [Option.ite_none_right_eq_some] at hfloor
    exact Option.some.inj h ▸ List.mem_of_find?_eq_some hfloor.2
  next hpanic => exact Option.some.inj h ▸ mem_of_panic _ none (fun _ hnone => absurd hnone (by simp)) _ hpanic
  next =>
    split at h
    next hold => exact Option.some.inj h ▸ List.mem_of_find?_eq_some hold
    next => exact List.mem_of_find?_eq_some h

section

variable {α : Type} {view : State → α}

/-! ### Refreshes, requests and training -/

theorem view_refreshOne (hb : Blind view [.out, .free, .dram]) (s : State) (ch : Nat) (banks : List Nat) :
    view (refreshOne s ch banks) = view s := by
  unfold refreshOne
  dsimp only
  split
  · simp only [view_send (hb.out rfl), view_setChannel (hb.sub rfl), view_freeNext (hb.free rfl)]
  · rfl

theorem hidden_serveReq (hb : Blind view [.out, .dram]) (hpanic : HidesAll view panicKeys) (s : State) (ch : Nat) (q : DramReq)
    (hk : Hides view (O.dp_bytes q.port)) : view (serveReq s ch q) = view s := by
  simp only [serveReq, hidden_panicLevels (hb.sub rfl) hpanic, view_send (hb.out rfl), hidden_bumpBy hk, view_setChannel (hb.sub rfl)]

theorem hidden_mr4One (hb : Blind view [.tinker]) (s : State) (ch factor : Nat) (temp : Int)
    (hk : HidesAll view [O.msgs_dropped, O.ch_rate_factor ch, O.ch_temp ch]) : view (mr4One s ch factor temp) = view s := by
  simp only [mr4One, apply_ite view, hidden_report (hb.tinker rfl) (hk O.msgs_dropped (by simp)), hk (O.ch_rate_factor ch) (by simp) _ _,
    hidden_wrI (hk (O.ch_temp ch) (by simp)), ite_self]

theorem view_trainedNow (hb : Blind view [.dram]) (s : State) (ch : Nat) : view (trainedNow s ch) = view s := view_setDram hb s _

theorem hidden_trainOne (hb : Blind view [.dram]) (s : State) (ch : Nat) (ok : Bool) (hk : Hides view (O.ch_train_result ch)) :
    view (trainOne s ch ok) = view s := by
  simp only [trainOne, apply_ite view, view_trainedNow hb, hk _ _, view_setDram hb, ite_self]

theorem hidden_retrainStop (hk : HidesAll view [O.dram_state, O.region_status]) (s : State) : view (retrainStop s) = view s := by
  simp only [retrainStop, apply_ite view, hk O.dram_state (by simp) _ _, hk O.region_status (by simp) _ _, ite_self]

/-- The channels whose training runs are of the eight. -/
theorem inTraining_lt {s : State} {ch : Nat} (h : ch ∈ inTraining s) : ch < 8 := by
  unfold inTraining at h
  split at h
  · exact List.mem_range.mp h
  · exact List.mem_range.mp (List.mem_filter.mp h).1

/-! ### The commands -/

section

variable (hseal : HidesSeal view)
include hseal

theorem hidden_execChannelCommand (hb : Blind view [.out, .free, .dram]) (ch : Fin 8) (hpanic : HidesAll view panicKeys) (s t : State)
    (hk : HidesAll view (((channel s ch).reqs ++ (channel s ch).writes).map (fun q => O.dp_bytes q.port)))
    (h : execChannelCommand ch s = .next t) : view t = view s := by
  refine view_act hseal ?_ h
  have hserves : ∀ q ∈ (channel s ch).reqs ++ (channel s ch).writes, view (serveReq s ch q) = view s := fun q hq =>
    hidden_serveReq (hb.sub rfl) hpanic s ch q (hk _ (List.mem_map_of_mem hq))
  dsimp only
  rw [apply_ite view, apply_ite view, view_refreshOne hb]
  split
  · rfl
  · split
    · rfl
    · split
      next q hq => exact hserves q (mem_of_urgent hq)
      next =>
        split
        · exact view_refreshOne hb s ch _
        · split
          next q l hq => exact hserves q (mem_of_eligible (hq ▸ List.mem_cons_self))
          next => rfl

theorem hidden_execRefreshDue (hb : Blind view [.dram]) (ch : Fin 8) (bank : Fin 16) (hk : Hides view (O.ch_postponed_max ch)) (s t : State)
    (h : execRefreshDue ch bank s = .next t) : view t = view s := by
  refine view_act hseal ?_ h
  simp only [apply_ite view, hk _ _, view_setChannel hb, ite_self]

theorem hidden_execMr4Read (hb : Blind view [.tinker]) (factors : List Nat) (temps : List Int)
    (hk : HidesAll view ([O.msgs_dropped] ++ (List.range 8).flatMap fun i => [O.ch_rate_factor i, O.ch_temp i])) (s t : State)
    (h : execMr4Read factors temps s = .next t) : view t = view s := by
  refine view_act hseal ?_ h
  have hone : ∀ ch ∈ List.range 8, ∀ u, view (mr4One u ch (factors.getD ch 0) (temps.getD ch 0)) = view u := fun ch hch u =>
    hidden_mr4One hb u ch _ _ (hk.of_subset (List.cons_subset_cons _ fun _ hmem => List.mem_flatMap_of_mem hch hmem))
  simp only [apply_ite view, foldl_view_mem view _ hone, ite_self]

theorem hidden_execWckTracking (ch : Fin 8) (trim : Int) (hk : HidesAll view [O.ch_tracks ch, O.ch_wck_trim ch]) (s t : State)
    (h : execWckTracking ch trim s = .next t) : view t = view s := by
  refine view_act hseal ?_ h
  simp only [apply_ite view, hidden_bump (hk (O.ch_tracks ch) (by simp)), hidden_wrI (hk (O.ch_wck_trim ch) (by simp)), ite_self]

theorem hidden_execDramTrainDone (hb : Blind view [.tinker, .dram]) (failed : List Nat)
    (hk : HidesAll view ([O.dram_state, O.msgs_dropped] ++ (List.range 8).map O.ch_train_result)) (s t : State)
    (h : execDramTrainDone failed s = .next t) : view t = view s := by
  refine view_act hseal ?_ h
  have hone : ∀ ch ∈ inTraining s, ∀ u, view (trainOne u ch (!(failed.contains ch))) = view u := fun ch hch u =>
    hidden_trainOne (hb.sub rfl) u ch _
      (hk _ (List.mem_append_right _ (List.mem_map_of_mem (List.mem_range.mpr (inTraining_lt hch)))))
  simp only [apply_ite view, hidden_report (hb.tinker rfl) (hk O.msgs_dropped (by simp)), hk O.dram_state (by simp) _ _,
    foldl_view_mem view _ hone, ite_self]

theorem hidden_execDramInitDone (hb : Blind view [.dram]) (hk : HidesAll view [O.dram_state, O.region_status]) (s t : State)
    (h : execDramInitDone s = .next t) : view t = view s := by
  refine view_act hseal ?_ h
  simp only [apply_ite view, hk O.region_status (by simp) _ _, hk O.dram_state (by simp) _ _, view_setDram hb, ite_self]

theorem hidden_execRetrainEnd (hb : Blind view [.tinker, .miller, .dram]) (failed : List Nat)
    (hk : HidesAll view [O.retrains, O.retrain_fail, O.last_retrain, O.dram_state, O.region_status, O.msgs_dropped]) (s t : State)
    (h : execRetrainEnd failed s = .next t) : view t = view s := by
  refine view_act hseal ?_ h
  simp only [apply_ite view, hidden_report (hb.tinker rfl) (hk O.msgs_dropped (by simp)), view_setMiller (hb.miller rfl),
    hk O.last_retrain (by simp) _ _, hidden_bump (hk O.retrains (by simp)), hidden_bumpBy (hk O.retrain_fail (by simp)),
    view_foldl (view_trainedNow (hb.sub rfl)), hidden_retrainStop (hk.of_subset (by simp)), ite_self]

theorem view_execRegionEnable (hb : Blind view [.status, .out, .led, .twin, .dram]) (s t : State) (h : execRegionEnable s = .next t) :
    view t = view s := by
  refine view_windowCommand hseal (hb.sub rfl) ?_ h
  simp only [apply_ite Prod.snd, apply_ite view, view_setDram (hb.sub rfl), ite_self]

end

end

/-! ### The frame -/

/-- Settles O45: of each command, the view of its frame hides all that the command sets. -/
theorem dramFrame : Obligations.DramFrame := by
  unfold Obligations.DramFrame
  refine ⟨fun ch => ?_, fun ch bank => ?_, fun factors temps => ?_, fun ch trim => ?_, fun failed => ?_, ?_, fun failed => ?_, ?_⟩
  · exact leaves_only_of_blind fun hseal hb hk t => hidden_execChannelCommand hseal hb ch (hk.of_subset (List.subset_append_left _ _)) _ t
      (hk.of_subset (List.subset_append_right _ _))
  · exact leaves_only_of_blind fun hseal hb hk t => hidden_execRefreshDue hseal hb ch bank (hk _ (by simp)) _ t
  · exact leaves_only_of_blind fun hseal hb hk t => hidden_execMr4Read hseal hb factors temps hk _ t
  · exact leaves_only fun v s t hseal hk => hidden_execWckTracking hseal ch trim hk s t
  · exact leaves_only_of_blind fun hseal hb hk t => hidden_execDramTrainDone hseal hb failed hk _ t
  · exact leaves_only_of_blind fun hseal hb hk t => hidden_execDramInitDone hseal hb hk _ t
  · exact leaves_only_of_blind fun hseal hb hk t => hidden_execRetrainEnd hseal hb failed hk _ t
  · exact leaves_of_blind fun _ hseal hb => view_execRegionEnable hseal hb

end Sys2Proof.Machine
end

section
/-! Frames that leave every radio free (O46, O47): the parts and the registers that a command may change, where its effect reaches all three
radios. -/

namespace Sys2Proof.Machine

/-- What a frame shows of a state where the radios are among its parts: what `parts` leaves of it, the straps that defaults come from (R43), and
every register but those of `keys`. -/
def shownRegs (parts : State → State) (keys : List Nat) (s : State) : State × Nat × (Nat → Option Nat) :=
  (parts s, s.boot.straps, fun k => if k ∈ keys then none else s.regs.look k)

/-- Such a frame hides the registers it names. -/
theorem hidesAll_shownRegs {parts : State → State} (hregs : ∀ s x, parts { s with regs := x } = parts s) (keys : List Nat) :
    HidesAll (shownRegs parts keys) keys := fun k hk s v =>
  congrArg (fun x : State × Nat × (Nat → Option Nat) × (Nat → Option Radio) => (x.1, x.2.1, x.2.2.1)) (hidesAll_shown hregs keys 0 k hk s v)

/-- A command whose effect does not show in a view that is blind to a list of parts, and hides a list of registers, leaves every other part
and register as it was; the radios may be among the parts. -/
theorem leaves_regs_of_blind {c : Instr} {sets : List StatePart} {parts : State → State → State} {keys : State → List Nat}
    (h : ∀ {v s}, HidesSeal (shownRegs (parts v) (keys s)) → Blind (shownRegs (parts v) (keys s)) sets →
      HidesAll (shownRegs (parts v) (keys s)) (keys s) → ∀ t, exec c s = .next t →
        shownRegs (parts v) (keys s) t = shownRegs (parts v) (keys s) s)
    (hblind : ∀ v k, sets.Forall (BlindTo (shownRegs (parts v) k)) := by
      intro v k
      (repeat' apply And.intro)
      all_goals exact fun _ _ => rfl)
    (hparts : TakesParts parts := by exact ⟨fun _ => rfl, fun _ _ _ => rfl, fun _ _ => rfl, fun _ _ => rfl⟩)
    (hregs : ∀ v s x, parts v { s with regs := x } = parts v s := by exact fun _ _ _ => rfl) :
    Leaves c fun s t => t = parts t s ∧ Only s t (keys s) := by
  intro s t e
  have hseal : HidesSeal (shownRegs (parts t) (keys s)) := fun u w hw => by
    simp only [shownRegs, Prod.mk.injEq] at hw ⊢
    obtain ⟨hp, hs, hk⟩ := hw
    exact ⟨by rw [hparts.sealing, hp, ← hparts.sealing, sealed_self], hs, hk⟩
  have hshown := h hseal (Blind.of_forall (hblind t (keys s))) (hidesAll_shownRegs (hregs t) (keys s)) t e
  simp only [shownRegs, Prod.mk.injEq] at hshown
  obtain ⟨hp, hs, hk⟩ := hshown
  have ht : t = parts t s := (hparts.self t).symm.trans hp
  refine ⟨ht, fun k hn => rd_congr s t k ?_ ?_ hs ?_⟩
  · simpa [hn] using congrFun hk k
  · exact (congrArg State.fuse ht).trans (hparts.fuse t s)
  · exact (congrArg State.system ht).trans (hparts.system t s)

end Sys2Proof.Machine
end

section
/-! The frame of the time base, its sources and the GFP timers (O46): what hides the effects of the Clocksmith's commands. -/

namespace Sys2Proof.Machine

/-- The registers of the time base's state (R392). -/
def tbStateKeys : List Nat := [O.tb_state, O.tb_valid, O.tb_locked_to]

/-- The registers of a source that is lost (R392, R398). -/
def sourceLostKeys : List Nat := [O.tb_freq_adj, O.tb_state, O.tb_valid, O.tb_locked_to, O.msgs_dropped]

/-- The registers that a GFP timer's edges set (R413, R414). -/
def gtKeys (t : Nat) : List Nat := [O.gt_state t, O.gt_fired t, O.gt_skipped t]

/-- The registers that a step of the time base sets, with those of SET and ADJUST (R392, R394). -/
def tbStepKeys : List Nat :=
  [O.tb_state, O.tb_valid, O.tb_steps, O.frame_phase, O.tb_last_step, O.msgs_dropped] ++ (List.range 32).flatMap gtKeys

section

variable {α : Type} {view : State → α}

/-! ### The state of the time base (R392, R398) -/

theorem hidden_setTbState (hb : Blind view [.time]) (hk : HidesAll view [O.tb_state, O.tb_valid]) (s : State) (st : Nat) :
    view (setTbState s st) = view s := by
  simp only [setTbState, hk O.tb_valid (by simp) _ _, hk O.tb_state (by simp) _ _, view_setTime (hb.time rfl), view_setUncertainty (hb.time rfl)]

theorem hidden_setFreq (hb : Blind view [.time]) (hk : Hides view O.tb_freq_adj) (s : State) (f : Int) : view (setFreq s f) = view s :=
  (hidden_wrI hk _ _).trans (view_setTime (hb.time rfl) s _)

theorem hidden_servoFreq (hb : Blind view [.free, .time]) (hk : Hides view O.tb_freq_adj) (s : State) (ppm : Nat) :
    view (servoFreq s ppm) = view s :=
  (hidden_setFreq (hb.sub rfl) hk _ _).trans (view_freeNext (hb.free rfl) s)

theorem hidden_sourceQualifies (hb : Blind view [.time]) (hk : HidesAll view tbStateKeys) (s : State) (who : Nat) :
    view (sourceQualifies s who) = view s := by
  simp only [sourceQualifies, apply_ite view, hk O.tb_locked_to (by simp [tbStateKeys]) _ _,
    hidden_setTbState hb (hk.of_subset (by simp [tbStateKeys])), ite_self]

theorem hidden_sourceLost (hb : Blind view [.tinker, .time]) (hk : HidesAll view sourceLostKeys) (s : State) :
    view (sourceLost s) = view s := by
  simp only [sourceLost, apply_ite view, hidden_report (hb.tinker rfl) (hk O.msgs_dropped (by simp [sourceLostKeys])),
    hk O.tb_locked_to (by simp [sourceLostKeys]) _ _, hidden_setFreq (hb.sub rfl) (hk O.tb_freq_adj (by simp [sourceLostKeys])),
    hidden_setTbState (hb.sub rfl) (hk.of_subset (by simp [sourceLostKeys])), ite_self]

theorem hidden_setByHost (hb : Blind view [.time]) (hk : HidesAll view [O.tb_state, O.tb_valid]) (s : State) : view (setByHost s) = view s := by
  simp only [setByHost, apply_ite view, view_setUncertainty (hb.time rfl), hidden_setTbState hb hk, ite_self]

/-! ### The GFP timers (R413, R414) -/

theorem hidden_gtAt (hb : Blind view [.time]) (s : State) (t k : Nat) (hk : Hides view (O.gt_state t)) : view (gtAt s t k) = view s := by
  unfold gtAt
  dsimp only
  split
  · simp only [apply_ite view, hk _ _, view_setGfpTimer (hb.time rfl), ite_self]
  · exact view_setGfpTimer (hb.time rfl) s t _

theorem hidden_gtEdge (hb : Blind view [.out, .time]) (s : State) (t : Nat) (hk : Hides view (O.gt_fired t)) : view (gtEdge s t) = view s := by
  simp only [gtEdge, apply_ite view, view_driveGfp (hb.out rfl) (hb.time rfl), hidden_bump hk, ite_self]

theorem hidden_gtSkip (hb : Blind view [.tinker, .time]) (s : State) (t n : Nat) (hk : HidesAll view [O.gt_skipped t, O.msgs_dropped]) :
    view (gtSkip s t n) = view s := by
  simp only [gtSkip, apply_ite view, hidden_report (hb.tinker rfl) (hk O.msgs_dropped (by simp)), view_setTime (hb.time rfl),
    hidden_bumpBy (hk (O.gt_skipped t) (by simp)), ite_self]

section

variable (hb : Blind view [.out, .tinker, .time])
include hb

theorem hidden_gtPassed (s : State) (t : Nat) (hk : HidesAll view (O.msgs_dropped :: gtKeys t)) : view (gtPassed s t) = view s := by
  simp only [gtPassed, apply_ite view, hidden_gtSkip (hb.sub rfl) _ t _ (hk.of_subset (by simp [gtKeys])),
    hidden_gtEdge (hb.sub rfl) _ t (hk _ (by simp [gtKeys])), hidden_gtAt (hb.sub rfl) _ t _ (hk _ (by simp [gtKeys])), ite_self]

theorem hidden_gtAllPassed (hk : HidesAll view tbStepKeys) (s : State) : view (gtAllPassed s) = view s := by
  refine foldl_view_mem view (List.range 32) (fun t ht u => hidden_gtPassed hb u t (hk.of_subset (List.cons_subset.mpr ⟨?_, ?_⟩))) s
  · simp [tbStepKeys]
  · exact fun k hmem => List.mem_append_right _ (List.mem_flatMap_of_mem ht hmem)

theorem hidden_gtArm (s : State) (t : Nat) (hk : HidesAll view (O.msgs_dropped :: gtKeys t)) : view (gtArm s t).2 = view s := by
  simp only [gtArm, apply_ite Prod.snd, apply_ite view, hidden_gtSkip (hb.sub rfl) _ t _ (hk.of_subset (by simp [gtKeys])),
    hidden_gtEdge (hb.sub rfl) _ t (hk _ (by simp [gtKeys])), hidden_gtAt (hb.sub rfl) _ t _ (hk _ (by simp [gtKeys])),
    view_setGfpTimer (hb.time rfl), hk (O.gt_state t) (by simp [gtKeys]) _ _, ite_self]

end

/-! ### Steps (R394 to R396) -/

section

variable (hb : Blind view [.out, .tb, .epoch, .tinker, .radios, .time, .move, .mac, .ost]) (hk : HidesAll view tbStepKeys)
include hb hk

theorem hidden_stepTb (s : State) (d : Int) : view (stepTb s d) = view s := by
  simp only [stepTb, apply_ite view, hidden_report (hb.tinker rfl) (hk O.msgs_dropped (by simp [tbStepKeys])),
    hidden_gtAllPassed (hb.sub rfl) hk, hidden_wrI (hk O.tb_last_step (by simp [tbStepKeys])), hidden_bump (hk O.tb_steps (by simp [tbStepKeys])),
    view_startMove (hb.move rfl), hidden_wrI (hk O.frame_phase (by simp [tbStepKeys])),
    view_tb_time_epoch_ost_mac (hb.tb rfl) (hb.epoch rfl) (hb.time rfl) (hb.mac rfl) (hb.ost rfl), ite_self]
  exact view_foldl (fun t r => view_setRadio (hb.radios rfl) t r _) _ s

theorem hidden_tbSet (s : State) : view (tbSet s).2 = view s := by
  unfold tbSet
  split
  · rfl
  · simp only [view_setUncertainty (hb.time rfl), hidden_setByHost (hb.sub rfl) (hk.of_subset (by simp [tbStepKeys])), hidden_stepTb hb hk]

theorem hidden_tbAdjust (s : State) : view (tbAdjust s).2 = view s := by
  unfold tbAdjust
  split
  · rfl
  · simp only [hidden_setByHost (hb.sub rfl) (hk.of_subset (by simp [tbStepKeys])), hidden_stepTb hb hk]

end

theorem hidden_tbSlew (hb : Blind view [.time]) (hk : HidesAll view [O.tb_state, O.tb_valid]) (s : State) : view (tbSlew s).2 = view s := by
  unfold tbSlew
  split
  · rfl
  · simp only [hidden_setByHost hb hk, view_setTime (hb.time rfl)]

theorem hidden_tbSourceWrite (hb : Blind view [.time]) (hk : HidesAll view [O.tb_state, O.tb_valid, O.tb_locked_to, O.tb_source]) (s : State)
    (v : Nat) : view (tbSourceWrite s v).2 = view s := by
  simp only [tbSourceWrite, apply_ite view, hk O.tb_locked_to (by simp) _ _, hk O.tb_source (by simp) _ _,
    hidden_setTbState hb (hk.of_subset (by simp)), ite_self]

/-! ### PTP (R404) -/

/-- The registers that the decision of the ports' states sets. -/
def ptpDecideKeys : List Nat :=
  [O.ptp_slave_port, O.ptp_steps_removed, O.tb_freq_adj, O.tb_state, O.tb_valid, O.tb_locked_to, O.msgs_dropped] ++ (List.range 8).map O.pp_state

theorem hidden_ptpDecide (hb : Blind view [.tinker, .time]) (hk : HidesAll view ptpDecideKeys)
    (hgm : ∀ s v, view (wrB s O.ptp_gm_id v) = view s) (s : State) : view (ptpDecide s) = view s := by
  have hport : ∀ best, view ((List.range 8).foldl (fun t p => if ptpRuns s p then wr t (O.pp_state p) (decidePort s best p) else t) s) = view s :=
    fun best => foldl_view_mem view _ (fun p hp u => by
      simp only [apply_ite view, hk (O.pp_state p) (List.mem_append_right _ (List.mem_map_of_mem hp)) _ _, ite_self]) s
  have hslave := hk O.ptp_slave_port (by simp [ptpDecideKeys])
  unfold ptpDecide
  dsimp only
  split
  · simp only [apply_ite view, hidden_sourceQualifies (hb.sub rfl) (hk.of_subset (by simp [ptpDecideKeys, tbStateKeys])),
      hk O.ptp_steps_removed (by simp [ptpDecideKeys]) _ _, hgm, hslave _ _, hport, ite_self]
  · simp only [apply_ite view, hidden_sourceLost hb (hk.of_subset (by simp [ptpDecideKeys, sourceLostKeys])), hslave _ _, hport, ite_self]

/-! ### The commands -/

section

variable (hseal : HidesSeal view)
include hseal

theorem hidden_execTbSet (hb : Blind view [.status, .out, .tb, .epoch, .led, .tinker, .radios, .twin, .time, .move, .mac, .ost])
    (hk : HidesAll view tbStepKeys) (s t : State) (h : execTbSet s = .next t) : view t = view s :=
  view_windowCommand hseal (hb.sub rfl) (hidden_tbSet (hb.sub rfl) hk s) h

theorem hidden_execTbAdjust (hb : Blind view [.status, .out, .tb, .epoch, .led, .tinker, .radios, .twin, .time, .move, .mac, .ost])
    (hk : HidesAll view tbStepKeys) (s t : State) (h : execTbAdjust s = .next t) : view t = view s :=
  view_windowCommand hseal (hb.sub rfl) (hidden_tbAdjust (hb.sub rfl) hk s) h

theorem hidden_execTbSlew (hb : Blind view [.status, .out, .led, .twin, .time]) (hk : HidesAll view [O.tb_state, O.tb_valid]) (s t : State)
    (h : execTbSlew s = .next t) : view t = view s :=
  view_windowCommand hseal (hb.sub rfl) (hidden_tbSlew (hb.sub rfl) hk s) h

theorem hidden_execGtArm (hb : Blind view [.status, .out, .led, .tinker, .twin, .time]) (x : Fin 32)
    (hk : HidesAll view (O.msgs_dropped :: gtKeys x)) (s t : State) (h : execGtArm x s = .next t) : view t = view s :=
  view_windowCommand hseal (hb.sub rfl) (hidden_gtArm (hb.sub rfl) s x hk) h

theorem hidden_execGtDisarm (hb : Blind view [.status, .out, .led, .twin]) (x : Fin 32) (hk : Hides view (O.gt_state x)) (s t : State)
    (h : execGtDisarm x s = .next t) : view t = view s :=
  view_windowCommand (op := fun s => (.ok, wr s (O.gt_state x) 0)) hseal hb (hk s _) h

theorem hidden_execTbSourceWrite (hb : Blind view [.status, .out, .led, .twin, .time]) (v : Fin 3)
    (hk : HidesAll view [O.tb_state, O.tb_valid, O.tb_locked_to, O.tb_source]) (s t : State) (h : execTbSourceWrite v s = .next t) :
    view t = view s :=
  view_windowCommand hseal (hb.sub rfl) (hidden_tbSourceWrite (hb.sub rfl) hk s v) h

theorem hidden_execPtpMessageTx (hb : Blind view [.out, .time]) (port : Fin 8) (kind : PtpKind) (hk : Hides view (O.pp_tx_event port))
    (s t : State) (h : execPtpMessageTx port kind s = .next t) : view t = view s := by
  refine view_act hseal ?_ h
  rw [apply_ite view]
  cases kind <;>
    simp only [apply_ite view, hidden_bump hk, view_setPtpPort (hb.time rfl), view_send (hb.out rfl), ite_self]

theorem hidden_execPtpAnnounceTimeout (hb : Blind view [.tinker, .time]) (port : Fin 8) (hk : HidesAll view ptpDecideKeys)
    (hgm : ∀ s v, view (wrB s O.ptp_gm_id v) = view s) (s t : State) (h : execPtpAnnounceTimeout port s = .next t) : view t = view s := by
  refine view_act hseal ?_ h
  have hport : O.pp_state port ∈ ptpDecideKeys := List.mem_append_right _ (List.mem_map_of_mem (List.mem_range.mpr port.isLt))
  simp only [apply_ite view, hidden_ptpDecide hb hk hgm, hk _ hport _ _, view_setPtpPort (hb.time rfl), ite_self]

theorem hidden_execPpsInTimeout (hb : Blind view [.tinker, .time]) (hk : HidesAll view sourceLostKeys) (s t : State)
    (h : execPpsInTimeout s = .next t) : view t = view s := by
  refine view_act hseal ?_ h
  simp only [apply_ite view, hidden_sourceLost hb hk, ite_self]

theorem view_execPpsOutRise (hb : Blind view [.out, .time]) (s t : State) (h : execPpsOutRise s = .next t) : view t = view s := by
  refine view_act hseal ?_ h
  simp only [apply_ite view, view_send (hb.out rfl), view_setTime (hb.time rfl), ite_self]

theorem hidden_execSynceLost (hb : Blind view [.tinker]) (hk : HidesAll view [O.synce_state, O.msgs_dropped]) (s t : State)
    (h : execSynceLost s = .next t) : view t = view s := by
  refine view_act hseal ?_ h
  simp only [apply_ite view, hidden_report (hb.tinker rfl) (hk O.msgs_dropped (by simp)), hk O.synce_state (by simp) _ _, ite_self]

theorem hidden_execSynceLocked (hb : Blind view [.free, .time]) (hk : HidesAll view [O.synce_state, O.tb_freq_adj]) (s t : State)
    (h : execSynceLocked s = .next t) : view t = view s := by
  refine view_act hseal ?_ h
  simp only [apply_ite view, hidden_servoFreq hb (hk O.tb_freq_adj (by simp)), hk O.synce_state (by simp) _ _, ite_self]

theorem hidden_execBakRateWindow (ppb : Int) (hk : HidesAll view [O.trim_pending, O.bak_rate_ppb, O.bak_trim]) (s t : State)
    (h : execBakRateWindow ppb s = .next t) : view t = view s := by
  refine view_act hseal ?_ h
  simp only [apply_ite view, hidden_setFlag (hk O.trim_pending (by simp)), hidden_wrI (hk O.bak_trim (by simp)),
    hidden_wrI (hk O.bak_rate_ppb (by simp)), ite_self]

theorem hidden_execGtInstant (hb : Blind view [.out, .time]) (x : Fin 32) (hk : HidesAll view [O.gt_state x, O.gt_fired x]) (s t : State)
    (h : execGtInstant x s = .next t) : view t = view s := by
  refine view_act hseal ?_ h
  simp only [apply_ite view, hidden_gtAt (hb.sub rfl) _ _ _ (hk (O.gt_state x) (by simp)), hidden_gtEdge hb _ _ (hk (O.gt_fired x) (by simp)),
    ite_self]

theorem hidden_execGtCaptureEdge (hb : Blind view [.time]) (x : Fin 32) (rising : Bool)
    (hk : HidesAll view [O.gt_cap_lost x, O.gt_cap_level x]) (s t : State) (h : execGtCaptureEdge x rising s = .next t) : view t = view s := by
  refine view_act hseal ?_ h
  simp only [apply_ite view, hidden_bump (hk (O.gt_cap_lost x) (by simp)), hk (O.gt_cap_level x) (by simp) _ _,
    view_setGfpTimer (hb.time rfl), ite_self]

theorem hidden_execGtCapRead (hb : Blind view [.status, .led, .time]) (hread : ∀ s x, view { s with lastRead := x } = view s) (x : Fin 32)
    (hk : Hides view (O.gt_cap_level x)) (s t : State) (h : execGtCapRead x s = .next t) : view t = view s := by
  refine view_act hseal (view_readWith (hb.status rfl) (hb.led rfl) hread s _ _ ?_) h
  unfold gtCapRead
  dsimp only
  split
  · rfl
  · exact (hk _ _).trans (view_setGfpTimer (hb.time rfl) s _ _)

end

end

/-! ### The frame -/

/-- The timeout of a port's master sets no octet object but the grandmaster's identity (R404). -/
theorem ptpAnnounceTimeout_leaves (port : Fin 8) : Leaves (.ptpAnnounceTimeout port) fun s t =>
    t = { s with regs := t.regs, blobs := t.blobs, tinker := t.tinker, time := t.time } ∧ Only s t ptpDecideKeys ∧
      OnlyOctets s t [O.ptp_gm_id] := by
  intro s t h
  have ht := leaves_of_view (c := .ptpAnnounceTimeout port)
    (view := fun v s => { s with regs := v.regs, blobs := v.blobs, tinker := v.tinker, time := v.time }) (fun _ => rfl) (fun _ _ _ => rfl)
    (fun v hseal s t => hidden_execPtpAnnounceTimeout hseal (Blind.of_forall ⟨fun _ _ => rfl, fun _ _ => rfl⟩) port (fun _ _ _ _ => rfl)
      (fun _ _ => rfl) s t) s t h
  have hfuse : t.fuse = s.fuse := (congrArg State.fuse ht).trans rfl
  refine ⟨ht, fun k hk => rd_congr s t k ?_ hfuse ((congrArg (fun u => u.boot.straps) ht).trans rfl) ((congrArg State.system ht).trans rfl),
    fun k hk => rdB_congr s t k ?_ hfuse⟩
  · exact hidden_execPtpAnnounceTimeout (view := fun s => s.regs.look k) (fun _ _ e => e) (Blind.of_forall ⟨fun _ _ => rfl, fun _ _ => rfl⟩)
      port (fun j hj u v => Tab.look_put_ne u.regs j v k fun e => hk (e ▸ hj)) (fun _ _ => rfl) s t h
  · exact hidden_execPtpAnnounceTimeout (view := fun s => s.blobs.look k) (fun _ _ e => e) (Blind.of_forall ⟨fun _ _ => rfl, fun _ _ => rfl⟩)
      port (fun _ _ _ _ => rfl) (fun u v => Tab.look_put_ne u.blobs _ v k fun e => hk (by simp [e])) s t h

/-- Settles O46: of each command, the view of its frame hides all that the command sets. -/
theorem timeFrame : Obligations.TimeFrame := by
  unfold Obligations.TimeFrame
  refine ⟨?_, ?_, ?_, fun v => ?_, fun port kind => ?_, fun port => ptpAnnounceTimeout_leaves port, ?_, ?_, ?_, ?_, fun ppb => ?_, fun x => ?_,
    fun x => ?_, fun x => ?_, fun x rising => ?_, fun x => ?_⟩
  · exact leaves_regs_of_blind fun hseal hb hk t => hidden_execTbSet hseal hb hk _ t
  · exact leaves_regs_of_blind fun hseal hb hk t => hidden_execTbAdjust hseal hb hk _ t
  · exact leaves_only_of_blind fun hseal hb hk t => hidden_execTbSlew hseal hb hk _ t
  · exact leaves_only_of_blind fun hseal hb hk t => hidden_execTbSourceWrite hseal hb v hk _ t
  · exact leaves_only_of_blind fun hseal hb hk t => hidden_execPtpMessageTx hseal hb port kind (hk _ (by simp)) _ t
  · exact leaves_only_of_blind fun hseal hb hk t => hidden_execPpsInTimeout hseal hb hk _ t
  · exact leaves_of_blind fun _ hseal hb => view_execPpsOutRise hseal hb
  · exact leaves_only_of_blind fun hseal hb hk t => hidden_execSynceLost hseal hb hk _ t
  · exact leaves_only_of_blind fun hseal hb hk t => hidden_execSynceLocked hseal hb hk _ t
  · exact leaves_only fun v s t hseal hk => hidden_execBakRateWindow hseal ppb hk s t
  · exact leaves_only_of_blind fun hseal hb hk t => hidden_execGtArm hseal hb x (hk.of_subset (by simp [gtKeys])) _ t
  · exact leaves_only_of_blind fun hseal hb hk t => hidden_execGtDisarm hseal hb x (hk _ (by simp)) _ t
  · exact leaves_only_of_blind fun hseal hb hk t => hidden_execGtInstant hseal hb x hk _ t
  · exact leaves_only_of_blind fun hseal hb hk t => hidden_execGtCaptureEdge hseal hb x rising hk _ t
  · exact leaves_only fun v s t hseal hk => hidden_execGtCapRead hseal (Blind.of_forall ⟨fun _ _ => rfl, fun _ _ => rfl, fun _ _ => rfl⟩)
      (fun _ _ => rfl) x (hk _ (by simp)) s t

end Sys2Proof.Machine
end

section
/-! The frame of the forced messages, calibration requests, the Steward's queue and the Surveyor's timers (O47): what hides the effects of the
maintenance commands. -/

namespace Sys2Proof.Machine

/-! ### What a request that is admitted names (R479) -/

/-- The registers that a request to the Steward may set (R480, R483). -/
def maintKeys : List Nat :=
  [O.maint_admitted, O.maint_refused, O.maint_deferred, O.dram_state, O.region_status, O.msgs_dropped] ++ (List.range 8).map O.act_runs ++
    [O.radio_state 0, O.radio_state 1, O.radio_state 2]

/-- They are among those of a raise by a chain's temperature, which is kept as well (R92). -/
theorem maintKeys_subset (k : Nat) : maintKeys ⊆
    [O.maint_admitted, O.maint_refused, O.maint_deferred, O.dram_state, O.region_status, O.msgs_dropped, k] ++ (List.range 8).map O.act_runs ++
      [O.radio_state 0, O.radio_state 1, O.radio_state 2] := by
  refine List.append_subset_of_subset_of_subset (List.append_subset_of_subset_of_subset ?_ ?_) (List.subset_append_right _ _)
  · exact fun j hj => List.mem_append_left _ (List.mem_append_left _ (List.mem_append_left [k] hj))
  · exact fun j hj => List.mem_append_left _ (List.mem_append_right _ hj)

/-- The registers of the records that the ends of some activities leave (R483). -/
def recordKeys (l : List Activity) : List Nat :=
  (l.flatMap fun e => [O.act_last_end e.activity, O.act_last_result e.activity]) ++ (List.range 7).map O.cal_result

/-- An activity that a mode admits is one of the seven. -/
theorem activity_of_admitted {s : State} {a target : Nat} (h : admittedIn s a target = true) : a < 8 := by
  unfold admittedIn at h
  dsimp only at h
  split at h
  · omega
  split at h
  · omega
  split at h
  · omega
  split at h
  · omega
  · rw [Bool.and_eq_true, Bool.and_eq_true, decide_eq_true_eq] at h
    omega

/-- A radio-wide activity of a target of its level works on one of the three radios. -/
theorem radio_of_levelOk {s : State} {a target : Nat} (h : levelOk s a target = true) (ha : a = 1 ∨ a = 2) : activityRadio a target < 3 := by
  unfold levelOk at h
  rw [if_pos ha, Bool.and_eq_true, decide_eq_true_eq] at h
  obtain ⟨-, hlow, hhigh, -⟩ := h
  unfold activityRadio
  split <;> omega

/-- A request that is answered OK is of an activity that the mode admits, with a target of its level (R480). -/
theorem judged_of_ok {s : State} {a target requester kind : Nat} (h : (stewardRequest s a target requester kind).1 = .ok) :
    admittedIn s a target = true ∧ levelOk s a target = true := by
  unfold stewardRequest at h
  split at h
  · cases h
  split at h
  · cases h
  next hadmitted =>
    split at h
    · cases h
    next hlevel => exact ⟨Bool.of_not_eq_false hadmitted, Bool.of_not_eq_false hlevel⟩

/-- An activity works on one of the dies that a HID can name. -/
theorem activityRadio_lt (a target : Nat) : activityRadio a target < 7 := by
  have hdie : hidDie target < 8 := Nat.mod_lt _ (by decide)
  unfold activityRadio
  split <;> omega

section

variable {α : Type} {view : State → α}

/-! ### Admission (R480 to R483) -/

section

variable (hb : Blind view [.out, .radios, .twin, .steward]) (hk : HidesAll view maintKeys)
include hb hk

theorem hidden_startActivity_of_admitted (s : State) (e : Activity) (ha : e.activity < 8)
    (hr : e.activity = 1 ∨ e.activity = 2 → activityRadio e.activity e.target < 3) : view (startActivity s e) = view s := by
  have hruns : Hides view (O.act_runs e.activity) :=
    hk _ (List.mem_append_left _ (List.mem_append_right _ (List.mem_map_of_mem (List.mem_range.mpr ha))))
  have hstate : ∀ r < 3, Hides view (O.radio_state r) := fun r hlt => by
    interval_cases r <;> exact hk _ (by simp [maintKeys])
  have hset : ∀ r < 3, ∀ t v, view (setRState t r v) = view t := fun r hlt =>
    hidden_setRState (fun s x => hb.radios rfl s _) (hstate r hlt)
  have hretrain : ∀ t, view (retrainStart t) = view t := fun t => by
    simp only [retrainStart, hk O.dram_state (by simp [maintKeys]) _ _, hk O.region_status (by simp [maintKeys]) _ _, hb.steward rfl]
  unfold startActivity
  dsimp only
  split
  next hwide => simp only [apply_ite view, hset _ (hr hwide), view_setRadio (hb.radios rfl), hidden_bump hruns, ite_self]
  · simp only [apply_ite view, hset 2 (by decide), view_setRadio (hb.radios rfl), hretrain, hidden_bump hruns, ite_self]

theorem hidden_enterRunning (s : State) (e : Activity) (ha : e.activity < 8)
    (hr : e.activity = 1 ∨ e.activity = 2 → activityRadio e.activity e.target < 3) : view (enterRunning s e) = view s := by
  simp only [enterRunning, apply_ite view, hidden_startActivity_of_admitted hb hk _ e ha hr, hb.steward rfl,
    hidden_bump (hk O.maint_admitted (by simp [maintKeys])), ite_self]

theorem hidden_admitActivity (s : State) (e : Activity) (ha : e.activity < 8)
    (hr : e.activity = 1 ∨ e.activity = 2 → activityRadio e.activity e.target < 3) : view (admitActivity s e) = view s := by
  simp only [admitActivity, apply_ite view, hidden_enterRunning hb hk s e ha hr, view_varlanSend (hb.out rfl) (hb.twin rfl), hb.steward rfl,
    ite_self]

theorem hidden_stewardRequest (s : State) (a target requester kind : Nat) : view (stewardRequest s a target requester kind).2 = view s := by
  rcases stewardRequest_cases s a target requester kind with ⟨st, -, -, heq⟩ | ⟨-, heq⟩ | heq | heq
  · rw [heq]
  · rw [heq]
  · obtain ⟨hadmitted, hlevel⟩ := judged_of_ok (congrArg Prod.fst heq)
    rw [heq]
    exact hidden_admitActivity hb hk s _ (activity_of_admitted hadmitted) (radio_of_levelOk hlevel)
  · rw [heq]
    exact (hidden_bump (hk O.maint_deferred (by simp [maintKeys])) _).trans (hb.steward rfl s _)

end

theorem hidden_stewardRaise (hb : Blind view [.out, .tinker, .radios, .twin, .steward]) (hk : HidesAll view maintKeys) (s : State)
    (a target requester kind : Nat) : view (stewardRaise s a target requester kind) = view s := by
  have hrequest := hidden_stewardRequest (hb.sub rfl) hk s a target requester kind
  unfold stewardRaise
  split
  next heq => exact view_of_snd heq hrequest
  next heq => exact view_of_snd heq hrequest
  next heq =>
    exact (hidden_report (hb.tinker rfl) (hk O.msgs_dropped (by simp [maintKeys])) _ _ _ _).trans
      ((hidden_bump (hk O.maint_refused (by simp [maintKeys])) _).trans (view_of_snd heq hrequest))

/-- The record of an activity shows in its own registers only. -/
theorem hidden_record {l : List Activity} (hk : HidesAll view (recordKeys l)) (s : State) {e : Activity} (he : e ∈ l) (st : Status) :
    view (recordEnd s e st) = view s := by
  refine hidden_recordEnd s e st (List.forall_mem_cons.mpr ⟨?_, List.forall_mem_cons.mpr ⟨?_, List.forall_mem_singleton.mpr ?_⟩⟩)
  · exact hk _ (List.mem_append_left _ (List.mem_flatMap_of_mem he (by simp)))
  · exact hk _ (List.mem_append_left _ (List.mem_flatMap_of_mem he (by simp)))
  · exact hk _ (List.mem_append_right _ (List.mem_map_of_mem (List.mem_range.mpr (activityRadio_lt _ _))))

theorem hidden_maintCancel (hb : Blind view [.steward]) (s : State) (hk : HidesAll view (recordKeys s.steward.queue)) :
    view (maintCancel s).2 = view s := by
  unfold maintCancel
  dsimp only
  split
  · rfl
  split
  next hfound => exact (hidden_record hk _ (List.mem_of_find?_eq_some hfound) _).trans (hb.steward rfl s _)
  next => rfl

/-! ### Forced messages (R470) -/

theorem hidden_forceFault (hb : Blind view [.tinker]) (hk : Hides view O.msgs_dropped) (s : State) : view (forceFault s).2 = view s := by
  simp only [forceFault, apply_ite Prod.snd, apply_ite view, view_setTinker hb, hidden_collect (hb.tinker rfl) hk, ite_self]

/-! ### Trends (R491) -/

/-- The registers that a day's close sets. -/
def lifeKeys : List Nat := [O.life_estimate, O.life_item, O.msgs_dropped] ++ (List.range 24).flatMap fun i => [O.mi_life i, O.mi_next_step i]

theorem hidden_lifeEstimate (hb : Blind view [.tinker, .survey]) (hk : HidesAll view lifeKeys) (s : State) : view (lifeEstimate s) = view s := by
  have hitem : ∀ i ∈ List.range 24, HidesAll view [O.mi_life i, O.mi_next_step i] := fun i hi =>
    hk.of_subset fun k hmem => List.mem_append_right _ (List.mem_flatMap_of_mem hi hmem)
  have hitems : view ((List.range 24).foldl (fun t i =>
      if itemFitted s.fuse.part i then
        let l := itemLife t i
        wr (wr t (O.mi_next_step i) l.1) (O.mi_life i) l.2
      else t) s) = view s := foldl_view_mem view _ (fun i hi u => by
    simp only [apply_ite view, hitem i hi (O.mi_life i) (by simp) _ _, hitem i hi (O.mi_next_step i) (by simp) _ _, ite_self]) s
  simp only [lifeEstimate, apply_ite view, hidden_report (hb.tinker rfl) (hk O.msgs_dropped (by simp [lifeKeys])), hb.survey rfl,
    hk O.life_item (by simp [lifeKeys]) _ _, hk O.life_estimate (by simp [lifeKeys]) _ _, hitems, ite_self]

theorem view_closeDay (hb : Blind view [.survey]) (s : State) (i : Nat) : view (closeDay s i) = view s := by
  simp only [closeDay, apply_ite view, view_setItem (hb.survey rfl), ite_self]

/-! ### The commands -/

section

variable (hseal : HidesSeal view)
include hseal

theorem hidden_execForce (hb : Blind view [.status, .out, .led, .tinker, .twin]) (hk : Hides view O.msgs_dropped) (s t : State)
    (h : execForce s = .next t) : view t = view s :=
  view_windowCommand hseal (hb.sub rfl) (hidden_forceFault (hb.sub rfl) hk s) h

theorem hidden_execCalCmd (hb : Blind view [.status, .out, .led, .radios, .twin, .steward]) (hk : HidesAll view maintKeys) (r : Fin 3)
    (s t : State) (h : execCalCmd r s = .next t) : view t = view s :=
  view_windowCommand hseal (hb.sub rfl) (hidden_stewardRequest (hb.sub rfl) hk s _ _ _ _) h

theorem hidden_execPredistortTempRaise (hb : Blind view [.out, .tinker, .radios, .twin, .steward]) (hk : HidesAll view maintKeys) (r : Fin 3)
    (chain : Fin 16) (celsius : Int) (htemp : Hides view (O.chain_temp r chain)) (s t : State)
    (h : execPredistortTempRaise r chain celsius s = .next t) : view t = view s := by
  refine view_act hseal ?_ h
  dsimp only
  split
  · split
    · simp only [apply_ite view, hidden_stewardRaise hb hk, hidden_wrI htemp, ite_self]
    · exact hidden_wrI htemp s _
  · rfl

theorem hidden_execMaintRequest (hb : Blind view [.status, .out, .led, .tinker, .radios, .twin, .steward]) (hk : HidesAll view maintKeys)
    (u : Option MaintRaise) (s t : State) (h : execMaintRequest u s = .next t) : view t = view s := by
  cases u with
  | none => exact view_windowCommand hseal (hb.sub rfl) (hidden_stewardRequest (hb.sub rfl) hk s _ _ _ _) h
  | some x => exact view_act hseal (hidden_stewardRaise (hb.sub rfl) hk s _ _ _ _) h

theorem hidden_execMaintCancel (hb : Blind view [.status, .out, .led, .twin, .steward]) (s t : State)
    (hk : HidesAll view (recordKeys s.steward.queue)) (h : execMaintCancel s = .next t) : view t = view s :=
  view_windowCommand hseal (hb.sub rfl) (hidden_maintCancel (hb.sub rfl) s hk) h

theorem hidden_execQueueLimitExpire (hb : Blind view [.tinker, .steward]) (n : Fin 32) (s t : State)
    (hk : HidesAll view [O.maint_expired, O.msgs_dropped]) (hrecord : HidesAll view (recordKeys s.steward.queue))
    (h : execQueueLimitExpire n s = .next t) : view t = view s := by
  refine view_act hseal ?_ h
  dsimp only
  split
  next e hentry =>
    exact (hidden_report (hb.tinker rfl) (hk O.msgs_dropped (by simp)) _ _ _ _).trans ((hidden_bump (hk O.maint_expired (by simp)) _).trans
      ((hidden_record hrecord _ (List.mem_of_getElem? hentry) _).trans (hb.steward rfl s _)))
  next => rfl

theorem hidden_execAlignTimer (hb : Blind view [.out, .tinker, .radios, .twin, .steward]) (hk : HidesAll view maintKeys) (s t : State)
    (h : execAlignTimer s = .next t) : view t = view s := by
  refine view_act hseal ?_ h
  simp only [apply_ite view, hidden_stewardRaise hb hk, ite_self]

theorem hidden_execAlignAnswerTimeout (hb : Blind view [.steward]) (hk : Hides view O.maint_deferred) (s t : State)
    (h : execAlignAnswerTimeout s = .next t) : view t = view s := by
  refine view_act hseal ?_ h
  simp only [apply_ite view, hidden_alignBack hb hk, ite_self]

theorem hidden_execSurveyTimer (hb : Blind view [.out, .tinker, .radios, .twin, .steward]) (hk : HidesAll view maintKeys) (s t : State)
    (h : execSurveyTimer s = .next t) : view t = view s :=
  view_act hseal (hidden_stewardRaise hb hk s _ _ _ _) h

theorem hidden_execMemSurveyTimer (hb : Blind view [.out, .tinker, .radios, .twin, .steward]) (hk : HidesAll view maintKeys) (s t : State)
    (h : execMemSurveyTimer s = .next t) : view t = view s :=
  view_act hseal (view_foldl (fun u _ => hidden_stewardRaise hb hk u _ _ _ _) _ s) h

theorem hidden_execDailyMean (hb : Blind view [.tinker, .survey]) (hk : HidesAll view lifeKeys) (s t : State) (h : execDailyMean s = .next t) :
    view t = view s := by
  refine view_act hseal ?_ h
  simp only [hb.survey rfl, hidden_lifeEstimate hb hk, view_foldl (view_closeDay (hb.sub rfl))]

end

end

/-! ### The frame -/

/-- Settles O47: of each command, the view of its frame hides all that the command sets. -/
theorem maintenanceFrame : Obligations.MaintenanceFrame := by
  unfold Obligations.MaintenanceFrame
  refine ⟨?_, fun r => ?_, fun r chain celsius => ?_, fun u => ?_, ?_, fun n => ?_, ?_, ?_, ?_, ?_, ?_⟩
  · exact leaves_only_of_blind fun hseal hb hk t => hidden_execForce hseal hb (hk _ (by simp)) _ t
  · exact leaves_regs_of_blind fun hseal hb hk t => hidden_execCalCmd hseal hb hk r _ t
  · exact leaves_regs_of_blind fun hseal hb hk t =>
      hidden_execPredistortTempRaise hseal hb (hk.of_subset (maintKeys_subset _)) r chain celsius (hk _ (by simp)) _ t
  · exact leaves_regs_of_blind fun hseal hb hk t => hidden_execMaintRequest hseal hb hk u _ t
  · exact leaves_only_of_blind fun hseal hb hk t => hidden_execMaintCancel hseal hb _ t hk
  · exact leaves_only_of_blind fun hseal hb hk t => hidden_execQueueLimitExpire hseal hb n _ t (hk.of_subset (by simp))
      (hk.of_subset (by simp [recordKeys]))
  · exact leaves_regs_of_blind fun hseal hb hk t => hidden_execAlignTimer hseal hb hk _ t
  · exact leaves_only_of_blind fun hseal hb hk t => hidden_execAlignAnswerTimeout hseal hb (hk _ (by simp)) _ t
  · exact leaves_regs_of_blind fun hseal hb hk t => hidden_execSurveyTimer hseal hb hk _ t
  · exact leaves_regs_of_blind fun hseal hb hk t => hidden_execMemSurveyTimer hseal hb hk _ t
  · exact leaves_only_of_blind fun hseal hb hk t => hidden_execDailyMean hseal hb hk _ t

end Sys2Proof.Machine
end

section
/-! Rules of registers, counters and backup commands that the commands of the clocks, the supplies and the time base share (O9 to O14, O16, O33,
O34). -/

namespace Sys2Proof.Machine

/-! ### Counters, flags and signed objects -/

theorem rd_bump_ne (s : State) (k j : Nat) (h : j ≠ k) : rd (bump s k) j = rd s j := by rw [rd_bump, if_neg h]

theorem rd_setFlag_ne (s : State) (k : Nat) (b : Bool) (j : Nat) (h : j ≠ k) : rd (setFlag s k b) j = rd s j := rd_wr_ne _ _ _ _ h

theorem rd_wrI_self (s : State) (k : Nat) (v : Int) : rd (wrI s k v) k = ofSigned 32 v := rd_wr_self _ _ _

theorem rd_wrI_ne (s : State) (k : Nat) (v : Int) (j : Nat) (h : j ≠ k) : rd (wrI s k v) j = rd s j := rd_wr_ne _ _ _ _ h

/-- A signed object keeps a value of its range. -/
theorem toSigned_ofSigned {v : Int} (hlow : -2147483648 ≤ v) (hhigh : v < 2147483648) : toSigned 32 (ofSigned 32 v) = v := by
  change (if (v % 4294967296).toNat < 2147483648 then ((v % 4294967296).toNat : Int) else ((v % 4294967296).toNat : Int) - 4294967296) = v
  split_ifs <;> omega

/-- A 32-bit counter that a sealed effect has raised by one has counted (R39). -/
theorem counted_of_rd {s t : State} {k : Nat} (hbase : base t = base s) (htop : topOf k = 0xFFFFFFFF)
    (h : rd t k = min (rd s k + 1) (topOf k)) : Counted s (sealed s t) k := by
  rw [Counted, rd_sealed_of_base hbase, h, htop]

/-! ### Messages of the backup domain (R432, R439) -/

theorem rd_reportHeld (s : State) (k h j : Nat) (hj : j ≠ O.msgs_dropped) : rd (reportHeld s k h) j = rd s j :=
  hidden_reportHeld (view := fun u => rd u j) (fun s _ => rd_congr s _ j rfl rfl rfl rfl) (fun s _ => rd_congr s _ j rfl rfl rfl rfl)
    (fun u v => rd_wr_ne u _ v j hj) s k h

@[simp] theorem base_reportHeld (s : State) (k h : Nat) : base (reportHeld s k h) = base s :=
  hidden_reportHeld (view := base) (fun _ _ => rfl) (fun _ _ => rfl) (fun _ _ => rfl) s k h

/-! ### Commands of the backup domain (R445) -/

/-- A command of the backup domain completes with what holds of its effect, in every mode but OFF. -/
theorem completes_backup {c : Instr} {s : State} {op : State → State} {P : State → Prop} (hexec : exec c s = backup s op)
    (hmode : packageMode s ≠ 1) (h : P (sealed s (op s))) : Completes c s P :=
  completes_done hexec (by rwa [if_neg hmode])

/-! ### Reads of an object (R40) -/

/-- A read whose object is fitted and reached gives its value, with OK. -/
theorem readWith_reaches {s : State} {k : Nat} (hserves : ledgerServes s = true) (hfitted : objFitted s.fuse.part (k / 256) = true)
    (hreached : crossing s (k / 256) = .reached) (op : State → Octets × State) :
    readWith s k op = ret { (op s).2 with lastRead := (op s).1 } .ok := by
  unfold readWith
  dsimp only
  rw [if_neg (by simp [hserves]), if_neg (by simp [hfitted]), hreached]

end Sys2Proof.Machine
end

section
/-! The reference PLL and the clock domains (O9). -/

namespace Sys2Proof.Machine

/-! ### Domains that are fenced (R387, R388) -/

theorem rd_setClk_rate (s : State) (d v : Nat) :
    rd (setClk s d v) (O.clk_rate d) = if v = 0 ∨ v = 2 then 0 else domainRate d (rd s O.uplink_mode) := rd_wr_self _ _ _

theorem rd_fenceDomain_self (s : State) (d : Nat) : clkState (fenceDomain s d) d = 2 ∧ rd (fenceDomain s d) (O.clk_rate d) = 0 := by
  refine ⟨(rd_bump_ne _ _ _ (objKey_ne (by decide) (by decide) (by decide))).trans (clkState_setClk s d 2), ?_⟩
  exact (rd_bump_ne _ _ _ (objKey_ne (by decide) (by decide) (by decide))).trans (rd_setClk_rate s d 2)

/-- A domain that is fenced leaves the state and the rate of the others. -/
theorem rd_fenceDomain_ne (s : State) {d e : Nat} (hne : d ≠ e) :
    clkState (fenceDomain s e) d = clkState s d ∧ rd (fenceDomain s e) (O.clk_rate d) = rd s (O.clk_rate d) := by
  constructor
  · refine (rd_bump_ne _ _ _ (objKey_ne (by decide) (by decide) (by decide))).trans
      (rd_setClk_ne _ _ _ _ ?_ (objKey_ne (by decide) (by decide) (by decide)))
    simp only [O.clk_state, objKey]
    omega
  · refine (rd_bump_ne _ _ _ (objKey_ne (by decide) (by decide) (by decide))).trans
      (rd_setClk_ne _ _ _ _ (objKey_ne (by decide) (by decide) (by decide)) ?_)
    simp only [O.clk_rate, objKey]
    omega

/-- Each domain of a list that is fenced is stopped and fenced. -/
theorem rd_foldl_fenceDomain (l : List Nat) (d : Nat) (s : State) (h : d ∈ l ∨ clkState s d = 2 ∧ rd s (O.clk_rate d) = 0) :
    clkState (l.foldl fenceDomain s) d = 2 ∧ rd (l.foldl fenceDomain s) (O.clk_rate d) = 0 := by
  induction l generalizing s with
  | nil => exact h.resolve_left List.not_mem_nil
  | cons e l ih =>
    refine ih (fenceDomain s e) ?_
    by_cases hne : d = e
    · exact .inr (hne ▸ rd_fenceDomain_self s d)
    · obtain ⟨hstate, hrate⟩ := rd_fenceDomain_ne s hne
      rw [hstate, hrate]
      exact h.imp_left fun hmem => (List.mem_cons.mp hmem).resolve_left hne

theorem base_foldl_fenceDomain (l : List Nat) (s : State) : base (l.foldl fenceDomain s) = base s :=
  view_foldl (fun u d => by simp [fenceDomain, setClk, base]) l s

theorem tinker_foldl_fenceDomain (l : List Nat) (s : State) : (l.foldl fenceDomain s).tinker = s.tinker :=
  view_foldl (view := State.tinker) (fun u d => by simp [fenceDomain, setClk]) l s

/-- The report of a lost lock leaves the registers that the fences set. -/
theorem rd_sealed_fenced (s : State) (l : List Nat) (kind sev detail h a : Nat) {k : Nat} (hk : k ≠ O.msgs_dropped) :
    rd (sealed s (reportWith (l.foldl fenceDomain s) kind sev detail h a)) k = rd (l.foldl fenceDomain s) k := by
  have hbase : base (reportWith (l.foldl fenceDomain s) kind sev detail h a) = base (l.foldl fenceDomain s) := by simp [base]
  exact (rd_sealed_of_base (hbase.trans (base_foldl_fenceDomain l s)) k).trans (rd_reportWith _ _ _ _ _ _ _ hk)

/-! ### The statement -/

/-- Settles O9, event by event. -/
theorem clockCommandsComplete : Obligations.ClockCommandsComplete := by
  unfold Obligations.ClockCommandsComplete
  refine ⟨fun s hon hstate => ?_, fun s hstate => ?_, fun s hon hstate => ?_, fun s d hstate => ?_, fun s d hstate hwanted hhung => ?_,
    fun s i h hon hentry hnew => ?_, fun s p d hon hmem hruns => ?_⟩
  · refine completes_act (show execRefLoss s = _ from rfl) hon ?_
    rw [if_pos hstate]
    have hbase : base (report (bump (wr { s with refSince := s.now } O.ref_state 3) O.ref_losses) 0x69 (refHid s) 0) = base s := by simp [base]
    simp (disch := decide) only [Counted, rd_sealed_of_base hbase, rd_report, rd_bump_ne, rd_bump_self, rd_wr_ne, rd_wr_self]
    exact ⟨trivial, rfl, by simp, raised_report _ _ _ _ _ (by simp)⟩
  · refine completes_done (show execRefAcquired s = _ from rfl) ?_
    rw [if_pos hstate]
    exact (rd_sealed_of_base (by simp [base]) _).trans (rd_wr_self _ _ _)
  · refine completes_act (show execRefRestored s = _ from rfl) hon ?_
    rw [if_pos hstate, rd_sealed_of_base (by simp [base]), rd_sealed_of_base (by simp [base])]
    exact ⟨(rd_wr_ne _ _ _ _ (by decide)).trans (rd_wr_self _ _ _), rd_wr_self _ _ _⟩
  · refine completes_done (show execDomainQuiesceDone d s = _ from rfl) ?_
    have hbase : base (setClk s d 0) = base s := by simp [setClk, base]
    rw [if_pos hstate, clkState, rd_sealed_of_base hbase, rd_sealed_of_base hbase]
    exact ⟨clkState_setClk s d 0, rd_setClk_rate s d 0⟩
  · refine completes_done (show execDomainClockStart d s = _ from rfl) ?_
    have hnone : (setClk s d 1).led.hung = [] := by simpa [setClk] using hhung
    rw [if_pos ⟨hstate, hwanted⟩]
    dsimp only
    rw [hnone, List.map_nil, resumeAll_of_none rfl]
    have hread : ∀ k x, rd (sealed s (setLed (setClk s d 1) x)) k = rd (setClk s d 1) k := fun k x =>
      (rd_sealed_of_base (by simp [setLed, setClk, base]) k).trans (rd_congr _ _ _ rfl rfl rfl rfl)
    rw [clkState, hread, hread]
    exact ⟨clkState_setClk s d 1, rd_setClk_rate s d 1⟩
  · refine completes_act (show execCrossingStall i s = _ from rfl) hon ?_
    have hlt : i < s.led.hung.length := (List.getElem?_eq_some_iff.mp hentry).1
    simp only [hentry, hnew, Bool.false_eq_true, if_false]
    refine ⟨counted_of_rd (by simp [base]) (by decide) ?_, ?_, by simp [hlt], raised_report _ _ _ _ _ (by simp)⟩
    · rw [rd_report _ _ _ _ _ (by decide), rd_wr_ne _ _ _ _ (by decide), rd_bump_ne _ _ _ (objKey_ne (by decide) (by decide) (by decide)),
        rd_bump_self]
      exact congrArg (fun n => min (n + 1) _) (rd_congr _ _ _ rfl rfl rfl rfl)
    · rw [rd_sealed_of_base (by simp [base]), rd_report _ _ _ _ _ (by decide), rd_wr_self]
  · refine completes_act (show execPllUnlock p s = _ from rfl) hon ?_
    have hfenced : d ∈ (pllDomains p).filter (fun d => decide (clkState s d = 1 ∨ clkState s d = 3)) :=
      List.mem_filter.mpr ⟨hmem, decide_eq_true hruns⟩
    dsimp only
    rw [if_neg (List.ne_nil_of_mem hfenced)]
    obtain ⟨hstate, hrate⟩ := rd_foldl_fenceDomain _ d s (.inl hfenced)
    refine ⟨(rd_sealed_fenced s _ _ _ _ _ _ ?_).trans hstate, (rd_sealed_fenced s _ _ _ _ _ _ ?_).trans hrate, raised_reportWith _ _ _ _ _ _ _ (tinker_foldl_fenceDomain _ s)⟩
    · exact objKey_ne (by decide) (by decide) (by decide)
    · exact objKey_ne (by decide) (by decide) (by decide)

end Sys2Proof.Machine
end

section
/-! The backup domain's supply, crystal and reset (O10). -/

namespace Sys2Proof.Machine

/-! ### The reset of the backup domain (R425) -/

/-- The registers after the objects of the chapter have taken their defaults. -/
def backupCleared (s : State) : Tab Nat := (setPwron s 0).regs.filter fun e => !(clearedKey e.1)

/-- A register that the reset clears reads its default. -/
theorem rd_backupReset_cleared (s : State) (por : Bool) {k : Nat} (hclears : clearedKey k = true) (hpor : k ≠ O.bak_por) (hq : k ≠ O.q_state) :
    rd (backupReset s por) k = defaultOf s k := by
  have hlook : (backupCleared s).look k = none := by
    rw [backupCleared, Tab.look_filter _ (fun k => !(clearedKey k)), hclears]
    rfl
  have hcleared : ∀ u : State, u.regs = backupCleared s → u.fuse = s.fuse → u.boot = s.boot → u.system = s.system → rd u k = defaultOf s k :=
    fun u hregs hfuse hboot hsystem => by rw [rd_eq, hregs, hlook, hfuse, hboot, hsystem, defaultOf_eq s k]; rfl
  unfold backupReset
  dsimp only
  split
  · rw [rd_wr_ne _ _ _ _ hq, rd_setFlag_ne _ _ _ _ hpor]
    refine hcleared _ rfl ?_ ?_ ?_ <;> simp [setPwron, apply_ite]
  · rw [rd_setFlag_ne _ _ _ _ hpor]
    refine hcleared _ rfl ?_ ?_ ?_ <;> simp [setPwron, apply_ite]

/-- A power-on reset sets `bak_por`, and a commanded one leaves it (R425). -/
theorem flag_backupReset_por (s : State) (por : Bool) : flag (backupReset s por) O.bak_por = (por || flag s O.bak_por) := by
  unfold backupReset
  dsimp only
  split
  · rw [flag, rd_wr_ne _ _ _ _ (by decide)]
    exact flag_setFlag _ _ _
  · exact flag_setFlag _ _ _

theorem base_backupReset (s : State) (por : Bool) : base (backupReset s por) = base s :=
  view_backupReset (view := base) (fun _ _ => rfl) (fun _ _ => rfl) (fun _ _ => rfl) (fun _ _ => rfl) (fun _ _ => rfl) (fun _ _ => rfl) s por

/-- The seconds and both alarms read their defaults after a reset of the backup domain (R425). -/
theorem rd_backupReset_defaults (s : State) (por : Bool) : rd (backupReset s por) O.bak_seconds = 0 ∧ rd (backupReset s por) (O.al_state 0) = 0 ∧
    rd (backupReset s por) (O.al_state 1) = 0 := by
  refine ⟨(rd_backupReset_cleared s por (by decide) (by decide) (by decide)).trans ?_,
    (rd_backupReset_cleared s por (by decide) (by decide) (by decide)).trans ?_,
    (rd_backupReset_cleared s por (by decide) (by decide) (by decide)).trans ?_⟩ <;> rfl

/-! ### The power-on reset (R423) -/

/-- The state that the power-on reset leaves: without its input a package in HOLD is OFF. -/
def porState (s : State) : State :=
  if s.power.inputOn then backupReset s true
  else
    let t := { backupReset s true with power := { (backupReset s true).power with vbak := false } }
    if packageMode s = 2 then setClk (wr (wr t O.package_mode 1) (O.pd_state 0) 0) 13 0 else t

theorem exec_backupPor (s : State) : exec .backupPor s = done s (porState s) := rfl

theorem base_porState (s : State) : base (porState s) = base s := by
  unfold porState
  dsimp only
  rw [← base_backupReset s true]
  split_ifs <;> simp [base, setClk]

/-- What the loss of the supply sets beside the reset: the mode, the power domain and the clock of the backup domain. -/
theorem rd_porState (s : State) {k : Nat} (hk : k ∉ [O.package_mode, O.pd_state 0, O.clk_state 13, O.clk_rate 13]) :
    rd (porState s) k = rd (backupReset s true) k := by
  simp only [List.mem_cons, List.not_mem_nil, or_false, not_or] at hk
  obtain ⟨hmode, hpower, hstate, hrate⟩ := hk
  unfold porState
  dsimp only
  split_ifs
  · rfl
  · rw [rd_setClk_ne _ _ _ _ hstate hrate, rd_wr_ne _ _ _ _ hpower, rd_wr_ne _ _ _ _ hmode]
    exact rd_congr _ _ _ rfl rfl rfl rfl
  · exact rd_congr _ _ _ rfl rfl rfl rfl

theorem packageMode_porState {s : State} (hinput : s.power.inputOn = false) (hmode : packageMode s = 2) : packageMode (porState s) = 1 := by
  rw [porState, if_neg (Bool.eq_false_iff.mp hinput), if_pos hmode, packageMode, rd_setClk_ne _ _ _ _ (by decide) (by decide),
    rd_wr_ne _ _ _ _ (by decide), rd_wr_self]

/-! ### The measurement of VBAK (R423) -/

/-- A measurement is kept, and `vbak_low` follows it with its hysteresis. -/
def vbakMeasured (s : State) (mv : Nat) : State :=
  let u := wr s O.vbak_mv (min 0xFFFF mv)
  if mv < rd s O.vbak_warn then (if flag s O.vbak_low then u else reportHeld (setFlag u O.vbak_low true) 0x70 (supplyHid s))
  else if rd s O.vbak_warn + 100 < mv then setFlag u O.vbak_low false
  else u

theorem base_vbakMeasured (s : State) (mv : Nat) : base (vbakMeasured s mv) = base s := by
  simp [vbakMeasured, apply_ite base, setFlag]

theorem rd_vbakMeasured_mv (s : State) (mv : Nat) : rd (vbakMeasured s mv) O.vbak_mv = min 0xFFFF mv := by
  unfold vbakMeasured
  dsimp only
  split_ifs <;> simp (disch := decide) only [rd_reportHeld, rd_setFlag_ne, rd_wr_self]

/-- Below the warning `vbak_low` is set. -/
theorem flag_vbakMeasured_low {s : State} {mv : Nat} (h : mv < rd s O.vbak_warn) : flag (vbakMeasured s mv) O.vbak_low = true := by
  rw [vbakMeasured, if_pos h]
  split
  next hlow => exact (congrArg (fun n => decide (n = 1)) (rd_wr_ne _ _ _ _ (by decide))).trans hlow
  next => exact (congrArg (fun n => decide (n = 1)) (rd_reportHeld _ _ _ _ (by decide))).trans (flag_setFlag _ _ _)

/-- Above the hysteresis it is cleared. -/
theorem flag_vbakMeasured_high {s : State} {mv : Nat} (h : rd s O.vbak_warn + 100 < mv) : flag (vbakMeasured s mv) O.vbak_low = false := by
  rw [vbakMeasured, if_neg (by omega), if_pos h]
  exact flag_setFlag _ _ _

/-- Between the two it stands. -/
theorem flag_vbakMeasured_between {s : State} {mv : Nat} (hlow : rd s O.vbak_warn ≤ mv) (hhigh : mv ≤ rd s O.vbak_warn + 100) :
    flag (vbakMeasured s mv) O.vbak_low = flag s O.vbak_low := by
  rw [vbakMeasured, if_neg (by omega), if_neg (by omega), flag, rd_wr_ne _ _ _ _ (by decide)]
  rfl

/-! ### The crystal (R424) -/

/-- The crystal has stopped: the time is invalid, and the stop is counted. -/
def crystalStopped (s : State) : State :=
  bump (setFlag { s with watch := { s.watch with stopped := true } } O.bak_valid false) O.xtal_stops

theorem watch_reportHeld (s : State) (k h : Nat) : (reportHeld s k h).watch = s.watch :=
  hidden_reportHeld (view := State.watch) (fun _ _ => rfl) (fun _ _ => rfl) (fun _ _ => rfl) s k h

/-! ### The statement -/

/-- Settles O10, event by event. -/
theorem backupSupplyComplete : Obligations.BackupSupplyComplete := by
  unfold Obligations.BackupSupplyComplete
  refine ⟨fun s hmode hsupply => ?_, fun s hmode hsupply => ?_, fun s mv hmode => ?_, fun s => ?_, fun s hreach => ?_, fun s hmode hruns => ?_,
    fun s hmode => ?_⟩
  · refine completes_backup (show execInternalRailLow s = _ from rfl) hmode ?_
    rw [if_pos hsupply, rd_sealed_of_base (by simp [base]), rd_bump_ne _ _ _ (by decide)]
    refine ⟨rd_wr_self _ _ _, counted_of_rd (by simp [base]) (by decide) ?_⟩
    rw [rd_bump_self, rd_wr_ne _ _ _ _ (by decide)]
  · refine completes_backup (show execInternalRailRestored s = _ from rfl) hmode ?_
    rw [if_pos hsupply, rd_sealed_of_base (by simp [base])]
    exact rd_wr_self _ _ _
  · refine completes_backup (show execVbakMeasure mv s = backup s (vbakMeasured · mv) from rfl) hmode ?_
    simp only [flag_sealed (base_vbakMeasured s mv), rd_sealed_of_base (base_vbakMeasured s mv)]
    exact ⟨rd_vbakMeasured_mv s mv, flag_vbakMeasured_low, flag_vbakMeasured_high, flag_vbakMeasured_between⟩
  · refine completes_done (exec_backupPor s) ?_
    simp only [flag_sealed (base_porState s), rd_sealed_of_base (base_porState s), packageMode]
    obtain ⟨hseconds, hfirst, hsecond⟩ := rd_backupReset_defaults s true
    refine ⟨?_, (rd_porState s (by decide)).trans hseconds, (rd_porState s (by decide)).trans hfirst, (rd_porState s (by decide)).trans hsecond,
      packageMode_porState⟩
    rw [flag, rd_porState s (by decide)]
    exact flag_backupReset_por s true
  · refine completes_command (show execBakReset s = _ from rfl) hreach ?_
    simp only [flag, rd_sealed_commanded (base_backupReset s false)]
    exact ⟨by simp, (rd_backupReset_defaults s false).1, (rd_backupReset_defaults s false).2.1, (rd_backupReset_defaults s false).2.2,
      flag_backupReset_por s false⟩
  · refine completes_backup (show execXtalStop s = _ from rfl) hmode ?_
    have hbase : base (reportHeld (crystalStopped s) 0x74 (counterHid s)) = base s :=
      (base_reportHeld _ _ _).trans (by simp [crystalStopped, base, setFlag])
    rw [if_neg (Bool.eq_false_iff.mp hruns)]
    refine ⟨(congrArg Watchman.stopped (watch_reportHeld (crystalStopped s) _ _)).trans (by simp [crystalStopped, setFlag]),
      (flag_sealed hbase _).trans ?_, counted_of_rd hbase (by decide) ?_⟩
    · rw [flag, rd_reportHeld _ _ _ _ (by decide), crystalStopped, rd_bump_ne _ _ _ (by decide)]
      exact flag_setFlag _ _ _
    · rw [rd_reportHeld _ _ _ _ (by decide), rd_bump_self, rd_setFlag_ne _ _ _ _ (by decide)]
      exact congrArg (fun n => min (n + 1) _) (rd_congr _ _ _ rfl rfl rfl rfl)
  · exact completes_backup (show execXtalResume s = _ from rfl) hmode rfl

end Sys2Proof.Machine
end

section
/-! The backup domain's time (O11). -/

namespace Sys2Proof.Machine

/-! ### The seconds and the alarms (R427, R431) -/

/-- The registers that a change of the seconds may set at the alarms. -/
theorem rd_alarmsChange (s : State) (old : Nat) (increment : Bool) {k : Nat} (hk : k ∉ alarmKeys 0 ++ alarmKeys 1) :
    rd (alarmsChange s old increment) k = rd s k := by
  rw [List.mem_append, not_or] at hk
  exact hidden_alarmsChange (view := fun u => rd u k) (fun u _ => rd_congr u _ k rfl rfl rfl rfl) (fun u _ => rd_congr u _ k rfl rfl rfl rfl)
    (fun u _ => rd_congr u _ k rfl rfl rfl rfl) (hidesAll_rd hk.1) (hidesAll_rd hk.2) s old increment

theorem base_alarmsChange (s : State) (old : Nat) (increment : Bool) : base (alarmsChange s old increment) = base s :=
  hidden_alarmsChange (view := base) (fun _ _ => rfl) (fun _ _ => rfl) (fun _ _ => rfl) (fun _ _ _ _ => rfl) (fun _ _ _ _ => rfl) s old increment

/-- The seconds written are what they read, the prescaler restarts, and the time is valid (R429, R430). -/
theorem rd_writeSeconds (s : State) (v : Nat) : rd (writeSeconds s v) O.bak_seconds = v ∧ rd (writeSeconds s v) O.bak_prescaler = 0 ∧
    flag (writeSeconds s v) O.bak_valid = true := by
  have hkept : ∀ k, k ∉ alarmKeys 0 ++ alarmKeys 1 →
      rd (writeSeconds s v) k = rd (setFlag (wr (wr s O.bak_seconds v) O.bak_prescaler 0) O.bak_valid true) k := fun k hk =>
    (rd_alarmsChange _ _ _ hk).trans (rd_congr _ _ _ rfl rfl rfl rfl)
  refine ⟨?_, ?_, ?_⟩
  · rw [hkept _ (by decide), rd_setFlag_ne _ _ _ _ (by decide), rd_wr_ne _ _ _ _ (by decide), rd_wr_self]
  · rw [hkept _ (by decide), rd_setFlag_ne _ _ _ _ (by decide), rd_wr_self]
  · rw [flag, hkept _ (by decide)]
    exact flag_setFlag _ _ _

theorem base_writeSeconds (s : State) (v : Nat) : base (writeSeconds s v) = base s :=
  (base_alarmsChange _ _ _).trans (by simp [base, setFlag])

/-- A second has passed at its boundary, before the alarms: the counts, the trim in use and no trim pending (R427, R430). -/
def secondCounted (s : State) : State :=
  let ticks := (rd s O.bak_ticks + (s.watch.length - rd s O.bak_prescaler)) % 281474976710656
  let u := wr (wr (wr s O.bak_ticks ticks) O.bak_prescaler 0) O.bak_seconds ((rd s O.bak_seconds + 1) % 281474976710656)
  setFlag { u with watch := trimSecond u.watch (rdI u O.bak_trim) } O.trim_pending false

theorem rd_secondCounted (s : State) : rd (secondCounted s) O.bak_seconds = (rd s O.bak_seconds + 1) % 281474976710656 ∧
    rd (secondCounted s) O.bak_prescaler = 0 ∧ flag (secondCounted s) O.trim_pending = false := by
  refine ⟨?_, ?_, flag_setFlag _ _ _⟩
  · exact (rd_setFlag_ne _ _ _ _ (by decide)).trans ((rd_congr _ _ _ rfl rfl rfl rfl).trans (rd_wr_self _ _ _))
  · exact (rd_setFlag_ne _ _ _ _ (by decide)).trans ((rd_congr _ _ _ rfl rfl rfl rfl).trans
      ((rd_wr_ne _ _ _ _ (by decide)).trans (rd_wr_self _ _ _)))

/-! ### The commands -/

/-- A write of a value that the seconds can hold is a command of their object (R429). -/
theorem exec_bakSecondsWrite (s : State) {v : Nat} (h : v < 281474976710656) :
    exec (.bakSecondsWrite v) s = act s fun s => command s O.bak_seconds v fun s => bakSecondsWrite s v := by
  change execBakSecondsWrite v s = _
  simp only [execBakSecondsWrite, if_neg (Nat.not_le.mpr h)]

/-- A write of a trim of its range is a command of its object (R430). -/
theorem exec_bakTrimWrite (s : State) {v : Int} (hlow : -30000 ≤ v) (hhigh : v ≤ 30000) :
    exec (.bakTrimWrite v) s = act s fun s => command s O.bak_trim (ofSigned 32 v) fun s => bakTrimWrite s v := by
  have hrange : ¬(v < -30000 ∨ 30000 < v) := by omega
  change execBakTrimWrite v s = _
  simp only [execBakTrimWrite, if_neg hrange]

/-- A read of a time object gives its value (R428). -/
theorem completes_backupTimeRead {s : State} {i : Fin 5} {P : State → Prop} (hon : hubOn s = true) (hserves : ledgerServes s = true)
    (hreached : crossing s 0x1401 = .reached)
    (h : P (sealed s (ret { s with lastRead := backupValue s (backupNow s) ((i : Nat) + 1) } .ok))) : Completes (.backupTimeRead i) s P := by
  have hindex : objKey 0x1401 ((i : Nat) + 1) / 256 = 0x1401 := by simp only [objKey]; omega
  have hfitted : objFitted s.fuse.part 0x1401 = true := by rw [objFitted]; rfl
  refine completes_act (show execBackupTimeRead i s = _ from rfl) hon ?_
  rw [readWith_reaches hserves (by rwa [hindex]) (by rwa [hindex])]
  exact h

/-! ### The statement -/

/-- Settles O11, command by command. -/
theorem backupTimeComplete : Obligations.BackupTimeComplete := by
  unfold Obligations.BackupTimeComplete
  refine ⟨fun s hmode hruns => ?_, fun s v hreach hv hfree => ?_, fun s hon hsync hlocked => ?_, fun s v hreach hlow hhigh => ?_,
    fun s i hon hserves hreached => ?_⟩
  · refine completes_backup (show execSecondBoundary s = _ from rfl) hmode ?_
    have hbase : base (alarmsChange (secondCounted s) (rd s O.bak_seconds) true) = base s :=
      (base_alarmsChange _ _ _).trans (by simp [secondCounted, base, setFlag])
    rw [if_neg (Bool.eq_false_iff.mp hruns)]
    obtain ⟨hseconds, hprescaler, hpending⟩ := rd_secondCounted s
    refine ⟨?_, ?_, ?_⟩
    · exact (rd_sealed_of_base hbase _).trans ((rd_alarmsChange _ _ _ (by decide)).trans hseconds)
    · exact (rd_sealed_of_base hbase _).trans ((rd_alarmsChange _ _ _ (by decide)).trans hprescaler)
    · refine (flag_sealed hbase _).trans ?_
      rw [flag, rd_alarmsChange _ _ _ (by decide)]
      exact hpending
  · refine completes_command (exec_bakSecondsWrite s hv) hreach ?_
    have hnot : ¬(flag s O.bak_sync = true ∧ rd s O.tb_state = 3) := fun ⟨hsync, hlocked⟩ =>
      hfree.elim (fun h => absurd hsync (by simp [h])) fun h => h hlocked
    rw [bakSecondsWrite, if_neg hnot]
    simp only [flag, rd_sealed_commanded (base_writeSeconds s v)]
    exact ⟨by simp, rd_writeSeconds s v⟩
  · refine completes_act (show execBakSyncWrite s = _ from rfl) hon ?_
    rw [if_pos ⟨hsync, hlocked⟩]
    obtain ⟨hseconds, -, hvalid⟩ := rd_writeSeconds s (tbNs s / 1000000000 % 281474976710656)
    exact ⟨(rd_sealed_of_base (base_writeSeconds _ _) _).trans hseconds, (flag_sealed (base_writeSeconds _ _) _).trans hvalid⟩
  · refine completes_command (exec_bakTrimWrite s hlow hhigh) hreach ?_
    have hbase : base (setFlag (wrI s O.bak_trim v) O.trim_pending true) = base s := by simp [base, setFlag, wrI]
    simp only [bakTrimWrite, flag, rdI, rd_sealed_commanded hbase]
    refine ⟨by simp, ?_, flag_setFlag _ _ _⟩
    rw [rd_setFlag_ne _ _ _ _ (by decide), rd_wrI_self, toSigned_ofSigned (by omega) (by omega)]
  · refine completes_backupTimeRead hon hserves hreached ⟨by simp, ?_, ?_, ?_, ?_, ?_⟩ <;>
    · rintro rfl
      simp [backupValue, backupNow]

end Sys2Proof.Machine
end

section
/-! Alarms, PWRON_OUT and the scratch memory (O12). -/

namespace Sys2Proof.Machine

/-! ### PWRON_OUT (R433) -/

theorem rd_setPwron_self (s : State) (v : Nat) : rd (setPwron s v) O.pwron_state = v := by
  unfold setPwron
  dsimp only
  split_ifs
  · exact (rd_send _ _ _).trans (rd_wr_self _ _ _)
  · exact (rd_send _ _ _).trans (rd_wr_self _ _ _)
  · exact rd_wr_self _ _ _

theorem base_setPwron (s : State) (v : Nat) : base (setPwron s v) = base s :=
  hidden_setPwron (view := base) (fun _ _ => rfl) (fun _ _ => rfl) s v

theorem rd_setPwron_ne (s : State) (v : Nat) {k : Nat} (hk : k ≠ O.pwron_state) : rd (setPwron s v) k = rd s k :=
  hidden_setPwron (view := fun u => rd u k) (fun u _ => rd_congr u _ k rfl rfl rfl rfl) (fun u x => rd_wr_ne u _ x k hk) s v

theorem base_pwronHigh (s : State) : base (pwronHigh s) = base s :=
  hidden_pwronHigh (view := base) (fun _ _ => rfl) (fun _ _ => rfl) (fun _ _ => rfl) s

/-- CANCEL during the delay keeps PWRON_OUT high, and counts. -/
theorem rd_pwronHigh_delay {s : State} (h : rd s O.pwron_state = 1) : rd (pwronHigh s) O.pwron_state = 0 ∧
    rd (pwronHigh s) O.pwron_cancels = min (rd s O.pwron_cancels + 1) (topOf O.pwron_cancels) := by
  rw [pwronHigh, if_pos h, rd_bump_ne _ _ _ (by decide), rd_bump_self, rd_setPwron_self,
    rd_setPwron_ne _ _ (by decide : O.pwron_cancels ≠ O.pwron_state)]
  exact ⟨rfl, rfl⟩

/-- CANCEL after the delay drives PWRON_OUT high again. -/
theorem pwronHigh_released {s : State} (h : rd s O.pwron_state = 2) : pwronHigh s = send (wr s O.pwron_state 0) (.pwronOut true) := by
  simp [pwronHigh, setPwron, h]

/-! ### Outputs of a command -/

theorem mem_out_varlanSend {s : State} {x : Out} (h : x ∈ s.out) (c : Nat) (m : VMsg) : x ∈ (varlanSend s c m).out := by
  unfold varlanSend
  split
  · exact h
  · exact List.mem_append_left _ h

/-- A command's answer takes nothing back of what its effect sent. -/
theorem mem_out_commanded {k : Nat} {o : Octets} {r : Status × State} {x : Out} (h : x ∈ r.2.out) : x ∈ (commanded k o r).out := by
  have hforward : x ∈ (forwardCommand r.2 k o).out := by
    unfold forwardCommand forwardWrite
    split_ifs
    · refine mem_out_varlanSend ?_ _ _
      exact h
    · exact h
    · exact h
  unfold commanded
  split_ifs
  · exact hforward
  · exact h

/-! ### The statement -/

/-- Settles O12, command by command. -/
theorem alarmAndScratchComplete : Obligations.AlarmAndScratchComplete := by
  unfold Obligations.AlarmAndScratchComplete
  refine ⟨fun s a hreach hvalid hahead => ?_, fun s a hreach => ?_, fun s hreach hstate => ?_, fun s hreach => ?_, fun s hmode hstate => ?_,
    fun s b hreach hlength => ?_⟩
  · refine completes_command (show execAlarmArm a s = _ from rfl) hreach ?_
    have harmed : alarmArm s a = (.ok, wr s (O.al_state a) 1) := by
      rw [alarmArm, if_neg (by simp [hvalid])]
      simp only [if_neg (Nat.not_le.mpr hahead)]
    rw [harmed, rd_sealed_commanded (by simp [base])]
    exact ⟨by simp, rd_wr_self _ _ _⟩
  · refine completes_command (show execAlarmDisarm a s = _ from rfl) hreach ?_
    rw [rd_sealed_commanded (by simp [base])]
    exact ⟨by simp, rd_wr_self _ _ _⟩
  · refine completes_command (show execPwronRelease s = _ from rfl) hreach ?_
    have hreleased : pwronRelease s = (.ok, wr s O.pwron_state 1) := by simp [pwronRelease, hstate]
    rw [hreleased, rd_sealed_commanded (by simp [base])]
    exact ⟨by simp, rd_wr_self _ _ _⟩
  · refine completes_command (show execPwronCancel s = _ from rfl) hreach ⟨by simp, fun hdelay => ?_, fun hreleased => ?_⟩
    · rw [Counted, rd_sealed_commanded (base_pwronHigh s), rd_sealed_commanded (base_pwronHigh s)]
      exact rd_pwronHigh_delay hdelay
    · rw [rd_sealed_commanded (base_pwronHigh s), pwronHigh_released hreleased]
      exact ⟨(rd_send _ _ _).trans (rd_wr_self _ _ _), mem_out_commanded (by simp)⟩
  · refine completes_backup (show execPwronDelayExpire s = _ from rfl) hmode ?_
    rw [if_pos hstate, rd_sealed_of_base (base_setPwron s 2)]
    exact ⟨rd_setPwron_self s 2, by simp [setPwron]⟩
  · have hexec : exec (.scratchWrite b) s = act s fun s => commandWith s O.scratch b fun s => (.ok, wrB s O.scratch b) := by
      change execScratchWrite b s = _
      simp only [execScratchWrite, if_neg (not_not.mpr hlength)]
    refine completes_commandWith hexec hreach ⟨by simp, ?_⟩
    rw [rdB_congr (wrB s O.scratch b) _ _ (by simp) (by simp)]
    simp [rdB, wrB]

end Sys2Proof.Machine
end

section
/-! The input and the converter (O13). -/

namespace Sys2Proof.Machine

/-! ### The converter's start and the entry to reset (R438, R459) -/

theorem rd_setPower_ne (s : State) (pd v : Nat) {k : Nat} (hstate : k ≠ O.pd_state pd) (hcycles : k ≠ O.pd_cycles pd) :
    rd (setPower s pd v) k = rd s k := by
  unfold setPower
  dsimp only
  split_ifs
  · exact (rd_bump_ne _ _ _ hcycles).trans (rd_wr_ne _ _ _ _ hstate)
  · exact rd_wr_ne _ _ _ _ hstate

theorem rd_withPower (t : State) (x : Power) (k : Nat) : rd { t with power := x } k = rd t k := rd_congr t _ _ rfl rfl rfl rfl

/-- The entry to reset leaves the module's own identity. -/
theorem base_enterReset (s : State) : base (enterReset s) = base s := by
  unfold enterReset
  split_ifs
  · rfl
  · rfl

theorem power_enterReset (s : State) : (enterReset s).power.inputOn = s.power.inputOn ∧ (enterReset s).power.overVoltage = s.power.overVoltage := by
  unfold enterReset
  split_ifs
  · exact ⟨rfl, rfl⟩
  · exact ⟨rfl, rfl⟩

/-- A package in HOLD or OFF enters reset with its reference acquiring (R459, R376). -/
theorem enterReset_of_hold {s : State} (h : packageMode s = 1 ∨ packageMode s = 2) :
    (enterReset s).boot.inReset = true ∧ rd (enterReset s) O.ref_state = 1 := by
  rw [enterReset, if_pos h]
  exact ⟨rfl, (rd_setClk_ne _ _ _ _ (by decide) (by decide)).trans (rd_wr_self _ _ _)⟩

/-- The supplies of the converter as it starts, before the entry to reset (R438, R440). -/
def converterOn (s : State) : State :=
  let t := setPower (setPower (setPower s 0 2) 1 2) 2 2
  let u := { t with power := { t.power with inputOn := true, overVoltage := false } }
  if rd s O.v12_state = 0 ∧ packageMode s ≠ 3 then wr u O.v12_state 1 else u

theorem converterStart_eq (s : State) : converterStart s = setClk (enterReset (converterOn s)) 17 1 := rfl

theorem power_converterOn (s : State) : (converterOn s).power.inputOn = true ∧ (converterOn s).power.overVoltage = false := by
  unfold converterOn
  dsimp only
  split_ifs <;> exact ⟨rfl, rfl⟩

theorem base_converterOn (s : State) : base (converterOn s) = base s := by
  have hregs : ∀ s x, base { s with regs := x } = base s := fun _ _ => rfl
  have hpower : ∀ s x, base { s with power := x } = base s := fun _ _ => rfl
  simp only [converterOn, apply_ite base, view_wr hregs, hpower, view_setPower hregs, ite_self]

theorem packageMode_converterOn (s : State) : packageMode (converterOn s) = packageMode s := by
  unfold converterOn packageMode
  dsimp only
  split_ifs <;> simp (disch := decide) only [rd_wr_ne, rd_withPower, rd_setPower_ne]

/-- The converter has started: its supply and its clock run. -/
theorem converterStart_starts (s : State) : (converterStart s).power.inputOn = true ∧ (converterStart s).power.overVoltage = false ∧
    clkState (converterStart s) 17 = 1 := by
  obtain ⟨hinput, hover⟩ := power_enterReset (converterOn s)
  obtain ⟨hon, hclear⟩ := power_converterOn s
  exact ⟨hinput.trans hon, hover.trans hclear, clkState_setClk _ _ _⟩

theorem base_converterStart (s : State) : base (converterStart s) = base s := by
  rw [converterStart_eq, view_setClk (view := base) (fun _ _ => rfl), base_enterReset, base_converterOn]

/-! ### The warnings of the input (R438) -/

/-- The input measured low: `vin_low` is set, and warned of once. -/
def vinWarned (s : State) (mv : Nat) : State :=
  let t := wr s O.vin_mv mv
  if flag s O.vin_low ∨ s.power.inputOn = false ∨ rd s O.vin_warn ≤ mv then t else reportHeld (setFlag t O.vin_low true) 0x78 (converterHid s)

theorem base_vinWarned (s : State) (mv : Nat) : base (vinWarned s mv) = base s := by
  simp [vinWarned, apply_ite base, setFlag]

theorem rd_vinWarned (s : State) (mv : Nat) : rd (vinWarned s mv) O.vin_mv = mv := by
  unfold vinWarned
  dsimp only
  split_ifs <;> simp (disch := decide) only [rd_reportHeld, rd_setFlag_ne, rd_wr_self]

theorem flag_vinWarned {s : State} {mv : Nat} (hinput : s.power.inputOn = true) (hlow : mv < rd s O.vin_warn) :
    flag (vinWarned s mv) O.vin_low = true := by
  unfold vinWarned
  dsimp only
  split_ifs with h
  · have hset : flag s O.vin_low = true := h.resolve_right (by simp [hinput, hlow])
    exact (congrArg (fun n => decide (n = 1)) (rd_wr_ne _ _ _ _ (by decide))).trans hset
  · exact (congrArg (fun n => decide (n = 1)) (rd_reportHeld _ _ _ _ (by decide))).trans (flag_setFlag _ _ _)

/-! ### The converter's stop (R438 to R440) -/

/-- The reference stops as the rails fall. -/
theorem rd_supplyLost_ref (s : State) : rd (supplyLost s false) O.ref_state = 0 := by
  have h13 : ∀ t v, rd (setClk { t with boot := { t.boot with inReset := false } } 13 v) O.ref_state = rd t O.ref_state := fun t v =>
    (rd_setClk_ne _ 13 v _ (by decide) (by decide)).trans (rd_congr t _ _ rfl rfl rfl rfl)
  refine (rd_setClk_ne _ 17 0 _ (by decide) (by decide)).trans ((rd_wr_ne _ _ _ _ (by decide)).trans ((h13 _ _).trans ?_))
  exact (rd_wr_ne _ _ _ _ (by decide)).trans ((rd_wr_ne _ _ _ _ (by decide)).trans (rd_wr_self _ _ _))

/-- The converter's stop names its cause, and the output and the reference are off. -/
theorem rd_converterStop (s : State) (cause : Nat) : rd (converterStop s cause) O.v12_state = 0 ∧
    rd (converterStop s cause) O.last_loss_cause = cause ∧ rd (converterStop s cause) O.ref_state = 0 :=
  ⟨(rd_wr_ne _ _ _ _ (by decide)).trans (rd_wr_self _ _ _), rd_wr_self _ _ _,
    (rd_wr_ne _ _ _ _ (by decide)).trans ((rd_wr_ne _ _ _ _ (by decide)).trans (rd_supplyLost_ref s))⟩

theorem power_converterStop (s : State) (cause : Nat) : (converterStop s cause).power.inputOn = false := rfl

/-- An over-voltage stops the converter until the input recovers (R438). -/
def overVoltageStop (s : State) : State :=
  { converterStop s 2 with power := { (converterStop s 2).power with overVoltage := true } }

theorem exec_vinOvervoltage {s : State} (h : s.power.inputOn = true) : exec .vinOvervoltage s = done s (overVoltageStop s) :=
  congrArg (done s) (if_pos h)

theorem restarted_overVoltageStop (s : State) : Restarted s (overVoltageStop s) [O.v12_state, O.last_loss_cause] :=
  (restarted_converterStop s 2).power { (converterStop s 2).power with overVoltage := true } rfl

theorem rd_sealed_overVoltageStop (s : State) (k : Nat) : rd (sealed s (overVoltageStop s)) k = rd (converterStop s 2) k :=
  ((restarted_overVoltageStop s).rd_sealed k).trans (rd_withPower _ _ _)

theorem exec_vinCollapse {s : State} (h : s.power.inputOn = true) : exec .vinCollapse s = done s (converterStop s 1) :=
  congrArg (done s) (if_pos (.inl h))

/-! ### VBAK applied to a package in OFF (R423, R459) -/

/-- The package in HOLD, on VBAK, after the power-on reset of its backup domain. -/
def vbakHeld (s : State) : State :=
  setClk (setPower (wr (wr (backupReset { s with power := { s.power with vbak := true } } true) O.package_mode 2) O.bak_supply 1) 0 2) 13 1

theorem exec_vbakApplied_off {s : State} (hmode : packageMode s = 1) (hinput : s.power.inputOn = false) :
    exec .vbakApplied s = done s (vbakHeld s) := congrArg (done s) (if_pos ⟨hmode, hinput⟩)

theorem exec_vbakApplied_on {s : State} (h : ¬(packageMode s = 1 ∧ s.power.inputOn = false)) :
    exec .vbakApplied s = done s { s with power := { s.power with vbak := true } } := congrArg (done s) (if_neg h)

theorem power_backupReset (s : State) (por : Bool) : (backupReset s por).power.vbak = s.power.vbak := by
  have hkept : (setPwron s 0).power.vbak = s.power.vbak := hidden_setPwron (view := fun u => u.power.vbak) (fun _ _ => rfl) (fun _ _ => rfl) s 0
  unfold backupReset
  dsimp only
  split_ifs <;> exact hkept

/-- What the registers do not show, the entry to HOLD leaves as the reset of the backup domain has it. -/
theorem view_vbakHeld {α : Type} {view : State → α} (hregs : ∀ s x, view { s with regs := x } = view s) (s : State) :
    view (vbakHeld s) = view (backupReset { s with power := { s.power with vbak := true } } true) := by
  simp only [vbakHeld, view_setClk hregs, view_setPower hregs, view_wr hregs]

theorem base_vbakHeld (s : State) : base (vbakHeld s) = base s := (view_vbakHeld (view := base) (fun _ _ => rfl) s).trans (base_backupReset _ _)

theorem vbak_vbakHeld (s : State) : (vbakHeld s).power.vbak = true :=
  (view_vbakHeld (view := fun u => u.power.vbak) (fun _ _ => rfl) s).trans (power_backupReset _ _)

theorem rd_vbakHeld (s : State) : rd (vbakHeld s) O.package_mode = 2 ∧ rd (vbakHeld s) O.bak_supply = 1 := by
  simp (disch := decide) only [vbakHeld, rd_setClk_ne, rd_setPower_ne, rd_wr_ne, rd_wr_self, and_self]

/-! ### The statement -/

/-- Settles O13, event by event. -/
theorem inputPowerComplete : Obligations.InputPowerComplete := by
  unfold Obligations.InputPowerComplete
  refine ⟨fun s hinput => ?_, fun s mv hinput hlow => ?_, fun s mv hhigh => ?_, fun s hinput => ?_, fun s hinput => ?_, fun s hinput => ?_,
    fun s hover => ?_, fun s => ?_⟩
  · refine completes_done (show execVinRise s = _ from rfl) ?_
    rw [if_neg (Bool.eq_false_iff.mp hinput)]
    obtain ⟨hon, -, hclock⟩ := converterStart_starts s
    refine ⟨hon, (rd_sealed_of_base (base_converterStart s) _).trans hclock, fun hmode => ?_⟩
    obtain ⟨hreset, href⟩ := enterReset_of_hold (s := converterOn s) (by rwa [packageMode_converterOn])
    exact ⟨hreset, (rd_sealed_of_base (base_converterStart s) _).trans ((rd_setClk_ne _ _ _ _ (by decide) (by decide)).trans href)⟩
  · refine completes_done (show execVinWarn mv s = done s (vinWarned s mv) from rfl) ?_
    exact ⟨(rd_sealed_of_base (base_vinWarned s mv) _).trans (rd_vinWarned s mv),
      (flag_sealed (base_vinWarned s mv) _).trans (flag_vinWarned hinput hlow)⟩
  · refine completes_done (show execVinLowClear mv s = _ from rfl) ?_
    have hbase : base (setFlag (wr s O.vin_mv mv) O.vin_low false) = base s := by simp [base, setFlag]
    rw [if_pos hhigh, rd_sealed_of_base hbase, flag_sealed hbase, rd_setFlag_ne _ _ _ _ (by decide)]
    exact ⟨rd_wr_self _ _ _, flag_setFlag _ _ _⟩
  · refine completes_done (show execPowerFailWarning s = _ from rfl) ?_
    rw [if_pos hinput]
    refine counted_of_rd ((base_reportHeld _ _ _).trans (by simp [base])) (by decide) ?_
    rw [rd_reportHeld _ _ _ _ (by decide), rd_bump_self]
  · refine completes_done (exec_vinCollapse hinput) ?_
    have hread := (restarted_converterStop s 1).rd_sealed
    obtain ⟨hoff, hcause, href⟩ := rd_converterStop s 1
    exact ⟨power_converterStop s 1, (hread _).trans hoff, (hread _).trans hcause, (hread _).trans (packageMode_converterStop s 1),
      (hread _).trans href⟩
  · refine completes_done (exec_vinOvervoltage hinput) ?_
    have hread := rd_sealed_overVoltageStop s
    obtain ⟨hoff, hcause, -⟩ := rd_converterStop s 2
    exact ⟨rfl, (hread _).trans hoff, (hread _).trans hcause, (hread _).trans (packageMode_converterStop s 2)⟩
  · refine completes_done (show execVinOvRecover s = _ from rfl) ?_
    rw [if_pos hover]
    obtain ⟨hon, hclear, hclock⟩ := converterStart_starts s
    exact ⟨hon, hclear, (rd_sealed_of_base (base_converterStart s) _).trans hclock⟩
  · by_cases hoff : packageMode s = 1 ∧ s.power.inputOn = false
    · refine completes_done (exec_vbakApplied_off hoff.1 hoff.2) ⟨vbak_vbakHeld s, fun _ _ => ?_⟩
      have hread := rd_sealed_of_base (base_vbakHeld s)
      obtain ⟨hmode, hsupply⟩ := rd_vbakHeld s
      exact ⟨(hread _).trans hmode, (hread _).trans hsupply, (hread _).trans (clkState_setClk _ _ _)⟩
    · exact completes_done (exec_vbakApplied_on hoff) ⟨rfl, fun hmode hinput => absurd ⟨hmode, hinput⟩ hoff⟩

end Sys2Proof.Machine
end

section
/-! The 12 V output, VCORE over AVSBus and the pads (O14). -/

namespace Sys2Proof.Machine

/-! ### The 12 V output (R440) -/

/-- The cause that a fault of the 12 V output leaves in `last_loss_cause`. -/
def v12CauseCode : V12Cause → Nat
  | .overCurrent => 3
  | .underVoltage => 4
  | .overTemperature => 5

theorem exec_v12Fault_code {s : State} (h : rd s O.v12_state = 2) (c : V12Cause) :
    exec (.v12Fault c) s = done s (v12Latched s (v12CauseCode c)) := by
  cases c <;> exact congrArg (done s) (if_pos h)

theorem rd_v12Latched (s : State) (cause : Nat) : rd (v12Latched s cause) O.v12_state = 3 ∧ rd (v12Latched s cause) O.last_loss_cause = cause :=
  ⟨(rd_wr_ne _ _ _ _ (by decide)).trans (rd_wr_self _ _ _), rd_wr_self _ _ _⟩

/-- The output failed to start. -/
def v12StartFailed (s : State) : State :=
  reportLate (wr (bump (wr s O.v12_state 3) O.v12_faults) O.last_loss_cause 6) 0x7C (v12Hid s) 0

theorem rd_v12StartFailed (s : State) : rd (v12StartFailed s) O.v12_state = 3 ∧ rd (v12StartFailed s) O.last_loss_cause = 6 ∧
    rd (v12StartFailed s) O.v12_faults = min (rd s O.v12_faults + 1) (topOf O.v12_faults) := by
  have hlate : ∀ k, rd (v12StartFailed s) k = rd (wr (bump (wr s O.v12_state 3) O.v12_faults) O.last_loss_cause 6) k := fun k =>
    rd_congr _ _ k rfl rfl rfl rfl
  simp (disch := decide) only [hlate, rd_wr_ne, rd_bump_ne, rd_wr_self, rd_bump_self, and_self]

/-- A hot converter's temperature is kept, and is reported once (R440). -/
def converterMeasured (s : State) (c : Int) : State :=
  let t := wrI s O.conv_temp c
  if 125 < c ∧ s.power.hotReported = false then reportHeld { t with power := { t.power with hotReported := true } } 0x7E (converterHid s)
  else if c < 115 then { t with power := { t.power with hotReported := false } }
  else t

theorem base_converterMeasured (s : State) (c : Int) : base (converterMeasured s c) = base s := by
  unfold converterMeasured
  dsimp only
  split_ifs
  · exact (base_reportHeld _ _ _).trans rfl
  · rfl
  · rfl

theorem rd_converterMeasured (s : State) (c : Int) : rd (converterMeasured s c) O.conv_temp = ofSigned 32 c := by
  have hkept : rd (wrI s O.conv_temp c) O.conv_temp = ofSigned 32 c := rd_wrI_self _ _ _
  unfold converterMeasured
  dsimp only
  split_ifs
  · exact (rd_reportHeld _ _ _ _ (by decide)).trans ((rd_congr _ _ _ rfl rfl rfl rfl).trans hkept)
  · exact (rd_congr _ _ _ rfl rfl rfl rfl).trans hkept
  · exact hkept

theorem hotReported_reportHeld (s : State) (k h : Nat) : (reportHeld s k h).power.hotReported = s.power.hotReported := by
  unfold reportHeld
  split_ifs
  · simp
  · rfl

theorem hotReported_converterMeasured (s : State) (c : Int) : (converterMeasured s c).power.hotReported =
    if 125 < c then true else if c < 115 then false else s.power.hotReported := by
  unfold converterMeasured
  dsimp only
  by_cases hnew : 125 < c ∧ s.power.hotReported = false
  · rw [if_pos hnew, if_pos hnew.1]
    exact hotReported_reportHeld _ _ _
  · rw [if_neg hnew]
    by_cases hcold : c < 115
    · rw [if_pos hcold, if_neg (by omega), if_pos hcold]
    · rw [if_neg hcold, if_neg hcold]
      split_ifs with hhot
      · exact Bool.of_not_eq_false fun h => hnew ⟨hhot, h⟩
      · rfl

/-! ### Requests over AVSBus (R442, R443) -/

theorem rd_avsFail_ne (s : State) {k : Nat} (hk : k ∉ [O.avs_timeouts, O.avs_state, O.msgs_dropped]) : rd (avsFail s) k = rd s k :=
  hidden_avsFail (view := fun u => rd u k) (fun u _ => rd_congr u _ k rfl rfl rfl rfl) (fun u _ => rd_congr u _ k rfl rfl rfl rfl)
    (fun u _ => rd_congr u _ k rfl rfl rfl rfl) (hidesAll_rd hk) s

theorem base_avsFail (s : State) : base (avsFail s) = base s :=
  hidden_avsFail (view := base) (fun _ _ => rfl) (fun _ _ => rfl) (fun _ _ => rfl) (fun _ _ _ _ => rfl) s

theorem out_avsFail (s : State) : (avsFail s).out = s.out :=
  hidden_avsFail (view := State.out) (fun _ _ => rfl) (fun _ _ => rfl) (fun _ _ => rfl) (fun _ _ _ _ => rfl) s

/-- A request that fails is FAILED, counted and reported. -/
theorem avsFail_fails (s : State) : rd (avsFail s) O.avs_state = 3 ∧
    rd (avsFail s) O.avs_timeouts = min (rd s O.avs_timeouts + 1) (topOf O.avs_timeouts) ∧ Raised s (avsFail s) 0x7A (avsHid s) := by
  have hread : ∀ k, k ≠ O.msgs_dropped → rd (avsFail s) k = rd (bump (wr s O.avs_state 3) O.avs_timeouts) k := fun k hk => by
    unfold avsFail
    dsimp only
    rw [rd_report _ _ _ _ _ hk]
    split_ifs <;> exact rd_congr _ _ _ rfl rfl rfl rfl
  refine ⟨?_, ?_, raised_report _ _ _ _ _ ?_⟩
  · rw [hread _ (by decide), rd_bump_ne _ _ _ (by decide), rd_wr_self]
  · rw [hread _ (by decide), rd_bump_self, rd_wr_ne _ _ _ _ (by decide)]
  · split_ifs <;> simp [setPowerState]

/-- What an answer leaves of the registers that it does not name. -/
theorem rd_avsAnswer_ne (s : State) (ack : Nat) {k : Nat} (hk : k ∉ [O.avs_nacks, O.avs_state, O.avs_timeouts, O.msgs_dropped]) :
    rd (avsAnswer s ack) k = rd s k :=
  hidden_avsAnswer (view := fun u => rd u k) (fun u _ => rd_congr u _ k rfl rfl rfl rfl) (fun u _ => rd_congr u _ k rfl rfl rfl rfl)
    (fun u _ => rd_congr u _ k rfl rfl rfl rfl) (hidesAll_rd hk) s ack

theorem base_avsAnswer (s : State) (ack : Nat) : base (avsAnswer s ack) = base s :=
  hidden_avsAnswer (view := base) (fun _ _ => rfl) (fun _ _ => rfl) (fun _ _ => rfl) (fun _ _ _ _ => rfl) s ack

theorem out_avsAnswer (s : State) (ack : Nat) : (avsAnswer s ack).out = s.out :=
  hidden_avsAnswer (view := State.out) (fun _ _ => rfl) (fun _ _ => rfl) (fun _ _ => rfl) (fun _ _ _ _ => rfl) s ack

/-- The slave's answer takes the request on, holds it for a retry, or fails it after the third retry. -/
theorem rd_avsAnswer_state (s : State) (ack : Nat) :
    rd (avsAnswer s ack) O.avs_state = if ack = 0 then 2 else if s.power.avsRetries < 3 then 1 else 3 := by
  unfold avsAnswer
  dsimp only
  split_ifs with hack hfails hfew hfew
  · exact rd_wr_self _ _ _
  · exact absurd hfew (Nat.not_lt.mpr (by simpa using hfails))
  · exact (avsFail_fails _).1
  · exact rd_wr_self _ _ _
  · exact absurd (Nat.not_lt.mp hfew) (by simpa using hfails)

/-- An answer that is no acknowledge is counted. -/
theorem rd_avsAnswer_nacks (s : State) {ack : Nat} (h : ack ≠ 0) :
    rd (avsAnswer s ack) O.avs_nacks = min (rd s O.avs_nacks + 1) (topOf O.avs_nacks) := by
  have hcounted : rd (wr (bump s O.avs_nacks) O.avs_state 1) O.avs_nacks = min (rd s O.avs_nacks + 1) (topOf O.avs_nacks) :=
    (rd_wr_ne _ _ _ _ (by decide)).trans (rd_bump_self _ _)
  rw [avsAnswer, if_neg h]
  dsimp only
  split_ifs
  · exact (rd_avsFail_ne _ (by decide)).trans hcounted
  · exact hcounted

/-- The state as the target in force goes out. -/
def avsRequested (s : State) : State :=
  send (wr (setPowerState s { s.power with avsPending := false, avsTarget := some (vcoreTarget s), avsRetries := 0 }) O.vcore_target (vcoreTarget s))
    (.avsWrite (vcoreTarget s))

/-- The state as a target goes out again. -/
def avsRetried (s : State) (v : Nat) : State := send (setPowerState s { s.power with avsRetries := s.power.avsRetries + 1 }) (.avsWrite v)

theorem exec_avsRetry {s : State} {v : Nat} (htarget : s.power.avsTarget = some v) (hstate : rd s O.avs_state = 1) (a : Fin 4) :
    exec (.avsRetry a) s = act s fun s => avsAnswer (avsRetried s v) a := by
  change execAvsRetry a s = _
  refine act_congr ?_
  rw [htarget]
  exact if_pos hstate

/-- The hub works only from IDLE on. -/
theorem packageMode_of_hubOn {s : State} (h : hubOn s = true) : 4 ≤ packageMode s := by
  rw [hubOn, Bool.and_eq_true, decide_eq_true_eq] at h
  exact h.2

/-! ### The status of a request (R442) -/

/-- The status of a request for a target has been read. -/
def avsPolled (s : State) (v : Nat) (settled : Bool) (mv : Nat) : State :=
  let t := wr (send s .avsRead) O.vcore_mv (min 0xFFFF mv)
  if settled = false then t
  else if mv ≤ v + 15 ∧ v ≤ mv + 15 then
    setPowerState (wr t O.avs_state 0) { t.power with avsTarget := none, avsRaised := s.power.avsRaise, avsRaise := false, avsAge := false }
  else avsFail t

theorem exec_avsStatusPoll {s : State} {v : Nat} (htarget : s.power.avsTarget = some v) (hstate : rd s O.avs_state = 2) (d : Bool) (mv : Nat) :
    exec (.avsStatusPoll d mv) s = act s fun s => avsPolled s v d mv := by
  change execAvsStatusPoll d mv s = _
  refine act_congr ?_
  rw [htarget]
  exact if_pos hstate

theorem base_avsPolled (s : State) (v : Nat) (settled : Bool) (mv : Nat) : base (avsPolled s v settled mv) = base s := by
  unfold avsPolled
  dsimp only
  split_ifs
  · rfl
  · rfl
  · exact base_avsFail _

theorem rd_avsPolled_mv (s : State) (v : Nat) (settled : Bool) (mv : Nat) : rd (avsPolled s v settled mv) O.vcore_mv = min 0xFFFF mv := by
  unfold avsPolled
  dsimp only
  split_ifs
  · exact rd_wr_self _ _ _
  · exact (rd_congr _ _ _ rfl rfl rfl rfl).trans ((rd_wr_ne _ _ _ _ (by decide)).trans (rd_wr_self _ _ _))
  · exact (rd_avsFail_ne _ (by decide)).trans (rd_wr_self _ _ _)

theorem out_avsPolled (s : State) (v : Nat) (settled : Bool) (mv : Nat) : (avsPolled s v settled mv).out = s.out ++ [.avsRead] := by
  unfold avsPolled
  dsimp only
  split_ifs
  · rfl
  · rfl
  · exact out_avsFail _

theorem rd_avsPolled_state {s : State} (h : rd s O.avs_state = 2) (v : Nat) (settled : Bool) (mv : Nat) :
    rd (avsPolled s v settled mv) O.avs_state = if settled = false then 2 else if mv ≤ v + 15 ∧ v ≤ mv + 15 then 0 else 3 := by
  unfold avsPolled
  dsimp only
  split_ifs
  · exact (rd_wr_ne _ _ _ _ (by decide)).trans ((rd_send _ _ _).trans h)
  · exact (rd_congr _ _ _ rfl rfl rfl rfl).trans (rd_wr_self _ _ _)
  · exact (avsFail_fails _).1

/-! ### Pads (R457) -/

/-- Clearing a bit leaves every other bit. -/
theorem bit_clrBit_ne (v : Nat) {i j : Nat} (h : j ≠ i) : bit (clrBit v i) j = bit v j := by
  unfold clrBit
  split_ifs with hset
  · have hodd : v / 2 ^ i % 2 = 1 := of_decide_eq_true hset
    unfold bit
    rcases Nat.lt_or_gt_of_ne h with hlow | hhigh
    · obtain ⟨n, rfl⟩ : ∃ n, i = j + (n + 1) := ⟨i - j - 1, by omega⟩
      have hsub : (v - 2 ^ (j + (n + 1))) / 2 ^ j = v / 2 ^ j - 2 ^ n * 2 := by
        rw [pow_add, Nat.sub_mul_div, pow_succ]
      have hle : 2 ^ n * 2 ≤ v / 2 ^ j := by
        rw [← pow_succ, Nat.le_div_iff_mul_le (by positivity), ← pow_add, add_comm]
        exact Nat.le_of_not_lt fun hlt => by rw [Nat.div_eq_of_lt hlt] at hodd; omega
      rw [hsub]
      congr 2
      omega
    · obtain ⟨n, rfl⟩ : ∃ n, j = i + (n + 1) := ⟨j - i - 1, by omega⟩
      have hsub : (v - 2 ^ i) / 2 ^ i = v / 2 ^ i - 1 := by
        simpa using Nat.sub_mul_div v (2 ^ i) 1
      have hhalf : (v / 2 ^ i - 1) / 2 = v / 2 ^ i / 2 := by
        generalize v / 2 ^ i = q at hodd
        omega
      have hdiv : ∀ w, w / 2 ^ (i + (n + 1)) = w / 2 ^ i / 2 / 2 ^ n := fun w => by
        rw [Nat.div_div_eq_div_mul, Nat.div_div_eq_div_mul, pow_add, pow_succ']
      rw [hdiv, hdiv, hsub, hhalf]
  · rfl

/-- After several bits are cleared a bit is set that was set and is none of them. -/
theorem bit_foldl_clrBit (l : List Nat) (v g : Nat) : bit (l.foldl clrBit v) g = (bit v g && !(l.contains g)) := by
  induction l generalizing v with
  | nil => simp
  | cons i l ih =>
    rw [List.foldl_cons, ih]
    by_cases h : g = i
    · simp [h, bit_clrBit]
    · simp [bit_clrBit_ne v h, h]

/-- The groups that a release lets go. -/
def padGroups (s : State) (v : Nat) : List Nat := (bitList 5 v).filter fun g => padFitted s g && bit (rd s O.pad_latched) g

theorem mem_padGroups {s : State} {v g : Nat} :
    g ∈ padGroups s v ↔ g < 5 ∧ bit v g = true ∧ padFitted s g = true ∧ bit (rd s O.pad_latched) g = true := by
  simp only [padGroups, bitList, List.mem_filter, List.mem_range, Bool.and_eq_true, and_assoc]

/-- The pads are released together. -/
def padsReleased (s : State) (v : Nat) : State :=
  let t := wr s O.pad_latched ((padGroups s v).foldl clrBit (rd s O.pad_latched))
  if (padGroups s v).contains 0 then releasePins t else t

theorem padRelease_released {s : State} {v : Nat} (hv : v < 32)
    (hon : ∀ g ∈ padGroups s v, rd s (O.pd_state (padDomain g)) = 2) : padRelease s v = (.ok, padsReleased s v) := by
  rw [padRelease, if_neg (Nat.not_le.mpr hv)]
  exact if_pos (List.all_eq_true.mpr fun g hg => decide_eq_true (hon g hg))

theorem base_padsReleased (s : State) (v : Nat) : base (padsReleased s v) = base s := by
  unfold padsReleased
  dsimp only
  split_ifs
  · exact (view_releasePins (view := base) (fun _ _ => rfl) (fun _ _ => rfl) _).trans rfl
  · rfl

theorem rd_padsReleased (s : State) (v : Nat) :
    rd (padsReleased s v) O.pad_latched = (padGroups s v).foldl clrBit (rd s O.pad_latched) := by
  unfold padsReleased
  dsimp only
  split_ifs
  · exact (view_releasePins (view := fun u => rd u O.pad_latched) (fun u _ => rd_congr u _ _ rfl rfl rfl rfl)
      (fun u _ => rd_congr u _ _ rfl rfl rfl rfl) _).trans (rd_wr_self _ _ _)
  · exact rd_wr_self _ _ _

/-- A group stays latched unless it is named and fitted. -/
theorem bit_padsReleased (s : State) (v : Nat) {g : Nat} (hg : g < 5) :
    bit (rd (padsReleased s v) O.pad_latched) g = (bit (rd s O.pad_latched) g && !(bit v g && padFitted s g)) := by
  have hcontains : (padGroups s v).contains g = (bit v g && padFitted s g && bit (rd s O.pad_latched) g) := by
    rw [Bool.eq_iff_iff, List.contains_iff_mem, mem_padGroups]
    simp [hg, and_assoc]
  rw [rd_padsReleased, bit_foldl_clrBit, hcontains]
  cases bit (rd s O.pad_latched) g <;> simp

/-! ### The statement -/

/-- Settles O14, event by event. -/
theorem outputPowerComplete : Obligations.OutputPowerComplete := by
  unfold Obligations.OutputPowerComplete
  refine ⟨fun s hstate => ?_, fun s hstate => ?_, fun s c hstate => ?_, fun s c => ?_, fun s a hon hpending hidle hbusy => ?_,
    fun s a v hon htarget hstate => ?_, fun s d mv v hon htarget hstate => ?_, fun s hon hstate => ?_,
    fun s mv hon htarget hidle hbusy hbad => ?_, fun s v hreach hv hpowered => ?_⟩
  · refine completes_done (show execV12Started s = _ from rfl) ?_
    rw [if_pos hstate]
    exact (rd_sealed_of_base (by simp [base]) _).trans (rd_wr_self _ _ _)
  · refine completes_done (congrArg (done s) (if_pos hstate) : _ = done s (v12StartFailed s)) ?_
    have hbase : base (v12StartFailed s) = base s := rfl
    obtain ⟨hfailed, hcause, hcounted⟩ := rd_v12StartFailed s
    exact ⟨(rd_sealed_of_base hbase _).trans hfailed, (rd_sealed_of_base hbase _).trans hcause, counted_of_rd hbase (by decide) hcounted⟩
  · refine completes_done (exec_v12Fault_code hstate c) ?_
    have hread := (restarted_v12Latched s (v12CauseCode c)).rd_sealed
    obtain ⟨hlatched, hcause⟩ := rd_v12Latched s (v12CauseCode c)
    exact ⟨(hread _).trans hlatched, (hread _).trans (packageMode_v12Latched s _), (hread _).trans (hcause.trans (by cases c <;> rfl))⟩
  · refine completes_done (show execConverterHot c s = done s (converterMeasured s c) from rfl) ?_
    rw [rd_sealed_of_base (base_converterMeasured s c)]
    change _ ∧ (_ → (converterMeasured s c).power.hotReported = _) ∧ (_ → (converterMeasured s c).power.hotReported = _) ∧
      (_ → _ → (converterMeasured s c).power.hotReported = _)
    rw [hotReported_converterMeasured]
    refine ⟨rd_converterMeasured s c, fun hhot => if_pos hhot, fun hcold => ?_, fun hlow hhigh => ?_⟩
    · rw [if_neg (by omega), if_pos hcold]
    · rw [if_neg (by omega), if_neg (by omega)]
  · refine completes_act (show execAvsRequest a s = _ from rfl) hon ?_
    rw [if_pos ⟨hpending, hidle, hbusy, packageMode_of_hubOn hon⟩]
    have hbase : base (avsAnswer (avsRequested s) a) = base s := base_avsAnswer _ _
    refine ⟨?_, (out_avsAnswer (avsRequested s) a).trans rfl, ?_, fun ha => counted_of_rd hbase (by decide) ?_⟩
    · refine (rd_sealed_of_base hbase _).trans ((rd_avsAnswer_ne (avsRequested s) a (by decide)).trans ?_)
      exact (rd_send _ _ _).trans (rd_wr_self _ _ _)
    · refine (rd_sealed_of_base hbase _).trans ((rd_avsAnswer_state (avsRequested s) a).trans ?_)
      simp [avsRequested, setPowerState, Fin.val_eq_zero_iff]
    · refine (rd_avsAnswer_nacks (avsRequested s) fun h => ha (Fin.ext h)).trans (congrArg (fun n => min (n + 1) _) ?_)
      exact (rd_send _ _ _).trans ((rd_wr_ne _ _ _ _ (by decide)).trans (rd_congr _ _ _ rfl rfl rfl rfl))
  · refine completes_act (exec_avsRetry htarget hstate a) hon ?_
    have hbase : base (avsAnswer (avsRetried s v) a) = base s := base_avsAnswer _ _
    refine ⟨(out_avsAnswer (avsRetried s v) a).trans rfl, (rd_sealed_of_base hbase _).trans ((rd_avsAnswer_state (avsRetried s v) a).trans ?_)⟩
    have hfew : s.power.avsRetries + 1 < 3 ↔ s.power.avsRetries < 2 := by omega
    simp [avsRetried, setPowerState, Fin.val_eq_zero_iff, hfew]
  · refine completes_act (exec_avsStatusPoll htarget hstate d mv) hon ?_
    have hread := rd_sealed_of_base (base_avsPolled s v d mv)
    refine ⟨(hread _).trans (rd_avsPolled_mv s v d mv), ?_, (hread _).trans (rd_avsPolled_state hstate v d mv)⟩
    change Out.avsRead ∈ (avsPolled s v d mv).out
    simp [out_avsPolled]
  · refine completes_act (show execAvsSettleTimeout s = _ from rfl) hon ?_
    rw [if_pos hstate]
    obtain ⟨hfailed, hcounted, hraised⟩ := avsFail_fails s
    exact ⟨(rd_sealed_of_base (base_avsFail s) _).trans hfailed, counted_of_rd (base_avsFail s) (by decide) hcounted, hraised⟩
  · refine completes_act (show execVcoreFault mv s = _ from rfl) hon ?_
    dsimp only
    rw [if_pos ⟨htarget, hidle, hbusy, hbad, packageMode_of_hubOn hon⟩]
    have hbase : base (report (bump (wr s O.vcore_mv (min 0xFFFF mv)) O.vcore_faults) 0x7B (avsHid s) 0) = base s := by simp [base]
    refine ⟨?_, counted_of_rd hbase (by decide) ?_, raised_report _ _ _ _ _ (by simp)⟩
    · rw [rd_sealed_of_base hbase, rd_report _ _ _ _ _ (by decide), rd_bump_ne _ _ _ (by decide), rd_wr_self]
    · rw [rd_report _ _ _ _ _ (by decide), rd_bump_self, rd_wr_ne _ _ _ _ (by decide)]
  · refine completes_command (show execPadRelease v s = _ from rfl) hreach ?_
    have hgroups : ∀ g ∈ padGroups s v.toNat, rd s (O.pd_state (padDomain g)) = 2 := fun g hg => by
      obtain ⟨hlt, hnamed, hfitted, hlatched⟩ := mem_padGroups.mp hg
      exact hpowered g (by interval_cases g <;> decide) hnamed hfitted hlatched
    rw [padRelease_released hv hgroups, rd_sealed_commanded (base_padsReleased s _)]
    refine ⟨by simp, fun g hg => bit_padsReleased s _ ?_⟩
    revert hg
    simp only [List.mem_cons, List.not_mem_nil, or_false]
    omega

end Sys2Proof.Machine
end

section
/-! The package's mode, its epoch and the state of the DRAM's regions: registers that the end of a frame, of a token and of a link leave alone
(O16, O33). -/

namespace Sys2Proof.Machine

/-- The registers of the package's stage: its mode, its epoch and the regions of the DRAM that serve. -/
def stageKeys : List Nat := [O.package_mode, O.epoch_current, O.region_status]

theorem notMem_stageKeys {i a : Nat} (ha : a < 256) (h : a ∉ [1, 3, 9]) : objKey i a ∉ stageKeys := by
  simp only [stageKeys, O.package_mode, O.epoch_current, O.region_status, objKey, List.mem_cons, List.not_mem_nil, or_false, not_or] at *
  omega

section

variable {α : Type} {view : State → α}

/-- A view that hides every register but those of the stage. -/
def HidesBesideStage (view : State → α) : Prop := ∀ j ∉ stageKeys, Hides view j

theorem HidesBesideStage.sub (hk : HidesBesideStage view) {a : Nat} (ha : a < 256) (h : a ∉ [1, 3, 9]) (i : Nat) : Hides view (objKey i a) :=
  hk _ (notMem_stageKeys ha h)

theorem hidesBesideStage_rd {k : Nat} (hk : k ∈ stageKeys) : HidesBesideStage fun s => rd s k :=
  fun j hj s v => rd_wr_ne s j v k fun e => hj (e ▸ hk)

/-! ### A descriptor's write-back and a frame's buffer (R60 to R62, R319, R403) -/

theorem hidden_countResult (hk : HidesBesideStage view) (s : State) (q : Nat) (w : WriteBack) : view (countResult s q w) = view s := by
  have hsub : ∀ a ∈ [7, 8, 10, 11, 12], Hides view (objKey (0x1040 + q) a) := fun a ha =>
    hk.sub (by fin_cases ha <;> decide) (by fin_cases ha <;> decide) _
  simp only [countResult, apply_ite view, hidden_bumpBy (hsub 8 (by decide)), hidden_bump (hsub 7 (by decide)),
    hidden_bump (hsub 10 (by decide)), hidden_bump (hsub 11 (by decide)), hidden_bump (hsub 12 (by decide)), ite_self]

theorem hidden_writeBackNow (hb : Blind view [.out, .hostq]) (hk : HidesBesideStage view) (s : State) (q : Nat) (w : WriteBack) :
    view (writeBackNow s q w) = view s := by
  have hsignal : ∀ t, view (signalQueue t q) = view t := fun t => by
    simp only [signalQueue, apply_ite view, view_send (hb.out rfl), view_setHq (hb.hostq rfl), ite_self]
  simp only [writeBackNow, hsignal, hidden_countResult hk, view_setHq (hb.hostq rfl), view_send (hb.out rfl)]

theorem hidden_flushHeld (hb : Blind view [.out, .hostq]) (hk : HidesBesideStage view) (s : State) (q : Nat)
    (l : List (Nat × WriteBack × Bool)) : view (flushHeld s q l) = view s := by
  induction l generalizing s with
  | nil => exact view_setHq (hb.hostq rfl) s q _
  | cons e l ih => simp only [flushHeld, apply_ite view, view_setHq (hb.hostq rfl), ih, hidden_writeBackNow hb hk, ite_self]

theorem hidden_freeBuf (hb : Blind view [.out, .hostq, .miller]) (hk : HidesBesideStage view) (s : State) (b : Nat) (x : Buf) :
    view (freeBuf s b x) = view s := by
  have hcells : Hides view O.cells_free := hk _ (by decide)
  have hoverflow : Hides view O.overflow_used := hk _ (by decide)
  have hpool : Hides view O.reorder_pool_used := hk _ (by decide)
  unfold freeBuf
  extract_lets _ s1 s2 s3
  have hgone : view s3 = view s := by
    simp only [s3, s2, s1, giveCells, apply_ite view, hcells _ _, hoverflow _ _, hpool _ _, view_setMiller (hb.miller rfl), ite_self]
  split
  · exact (hidden_flushHeld (hb.sub rfl) hk _ _ _).trans hgone
  · exact hgone

theorem hidden_dropLeg (hb : Blind view [.out, .hostq, .miller]) (hk : HidesBesideStage view) (s : State) (b : Nat) :
    view (dropLeg s b) = view s := by
  unfold dropLeg
  split
  · simp only [apply_ite view, hidden_freeBuf hb hk, view_setMiller (hb.miller rfl), ite_self]
  · rfl

theorem hidden_dropSpilled (hb : Blind view [.out, .hostq, .miller]) (hk : HidesBesideStage view) (s : State) (b : Nat) :
    view (dropSpilled s b) = view s :=
  (view_foldl (fun t _ => hidden_dropLeg hb hk t b) _ _).trans (view_setMiller (hb.miller rfl) s _)

/-! ### A token that is cancelled (R280, R346) -/

theorem hidden_drainCheck (hk : HidesBesideStage view) (s : State) : view (drainCheck s) = view s := by
  have htime : Hides view O.drain_time := hk _ (by decide)
  have hstate : Hides view O.rule_state := hk _ (by decide)
  have hold : Hides view O.rule_old_version := hk _ (by decide)
  simp only [drainCheck, apply_ite view, hold _ _, hstate _ _, htime _ _, ite_self]

theorem hidden_cancelToken (hb : Blind view [.out, .hostq, .carter, .miller]) (hk : HidesBesideStage view) (s : State) (id : Nat) :
    view (cancelToken s id) = view s :=
  (hidden_drainCheck hk _).trans ((view_foldl (hidden_dropLeg (hb.sub rfl) hk) _ _).trans (view_setCarter (hb.sub rfl) s _))

/-! ### A port that goes down (R288, R289, R327) -/

theorem hidden_wiredFlush (hb : Blind view [.out, .hostq, .miller]) (hk : HidesBesideStage view) (s : State) (p w : Nat) :
    view (wiredFlush s p w (some O.down_drops)) = view s := by
  have hdrops : Hides view O.down_drops := hk _ (by decide)
  simp only [wiredFlush, setWiredSched, setWiredQ, hidden_bumpBy hdrops, view_setMiller (hb.miller rfl),
    view_foldl (fun (t : State) (f : OutFrame) => hidden_dropLeg hb hk t f.buf)]

theorem hidden_portDown (hb : Blind view [.out, .hostq, .tinker, .miller]) (hk : HidesBesideStage view) (s : State) (p next : Nat) :
    view (portDown s p next) = view s := by
  have hstate : Hides view (O.port_state p) := hk.sub (by decide) (by decide) _
  have hdowns : Hides view (O.link_downs p) := hk.sub (by decide) (by decide) _
  have hflush : ∀ t, view (portFlush t p) = view t := fun t => view_foldl (fun u w => hidden_wiredFlush (hb.sub rfl) hk u p w) _ t
  simp only [portDown, apply_ite view, hidden_report (hb.tinker rfl) (hk O.msgs_dropped (by decide)), hflush, hidden_bump hdowns, hstate _ _,
    ite_self]

theorem hidden_portsRestart (hb : Blind view [.out, .hostq, .tinker, .miller]) (hk : HidesBesideStage view) (s : State) :
    view (portsRestart s) = view s :=
  (view_foldl (fun t p => hidden_portDown hb hk t p _) _ _).trans (hidden_setClk (hk _ (by decide)) (hk _ (by decide)) s _)

end

end Sys2Proof.Machine
end

section
/-! BOOT and TRAIN (O16, O52). -/

namespace Sys2Proof.Machine

/-! ### What a change of mode does to the epoch (R32, R151, R374) -/

/-- The epoch that the module is in, as `epoch_current` reads it. -/
def epochOf (s : State) : Nat := rd s O.epoch_current

theorem hides_epochOf {k : Nat} (hk : k ≠ O.epoch_current) : Hides epochOf k := fun s v => rd_wr_ne s k v _ hk.symm

theorem hides_epochOf_sub {i a : Nat} (ha : a < 256) (hne : a ≠ 1) : Hides epochOf (objKey i a) :=
  hides_epochOf (objKey_ne ha (by decide) hne)

theorem blind_epochOf {parts : List StatePart} (hregs : .regs ∉ parts) (hboot : .boot ∉ parts) : Blind epochOf parts :=
  blind_rd _ hregs hboot

theorem hidesAll_epochOf_radio (r : Nat) : HidesAll epochOf [O.synth_locked r, O.radio_state r] :=
  List.forall_mem_cons.mpr ⟨hides_epochOf_sub (by decide) (by decide), List.forall_mem_singleton.mpr (hides_epochOf_sub (by decide) (by decide))⟩

theorem hidesRadio_epochOf (r : Nat) : HidesRadio epochOf r := fun s _ => rd_congr s _ _ rfl rfl rfl rfl

theorem hidesAll_epochOf_dram : HidesAll epochOf [O.region_status, O.dram_state] :=
  List.forall_mem_cons.mpr ⟨hides_epochOf (by decide), List.forall_mem_singleton.mpr (hides_epochOf (by decide))⟩

theorem epochOf_dramMode (s : State) (m : Nat) : epochOf (dramMode s m) = epochOf s := by
  have hstop : ∀ t, epochOf (retrainStop t) = epochOf t := fun t => by
    simp only [retrainStop, apply_ite epochOf, hides_epochOf (k := O.dram_state) (by decide) _ _,
      hides_epochOf (k := O.region_status) (by decide) _ _, ite_self]
  have hcomplete : ∀ t, epochOf (dramComplete t) = epochOf t := fun t =>
    ((blind_epochOf (parts := [.dram]) (by decide) (by decide)).dram rfl _ _).trans
      (foldl_view_mem epochOf _ (fun q _ t => hidden_bumpBy (hides_epochOf_sub (by decide) (by decide)) t 256) t)
  simp only [dramMode, apply_ite epochOf, hides_epochOf (k := O.dram_state) (by decide) _ _,
    hides_epochOf (k := O.region_status) (by decide) _ _, hcomplete, hstop, ite_self]

theorem epochOf_abortActivity (s : State) (e : Activity) : epochOf (abortActivity s e) = epochOf s := by
  have hrecord := fun t => hidden_recordEnd t e .denied (List.forall_mem_cons.mpr ⟨hides_epochOf_sub (by decide) (by decide),
    List.forall_mem_cons.mpr ⟨hides_epochOf_sub (by decide) (by decide),
      List.forall_mem_singleton.mpr (hides_epochOf_sub (by decide) (by decide))⟩⟩)
  have hstop := fun t => hidden_stopEngine (view := epochOf) (blind_epochOf (by decide) (by decide)) hidesAll_epochOf_radio
    hidesAll_epochOf_dram t e
  exact (hrecord _).trans ((hstop _).trans ((hidden_bump (hides_epochOf (by decide)) _).trans
    ((blind_epochOf (parts := [.steward]) (by decide) (by decide)).steward rfl s _)))

theorem epochOf_enterRunning (s : State) (e : Activity) : epochOf (enterRunning s e) = epochOf s := by
  have hb : Blind epochOf [.radios, .steward] := blind_epochOf (by decide) (by decide)
  have hruns : Hides epochOf (O.act_runs e.activity) := hides_epochOf (by simp only [O.act_runs, O.epoch_current, objKey]; omega)
  have hstart := fun t => hidden_startActivity hb (fun r => hidesAll_epochOf_radio r (O.radio_state r) (by simp)) hidesAll_epochOf_dram t e hruns
  simp only [enterRunning, apply_ite epochOf, hstart, hb.steward rfl, hidden_bump (hides_epochOf (k := O.maint_admitted) (by decide)), ite_self]

theorem epochOf_scanQueue (s : State) : epochOf (scanQueue s) = epochOf s := by
  have hb : Blind epochOf [.out, .twin, .steward] := blind_epochOf (by decide) (by decide)
  have hadmit : ∀ t e, epochOf (admitActivity t e) = epochOf t := fun t e => by
    simp only [admitActivity, apply_ite epochOf, epochOf_enterRunning, view_varlanSend (hb.out rfl) (hb.twin rfl), hb.steward rfl, ite_self]
  have hscan : ∀ (rest : List Activity) t kept, epochOf (scanFrom t kept rest) = epochOf t := by
    intro rest
    induction rest with
    | nil => exact fun t _ => hb.steward rfl t _
    | cons e rest ih => intro t kept; simp only [scanFrom, apply_ite epochOf, ih, hadmit, ite_self]
  simp only [scanQueue, reserveAlign, apply_ite epochOf, view_varlanSend (hb.out rfl) (hb.twin rfl), epochOf_enterRunning, hb.steward rfl, hscan,
    ite_self]

/-- A change of mode leaves the epoch. -/
theorem epochOf_setMode (s : State) (m : Nat) : epochOf (setMode s m) = epochOf s := by
  have hrole : ∀ old, epochOf (serviceRole s old m) = epochOf s := fun old => by
    simp only [serviceRole, apply_ite epochOf, hides_epochOf (k := O.service_role) (by decide) _ _, ite_self]
  have habort : ∀ t, epochOf (abortOutside t) = epochOf t := fun t => by
    simp only [abortOutside, apply_ite epochOf, (blind_epochOf (parts := [.steward]) (by decide) (by decide)).steward rfl,
      view_foldl epochOf_abortActivity, ite_self]
  have hmute : ∀ t r, epochOf (muteRadio t r) = epochOf t := fun t r =>
    hidden_muteRadio (fun _ _ => rd_congr _ _ _ rfl rfl rfl rfl) (hidesRadio_epochOf r) (hidesAll_epochOf_radio r) t
  have hfollow : ∀ t r, epochOf (follow t r) = epochOf t := fun t r => hidden_follow (hidesRadio_epochOf r) (hidesAll_epochOf_radio r) t
  have hretime : ∀ t, epochOf (retime t) = epochOf t := hidden_retime fun d _ =>
    ⟨hides_epochOf_sub (by decide) (by decide), hides_epochOf (by simp only [O.clk_rate, O.epoch_current, objKey]; omega)⟩
  have hpair : ∀ t, epochOf (pairRefresh t) = epochOf t := hidden_pairRefresh (blind_epochOf (by decide) (by decide)) (hidesAll_rd (by decide))
  simp only [setMode, followAll, hpair, epochOf_scanQueue, hfollow, hretime, apply_ite epochOf, hmute, habort, epochOf_dramMode,
    hides_epochOf (k := O.package_mode) (by decide) _ _, hrole, ite_self]

/-! ### Step 1 (R518, R522) -/

/-- What step 1 leaves of the boot sequence, of the record of DORMANT and of the mode, with what a default depends on. -/
def begunOf (s : State) : Boot × Option DormantRecord × Option Nat × Fuses × Nat :=
  (s.boot, s.power.record, s.regs.look O.package_mode, base s)

theorem packageMode_of_begunOf {s t : State} (h : begunOf t = begunOf s) : packageMode t = packageMode s := by
  simp only [begunOf, base, Prod.mk.injEq] at h
  obtain ⟨hboot, -, hmode, hfuse, hsystem⟩ := h
  exact rd_congr s t _ hmode hfuse (congrArg Boot.straps hboot) hsystem

theorem hides_begunOf {k : Nat} (hk : k ≠ O.package_mode) : Hides begunOf k := fun s v => by
  simp [begunOf, base, wr, Tab.look_put_ne _ _ _ _ hk.symm]

theorem blind_begunOf : Blind begunOf [.tb, .tinker, .time] := Blind.of_forall ⟨fun _ _ => rfl, fun _ _ => rfl, fun _ _ => rfl⟩

theorem begunOf_setPowerState (s : State) (p : Power) (h : p.record = s.power.record) : begunOf (setPowerState s p) = begunOf s :=
  congrArg (fun r => (s.boot, r, s.regs.look O.package_mode, base s)) h

theorem begunOf_bootTime (s : State) : begunOf (bootTime s) = begunOf s := by
  have hb := blind_begunOf
  have hstate : ∀ t v, begunOf (setTbState t v) = begunOf t := hidden_setTbState (hb.sub rfl)
    (List.forall_mem_cons.mpr ⟨hides_begunOf (by decide), List.forall_mem_singleton.mpr (hides_begunOf (by decide))⟩)
  simp only [bootTime, apply_ite begunOf, view_setUncertainty (hb.time rfl), hstate, view_tb_time (hb.tb rfl) (hb.time rfl), ite_self]

theorem begunOf_bootFlash (s : State) : begunOf (bootFlash s) = begunOf s :=
  (hides_begunOf (by decide) _ _).trans ((hides_begunOf (by decide) _ _).trans (hides_begunOf (by decide) _ _))

theorem begunOf_bootPlan (s : State) : begunOf (bootPlan s) = begunOf s := by
  have hsteps : begunOf ((List.range 24).foldl (fun t i => match s.survey.flash.look i with
      | some n => wr t (O.mi_steps i) n
      | none => t) s) = begunOf s := view_foldl (fun t i => by
    split
    · exact hides_begunOf (by simp only [O.mi_steps, O.package_mode, objKey]; omega) _ _
    · rfl) _ s
  have hderates : ∀ u, begunOf ([0, 1, 2].foldl (fun t r => wr t (O.life_derate r) (s.survey.flash.getD (r + 1) 0)) u) = begunOf u :=
    view_foldl (fun t r => hides_begunOf (objKey_ne (by decide) (by decide) (by decide)) _ _) _
  refine (begunOf_setPowerState _ _ rfl).trans ((hidden_setFlag (hides_begunOf (by decide)) _ _).trans ?_)
  exact (hderates _).trans ((hides_begunOf (by decide) _ _).trans hsteps)

theorem begunOf_bootKinds (s : State) : begunOf (bootKinds s) = begunOf s := by
  have htinker := blind_begunOf.tinker rfl
  have hdrop : Hides begunOf O.msgs_dropped := hides_begunOf (by decide)
  have hheld : ∀ t m, begunOf (reportHeldOver t m) = begunOf t := fun t m => (hidden_collect htinker hdrop _ _).trans (htinker t _)
  simp only [bootKinds, apply_ite begunOf, hidden_report htinker hdrop, view_foldl hheld, ite_self]
  rfl

theorem packageMode_setPowerState (s : State) (p : Power) : packageMode (setPowerState s p) = packageMode s := rd_congr _ _ _ rfl rfl rfl rfl

/-- The module as step 1 counts it, with the slots to try. -/
def bootCounted (s : State) : State :=
  let t := wr (setLed s (bootTransports (bootCountWrite s.led))) O.boot_count (bootCountNext s.led)
  { t with boot := { t.boot with step := 1, slots := bootSlots s.boot.straps } }

/-- BOOT entered, with the time base set and no record left. -/
def bootEntered (s : State) : State :=
  let t := bootTime (setMode (bootCounted s) 5)
  setPowerState t { t.power with record := none }

theorem bootEntered_fields (s : State) : (bootEntered s).boot = (bootTime (setMode (bootCounted s) 5)).boot ∧
    (bootEntered s).power.record = none ∧ base (bootEntered s) = base (bootTime (setMode (bootCounted s) 5)) ∧
    packageMode (bootEntered s) = packageMode (bootTime (setMode (bootCounted s) 5)) :=
  have hset : ∀ t : State, (setPowerState t { t.power with record := none }).boot = t.boot ∧
      (setPowerState t { t.power with record := none }).power.record = none ∧ base (setPowerState t { t.power with record := none }) = base t ∧
      packageMode (setPowerState t { t.power with record := none }) = packageMode t :=
    fun _ => ⟨rfl, rfl, rfl, packageMode_setPowerState _ _⟩
  hset _

theorem bootCounted_fields (s : State) : (bootCounted s).boot = { s.boot with step := 1, slots := bootSlots s.boot.straps } ∧
    base (bootCounted s) = base s := ⟨rfl, rfl⟩

/-- BOOT entered, with the time that a wake took. -/
def bootDated (s : State) : State :=
  if s.boot.wake then wr (bootEntered s) O.last_wake_ms (min (topOf O.last_wake_ms) ((s.now - s.power.wokeAt) / 1000000)) else bootEntered s

theorem bootBegin_eq (s : State) : bootBegin s = bootKinds (bootPlan (bootFlash (bootDated s))) := by
  unfold bootBegin bootDated bootEntered bootCounted
  dsimp only

/-- Nothing after the entry of BOOT changes it. -/
theorem begunOf_bootBegin (s : State) : begunOf (bootBegin s) = begunOf (bootEntered s) := by
  have hdated : begunOf (bootDated s) = begunOf (bootEntered s) := by
    simp only [bootDated, apply_ite begunOf, hides_begunOf (k := O.last_wake_ms) (by decide) _ _, ite_self]
  rw [bootBegin_eq, begunOf_bootKinds, begunOf_bootPlan, begunOf_bootFlash, hdated]

/-- Step 1 counts its step, lists the slots of BOOT_SRC and enters BOOT with no record left. -/
theorem bootBegin_begins (s : State) : (bootBegin s).boot = { s.boot with step := 1, slots := bootSlots s.boot.straps } ∧
    packageMode (bootBegin s) = 5 ∧ (bootBegin s).power.record = none ∧ base (bootBegin s) = base s := by
  obtain ⟨hmode, hfuse, hboot, hsystem⟩ := setMode_mode (bootCounted s) 5
  obtain ⟨hcountedBoot, hcountedBase⟩ := bootCounted_fields s
  obtain ⟨henteredBoot, hrecord, henteredBase, henteredMode⟩ := bootEntered_fields s
  have htime := begunOf_bootTime (setMode (bootCounted s) 5)
  have hkept := begunOf_bootBegin s
  have hbegun := (packageMode_of_begunOf hkept).trans (henteredMode.trans ((packageMode_of_begunOf htime).trans hmode))
  simp only [begunOf, Prod.mk.injEq] at hkept htime
  obtain ⟨hkeptBoot, hkeptRecord, -, hkeptBase⟩ := hkept
  obtain ⟨htimeBoot, -, -, htimeBase⟩ := htime
  have hbase : base (setMode (bootCounted s) 5) = base (bootCounted s) := by rw [base, hfuse, hsystem, base]
  exact ⟨by rw [hkeptBoot, henteredBoot, htimeBoot, hboot, hcountedBoot], hbegun, hkeptRecord.trans hrecord,
    by rw [hkeptBase, henteredBase, htimeBase, hbase, hcountedBase]⟩

/-- The slots that BOOT_SRC gives by its two bits (R520). -/
theorem bootSlots_eq (straps : Nat) : bootSlots straps =
    if bit straps 9 then (if bit straps 8 then [1] else [0]) else if bit straps 8 then [1, 0] else [0, 1] := by
  have hvalue : bits straps 9 8 = 2 * (straps / 512 % 2) + straps / 256 % 2 := by
    change straps / 256 % 4 = _
    omega
  have hhigh : bit straps 9 = decide (straps / 512 % 2 = 1) := rfl
  have hlow : bit straps 8 = decide (straps / 256 % 2 = 1) := rfl
  simp only [bootSlots, hvalue, hhigh, hlow]
  rcases Nat.mod_two_eq_zero_or_one (straps / 512) with h9 | h9 <;> rcases Nat.mod_two_eq_zero_or_one (straps / 256) with h8 | h8 <;>
    simp [h9, h8]

/-- The outcome of BOOT_START is step 1's. -/
theorem completes_bootStart {s : State} {P : State → Prop} (hon : hubOn s = true) (hmode : packageMode s = 4) (hstep : s.boot.step = 0)
    (hhalted : s.boot.halted = false) (href : rd s O.ref_state = 2) (h : P (sealed s (bootBegin s))) : Completes .bootStart s P := by
  refine completes_act (show execBootStart s = _ from rfl) hon ?_
  rwa [if_pos ⟨hmode, hstep, hhalted, href⟩]

/-! ### Steps 2 and 3 (R519 to R523) -/

/-- An image that passes. -/
theorem completes_imagePassed {s : State} {v slot : Nat} {rest : List Nat} {P : State → Prop} (hon : hubOn s = true) (hstep : s.boot.step = 1)
    (hhalted : s.boot.halted = false) (hslots : s.boot.slots = slot :: rest) (hv : v < 4294967296)
    (h : P (sealed s (wr { s with boot := { s.boot with step := 2, slots := [] } } O.firmware_rev v))) : Completes (.imageCheckDone 0 v) s P := by
  refine completes_act (show execImageCheckDone 0 v s = _ from rfl) hon ?_
  simpa [hslots, hstep, hhalted, Nat.mod_eq_of_lt hv] using h

/-- The state after an image failed check `f`: its report, and the slots that are left. -/
def imageFailed (s : State) (f : Fin 5) (slot : Nat) (rest : List Nat) : State :=
  report { s with boot := { s.boot with slots := rest } } 0x10 (ledgerHid s) (slot + 256 * f)

theorem completes_imageFailed {s : State} {f : Fin 5} {v slot : Nat} {rest : List Nat} {P : State → Prop} (hon : hubOn s = true)
    (hstep : s.boot.step = 1) (hhalted : s.boot.halted = false) (hslots : s.boot.slots = slot :: rest) (hf : f ≠ 0)
    (h : P (sealed s (if rest = [] then bootHalt (imageFailed s f slot rest) else imageFailed s f slot rest))) :
    Completes (.imageCheckDone f v) s P := by
  refine completes_act (show execImageCheckDone f v s = _ from rfl) hon ?_
  simpa [hslots, hstep, hhalted, hf, imageFailed] using h

theorem imageFailed_boot (s : State) (f : Fin 5) (slot : Nat) (rest : List Nat) :
    (imageFailed s f slot rest).boot = { s.boot with slots := rest } ∧ base (imageFailed s f slot rest) = base s := by
  constructor <;> simp [imageFailed, base]

/-- The self-test's reports leave the boot sequence. -/
theorem boot_selfTestReports (s : State) (l : List Nat) : (l.foldl (fun t h => report t 0x11 h h) s).boot = s.boot :=
  view_foldl (view := fun t => t.boot) (fun t h => by simp) l s

theorem completes_selfTestDone {s : State} {l : List Nat} {P : State → Prop} (hon : hubOn s = true) (hstep : s.boot.step = 2)
    (hhalted : s.boot.halted = false)
    (h : ∀ t, t.boot = s.boot → P (sealed s (if (l.filter (selfTested s)).any bootVital then bootHalt t
      else { t with boot := { t.boot with step := 3, disabled := l.filter (selfTested s) } }))) : Completes (.selfTestDone l) s P := by
  refine completes_act (show execSelfTestDone l s = _ from rfl) hon ?_
  rw [if_neg (by simp [hstep, hhalted])]
  exact h _ (boot_selfTestReports s _)

/-! ### Step 4 and TRAIN (R522, R525) -/

section

variable {α : Type} {view : State → α}

theorem hidden_trainRadio (hb : Blind view [.radios]) (hfulls : ∀ s x, view { s with boot := { s.boot with fulls := x } } = view s)
    (hk : HidesBesideStage view) (s : State) (r : Nat) : view (trainRadio s r) = view s := by
  have hradio : HidesRadio view r := fun t x => hb.radios rfl t _
  have hstate : Hides view (O.radio_state r) := hk.sub (by decide) (by decide) _
  have hlocked : Hides view (O.synth_locked r) := hk.sub (by decide) (by decide) _
  have hfollow := hidden_follow hradio (List.forall_mem_cons.mpr ⟨hlocked, List.forall_mem_singleton.mpr hstate⟩)
  simp only [trainRadio, startFull, apply_ite view, hidden_setRState hradio hstate, view_setRadio (hb.radios rfl), hfulls, hfollow, ite_self]

theorem hidden_trainLanes (hb : Blind view [.tinker, .twin]) (hk : HidesBesideStage view) (s : State) : view (trainLanes s) = view s := by
  have hpair := hidden_pairRefresh (hb.sub rfl) (List.forall_mem_cons.mpr ⟨hk O.pair_state (by decide),
    List.forall_mem_cons.mpr ⟨hk O.pair_suspend_cause (by decide), List.forall_mem_singleton.mpr (hk O.msgs_dropped (by decide))⟩⟩)
  have hstate : Hides view O.varlan_state := hk _ (by decide)
  simp only [trainLanes, laneRefresh, apply_ite view, hpair, hstate _ _, view_setTwin (hb.twin rfl), ite_self]

end

/-- What TRAIN's tasks leave of the stage, with the step of BOOT. -/
def trainedOf (s : State) : Nat × Nat × Nat := (s.boot.step, packageMode s, epochOf s)

theorem trainedOf_congr (s t : State) (hregs : t.regs = s.regs) (hfuse : t.fuse = s.fuse) (hstraps : t.boot.straps = s.boot.straps)
    (hsystem : t.system = s.system) (hstep : t.boot.step = s.boot.step) : trainedOf t = trainedOf s := by
  have hrd : ∀ k, rd t k = rd s k := fun k => rd_congr s t k (by rw [hregs]) hfuse hstraps hsystem
  simp only [trainedOf, packageMode, epochOf, hstep, hrd]

theorem hidesBesideStage_trainedOf : HidesBesideStage trainedOf := fun j hj s v => by
  simp only [trainedOf, packageMode, epochOf, hidesBesideStage_rd (k := O.package_mode) (by decide) j hj s v,
    hidesBesideStage_rd (k := O.epoch_current) (by decide) j hj s v]
  rfl

theorem blind_trainedOf : Blind trainedOf [.out, .hostq, .tinker, .radios, .twin, .miller, .dram] :=
  Blind.of_forall ⟨fun _ _ => trainedOf_congr _ _ rfl rfl rfl rfl rfl, fun _ _ => trainedOf_congr _ _ rfl rfl rfl rfl rfl,
    fun _ _ => trainedOf_congr _ _ rfl rfl rfl rfl rfl, fun _ _ => trainedOf_congr _ _ rfl rfl rfl rfl rfl,
    fun _ _ => trainedOf_congr _ _ rfl rfl rfl rfl rfl, fun _ _ => trainedOf_congr _ _ rfl rfl rfl rfl rfl,
    fun _ _ => trainedOf_congr _ _ rfl rfl rfl rfl rfl⟩

/-- TRAIN's tasks begin with the mode TRAIN, in the epoch that BOOT left. -/
theorem trainedOf_trainBegin (s : State) : trainedOf (trainBegin s) = (4, 6, epochOf s) := by
  have hk := hidesBesideStage_trainedOf
  have hb := blind_trainedOf
  have hfulls : ∀ t x, trainedOf { t with boot := { t.boot with fulls := x } } = trainedOf t := fun _ _ =>
    trainedOf_congr _ _ rfl rfl rfl rfl rfl
  have hdram : Hides trainedOf O.dram_state := hk _ (by decide)
  simp only [trainBegin, hidden_trainLanes (hb.sub rfl) hk, hidden_portsRestart (hb.sub rfl) hk,
    view_foldl (hidden_trainRadio (hb.sub rfl) hfulls hk), view_setDram (hb.sub rfl), hdram _ _]
  obtain ⟨hmode, -, hboot, -⟩ := setMode_mode { s with boot := { s.boot with step := 4, fulls := [] } } 6
  have hepoch : epochOf { s with boot := { s.boot with step := 4, fulls := [] } } = epochOf s := rd_congr _ _ _ rfl rfl rfl rfl
  simp only [trainedOf, hmode, hboot, epochOf_setMode, hepoch]

/-- A die that stays unpowered leaves the epoch (R446). -/
theorem epochOf_bootDies (s : State) : epochOf (bootDies s) = epochOf s := by
  refine foldl_view_mem epochOf _ (fun r hr t => ?_) s
  have hlt : r < 3 := by
    have hmem := List.mem_of_mem_filter hr
    fin_cases hmem <;> decide
  have hpower : ∀ u, epochOf (setPower u (6 + r) 0) = epochOf u := fun u =>
    hidden_setPower (hides_epochOf (by simp only [O.pd_state, O.epoch_current, objKey]; omega)) (hides_epochOf_sub (by decide) (by decide)) u 0
  have hcut : ∀ u, epochOf (cutPpdu u r) = epochOf u := hidden_cutPpdu (fun _ _ => rd_congr _ _ _ rfl rfl rfl rfl) (hidesRadio_epochOf r)
  have hstate : ∀ u v, epochOf (setRState u r v) = epochOf u :=
    hidden_setRState (hidesRadio_epochOf r) (hides_epochOf_sub (by decide) (by decide))
  have hlocked : Hides epochOf (O.synth_locked r) := hides_epochOf_sub (by decide) (by decide)
  simp only [radioUnpowered, setLocked, apply_ite epochOf, hpower, hidden_setFlag hlocked, hstate,
    view_setRadio ((blind_epochOf (parts := [.radios]) (by decide) (by decide)).radios rfl), hcut, ite_self]

/-- The last step enters TRAIN in epoch 1. -/
theorem trainedOf_bootFinish (s : State) : trainedOf (bootFinish s) = (4, 6, 1) := by
  have hbh : ∀ t, epochOf (bhRefresh t) = epochOf t := fun t => hides_epochOf (k := O.bh_state) (by decide) _ _
  have hone : ∀ t, epochOf (wr t O.epoch_current 1) = 1 := fun t => rd_wr_self _ _ _
  simp only [bootFinish, trainedOf_trainBegin, hbh, epochOf_bootDies, apply_ite epochOf, hides_epochOf (k := O.sync_state) (by decide) _ _,
    hone, ite_self]

theorem trainChoice_cases (s : State) : (s.tinker.latched = true ∨ twinState s = 0 → (trainChoice s).boot.chosen = some 7) ∧
    (s.tinker.latched = false → twinState s ≠ 0 → s.twin.hbFresh = false → s.boot.searched = false →
      trainChoice s = { s with boot := { s.boot with waiting := true } }) := by
  refine ⟨fun h => ?_, fun hlatched htwin hfresh hsearched => ?_⟩
  · rw [trainChoice, if_pos h]
  · rw [trainChoice, if_neg (by simp [hlatched, htwin])]
    simp [hfresh, hsearched]

/-- Settles O16: each step by what it does to the boot sequence; the mode and the epoch by the registers that TRAIN's tasks leave. -/
theorem bootComplete : Obligations.BootComplete := by
  refine ⟨fun s hon hmode hstep hhalted href => ?_, fun s v hon hstep hhalted hslots hv => ?_,
    fun s f v slot rest hon hstep hhalted hslots hf => ?_, fun s l hon hstep hhalted => ?_, fun s hon hstep hhalted => ?_,
    fun s hon hmode hdram hfulls hwaiting hchosen => ?_⟩
  · obtain ⟨hboot, hbegun, hrecord, hbase⟩ := bootBegin_begins s
    refine completes_bootStart hon hmode hstep hhalted href ?_
    simp only [packageMode, rd_sealed_of_base hbase, sealed_fields, hboot, hrecord]
    exact ⟨trivial, hbegun, trivial, trivial⟩
  · obtain ⟨slot, rest, hslots⟩ := List.exists_cons_of_ne_nil hslots
    refine completes_imagePassed hon hstep hhalted hslots hv ?_
    exact ⟨rfl, rfl, (rd_sealed_of_base rfl _).trans (rd_wr_self _ _ _)⟩
  · obtain ⟨hboot, hbase⟩ := imageFailed_boot s f slot rest
    have hraised : Raised s (imageFailed s f slot rest) 0x10 (ledgerHid s) := raised_report _ _ _ _ _ rfl
    refine completes_imageFailed hon hstep hhalted hslots hf ?_
    split_ifs with hlast
    · refine ⟨by simp [bootHalt, hboot, hstep], by simp [bootHalt, hboot], hraised, fun _ => ⟨by simp [bootHalt], ?_⟩,
        fun h => absurd hlast h⟩
      exact (rd_sealed_of_base (show base (bootHalt _) = base s from hbase) _).trans (rd_wr_self _ _ _)
    · exact ⟨by simp [hboot, hstep], by simp [hboot], hraised, fun h => absurd h hlast, fun _ => by simp [hboot, hhalted]⟩
  · refine completes_selfTestDone hon hstep hhalted fun t hboot => ⟨fun h => ?_, fun h => ?_⟩
    · simp [h]
    · simp [h, bootHalt, hboot, hstep]
  · have htrained := trainedOf_bootFinish s
    simp only [trainedOf, Prod.mk.injEq] at htrained
    obtain ⟨hfour, hsix, hepoch⟩ := htrained
    have hbase : base (bootFinish s) = base s := view_bootFinish (blind_base _) s
    refine completes_act (show execBootEnd s = _ from rfl) hon ?_
    rw [if_pos ⟨hstep, hhalted⟩]
    simp only [sealed_fields, packageMode, rd_sealed_of_base hbase]
    exact ⟨hfour, hsix, hepoch⟩
  · obtain ⟨hsolo, hwait⟩ := trainChoice_cases s
    refine completes_act (show execTrainEnd s = _ from rfl) hon ?_
    rw [if_pos ⟨hmode, hdram, hfulls, hwaiting, hchosen⟩]
    refine ⟨fun h => hsolo h, fun hlatched htwin hfresh hsearched => ?_⟩
    simp only [hwait hlatched htwin hfresh hsearched, sealed_fields, hchosen, and_self]

/-- Settles O52: step 1 lists the slots of BOOT_SRC, and each check takes the first of them. -/
theorem bootRunsTheFirstSlotThatPasses : Obligations.BootRunsTheFirstSlotThatPasses := by
  refine ⟨fun s hon hmode hstep hhalted href => ?_, fun s v a l hon hstep hhalted hslots hv => ?_,
    fun s f v a b l hon hstep hhalted hslots hf => ?_, fun s f v a hon hstep hhalted hslots hf => ?_⟩
  · obtain ⟨hboot, -, -, -⟩ := bootBegin_begins s
    refine completes_bootStart hon hmode hstep hhalted href ?_
    simp only [sealed_fields, hboot, bootSlots_eq]
    refine ⟨fun h9 h8 => ?_, fun h9 h8 => ?_, fun h9 h8 => ?_, fun h9 h8 => ?_⟩ <;> simp [h9, h8]
  · refine completes_imagePassed hon hstep hhalted hslots hv ?_
    exact ⟨rfl, hhalted, (rd_sealed_of_base rfl _).trans (rd_wr_self _ _ _)⟩
  · obtain ⟨hboot, -⟩ := imageFailed_boot s f a (b :: l)
    refine completes_imageFailed hon hstep hhalted hslots hf ?_
    rw [if_neg (List.cons_ne_nil b l)]
    simp [hboot, hstep, hhalted]
  · obtain ⟨hboot, hbase⟩ := imageFailed_boot s f a []
    refine completes_imageFailed hon hstep hhalted hslots hf ?_
    rw [if_pos rfl]
    refine ⟨by simp [bootHalt], by simp [bootHalt, hboot], ?_⟩
    exact (rd_sealed_of_base (show base (bootHalt _) = base s from hbase) _).trans (rd_wr_self _ _ _)

end Sys2Proof.Machine
end

section
/-! The DRAM's commands: training, refresh, requests, readings, the patrol and the regions (O33). -/

namespace Sys2Proof.Machine

/-! ### Panic and a channel's own state (R358, R359) -/

/-- What a port's panic leaves of the Cellarer. -/
def channelsOf (s : State) : Tab Channel × Nat := (s.dram.channels, s.dram.patrol)

theorem channelsOf_panicLevel (s : State) (k : Nat) : channelsOf (panicLevel s k) = channelsOf s := by
  unfold panicLevel
  split <;> (dsimp only; split_ifs <;> rfl)

theorem channelsOf_panicLevels (s : State) : channelsOf (panicLevels s) = channelsOf s := by
  simp only [panicLevels, channelsOf_panicLevel]

theorem channel_setChannel_self (s : State) (ch : Nat) (c : Channel) : channel (setChannel s ch c) ch = c := Tab.getD_put_self _ _ _ _

theorem patrol_dramRequest (s : State) (port a : Nat) (write : Bool) : (dramRequest s port a write).dram.patrol = s.dram.patrol :=
  congrArg Prod.snd (channelsOf_panicLevels _)

/-! ### Training (R363) -/

/-- An attempt that ends well. -/
theorem attempts_trainOne_ok (s : State) (ch : Nat) : (trainOne s ch true).dram.attempts = s.dram.attempts.put ch 4 := rfl

/-- Attempts that all end well. -/
theorem attempts_trained (l : List Nat) (s : State) (ch : Nat) :
    (l.foldl (fun t ch => trainOne t ch true) s).dram.attempts.getD ch 0 = if ch ∈ l then 4 else s.dram.attempts.getD ch 0 := by
  induction l generalizing s with
  | nil => rfl
  | cons c l ih =>
    rw [List.foldl_cons, ih, attempts_trainOne_ok, Tab.getD_put]
    by_cases hc : ch = c <;> simp [hc]

theorem mem_inTraining {s : State} {ch : Nat} (hch : ch < 8) :
    ch ∈ inTraining s ↔ s.dram.attempts = [] ∨ s.dram.attempts.getD ch 0 = 1 ∨ s.dram.attempts.getD ch 0 = 2 := by
  unfold inTraining
  split_ifs with h <;> simp [h, hch]

theorem attempts_ne_nil {s : State} {l : List Nat} (h : inTraining s = l) (hl : l ≠ List.range 8) : s.dram.attempts ≠ [] :=
  fun hnil => hl (h.symm.trans (if_pos hnil))

/-- No channel is left to train where none is of those in training. -/
theorem inTraining_eq_nil {s : State} (h : ∀ ch < 8, ch ∉ inTraining s) : inTraining s = [] :=
  List.eq_nil_iff_forall_not_mem.mpr fun ch hmem => h ch (inTraining_lt hmem) hmem

/-- The state after every attempt that ran has ended well. -/
def allTrained (s : State) : State := (inTraining s).foldl (fun t ch => trainOne t ch true) s

theorem inTraining_allTrained (s : State) : inTraining (allTrained s) = [] := by
  have hget := attempts_trained (inTraining s) s
  have hnone : (allTrained s).dram.attempts ≠ [] := fun hnil => by
    have hempty : inTraining s = [] := inTraining_eq_nil fun ch _ hmem => by
      have hfour := hget ch
      rw [show ((inTraining s).foldl (fun t ch => trainOne t ch true) s).dram.attempts = [] from hnil, if_pos hmem] at hfour
      simp [Tab.getD, Tab.look] at hfour
    have hsame : allTrained s = s := by rw [allTrained, hempty]; rfl
    exact attempts_ne_nil hempty (by decide) (hsame ▸ hnil)
  refine inTraining_eq_nil fun ch hch hmem => ?_
  have hmem := ((mem_inTraining hch).mp hmem).resolve_left hnone
  rw [allTrained, hget] at hmem
  split_ifs at hmem with hin
  · omega
  · exact hin ((mem_inTraining hch).mpr (Or.inr hmem))

/-- No channel has failed three times where none had before. -/
theorem allTrained_unfailed {s : State} (h : (List.range 8).all (fun ch => decide (s.dram.attempts.getD ch 0 ≠ 3)) = true) :
    (List.range 8).any (fun ch => decide ((allTrained s).dram.attempts.getD ch 0 = 3)) = false := by
  refine List.any_eq_false.mpr fun ch hch => ?_
  have hbefore := of_decide_eq_true (List.all_eq_true.mp h ch hch)
  rw [allTrained, attempts_trained]
  split_ifs
  · decide
  · simpa using hbefore

/-- A channel's third attempt has failed. -/
def trainFailed (s : State) (ch : Nat) : State :=
  wr (setDram s { s.dram with attempts := s.dram.attempts.put ch 3 }) (O.ch_train_result ch) (Status.code .timeout)

theorem trainOne_third {s : State} {ch : Nat} (h : s.dram.attempts.getD ch 0 = 2) : trainOne s ch false = trainFailed s ch := by
  simp only [trainOne, h, Bool.false_eq_true, if_false, Nat.reduceAdd, if_true, trainFailed]

theorem inTraining_trainFailed {s : State} {ch : Nat} (h : inTraining s = [ch]) : inTraining (trainFailed s ch) = [] := by
  have hbefore : s.dram.attempts ≠ [] := attempts_ne_nil h (fun heq => by simpa using congrArg List.length heq)
  have hget : ∀ j, (trainFailed s ch).dram.attempts.getD j 0 = if j = ch then 3 else s.dram.attempts.getD j 0 := fun j => Tab.getD_put _ _ _ _ _
  refine inTraining_eq_nil fun j hj hmem => ?_
  rcases (mem_inTraining hj).mp hmem with hnil | hmem
  · have hthree := hget ch
    rw [hnil, if_pos rfl] at hthree
    simp [Tab.getD, Tab.look] at hthree
  · rw [hget] at hmem
    split_ifs at hmem with hne
    · omega
    · exact hne (List.mem_singleton.mp (h ▸ (mem_inTraining hj).mpr (Or.inr hmem)))

theorem dramTrainDone_trains {s : State} (hon : hubOn s = true) (hstate : rd s O.dram_state = 1)
    (hattempts : (List.range 8).all (fun ch => decide (s.dram.attempts.getD ch 0 ≠ 3)) = true) :
    Completes (.dramTrainDone []) s fun t => rd t O.dram_state = 2 ∧ t.tinker = s.tinker := by
  have hbase : base (allTrained s) = base s := view_foldl (fun t ch => hidden_trainOne (blind_base _) t ch true (fun _ _ => rfl)) _ s
  have htinker : (allTrained s).tinker = s.tinker := view_foldl (view := fun t => t.tinker)
    (fun t ch => hidden_trainOne (Blind.of_forall fun _ _ => rfl) t ch true (fun _ _ => rfl)) _ s
  have hdone : (inTraining s).foldl (fun t c => trainOne t c (!(([] : List Nat).contains c))) s = allTrained s := rfl
  refine completes_act (show execDramTrainDone [] s = _ from rfl) hon ?_
  rw [if_neg (not_not.mpr hstate)]
  dsimp only
  rw [hdone, if_neg (not_not.mpr (inTraining_allTrained s)), allTrained_unfailed hattempts]
  exact ⟨(rd_sealed_of_base (show base (wr (allTrained s) O.dram_state 2) = base s from hbase) _).trans (rd_wr_self _ _ _), htinker⟩

theorem dramTrainDone_fails {s : State} {ch : Nat} (hon : hubOn s = true) (hstate : rd s O.dram_state = 1) (hone : inTraining s = [ch])
    (hch : ch < 8) (hsecond : s.dram.attempts.getD ch 0 = 2) :
    Completes (.dramTrainDone [ch]) s fun t => rd t O.dram_state = 6 ∧ rd t (O.ch_train_result ch) = Status.code .timeout ∧
      Raised s t 0x62 (trainHid s) := by
  have hfailed : (inTraining s).foldl (fun t c => trainOne t c (!([ch].contains c))) s = trainFailed s ch := by
    rw [hone, List.foldl_cons, List.foldl_nil, ← trainOne_third hsecond]
    simp
  have hany : (List.range 8).any (fun c => decide ((trainFailed s ch).dram.attempts.getD c 0 = 3)) = true :=
    List.any_eq_true.mpr ⟨ch, List.mem_range.mpr hch, decide_eq_true (Tab.getD_put_self _ _ _ _)⟩
  have hresult : O.ch_train_result ch ≠ O.msgs_dropped ∧ O.ch_train_result ch ≠ O.dram_state :=
    ⟨objKey_ne (by decide) (by decide) (by decide), objKey_ne (by decide) (by decide) (by decide)⟩
  have hbase : base (report (wr (trainFailed s ch) O.dram_state 6) 0x62 (trainHid s) 0) = base s := by simp [base, trainFailed, setDram]
  refine completes_act (show execDramTrainDone [ch] s = _ from rfl) hon ?_
  rw [if_neg (not_not.mpr hstate)]
  dsimp only
  rw [hfailed, if_neg (not_not.mpr (inTraining_trainFailed hone)), if_pos hany]
  refine ⟨?_, ?_, raised_report _ _ _ _ _ rfl⟩
  · rw [rd_sealed_of_base hbase, rd_report _ _ _ _ _ (by decide), rd_wr_self]
  · rw [rd_sealed_of_base hbase, rd_report _ _ _ _ _ hresult.1, rd_wr_ne _ _ _ _ hresult.2, trainFailed, rd_wr_self]

/-! ### Retraining (R365) -/

/-- The state at the end of a retraining in which some channels failed, before it is reported. -/
def retrainEnded (s : State) (failed : List Nat) : State :=
  let good := (List.range 8).filter (fun ch => !(failed.contains ch))
  let t := wr (bump (bumpBy (good.foldl trainedNow (retrainStop s)) O.retrain_fail ((List.range 8).filter (fun ch => failed.contains ch)).length)
    O.retrains) O.last_retrain (now80 s)
  if bit (rd t O.region_status) 2 then setMiller t { t.miller with noOverflow := false } else t

theorem retrainEnded_kept (s : State) (failed : List Nat) : base (retrainEnded s failed) = base s ∧
    (retrainEnded s failed).tinker = s.tinker := by
  have hkept : ∀ {α : Type} {view : State → α}, Blind view [.regs, .miller, .dram] → view (retrainEnded s failed) = view s := by
    intro α view hb
    have hstop := hidden_retrainStop (view := view) (fun _ _ u _ => hb.regs rfl u _) s
    simp only [retrainEnded, apply_ite, view_setMiller (hb.miller rfl), view_wr (hb.regs rfl), view_bump (hb.regs rfl), view_bumpBy (hb.regs rfl),
      view_foldl (view_trainedNow (hb.sub rfl)), hstop, ite_self]
  exact ⟨hkept (blind_base _), hkept (view := fun t => t.tinker) (Blind.of_forall ⟨fun _ _ => rfl, fun _ _ => rfl, fun _ _ => rfl⟩)⟩

theorem rd_retrainEnded {s : State} (h : rd s O.dram_state = 5) (failed : List Nat) :
    rd (retrainEnded s failed) O.dram_state = 3 ∧ rd (retrainEnded s failed) O.region_status = s.steward.regions ∧
    rd (retrainEnded s failed) O.retrains = min (rd s O.retrains + 1) (topOf O.retrains) ∧
    rd (retrainEnded s failed) O.retrain_fail =
      min (rd s O.retrain_fail + ((List.range 8).filter (fun ch => failed.contains ch)).length) (topOf O.retrain_fail) ∧
    rd (retrainEnded s failed) O.last_retrain = now80 s := by
  have hstop : retrainStop s = wr (wr s O.region_status s.steward.regions) O.dram_state 3 := if_pos h
  have htrained : ∀ (l : List Nat) t k, rd (l.foldl trainedNow t) k = rd t k := fun l t k =>
    view_foldl (view := fun u => rd u k) (view_trainedNow (blind_rd k (by decide) (by decide))) l t
  have hmiller : ∀ t x k, rd (setMiller t x) k = rd t k := fun t x k => rd_congr _ _ k rfl rfl rfl rfl
  have hend : ∀ k, rd (retrainEnded s failed) k = rd (wr (bump (bumpBy (((List.range 8).filter (fun ch => !(failed.contains ch))).foldl trainedNow
      (wr (wr s O.region_status s.steward.regions) O.dram_state 3)) O.retrain_fail ((List.range 8).filter (fun ch => failed.contains ch)).length)
      O.retrains) O.last_retrain (now80 s)) k := fun k => by
    unfold retrainEnded
    dsimp only
    rw [hstop]
    split_ifs
    · exact hmiller _ _ _
    · rfl
  have hbumpBy : ∀ t k n j, j ≠ k → rd (bumpBy t k n) j = rd t j := fun t k n j hne => by rw [rd_bumpBy, if_neg hne]
  simp (disch := decide) only [hend, rd_wr_ne, rd_wr_self, rd_bump_ne, rd_bump_self, hbumpBy, rd_bumpBy_self, htrained, and_self]

/-- The outcome of RETRAIN_END. -/
theorem completes_retrainEnd {s : State} {failed : List Nat} {P : State → Prop} (hon : hubOn s = true) (hstate : rd s O.dram_state = 5)
    (h : P (sealed s (if (List.range 8).filter (fun ch => failed.contains ch) = [] then retrainEnded s failed
      else report (retrainEnded s failed) 0x62 (trainHid s) 0))) : Completes (.retrainEnd failed) s P := by
  refine completes_act (show execRetrainEnd failed s = _ from rfl) hon ?_
  rw [if_neg (not_not.mpr hstate)]
  exact h

/-! ### Refresh and requests (R359, R361) -/

/-- A refresh goes to one of the banks that owe it. -/
theorem refreshOne_one (s : State) (ch : Nat) {banks : List Nat} (h : banks ≠ []) :
    ∃ b ∈ banks, (refreshOne s ch banks).out = s.out ++ [.dram ch b 0 0] ∧
      (channel (refreshOne s ch banks) ch).owed.getD b 0 = (channel s ch).owed.getD b 0 - 1 ∧
      (channel (refreshOne s ch banks) ch).openRow.look b = none := by
  have hlt : freeBelow s banks.length < banks.length := Nat.mod_lt _ (List.length_pos_of_ne_nil h)
  refine ⟨banks[freeBelow s banks.length], List.getElem_mem hlt, ?_⟩
  have hchannel : ∀ t c o, channel (send (setChannel t ch c) o) ch = c := fun t c _ => channel_setChannel_self t ch c
  unfold refreshOne
  rw [List.getElem?_eq_getElem hlt]
  dsimp only
  rw [hchannel]
  exact ⟨rfl, Tab.getD_put_self _ _ _ _, Tab.look_del_self _ _⟩

/-- A request that is served opens its row. -/
theorem serveReq_serves (s : State) (ch : Nat) (q : DramReq) : (serveReq s ch q).out = s.out ++ [.dram ch q.bank q.row (if q.write then 2 else 1)] ∧
    (channel (serveReq s ch q) ch).openRow.look q.bank = some q.row := by
  have hout : ∀ t, (panicLevels t).out = t.out := view_panicLevels (view := fun t => t.out) (Blind.of_forall ⟨fun _ _ => rfl, fun _ _ => rfl⟩)
  have hchannels : ∀ t, (panicLevels t).dram.channels = t.dram.channels := fun t => congrArg Prod.fst (channelsOf_panicLevels t)
  have hchannel : ∀ t, channel (panicLevels t) ch = channel t ch := fun t => by rw [channel, hchannels, channel]
  have hserved : ∀ t c k n o, channel (send (bumpBy (setChannel t ch c) k n) o) ch = c := fun t c _ _ _ => channel_setChannel_self t ch c
  unfold serveReq
  dsimp only
  rw [hout, hchannel, hserved]
  exact ⟨rfl, Tab.look_put_self _ _ _⟩

/-! ### Readings (R361, R364) -/

/-- A step over a list that sets a register at one place, and leaves it at the others, sets it where the list has that place. -/
theorem rd_foldl_of_mem {f : State → Nat → State} {k v ch : Nat} (hset : ∀ t, rd (f t ch) k = v)
    (hkeep : ∀ t j, j ≠ ch → rd (f t j) k = rd t k)
    {l : List Nat} (h : ch ∈ l) (s : State) : rd (l.foldl f s) k = v := by
  induction l generalizing s with
  | nil => exact absurd h List.not_mem_nil
  | cons c l ih =>
    by_cases hl : ch ∈ l
    · exact ih hl (f s c)
    · obtain rfl : ch = c := (List.mem_cons.mp h).resolve_right hl
      have hrest : rd (l.foldl f (f s ch)) k = rd (f s ch) k := foldl_view_mem (fun t => rd t k) l
        (fun j hj t => hkeep t j fun heq => hl (heq ▸ hj)) _
      exact hrest.trans (hset s)

/-- A die's report of a factor of 1, 2 or 4 is kept with its temperature. -/
theorem rd_mr4One {factor : Nat} (h : factor = 1 ∨ factor = 2 ∨ factor = 4) (s : State) (ch : Nat) (temp : Int) :
    rd (mr4One s ch factor temp) (O.ch_rate_factor ch) = factor ∧ rd (mr4One s ch factor temp) (O.ch_temp ch) = ofSigned 32 temp := by
  have hdrop : ∀ i a, a < 256 → a ≠ 10 → objKey i a ≠ O.msgs_dropped := fun i a ha hne => objKey_ne ha (by decide) hne
  have htemp : rd (wr (wrI s (O.ch_temp ch) temp) (O.ch_rate_factor ch) factor) (O.ch_temp ch) = ofSigned 32 temp :=
    (rd_wr_ne _ _ _ _ (objKey_ne (by decide) (by decide) (by decide))).trans (rd_wrI_self _ _ _)
  unfold mr4One
  rw [if_pos h]
  dsimp only
  split_ifs
  · exact ⟨(rd_report _ _ _ _ _ (hdrop _ _ (by decide) (by decide))).trans (rd_wr_self _ _ _),
      (rd_report _ _ _ _ _ (hdrop _ _ (by decide) (by decide))).trans htemp⟩
  · exact ⟨rd_wr_self _ _ _, htemp⟩

/-- Another die's report leaves a die's. -/
theorem rd_mr4One_other {ch j a : Nat} (hne : j ≠ ch) (ha : a = 1 ∨ a = 2) (s : State) (factor : Nat) (temp : Int) :
    rd (mr4One s j factor temp) (objKey (0x7001 + ch) a) = rd s (objKey (0x7001 + ch) a) := by
  refine hidden_mr4One (view := fun t => rd t (objKey (0x7001 + ch) a)) (blind_rd _ (by decide) (by decide)) s j factor temp (hidesAll_rd ?_)
  simp only [O.msgs_dropped, O.ch_rate_factor, O.ch_temp, objKey, List.mem_cons, List.not_mem_nil, or_false, not_or]
  omega

/-! ### The patrol (R367) -/

/-- The registers of a port's panic lie above those of the channels. -/
theorem notMem_panicKeys {i a : Nat} (hi : i < 0x7010) (ha : a < 256) : objKey i a ∉ panicKeys := by
  simp only [panicKeys, O.dp_panic, O.dp_panic_events, O.dp_panic_us, objKey, List.mem_flatMap, List.mem_cons, List.not_mem_nil, or_false]
  omega

/-- The patrol's word is read, and the next one comes. -/
def patrolRead (s : State) : State :=
  let t := setDram s { s.dram with patrol := if s.dram.patrol + 8 < dramBytes then s.dram.patrol + 8 else 0 }
  if s.dram.patrol % 256 = 0 then dramRequest t 3 s.dram.patrol false else t

theorem patrol_patrolRead (s : State) : (patrolRead s).dram.patrol = if s.dram.patrol + 8 < dramBytes then s.dram.patrol + 8 else 0 := by
  unfold patrolRead
  dsimp only
  split_ifs
  all_goals simp only [patrol_dramRequest, setDram]

theorem hidden_patrolRead {α : Type} {view : State → α} (hb : Blind view [.dram]) (hk : HidesAll view panicKeys) (s : State) :
    view (patrolRead s) = view s := by
  simp only [patrolRead, apply_ite view, hidden_dramRequest hb hk, view_setDram hb, ite_self]

theorem tinker_dramRequest (s : State) (port a : Nat) (write : Bool) : (dramRequest s port a write).tinker = s.tinker :=
  view_dramRequest (view := fun t => t.tinker) (Blind.of_forall ⟨fun _ _ => rfl, fun _ _ => rfl⟩) s port a write

theorem patrolRead_kept (s : State) : base (patrolRead s) = base s ∧ (patrolRead s).tinker = s.tinker :=
  ⟨hidden_patrolRead (blind_base _) (fun _ _ _ _ => rfl) s,
    hidden_patrolRead (view := fun t => t.tinker) (Blind.of_forall fun _ _ => rfl) (fun _ _ _ _ => rfl) s⟩

theorem rd_patrolRead {k : Nat} (hk : k ∉ panicKeys) (s : State) : rd (patrolRead s) k = rd s k :=
  hidden_patrolRead (view := fun t => rd t k) (blind_rd k (by decide) (by decide)) (hidesAll_rd hk) s

/-- An uncorrectable error in the sequencer's store is kept and counted, and disables no region. -/
theorem rd_dramError_store (s : State) {a : Nat} (source : Nat) (h : dramRegion a = 2) :
    rd (dramError s a source) O.err_addr = a ∧ rd (dramError s a source) O.err_region = 2 ∧
    rd (dramError s a source) (O.ch_ecc_uncorrected (blockChannel (a / 256))) =
      min (rd s (O.ch_ecc_uncorrected (blockChannel (a / 256))) + 1) (topOf (O.ch_ecc_uncorrected (blockChannel (a / 256)))) := by
  have hrow : dramRow a = 2 := by
    unfold dramRegion at h
    unfold dramRow dramRegion
    split_ifs at h ⊢ <;> omega
  have hcount : ∀ t k, rd (countErrors t (dramRow a)) k = rd t k := fun t k => by
    rw [hrow]
    exact rd_congr _ _ k rfl rfl rfl rfl
  have hlt : blockChannel (a / 256) < 8 := Nat.mod_lt _ (by decide)
  have hother : ∀ k ∈ [O.msgs_dropped, O.err_addr, O.err_channel, O.err_region, O.err_time],
      O.ch_ecc_uncorrected (blockChannel (a / 256)) ≠ k := by
    simp only [O.ch_ecc_uncorrected, O.msgs_dropped, O.err_addr, O.err_channel, O.err_region, O.err_time, objKey, List.mem_cons,
      List.not_mem_nil, or_false]
    omega
  unfold dramError
  dsimp only
  simp only [hcount, h]
  refine ⟨?_, ?_, ?_⟩
  · simp (disch := decide) only [rd_reportWith, rd_wr_ne, rd_wr_self]
  · simp (disch := decide) only [rd_reportWith, rd_wr_ne, rd_wr_self]
  · rw [rd_reportWith _ _ _ _ _ _ _ (hother _ (by decide)), rd_wr_ne _ _ _ _ (hother _ (by decide)), rd_wr_ne _ _ _ _ (hother _ (by decide)),
      rd_wr_ne _ _ _ _ (hother _ (by decide)), rd_wr_ne _ _ _ _ (hother _ (by decide)), rd_bump_self]

theorem regionError_store (s : State) {a : Nat} (h : dramRegion a = 2) : regionError s a = s := by simp [regionError, h]

/-- A word that the patrol corrects is counted (R367). -/
theorem patrolCorrected_counts (s : State) :
    let t := bump (patrolRead s) (O.ch_ecc_corrected (blockChannel (s.dram.patrol / 256)))
    let u := if flag s O.ecc_writeback then dramRequest t 3 s.dram.patrol true else t
    base u = base s ∧ u.tinker = s.tinker ∧ rd u (O.ch_ecc_corrected (blockChannel (s.dram.patrol / 256))) =
      min (rd s (O.ch_ecc_corrected (blockChannel (s.dram.patrol / 256))) + 1) (topOf (O.ch_ecc_corrected (blockChannel (s.dram.patrol / 256)))) := by
  obtain ⟨hbase, htinker⟩ := patrolRead_kept s
  have hlt : blockChannel (s.dram.patrol / 256) < 8 := Nat.mod_lt _ (by decide)
  have hkey : O.ch_ecc_corrected (blockChannel (s.dram.patrol / 256)) ∉ panicKeys := notMem_panicKeys (by omega) (by decide)
  have hrd : ∀ t port a write, rd (dramRequest t port a write) (O.ch_ecc_corrected (blockChannel (s.dram.patrol / 256))) =
      rd t (O.ch_ecc_corrected (blockChannel (s.dram.patrol / 256))) :=
    hidden_dramRequest (view := fun t => rd t (O.ch_ecc_corrected (blockChannel (s.dram.patrol / 256)))) (blind_rd _ (by decide) (by decide))
      (hidesAll_rd hkey)
  have hwritten : ∀ t port a write, base (dramRequest t port a write) = base t := view_dramRequest (blind_base _)
  dsimp only
  refine ⟨?_, ?_, ?_⟩
  · simp only [apply_ite base, hwritten, ite_self]
    exact hbase
  · simp only [apply_ite State.tinker, tinker_dramRequest, bump_fields, htinker, ite_self]
  · simp only [apply_ite (fun t => rd t (O.ch_ecc_corrected (blockChannel (s.dram.patrol / 256)))), hrd, ite_self, rd_bump_self, rd_patrolRead hkey]

/-- What a word of the patrol does by its result. -/
def patrolled (s : State) : ReadResult → State
  | .clean => patrolRead s
  | .corrected =>
    let t := bump (patrolRead s) (O.ch_ecc_corrected (blockChannel (s.dram.patrol / 256)))
    if flag s O.ecc_writeback then dramRequest t 3 s.dram.patrol true else t
  | .uncorrectable => regionError (dramError (patrolRead s) s.dram.patrol (scrubberHid s)) s.dram.patrol

theorem completes_patrolScrub {s : State} (hon : hubOn s = true) (hstate : rd s O.dram_state = 3) (e : ReadResult) {P : State → Prop}
    (h : P (sealed s (patrolled s e))) : Completes (.patrolScrub e) s P := by
  refine completes_act (show execPatrolScrub e s = _ from rfl) hon ?_
  rw [if_neg (not_not.mpr hstate)]
  exact h

theorem patrolScrub_records {s : State} (hon : hubOn s = true) (hstate : rd s O.dram_state = 3) (hregion : dramRegion s.dram.patrol = 2) :
    Completes (.patrolScrub .uncorrectable) s fun t => rd t O.err_addr = s.dram.patrol ∧ rd t O.err_region = 2 ∧
      Counted s t (O.ch_ecc_uncorrected (blockChannel (s.dram.patrol / 256))) := by
  have huncorrected : ∀ ch < 8, topOf (O.ch_ecc_uncorrected ch) = 0xFFFFFFFF := by decide
  obtain ⟨haddr, herr, hcount⟩ := rd_dramError_store (patrolRead s) (scrubberHid s) hregion
  obtain ⟨hread, -⟩ := patrolRead_kept s
  have hbase : base (dramError (patrolRead s) s.dram.patrol (scrubberHid s)) = base s := (view_dramError (blind_base _) _ _ _).trans hread
  have hlt : blockChannel (s.dram.patrol / 256) < 8 := Nat.mod_lt _ (by decide)
  have hkey : O.ch_ecc_uncorrected (blockChannel (s.dram.patrol / 256)) ∉ panicKeys := notMem_panicKeys (by omega) (by decide)
  refine completes_patrolScrub hon hstate .uncorrectable ?_
  rw [patrolled, regionError_store _ hregion]
  simp only [rd_sealed_of_base hbase, haddr, herr, true_and]
  exact counted_of_rd hbase (huncorrected _ hlt) (hcount.trans (by rw [rd_patrolRead hkey]))

/-! ### The regions' return (R368) -/

/-- A row that is written with zero leaves the regions' status. -/
theorem regionStatus_initRow (s : State) (row : Nat) : rd (initRow s row) O.region_status = rd s O.region_status := by
  have hk : HidesBesideStage fun t => rd t O.region_status := hidesBesideStage_rd (by decide)
  have hb : Blind (fun t => rd t O.region_status) [.out, .hostq, .carter, .switch, .miller, .dram] := blind_rd _ (by decide) (by decide)
  have hcancel : ∀ l : List Task, rd (l.foldl (fun t k => cancelToken t k.token.id) s) O.region_status = rd s O.region_status := fun l =>
    view_foldl (view := fun t => rd t O.region_status) (fun t (k : Task) => hidden_cancelToken (hb.sub rfl) hk t k.token.id) l s
  have hspilled : ∀ (l : List Nat) t, rd (l.foldl dropSpilled t) O.region_status = rd t O.region_status := fun l t =>
    view_foldl (view := fun t => rd t O.region_status) (fun t b => hidden_dropSpilled (hb.sub rfl) hk t b) l t
  unfold initRow
  split_ifs
  · exact (rd_wr_ne _ _ _ _ (by decide)).trans (hb.switch rfl s _)
  · exact hcancel _
  · exact hcancel _
  · exact (hspilled _ _).trans (hb.miller rfl s _)
  · exact hb.dram rfl s _
  · rfl

/-- The regions that were disabled are back: their rows are empty and their bits set. -/
def regionsBack (s : State) : State :=
  let t := s.dram.disabled.foldl initRow s
  wr (setDram t { t.dram with enabling := false, disabled := [],
                              errors := s.dram.disabled.foldl (fun (e : Tab (List Nat)) r => e.del r) t.dram.errors })
    O.region_status ((s.dram.disabled.filterMap rowBit).foldl setBit (rd t O.region_status))

theorem base_regionsBack (s : State) : base (regionsBack s) = base s :=
  view_foldl (view := base) (view_initRow (blind_base _)) s.dram.disabled s

theorem rd_regionsBack (s : State) : rd (regionsBack s) O.region_status =
    (s.dram.disabled.filterMap rowBit).foldl setBit (rd s O.region_status) := by
  have hrows : rd (s.dram.disabled.foldl initRow s) O.region_status = rd s O.region_status :=
    view_foldl (view := fun t => rd t O.region_status) regionStatus_initRow _ s
  exact (rd_wr_self _ _ _).trans (by rw [hrows])

end Sys2Proof.Machine

namespace Sys2Proof

open Machine

/-- Settles O33: each command by what it does to its channel, its counters and the regions. -/
theorem dramComplete : Obligations.DramComplete := by
  have htracks : ∀ ch : Fin 8, topOf (O.ch_tracks ch) = 0xFFFFFFFF := by decide
  have hcorrected : ∀ ch < 8, topOf (O.ch_ecc_corrected ch) = 0xFFFFFFFFFFFFFFFF := by decide
  refine ⟨fun s hon hstate hattempts => ?_, fun s ch hon hstate hone hch hsecond => ?_, fun s hon hstate => ?_, fun s hon hstate => ?_,
    fun s ch hon hstate => ?_, fun s ch b hon hstate => ?_, fun s ch hon hstate howing => ?_, fun s ch q hon hstate howing hurgent => ?_,
    fun s l c hon hstate => ?_, fun s ch x hon hstate hmode => ?_, fun s hon hstate => ?_, fun s hon hstate => ?_,
    fun s hon hstate hregion => ?_, fun s hr hstate => ?_, fun s hr hstate => ?_, fun s hon henabling => ?_⟩
  · exact dramTrainDone_trains hon hstate hattempts
  · exact dramTrainDone_fails hon hstate hone hch hsecond
  · refine completes_act (show execDramInitDone s = _ from rfl) hon ?_
    rw [if_pos hstate]
    have hbase : base (wr (wr (setDram s { s.dram with disabled := [], errors := [], enabling := false }) O.dram_state 3) O.region_status 0x0F) =
      base s := rfl
    simp (disch := decide) only [rd_sealed_of_base hbase, rd_wr_ne, rd_wr_self]
    exact ⟨trivial, trivial, rfl⟩
  · obtain ⟨hbase, htinker⟩ := retrainEnded_kept s []
    obtain ⟨hserves, hregions, hcount, -, hlast⟩ := rd_retrainEnded hstate []
    refine completes_retrainEnd hon hstate ?_
    rw [if_pos (by decide)]
    simp only [rd_sealed_of_base hbase]
    exact ⟨hserves, hregions, counted_of_rd hbase (by decide) hcount, hlast, htinker⟩
  · obtain ⟨hbase, htinker⟩ := retrainEnded_kept s [(ch : Nat)]
    obtain ⟨hserves, -, -, hcount, -⟩ := rd_retrainEnded hstate [(ch : Nat)]
    have hbad : ∀ c : Fin 8, (List.range 8).filter (fun j => [(c : Nat)].contains j) = [(c : Nat)] := by decide
    have hreported : base (report (retrainEnded s [(ch : Nat)]) 0x62 (trainHid s) 0) = base s := by simpa [base] using hbase
    rw [hbad] at hcount
    refine completes_retrainEnd hon hstate ?_
    rw [hbad, if_neg (List.cons_ne_nil _ _)]
    refine ⟨?_, counted_of_rd hreported (by decide) ?_, raised_report _ _ _ _ _ htinker⟩
    · rw [rd_sealed_of_base hreported, rd_report _ _ _ _ _ (by decide), hserves]
    · exact (rd_report _ _ _ _ _ (by decide)).trans hcount
  · refine completes_act (show execRefreshDue ch b s = _ from rfl) hon ?_
    dsimp only
    rw [if_pos (Or.inr (Or.inl hstate))]
    refine ⟨?_, (rd_sealed_of_base rfl _).trans (rd_wr_self _ _ _)⟩
    exact (congrArg (fun c : Channel => c.owed.getD b 0) (channel_setChannel_self s ch _)).trans (Tab.getD_put_self _ _ _ _)
  · refine completes_act (show execChannelCommand ch s = _ from rfl) hon ?_
    dsimp only
    rw [if_neg (not_not.mpr hstate), if_pos howing]
    exact refreshOne_one s ch howing
  · refine completes_act (show execChannelCommand ch s = _ from rfl) hon ?_
    dsimp only
    rw [if_neg (not_not.mpr hstate), if_neg (not_not.mpr howing), hurgent]
    exact serveReq_serves s ch q
  · have hmem : ∀ ch : Fin 8, (ch : Nat) ∈ List.range 8 := fun ch => List.mem_range.mpr ch.isLt
    have hbase : base ((List.range 8).foldl (fun t ch => mr4One t ch (l.getD ch 0) (c.getD ch 0)) s) = base s :=
      view_foldl (view := base) (fun t ch => hidden_mr4One (blind_base _) t ch _ _ (fun _ _ _ _ => rfl)) _ s
    refine completes_act (show execMr4Read l c s = _ from rfl) hon fun ch hfactor => ?_
    dsimp only
    rw [if_pos (Or.inr (Or.inl hstate)), rd_sealed_of_base hbase, rd_sealed_of_base hbase]
    exact ⟨rd_foldl_of_mem (fun t => (rd_mr4One hfactor t ch _).1) (fun t j hj => rd_mr4One_other hj (Or.inr rfl) t _ _) (hmem ch) s,
      rd_foldl_of_mem (fun t => (rd_mr4One hfactor t ch _).2) (fun t j hj => rd_mr4One_other hj (Or.inl rfl) t _ _) (hmem ch) s⟩
  · have hne : O.ch_wck_trim ch ≠ O.ch_tracks ch := objKey_ne (by decide) (by decide) (by decide)
    have hbase : base (bump (wrI s (O.ch_wck_trim ch) x) (O.ch_tracks ch)) = base s := rfl
    refine completes_act (show execWckTracking ch x s = _ from rfl) hon ?_
    rw [if_pos ⟨hstate, hmode⟩]
    refine ⟨?_, counted_of_rd hbase (htracks ch) ?_⟩
    · rw [rd_sealed_of_base hbase, rd_bump_ne _ _ _ hne, rd_wrI_self]
    · rw [rd_bump_self, rd_wrI_ne _ _ _ _ hne.symm]
  · exact completes_patrolScrub hon hstate .clean ⟨patrol_patrolRead s, (patrolRead_kept s).2⟩
  · obtain ⟨hbase, htinker, hcount⟩ := patrolCorrected_counts s
    exact completes_patrolScrub hon hstate .corrected
      ⟨counted64_of_rd hbase (hcorrected _ (Nat.mod_lt _ (by decide))) hcount, htinker⟩
  · exact patrolScrub_records hon hstate hregion
  · refine completes_command rfl hr ?_
    rw [if_pos hstate]
    exact ⟨by simp, by simp⟩
  · refine completes_command rfl hr ?_
    rw [if_neg hstate]
    split_ifs with hnone
    · exact ⟨by simp, fun h => absurd hnone h⟩
    · exact ⟨by simp, fun _ => by simp [setDram]⟩
  · refine completes_act (show execRegionEnableDone s = _ from rfl) hon ?_
    rw [if_pos henabling]
    exact ⟨rfl, rfl, (rd_sealed_of_base (base_regionsBack s) _).trans (rd_regionsBack s)⟩

end Sys2Proof
end

section
/-! The time base, its sources, PTP and the GFP timers: what their commands set (O34). -/

namespace Sys2Proof.Machine

/-! ### Steps of the time base (R394 to R396) -/

/-- TB96 and what moves with it, before the step is counted. -/
def tbMoved (s : State) (d : Int) : State :=
  let ns : Int := d.tdiv 65536
  let moved := fun (c : TxCmd) => { c with start := c.start.map (movedBy ns), deadline := movedBy ns c.deadline }
  let s0 := [0, 1, 2].foldl (fun t r => setRadio t r { radio t r with cmds := (radio t r).cmds.map moved }) s
  let s1 := { s0 with tb := ((s.tb : Int) + d).toNat, time := { s.time with origin := s.time.origin + d },
                      epoch := { s.epoch with earliest := s.epoch.earliest.map (movedBy ns) },
                      ost := { s.ost with beganTb := movedBy ns s.ost.beganTb },
                      mac := { s.mac with nav := s.mac.nav.map (fun e => (e.1, movedBy ns e.2)) } }
  let s2 := wrI s1 O.frame_phase (wrapPhase (rdI s O.frame_phase + ns))
  if rd s O.sync_mode = 0 then startMove s2 (-(wrapPhase ns)) false else s2

/-- The step counted, with its size. -/
def tbStepped (s : State) (d : Int) : State :=
  wrI (bump (tbMoved s d) O.tb_steps) O.tb_last_step (max (-2147483648) (min 2147483647 (d.tdiv 65536)))

theorem stepTb_eq (s : State) (d : Int) :
    stepTb s d = report (if 0 < d then gtAllPassed (tbStepped s d) else tbStepped s d) 0x6D (servoHid s) 0 := rfl

theorem hidden_tbMoved {α : Type} {view : State → α} (hb : Blind view [.tb, .epoch, .radios, .time, .move, .mac, .ost])
    (hk : Hides view O.frame_phase) (s : State) (d : Int) : view (tbMoved s d) = view s := by
  simp only [tbMoved, apply_ite view, view_startMove (hb.move rfl), hidden_wrI hk,
    view_tb_time_epoch_ost_mac (hb.tb rfl) (hb.epoch rfl) (hb.time rfl) (hb.mac rfl) (hb.ost rfl), ite_self]
  exact view_foldl (fun t r => view_setRadio (hb.radios rfl) t r _) _ s

theorem tb_tbMoved (s : State) (d : Int) : (tbMoved s d).tb = ((s.tb : Int) + d).toNat := by
  have hmove : ∀ t e, (startMove t e false).tb = t.tb := fun t e => view_startMove (view := fun t => t.tb) (fun _ _ => rfl) t e false
  simp only [tbMoved, apply_ite State.tb, hmove, ite_self]
  rfl

theorem tinker_tbStepped (s : State) (d : Int) : (tbStepped s d).tinker = s.tinker :=
  hidden_tbMoved (view := fun t => t.tinker) (Blind.of_forall ⟨fun _ _ => rfl, fun _ _ => rfl, fun _ _ => rfl, fun _ _ => rfl, fun _ _ => rfl,
    fun _ _ => rfl, fun _ _ => rfl⟩) (fun _ _ => rfl) s d

theorem rd_tbStepped (s : State) (d : Int) : rd (tbStepped s d) O.tb_steps = min (rd s O.tb_steps + 1) (topOf O.tb_steps) := by
  have hmoved : rd (tbMoved s d) O.tb_steps = rd s O.tb_steps :=
    hidden_tbMoved (view := fun t => rd t O.tb_steps) (blind_rd _ (by decide) (by decide)) (fun t v => rd_wr_ne t _ v _ (by decide)) s d
  rw [tbStepped, rd_wrI_ne _ _ _ _ (by decide), rd_bump_self, hmoved]

/-! ### Timers that a step passes (R414) -/

/-- The servo is no GFP timer. -/
theorem servoHid_ne_timer (s u : State) {t : Nat} (ht : t < 32) : servoHid s ≠ hidOf u 0 14 1 t := by
  simp only [servoHid, hidOf]
  omega

/-- A timer that skips instants takes no SEQUENCE of the servo. -/
theorem seqs_gtSkip (s u : State) {t : Nat} (ht : t < 32) (n : Nat) :
    (gtSkip u t n).tinker.seqs.getD (servoHid s) 0 = u.tinker.seqs.getD (servoHid s) 0 := by
  unfold gtSkip
  dsimp only
  split_ifs
  · rfl
  · exact (seqs_report (servoHid_ne_timer s u ht) _ _).trans (by simp [setTime])
  · simp

theorem seqs_gtAllPassed (s u : State) : (gtAllPassed u).tinker.seqs.getD (servoHid s) 0 = u.tinker.seqs.getD (servoHid s) 0 := by
  have hb : Blind (fun t : State => t.tinker) [.out, .time] := Blind.of_forall ⟨fun _ _ => rfl, fun _ _ => rfl⟩
  have hat : ∀ t i k, (gtAt t i k).tinker = t.tinker := fun t i k => hidden_gtAt (hb.sub rfl) t i k (fun _ _ => rfl)
  have hedge : ∀ t i, (gtEdge t i).tinker = t.tinker := fun t i => hidden_gtEdge hb t i (fun _ _ => rfl)
  have hskip : ∀ i ∈ List.range 32, ∀ w n, (gtSkip w i n).tinker.seqs.getD (servoHid s) 0 = w.tinker.seqs.getD (servoHid s) 0 :=
    fun i hi w n => seqs_gtSkip s w (List.mem_range.mp hi) n
  generalize servoHid s = h at hskip ⊢
  unfold gtAllPassed
  refine foldl_view_mem (fun t : State => t.tinker.seqs.getD h 0) (List.range 32) (fun i hi t => ?_) u
  unfold gtPassed
  dsimp only
  split_ifs
  · rfl
  · rw [hskip i hi, hedge, hat]
  · rw [hskip i hi, hat]
  · rfl

/-! ### A step is counted and reported (R394) -/

theorem stepTb_steps (s : State) (d : Int) : (stepTb s d).tb = ((s.tb : Int) + d).toNat ∧
    rd (stepTb s d) O.tb_steps = min (rd s O.tb_steps + 1) (topOf O.tb_steps) ∧ Raised s (stepTb s d) 0x6D (servoHid s) := by
  have hpassed : (gtAllPassed (tbStepped s d)).tb = (tbStepped s d).tb ∧
      rd (gtAllPassed (tbStepped s d)) O.tb_steps = rd (tbStepped s d) O.tb_steps :=
    ⟨hidden_gtAllPassed (view := fun t => t.tb) (Blind.of_forall ⟨fun _ _ => rfl, fun _ _ => rfl, fun _ _ => rfl⟩) (fun _ _ _ _ => rfl) _,
      foldl_view_mem (fun t => rd t O.tb_steps) (List.range 32) (fun i _ t => hidden_gtPassed (view := fun t => rd t O.tb_steps)
        (blind_rd _ (by decide) (by decide)) t i (hidesAll_rd (by simp [gtKeys, objKey_ne]))) _⟩
  obtain ⟨htb, hcount⟩ := hpassed
  have hmoved : (tbStepped s d).tb = ((s.tb : Int) + d).toNat := tb_tbMoved s d
  have hseq : ∀ u : State, u.tinker.seqs.getD (servoHid s) 0 = s.tinker.seqs.getD (servoHid s) 0 →
      Raised s (report u 0x6D (servoHid s) 0) 0x6D (servoHid s) := fun u hu => by
    obtain ⟨hnext, hwaits⟩ := report_raised u 0x6D (servoHid s) 0
    exact ⟨hu ▸ hnext, hwaits⟩
  have htinker := congrArg (fun x : Tinker => x.seqs.getD (servoHid s) 0) (tinker_tbStepped s d)
  rw [stepTb_eq]
  split_ifs
  · exact ⟨by simp [htb, hmoved], (rd_report _ _ _ _ _ (by decide)).trans (hcount.trans (rd_tbStepped s d)),
      hseq _ ((seqs_gtAllPassed s _).trans htinker)⟩
  · exact ⟨by simp [hmoved], (rd_report _ _ _ _ _ (by decide)).trans (rd_tbStepped s d), hseq _ htinker⟩

/-! ### Host commands (R392, R394) -/

theorem base_stepTb (s : State) (d : Int) : base (stepTb s d) = base s := hidden_stepTb (blind_base _) (fun _ _ _ _ => rfl) s d

theorem rd_setTbState (s : State) (st : Nat) : rd (setTbState s st) O.tb_state = st :=
  (rd_wr_ne _ _ _ _ (by decide)).trans (rd_wr_self _ _ _)

theorem rd_setTbState_ne (s : State) (st : Nat) {k : Nat} (hk : k ∉ [O.tb_state, O.tb_valid]) : rd (setTbState s st) k = rd s k :=
  hidden_setTbState (view := fun t => rd t k) (blind_rd k (by decide) (by decide)) (hidesAll_rd hk) s st

/-- What an unset time base's first host command leaves. -/
theorem setByHost_kept (s : State) : (setByHost s).tb = s.tb ∧ (setByHost s).tinker = s.tinker ∧ (setByHost s).time.slewLeft = s.time.slewLeft ∧
    base (setByHost s) = base s ∧ rd (setByHost s) O.tb_steps = rd s O.tb_steps := by
  refine ⟨?_, ?_, ?_, hidden_setByHost (blind_base _) (fun _ _ _ _ => rfl) s,
    hidden_setByHost (view := fun t => rd t O.tb_steps) (blind_rd _ (by decide) (by decide)) (hidesAll_rd (by decide)) s⟩
  all_goals
    unfold setByHost
    split_ifs <;> rfl

/-- A command that steps the time base, with what the host's hold of it adds, is counted and reported. -/
theorem completes_step {c : Instr} {s : State} {v : Nat} {op : State → Status × State} {u : State} (d : Int)
    (hexec : exec c s = act s fun s => command s O.tb_cmd v op) (hr : Reaches s O.tb_cmd) (hop : op s = (.ok, u))
    (htb : u.tb = (stepTb s d).tb) (htinker : u.tinker = (stepTb s d).tinker) (hbase : base u = base (stepTb s d))
    (hsteps : rd u O.tb_steps = rd (stepTb s d) O.tb_steps) :
    Completes c s fun t => t.status = .ok ∧ t.tb = ((s.tb : Int) + d).toNat ∧ Counted s t O.tb_steps ∧ Raised s t 0x6D (servoHid s) := by
  obtain ⟨hmoved, hcount, hraised⟩ := stepTb_steps s d
  refine completes_command hexec hr ?_
  rw [hop]
  refine ⟨by simp, by simp [htb, hmoved], ?_, Raised.congr _ _ hraised rfl (by simp [htinker])⟩
  exact (rd_sealed_commanded (hbase.trans (base_stepTb s d)) _ _ _ _).trans (hsteps.trans hcount)

theorem tbSet_completes {s : State} (hr : Reaches s O.tb_cmd) (hcheck : tbCmdCheck s false = none) :
    Completes .tbSet s fun t => t.status = .ok ∧ t.tb = nsOf80 (rd s O.tb_set) * 65536 ∧ Counted s t O.tb_steps ∧
      Raised s t 0x6D (servoHid s) := by
  obtain ⟨htb, htinker, -, hbase, hsteps⟩ := setByHost_kept (stepTb s ((nsOf80 (rd s O.tb_set) * 65536 : Nat) - (s.tb : Int)))
  have hset : ∀ t, (setUncertainty t 0).tb = t.tb ∧ (setUncertainty t 0).tinker = t.tinker ∧ base (setUncertainty t 0) = base t ∧
      rd (setUncertainty t 0) O.tb_steps = rd t O.tb_steps := fun _ => ⟨rfl, rfl, rfl, rd_congr _ _ _ rfl rfl rfl rfl⟩
  obtain ⟨hsetTb, hsetTinker, hsetBase, hsetSteps⟩ := hset (setByHost (stepTb s ((nsOf80 (rd s O.tb_set) * 65536 : Nat) - (s.tb : Int))))
  have hstep := completes_step (c := .tbSet) (op := tbSet) ((nsOf80 (rd s O.tb_set) * 65536 : Nat) - (s.tb : Int)) rfl hr
    (u := setUncertainty (setByHost (stepTb s ((nsOf80 (rd s O.tb_set) * 65536 : Nat) - (s.tb : Int)))) 0)
    (by rw [tbSet, hcheck]) (hsetTb.trans htb) (hsetTinker.trans htinker) (hsetBase.trans hbase) (hsetSteps.trans hsteps)
  rwa [show ((s.tb : Int) + ((nsOf80 (rd s O.tb_set) * 65536 : Nat) - (s.tb : Int))).toNat = nsOf80 (rd s O.tb_set) * 65536 by omega] at hstep

theorem tbAdjust_completes {s : State} (hr : Reaches s O.tb_cmd) (hcheck : tbCmdCheck s false = none) :
    Completes .tbAdjust s fun t => t.status = .ok ∧ t.tb = ((s.tb : Int) + rdI s O.tb_adjust * 65536).toNat ∧ Counted s t O.tb_steps ∧
      Raised s t 0x6D (servoHid s) := by
  obtain ⟨htb, htinker, -, hbase, hsteps⟩ := setByHost_kept (stepTb s (rdI s O.tb_adjust * 65536))
  exact completes_step (c := .tbAdjust) (op := tbAdjust) _ rfl hr (by rw [tbAdjust, hcheck]) htb htinker hbase hsteps

theorem tbSlew_completes {s : State} (hr : Reaches s O.tb_cmd) (hcheck : tbCmdCheck s true = none) :
    Completes .tbSlew s fun t => t.status = .ok ∧ t.tb = s.tb ∧ t.time.slewLeft = s.time.slewLeft + rdI s O.tb_adjust * 65536000000000000 := by
  obtain ⟨htb, -, hleft, -, -⟩ :=
    setByHost_kept (setTime s { s.time with slewLeft := s.time.slewLeft + rdI s O.tb_adjust * 65536000000000000 })
  refine completes_command (op := tbSlew) rfl hr ?_
  rw [tbSlew, hcheck]
  exact ⟨by simp, by simpa using htb, by simpa using hleft⟩

theorem tbSourceWrite_completes {s : State} (v : Fin 3) (hr : Reaches s O.tb_source) :
    Completes (.tbSourceWrite v) s fun t => t.status = .ok ∧ rd t O.tb_source = v ∧ rd t O.tb_state = (if rd s O.tb_state = 0 then 0 else 1) := by
  have hbase : base (tbSourceWrite s v).2 = base s := hidden_tbSourceWrite (blind_base _) (fun _ _ _ _ => rfl) s v
  refine completes_command (op := fun s => tbSourceWrite s v) rfl hr ⟨by simp [tbSourceWrite], ?_, ?_⟩
  · rw [show tbSourceWrite s v = (.ok, (tbSourceWrite s v).2) from rfl, rd_sealed_commanded hbase, tbSourceWrite]
    split_ifs
    · exact rd_wr_self _ _ _
    · rw [rd_wr_ne _ _ _ _ (by decide), rd_setTbState_ne _ _ (by decide), rd_wr_self]
  · rw [show tbSourceWrite s v = (.ok, (tbSourceWrite s v).2) from rfl, rd_sealed_commanded hbase, tbSourceWrite]
    split_ifs with hunset
    · exact (rd_wr_ne _ _ _ _ (by decide)).trans hunset
    · rw [rd_wr_ne _ _ _ _ (by decide), rd_setTbState]

/-! ### PTP (R404) -/

/-- A port's state goes by four registers. -/
theorem ptpState_congr {s t : State} {p : Nat} (h : ∀ k ∈ [O.pp_enable p, O.pp_state p, O.ptp_mode, O.port_state p], rd t k = rd s k) :
    ptpState t p = ptpState s p := by
  have henable := h (O.pp_enable p) (by simp)
  have hstate := h (O.pp_state p) (by simp)
  have hmode := h O.ptp_mode (by simp)
  have hport := h (O.port_state p) (by simp)
  unfold ptpState ptpRuns flag
  rw [henable, hstate, hmode, hport]

theorem completes_ptpMessageRx {s : State} {p : Fin 8} {m : PtpMsg} {P : State → Prop} (hon : hubOn s = true) (hformed : m.wellFormed = true)
    (hruns : ptpRuns s p = true) (hdomain : m.domain = (if rd s O.ptp_mode = 3 then 0 else rd s O.ptp_domain)) (hevent : ptpEvent m.kind = true)
    (h : P (sealed s (ptpTake (bump s (O.pp_rx_event p)) p m))) : Completes (.ptpMessageRx p m) s P := by
  refine completes_act (show execPtpMessageRx p m s = _ from rfl) hon ?_
  rw [if_neg (by simp [hformed]), if_pos ⟨hruns, hdomain⟩, if_pos hevent]
  exact h

theorem ptpTake_pdelayReq (s : State) (p : Nat) {m : PtpMsg} (h : m.kind = .pdelayReq) :
    ptpTake s p m = bump (send s (.ptp p .pdelayResp m.stamp)) (O.pp_tx_event p) := by
  unfold ptpTake
  dsimp only
  rw [h]

theorem ptpTake_twoStepSync {s : State} {p : Nat} {m : PtpMsg} (h : m.kind = .sync) (htwo : m.twoStep = true) (hslave : ptpState s p = 9) :
    ptpTake s p m = setPtpPort s p { ptpPort s p with waitingSync := some m } := by
  unfold ptpTake
  dsimp only
  rw [h]
  simp [htwo, hslave]

theorem ptpPort_setPtpPort_self (s : State) (p : Nat) (x : PtpPort) : ptpPort (setPtpPort s p x) p = x := Tab.getD_put_self _ _ _ _

theorem ports_sourceQualifies (s : State) (who : Nat) : (sourceQualifies s who).time.ports = s.time.ports := by
  unfold sourceQualifies
  dsimp only
  split_ifs <;> rfl

/-- A source that is lost leaves HOLDOVER, reported. -/
theorem sourceLost_eq {s : State} (h : rd s O.tb_state = 2 ∨ rd s O.tb_state = 3) :
    sourceLost s = report (wr (setFreq (setTbState s 4) (meanFreq s.now s.time.history s.time.freq)) O.tb_locked_to 0) 0x6C (servoHid s) 0 := if_pos h

theorem ports_sourceLost (s : State) : (sourceLost s).time.ports = s.time.ports := by
  by_cases h : rd s O.tb_state = 2 ∨ rd s O.tb_state = 3
  · rw [sourceLost_eq h]
    simp [setFreq, setTbState, setUncertainty, setTime, wrI]
  · rw [sourceLost, if_neg h]

/-- The state decision leaves what the ports have heard. -/
theorem ports_ptpDecide (s : State) : (ptpDecide s).time.ports = s.time.ports := by
  have hports : ∀ best, ((List.range 8).foldl (fun t p => if ptpRuns s p then wr t (O.pp_state p) (decidePort s best p) else t) s).time.ports =
      s.time.ports := fun best => view_foldl (view := fun t => t.time.ports) (fun t p => by split_ifs <;> rfl) _ s
  unfold ptpDecide
  dsimp only
  split
  · split_ifs
    · rw [ports_sourceQualifies]
      exact hports _
    · exact hports _
  · split_ifs
    · rw [ports_sourceLost]
      exact hports _
    · exact hports _

/-! ### PPS and the other sources (R398, R399, R410 to R412) -/

/-- An edge of PPS_IN is stamped, with its error. -/
def ppsStamped (s : State) : State := wrI (wr s O.pps_in_last (now80 s)) O.pps_in_error (wrapSecond (tbNs s % 1000000000))

theorem rd_ppsStamped (s : State) : rd (ppsStamped s) O.pps_in_last = now80 s ∧
    rd (ppsStamped s) O.pps_in_error = ofSigned 32 (wrapSecond (tbNs s % 1000000000)) :=
  ⟨(rd_wrI_ne _ _ _ _ (by decide)).trans (rd_wr_self _ _ _), rd_wrI_self _ _ _⟩

theorem rd_ppsStamped_ne (s : State) {k : Nat} (hk : k ≠ O.pps_in_last) (he : k ≠ O.pps_in_error) : rd (ppsStamped s) k = rd s k :=
  (rd_wrI_ne _ _ _ _ he).trans (rd_wr_ne _ _ _ _ hk)

/-- A wrong edge of a locked time base, before the fourth in a row, is counted and reported. -/
def ppsWrong (s : State) : State :=
  let t := wr s O.tod_next 0
  report (bump (setTime t { t.time with ppsRun := t.time.ppsRun + 1 }) O.pps_in_faults) 0x6E (ppsHid s) 0

theorem ppsMeasure_wrong {s : State} (hlocked : rd s O.tb_state = 3) (hwrong : 1000 < (ppsOffset s).natAbs) (hrun : s.time.ppsRun < 3) :
    ppsMeasure s = ppsWrong s := by
  have hfew : ¬4 ≤ (ppsWrong s).time.ppsRun := by
    simp only [ppsWrong, report_fields, bump_fields, setTime, wr]
    omega
  unfold ppsMeasure
  dsimp only
  rw [if_neg (by omega), if_pos ⟨hlocked, hwrong⟩]
  exact if_neg hfew

/-- The source that is lost sets the state, and no source is locked to. -/
theorem sourceLost_holds {s : State} (h : rd s O.tb_state = 2 ∨ rd s O.tb_state = 3) : base (sourceLost s) = base s ∧
    rd (sourceLost s) O.tb_state = 4 ∧ rd (sourceLost s) O.tb_locked_to = 0 ∧ Raised s (sourceLost s) 0x6C (servoHid s) := by
  have hfreq : ∀ t f, rd (setFreq t f) O.tb_state = rd t O.tb_state := fun t f =>
    hidden_setFreq (view := fun u => rd u O.tb_state) (blind_rd _ (by decide) (by decide)) (fun u v => rd_wr_ne u _ v _ (by decide)) t f
  refine ⟨hidden_sourceLost (blind_base _) (fun _ _ _ _ => rfl) s, ?_, ?_, ?_⟩
  · rw [sourceLost_eq h, rd_report _ _ _ _ _ (by decide), rd_wr_ne _ _ _ _ (by decide), hfreq, rd_setTbState]
  · rw [sourceLost_eq h, rd_report _ _ _ _ _ (by decide), rd_wr_self]
  · have htinker : ∀ t f, (setFreq t f).tinker = t.tinker := fun _ _ => rfl
    rw [sourceLost_eq h]
    exact raised_report _ _ _ _ _ (htinker (setTbState s 4) (meanFreq s.now s.time.history s.time.freq))

/-! ### The GFP timers (R413, R414) -/

theorem rd_setGfpTimer (s : State) (t : Nat) (x : GfpTimer) (k : Nat) : rd (setGfpTimer s t x) k = rd s k := rd_congr _ _ _ rfl rfl rfl rfl

theorem gfpTimer_setGfpTimer_self (s : State) (t : Nat) (x : GfpTimer) : gfpTimer (setGfpTimer s t x) t = x := Tab.getD_put_self _ _ _ _

/-- A timer that counts an instant is ARMED, or FIRED with its last. -/
theorem gtAt_counts {s : State} {t : Nat} (h : rd s (O.gt_state t) = 1 ∨ rd s (O.gt_state t) = 2) (k : Nat) :
    (rd (gtAt s t k) (O.gt_state t) = 1 ∨ rd (gtAt s t k) (O.gt_state t) = 2) := by
  have hkept := (rd_setGfpTimer s t { gfpTimer s t with k := k } (O.gt_state t)).symm ▸ h
  unfold gtAt
  dsimp only
  split
  · split_ifs
    · exact Or.inr (rd_wr_self _ _ _)
    · exact hkept
  · exact hkept

theorem gfpTimer_gtAt_k (s : State) (t k : Nat) : (gfpTimer (gtAt s t k) t).k = k := by
  have hset : (gfpTimer (setGfpTimer s t { gfpTimer s t with k := k }) t).k = k := congrArg GfpTimer.k (gfpTimer_setGfpTimer_self s t _)
  unfold gtAt
  dsimp only
  split
  · split_ifs
    · exact hset
    · exact hset
  · exact hset

theorem rd_gtEdge_ne (s : State) (t : Nat) {k : Nat} (hk : k ≠ O.gt_fired t) : rd (gtEdge s t) k = rd s k :=
  hidden_gtEdge (view := fun u => rd u k) (blind_rd k (by decide) (by decide)) s t (fun u v => rd_wr_ne u _ v k hk)

/-- An edge is counted. -/
theorem rd_gtEdge_fired (s : State) (t : Nat) : rd (gtEdge s t) (O.gt_fired t) = min (rd s (O.gt_fired t) + 1) (topOf (O.gt_fired t)) := by
  have hb : Blind (fun u => rd u (O.gt_fired t)) [.out, .time] := blind_rd _ (by decide) (by decide)
  have hdrive : ∀ u a, rd (driveGfp u t a) (O.gt_fired t) = rd u (O.gt_fired t) := fun u a =>
    view_driveGfp (view := fun u => rd u (O.gt_fired t)) (hb.out rfl) (hb.time rfl) u t a
  unfold gtEdge
  dsimp only
  split_ifs
  · rw [hdrive, rd_bump_self]
  · rw [hdrive, hdrive, rd_bump_self]

theorem rd_gtSkip_state (s : State) (t n : Nat) : rd (gtSkip s t n) (O.gt_state t) = rd s (O.gt_state t) :=
  hidden_gtSkip (view := fun u => rd u (O.gt_state t)) (blind_rd _ (by decide) (by decide)) s t n
    (hidesAll_rd (by simp only [O.gt_state, O.gt_skipped, O.msgs_dropped, objKey, List.mem_cons, List.not_mem_nil, or_false, not_or]; omega))

/-- ARM of a timer with instants: ARMED, or FIRED where its last is past. -/
theorem gtArm_instants {s : State} {t : Nat} (h : rd s (O.gt_mode t) = 1 ∨ rd s (O.gt_mode t) = 2) :
    (gtArm s t).1 = .ok ∧ (rd (gtArm s t).2 (O.gt_state t) = 1 ∨ rd (gtArm s t).2 (O.gt_state t) = 2) := by
  have harmed : ∀ x, rd (setGfpTimer (wr s (O.gt_state t) 1) t x) (O.gt_state t) = 1 := fun x => (rd_setGfpTimer _ _ _ _).trans (rd_wr_self _ _ _)
  have hstate : O.gt_state t ≠ O.gt_fired t := objKey_ne (by decide) (by decide) (by decide)
  unfold gtArm
  dsimp only
  rw [if_neg (by omega), if_neg (by omega)]
  split_ifs
  · exact ⟨rfl, gtAt_counts (Or.inl (harmed _)) _⟩
  · exact ⟨rfl, Or.inl (harmed _)⟩
  · exact ⟨rfl, gtAt_counts (Or.inl ((rd_gtEdge_ne _ t hstate).trans (harmed _))) _⟩
  · exact ⟨rfl, gtAt_counts (Or.inl ((rd_gtSkip_state _ t 1).trans (harmed _))) _⟩

theorem gtArm_off {s : State} {t : Nat} (h : rd s (O.gt_mode t) = 0) : gtArm s t = (.range, s) := if_pos h

theorem gtArm_capture {s : State} {t : Nat} (h : rd s (O.gt_mode t) = 3) : gtArm s t = (.ok, wr s (O.gt_state t) 3) := by simp [gtArm, h]

theorem gtArm_completes {s : State} (k : Fin 32) (hr : Reaches s (O.gt_cmd k)) :
    Completes (.gtArm k) s fun t => (rd s (O.gt_mode k) = 0 → t.status = .range ∧ rd t (O.gt_state k) = rd s (O.gt_state k)) ∧
      (rd s (O.gt_mode k) = 3 → t.status = .ok ∧ rd t (O.gt_state k) = 3) ∧
      (rd s (O.gt_mode k) = 1 ∨ rd s (O.gt_mode k) = 2 → t.status = .ok ∧ (rd t (O.gt_state k) = 1 ∨ rd t (O.gt_state k) = 2)) := by
  have hbase : base (gtArm s k).2 = base s := hidden_gtArm (blind_base _) s k (fun _ _ _ _ => rfl)
  refine completes_command (op := fun s => gtArm s k) rfl hr ?_
  have hrd : ∀ j, rd (sealed s (commanded (O.gt_cmd k) (valueOctets (O.gt_cmd k) 1) (gtArm s k))) j = rd (gtArm s k).2 j := fun j =>
    rd_sealed_commanded hbase (gtArm s k).1 _ _ j
  simp only [hrd, sealed_fields, commanded_status]
  refine ⟨fun h => ?_, fun h => ?_, gtArm_instants⟩
  · rw [gtArm_off h]
    exact ⟨rfl, rfl⟩
  · rw [gtArm_capture h]
    exact ⟨rfl, rd_wr_self _ _ _⟩

theorem gtInstant_completes {s : State} (k : Fin 32) (hon : hubOn s = true) (hstate : rd s (O.gt_state k) = 1) (hmode : 4 ≤ packageMode s) :
    Completes (.gtInstant k) s fun t => Counted64 s t (O.gt_fired k) ∧ (gfpTimer t k).k = (gfpTimer s k).k + 1 := by
  have htop : ∀ k : Fin 32, topOf (O.gt_fired k) = 0xFFFFFFFFFFFFFFFF := by decide
  have hne : O.gt_fired k ≠ O.gt_state k := objKey_ne (by decide) (by decide) (by decide)
  have hat : rd (gtAt (gtEdge s k) k ((gfpTimer s k).k + 1)) (O.gt_fired k) = rd (gtEdge s k) (O.gt_fired k) :=
    hidden_gtAt (view := fun u => rd u (O.gt_fired k)) (blind_rd _ (by decide) (by decide)) _ k _ (fun u v => rd_wr_ne u _ v _ hne)
  have hbase : base (gtAt (gtEdge s k) k ((gfpTimer s k).k + 1)) = base s :=
    (hidden_gtAt (blind_base _) _ k _ (fun _ _ => rfl)).trans (hidden_gtEdge (blind_base _) s k (fun _ _ => rfl))
  refine completes_act (show execGtInstant k s = _ from rfl) hon ?_
  rw [if_pos ⟨hstate, hmode⟩]
  exact ⟨counted64_of_rd hbase (htop k) (hat.trans (rd_gtEdge_fired s k)), by simpa [gfpTimer] using gfpTimer_gtAt_k (gtEdge s k) k _⟩

/-- A chosen edge enters the queue. -/
theorem gtCaptureEdge_completes {s : State} (k : Fin 32) (hon : hubOn s = true) (hstate : rd s (O.gt_state k) = 3)
    (hchosen : bit (rd s (O.gt_flags k)) 2 = true) (hfirst : (gfpTimer s k).lastEdge = none) (hmode : 4 ≤ packageMode s)
    (hpad : bit (rd s O.pad_latched) 0 = false) (hroom : (gfpTimer s k).captures.length < 64) :
    Completes (.gtCaptureEdge k true) s fun t => (gfpTimer t k).captures = (gfpTimer s k).captures ++ [now80 s] ∧
      rd t (O.gt_cap_level k) = (gfpTimer s k).captures.length + 1 := by
  refine completes_act (show execGtCaptureEdge k true s = _ from rfl) hon ?_
  simp only [hfirst, if_true]
  rw [if_pos ⟨hstate, hchosen, trivial, hmode, hpad⟩, if_pos hroom]
  refine ⟨?_, (rd_sealed_of_base rfl _).trans (rd_wr_self _ _ _)⟩
  exact congrArg GfpTimer.captures (gfpTimer_setGfpTimer_self s k _)

theorem gtCapRead_completes {s : State} (k : Fin 32) (c : Nat) (l : List Nat) (hon : hubOn s = true) (hserves : ledgerServes s = true)
    (hfitted : objFitted s.fuse.part (O.gt_cap_read k / 256) = true) (hreached : crossing s (O.gt_cap_read k / 256) = .reached)
    (hqueue : (gfpTimer s k).captures = c :: l) :
    Completes (.gtCapRead k) s fun t => t.status = .ok ∧ t.lastRead = leBytes 10 c ∧ (gfpTimer t k).captures = l ∧
      rd t (O.gt_cap_level k) = l.length := by
  have hread : gtCapRead s k = (leBytes 10 c, wr (setGfpTimer s k { gfpTimer s k with captures := l }) (O.gt_cap_level k) l.length) := by
    unfold gtCapRead
    dsimp only
    rw [hqueue]
  refine completes_act (show execGtCapRead k s = _ from rfl) hon ?_
  rw [readWith_reaches hserves hfitted hreached, hread]
  refine ⟨rfl, rfl, congrArg GfpTimer.captures (gfpTimer_setGfpTimer_self s k _), ?_⟩
  rw [rd_sealed_of_base (by rfl)]
  exact (rd_congr _ _ _ rfl rfl rfl rfl).trans (rd_wr_self (setGfpTimer s k { gfpTimer s k with captures := l }) _ _)

/-! ### PTP's commands -/

theorem ptpMessageRx_discards {s : State} {p : Fin 8} {m : PtpMsg} (hon : hubOn s = true) (hformed : m.wellFormed = false) :
    Completes (.ptpMessageRx p m) s fun t => Counted64 s t (O.pp_discard p) ∧ t.time = s.time := by
  have htop : ∀ p : Fin 8, topOf (O.pp_discard p) = 0xFFFFFFFFFFFFFFFF := by decide
  refine completes_act (show execPtpMessageRx p m s = _ from rfl) hon ?_
  rw [if_pos hformed]
  exact ⟨counted64_of_rd rfl (htop p) (rd_bump_self _ _), by simp⟩

theorem ptpMessageRx_answers {s : State} {p : Fin 8} {m : PtpMsg} (hon : hubOn s = true) (hformed : m.wellFormed = true)
    (hruns : ptpRuns s p = true) (hdomain : m.domain = (if rd s O.ptp_mode = 3 then 0 else rd s O.ptp_domain)) (hkind : m.kind = .pdelayReq) :
    Completes (.ptpMessageRx p m) s fun t => Counted64 s t (O.pp_rx_event p) ∧ Counted64 s t (O.pp_tx_event p) ∧
      t.out = s.out ++ [.ptp p .pdelayResp m.stamp] := by
  have htop : ∀ p : Fin 8, topOf (O.pp_rx_event p) = 0xFFFFFFFFFFFFFFFF ∧ topOf (O.pp_tx_event p) = 0xFFFFFFFFFFFFFFFF := by decide
  obtain ⟨hrx, htx⟩ := htop p
  have hne : O.pp_rx_event p ≠ O.pp_tx_event p := objKey_ne (by decide) (by decide) (by decide)
  have hsend : ∀ k, rd (send (bump s (O.pp_rx_event p)) (.ptp p .pdelayResp m.stamp)) k = rd (bump s (O.pp_rx_event p)) k := fun k =>
    rd_congr _ _ _ rfl rfl rfl rfl
  refine completes_ptpMessageRx hon hformed hruns hdomain (by rw [hkind]; rfl) ?_
  rw [ptpTake_pdelayReq _ _ hkind]
  refine ⟨counted64_of_rd rfl hrx ?_, counted64_of_rd rfl htx ?_, by simp [send]⟩
  · rw [rd_bump_ne _ _ _ hne, hsend, rd_bump_self]
  · rw [rd_bump_self, hsend, rd_bump_ne _ _ _ hne.symm]

theorem ptpMessageRx_waits {s : State} {p : Fin 8} {m : PtpMsg} (hon : hubOn s = true) (hformed : m.wellFormed = true)
    (hruns : ptpRuns s p = true) (hdomain : m.domain = (if rd s O.ptp_mode = 3 then 0 else rd s O.ptp_domain)) (hkind : m.kind = .sync)
    (htwo : m.twoStep = true) (hslave : ptpState s p = 9) :
    Completes (.ptpMessageRx p m) s fun t => Counted64 s t (O.pp_rx_event p) ∧ (ptpPort t p).waitingSync = some m := by
  have htop : ∀ p : Fin 8, topOf (O.pp_rx_event p) = 0xFFFFFFFFFFFFFFFF := by decide
  have hstate : ptpState (bump s (O.pp_rx_event p)) p = 9 := (ptpState_congr (by
    simp only [List.forall_mem_cons, List.not_mem_nil, false_implies, implies_true, and_true]
    refine ⟨?_, ?_, ?_, ?_⟩ <;> exact rd_bump_ne _ _ _ (objKey_ne (by decide) (by decide) (by decide)))).trans hslave
  refine completes_ptpMessageRx hon hformed hruns hdomain (by rw [hkind]; rfl) ?_
  rw [ptpTake_twoStepSync hkind htwo hstate]
  refine ⟨counted64_of_rd rfl (htop p) ((rd_congr _ _ _ rfl rfl rfl rfl).trans (rd_bump_self _ _)), ?_⟩
  exact congrArg PtpPort.waitingSync (ptpPort_setPtpPort_self _ p _)

theorem ptpMessageTx_sync {s : State} {p : Fin 8} (hon : hubOn s = true) (hruns : ptpRuns s p = true) (hmaster : ptpState s p = 6) :
    Completes (.ptpMessageTx p .sync) s fun t => t.out = s.out ++ [.ptp p .sync s.tb] ∧ Counted64 s t (O.pp_tx_event p) := by
  have htop : ∀ p : Fin 8, topOf (O.pp_tx_event p) = 0xFFFFFFFFFFFFFFFF := by decide
  refine completes_act (show execPtpMessageTx p .sync s = _ from rfl) hon ?_
  dsimp only
  rw [if_pos hruns, if_pos hmaster]
  refine ⟨by simp [send], counted64_of_rd rfl (htop p) ?_⟩
  exact (rd_bump_self _ _).trans (congrArg (fun x => min (x + 1) _) (rd_congr _ _ _ rfl rfl rfl rfl))

theorem ptpMessageTx_delayReq {s : State} {p : Fin 8} (hon : hubOn s = true) (hruns : ptpRuns s p = true) (hslave : ptpState s p = 9)
    (hmode : rd s O.ptp_mode = 1) (hmech : rd s (O.pp_delay_mech p) ≠ 2) :
    Completes (.ptpMessageTx p .delayReq) s fun t => t.out = s.out ++ [.ptp p .delayReq s.tb] ∧ (ptpPort t p).delayReqAt = some s.tb := by
  refine completes_act (show execPtpMessageTx p .delayReq s = _ from rfl) hon ?_
  dsimp only
  rw [if_pos hruns, if_pos ⟨hslave, by simp [hmode, hmech]⟩]
  exact ⟨by simp [send, setPtpPort, setTime], congrArg PtpPort.delayReqAt (ptpPort_setPtpPort_self _ p _)⟩

theorem ptpAnnounceTimeout_forgets {s : State} {p : Fin 8} (hon : hubOn s = true) (hruns : ptpRuns s p = true) :
    Completes (.ptpAnnounceTimeout p) s fun t => (ptpPort t p).foreign = [] ∧ (ptpPort t p).waitingSync = none ∧
      (ptpPort t p).masterToSlave = none := by
  refine completes_act (show execPtpAnnounceTimeout p s = _ from rfl) hon ?_
  rw [if_pos hruns]
  dsimp only
  have hport : ∀ x v, ptpPort (sealed s (ptpDecide (wr (setPtpPort s p x) (O.pp_state p) v))) p = x := fun x v => by
    have hports := ports_ptpDecide (wr (setPtpPort s p x) (O.pp_state p) v)
    have hsealed : ∀ u, (sealed s u).time = u.time := fun u => by simp
    rw [ptpPort, hsealed, hports]
    exact ptpPort_setPtpPort_self s p x
  rw [hport]
  exact ⟨rfl, rfl, rfl⟩

/-! ### The sources' commands -/

theorem ppsInEdge_stamps {s : State} (hon : hubOn s = true) (henable : flag s O.pps_in_enable = true) (hclock : clkState s 12 = 1)
    (hsource : rd s O.tb_source ≠ 2) :
    Completes .ppsInEdge s fun t => rd t O.pps_in_last = now80 s ∧ rd t O.pps_in_error = ofSigned 32 (wrapSecond (tbNs s % 1000000000)) ∧
      t.tb = s.tb := by
  obtain ⟨hlast, herror⟩ := rd_ppsStamped s
  have hbase : base (ppsStamped s) = base s := rfl
  refine completes_act (show execPpsInEdge s = _ from rfl) hon ?_
  rw [if_pos ⟨henable, hclock⟩]
  dsimp only
  rw [if_neg fun h => hsource h.1]
  exact ⟨(rd_sealed_of_base hbase _).trans hlast, (rd_sealed_of_base hbase _).trans herror, rfl⟩

theorem ppsInEdge_wrong {s : State} (hon : hubOn s = true) (henable : flag s O.pps_in_enable = true) (hclock : clkState s 12 = 1)
    (hsource : rd s O.tb_source = 2) (hrole : roleMode s ≠ 9) (hlocked : rd s O.tb_state = 3) (hwrong : 1000 < (ppsOffset s).natAbs)
    (hrun : s.time.ppsRun < 3) :
    Completes .ppsInEdge s fun t => Counted s t O.pps_in_faults ∧ Raised s t 0x6E (ppsHid s) ∧ t.tb = s.tb ∧ rd t O.tb_state = 3 := by
  have hoffset : ppsOffset (ppsStamped s) = ppsOffset s := by
    rw [ppsOffset, rd_ppsStamped_ne s (by decide) (by decide), ppsOffset]
    rfl
  have hstate : rd (ppsStamped s) O.tb_state = rd s O.tb_state := rd_ppsStamped_ne s (by decide) (by decide)
  have hfaults : rd (ppsStamped s) O.pps_in_faults = rd s O.pps_in_faults := rd_ppsStamped_ne s (by decide) (by decide)
  have hmeasure := ppsMeasure_wrong (s := ppsStamped s) (hstate.trans hlocked) (by rwa [hoffset]) hrun
  have hbase : base (ppsWrong (ppsStamped s)) = base s := by simp [ppsWrong, ppsStamped, base, setTime, wrI]
  have htime : ∀ t x k, rd (setTime t x) k = rd t k := fun t x k => rd_congr _ _ _ rfl rfl rfl rfl
  refine completes_act (show execPpsInEdge s = _ from rfl) hon ?_
  rw [if_pos ⟨henable, hclock⟩]
  dsimp only
  rw [if_pos ⟨hsource, hrole⟩]
  change (fun t => Counted s t O.pps_in_faults ∧ Raised s t 0x6E (ppsHid s) ∧ t.tb = s.tb ∧ rd t O.tb_state = 3)
    (sealed s (ppsMeasure (ppsStamped s)))
  rw [hmeasure]
  refine ⟨counted_of_rd hbase (by decide) ?_, raised_report _ _ _ _ _ rfl, by simp [ppsWrong, ppsStamped, setTime, wrI], ?_⟩
  · simp (disch := decide) only [ppsWrong, rd_report, rd_bump_self, htime, rd_wr_ne, hfaults]
  · rw [rd_sealed_of_base hbase]
    simp (disch := decide) only [ppsWrong, rd_report, rd_bump_ne, htime, rd_wr_ne, hstate, hlocked]

theorem ppsOutRise_rises {s : State} (hon : hubOn s = true) (hmode : rd s O.pps_out_mode = 2) (hpackage : 4 ≤ packageMode s)
    (hlast : s.time.lastPps = none) (hpad : bit (rd s O.pad_latched) 1 = false) :
    Completes .ppsOutRise s fun t => t.out = s.out ++ [.ppsOut true] ∧ t.time.lastPps = some s.now := by
  refine completes_act (show execPpsOutRise s = _ from rfl) hon ?_
  simp [hmode, hpackage, hlast, hpad, send, setTime]

theorem synceLost_reports {s : State} (hon : hubOn s = true) (hport : rd s O.synce_port ≠ 0xFF) (hstate : rd s O.synce_state ≠ 2) :
    Completes .synceLost s fun t => rd t O.synce_state = 2 ∧ Raised s t 0x6B (hidOf s 0 10 3 1) := by
  have hbase : base (report (wr s O.synce_state 2) 0x6B (hidOf s 0 10 3 1) 0) = base s := by simp [base]
  refine completes_act (show execSynceLost s = _ from rfl) hon ?_
  rw [if_pos ⟨hport, hstate⟩]
  refine ⟨?_, raised_report _ _ _ _ _ rfl⟩
  rw [rd_sealed_of_base hbase, rd_report _ _ _ _ _ (by decide), rd_wr_self]

theorem synceLocked_locks {s : State} (hon : hubOn s = true) (hport : rd s O.synce_port ≠ 0xFF) :
    Completes .synceLocked s fun t => rd t O.synce_state = 1 ∧ t.tinker = s.tinker := by
  have hservo : ∀ t m, rd (servoFreq t m) O.synce_state = rd t O.synce_state ∧
      (servoFreq t m).tinker = t.tinker ∧ base (servoFreq t m) = base t :=
    fun t m => ⟨hidden_servoFreq (view := fun u => rd u O.synce_state) (blind_rd _ (by decide) (by decide))
      (fun u v => rd_wr_ne u _ v _ (by decide)) t m, rfl, hidden_servoFreq (blind_base _) (fun _ _ => rfl) t m⟩
  obtain ⟨hstate, htinker, hbase⟩ := hservo (wr s O.synce_state 1) (rd s O.slew_max)
  refine completes_act (show execSynceLocked s = _ from rfl) hon ?_
  rw [if_pos hport]
  dsimp only
  split_ifs
  · exact ⟨(rd_sealed_of_base hbase _).trans (hstate.trans (rd_wr_self _ _ _)), htinker⟩
  · exact ⟨(rd_sealed_of_base rfl _).trans (rd_wr_self _ _ _), rfl⟩

theorem bakRateWindow_measures {s : State} (x : Int) (hon : hubOn s = true) (hclock : clkState s 12 = 1) :
    Completes (.bakRateWindow x) s fun t => rd t O.bak_rate_ppb = ofSigned 32 (clipI (-2147483648) 2147483647 x) ∧
      (flag s O.trim_auto = true → rd s O.tb_state = 3 →
        rd t O.bak_trim = ofSigned 32 (clipI (-30000) 30000 x) ∧ flag t O.trim_pending = true) := by
  refine completes_act (show execBakRateWindow x s = _ from rfl) hon ?_
  rw [if_pos hclock]
  dsimp only
  split_ifs with hauto
  · generalize hu : setFlag (wrI (wrI s O.bak_rate_ppb (clipI (-2147483648) 2147483647 x)) O.bak_trim (clipI (-30000) 30000 x))
      O.trim_pending true = u
    have hbase : base u = base s := hu ▸ rfl
    refine ⟨?_, fun _ _ => ⟨?_, ?_⟩⟩
    · rw [rd_sealed_of_base hbase, ← hu, rd_setFlag_ne _ _ _ _ (by decide), rd_wrI_ne _ _ _ _ (by decide), rd_wrI_self]
    · rw [rd_sealed_of_base hbase, ← hu, rd_setFlag_ne _ _ _ _ (by decide), rd_wrI_self]
    · rw [flag, rd_sealed_of_base hbase, ← hu]
      exact flag_setFlag _ _ _
  · exact ⟨(rd_sealed_of_base rfl _).trans (rd_wrI_self _ _ _), fun hflag hstate => absurd ⟨hflag, hstate⟩ hauto⟩

/-- Settles O34: the time base's steps and its servo, PTP's messages, the sources and the GFP timers, each by its rule above. -/
theorem timeBaseComplete : Obligations.TimeBaseComplete := by
  refine ⟨fun s hr hcheck => tbSet_completes hr hcheck, fun s hr hcheck => tbAdjust_completes hr hcheck,
    fun s hr hcheck => tbSlew_completes hr hcheck, fun s v hr => tbSourceWrite_completes v hr,
    fun s p m hon hformed => ptpMessageRx_discards hon hformed,
    fun s p m hon hformed hruns hdomain hkind => ptpMessageRx_answers hon hformed hruns hdomain hkind,
    fun s p m hon hformed hruns hdomain hkind htwo hslave => ptpMessageRx_waits hon hformed hruns hdomain hkind htwo hslave,
    fun s p hon hruns hmaster => ptpMessageTx_sync hon hruns hmaster,
    fun s p hon hruns hslave hmode hmech => ptpMessageTx_delayReq hon hruns hslave hmode hmech,
    fun s p hon hruns => ptpAnnounceTimeout_forgets hon hruns,
    fun s hon henable hclock hsource => ppsInEdge_stamps hon henable hclock hsource,
    fun s hon henable hclock hsource hrole hlocked hwrong hrun => ppsInEdge_wrong hon henable hclock hsource hrole hlocked hwrong hrun,
    fun s hon hsource hrole hstate => ?_, fun s hon hmode hpackage hlast hpad => ppsOutRise_rises hon hmode hpackage hlast hpad,
    fun s hon hport hstate => synceLost_reports hon hport hstate, fun s hon hport => synceLocked_locks hon hport,
    fun s x hon hclock => bakRateWindow_measures x hon hclock, fun s k hr => gtArm_completes k hr, fun s k hr => ?_,
    fun s k hon hstate hmode => gtInstant_completes k hon hstate hmode,
    fun s k hon hstate hchosen hfirst hmode hpad hroom => gtCaptureEdge_completes k hon hstate hchosen hfirst hmode hpad hroom,
    fun s k c l hon hserves hfitted hreached hqueue => gtCapRead_completes k c l hon hserves hfitted hreached hqueue⟩
  · obtain ⟨hbase, hholdover, hto, hraised⟩ := sourceLost_holds hstate
    refine completes_act (show execPpsInTimeout s = _ from rfl) hon ?_
    rw [if_pos ⟨hsource, hrole⟩]
    exact ⟨(rd_sealed_of_base hbase _).trans hholdover, (rd_sealed_of_base hbase _).trans hto, hraised⟩
  · refine completes_command (op := fun s => (.ok, wr s (O.gt_state k) 0)) rfl hr ⟨by simp, ?_⟩
    exact (rd_sealed_commanded rfl _ _ _ _).trans (rd_wr_self _ _ _)

end Sys2Proof.Machine
end
